-- ==== Sys2Proof/Word.lean ====
section
/-!
DEFINITION. The word types of the device: every register, table entry and pattern instruction word is 24 bits (R2);
bytes travel on Ethernet, the Gate port and the flash.
-/
namespace Sys2Proof

/-- A register, table or pattern instruction word, bit 23 the most significant (R2). -/
abbrev Word := BitVec 24

/-- A byte of a frame, of the flash or of the boundary-scan instruction register. -/
abbrev Byte := BitVec 8

end Sys2Proof
end

