-- ==== Sys2Proof/Types.lean ====
section
/-!
DEFINITION. The names the spec gives to fixed sets (initiators, ports, streams, page kinds, error codes, run states,
fault classes) and the operands of the commands: what a frame, a pin, a converter or a training brings from outside.
-/
namespace Sys2Proof

/-! ### Numbers of units (R15) -/

/-- Initiators of the fabric: 0 Host Link port A, 1 port B in split use, 2 the Gate port, 3 the Reeve (R64). -/
abbrev Ini := Fin 4
/-- The two Ethernet ports, 0 port A and 1 port B (R82). -/
abbrev Port := Fin 2
/-- Streams A to D (R15). -/
abbrev Str := Fin 4
/-- Sites 0 to 63 (R15). -/
abbrev SiteN := Fin 64
/-- Octets 0 to 63 (R15). -/
abbrev Oct := Fin 64

/-- The block behind a page (Table 3.1). -/
inductive Kind
  | id | top | link | abt | ptp | store | dram | refill | confl | stream | slip | tbase | skew | mse | ucode | acqg
  | green | guard | therm | watch | glean | reeve | serm | gate | daybook | chest | life | update
  | octpe | octtm | octacq | site
  deriving DecidableEq, Repr

/-- Host error codes (Table 4.5, R118). -/
inductive Err
  | badAddr | roWrite | range | busy | locked | boundary | loop | seq | auth | state | wiping | patternCode | noSite
  | limit | frame
  deriving DecidableEq, Repr

/-- The code of an error (Table 4.5); OK is 0. -/
def Err.code : Err → Nat
  | .badAddr => 0x01 | .roWrite => 0x02 | .range => 0x03 | .busy => 0x04 | .locked => 0x05 | .boundary => 0x06
  | .loop => 0x07 | .seq => 0x08 | .auth => 0x09 | .state => 0x0A | .wiping => 0x0B | .patternCode => 0x0C
  | .noSite => 0x0D | .limit => 0x0E | .frame => 0x0F

/-- Run states (Table 3.2). -/
inductive RunState
  | cold | start | ready | run | halted | recovery | test | dead
  deriving DecidableEq, Repr

/-- The code of a run state (Table 3.2). -/
def RunState.code : RunState → Nat
  | .cold => 0 | .start => 1 | .ready => 2 | .run => 3 | .halted => 4 | .recovery => 5 | .test => 6 | .dead => 7

/-- Fault classes (Table 13.5). -/
inductive FClass
  | n | d | h | g
  deriving DecidableEq, Repr

/-- The code of a class in PG_FLT.CLASS and in fault records (R74, Table 13.6). -/
def FClass.code : FClass → Nat
  | .n => 1 | .d => 2 | .h => 3 | .g => 4

/-! ### Where an ABT command comes from -/

/-- The origin of an ABT command: the initiator it is issued as (R85), the source and sequence space it belongs to
(R105; group 16 stands for the unicast space) and its command number (R105). -/
structure Org where
  ini : Ini
  src : Nat
  grp : Nat
  num : Nat
  deriving DecidableEq, Repr

/-- A bulk descriptor (Table 4.4). -/
structure BulkDesc where
  space : Nat
  page : Nat
  tsel : Nat
  addr : Nat
  n : Nat
  deriving DecidableEq, Repr

/-! ### Frames on Ethernet -/

/-- The IPv4 part of a received frame as the checks of R88 and R93 see it. -/
structure IpPacket where
  version : Nat
  ihl : Nat
  sumOk : Bool
  moreFrag : Bool
  fragOff : Nat
  dst : Nat
  proto : Nat
  udpPort : Nat
  udpSumOk : Bool
  deriving DecidableEq, Repr

/-- A received Ethernet frame as the checks of R83 see it, with the FEC blocks corrected and found uncorrectable while it
arrived (R123). -/
structure EthFrame where
  fcsOk : Bool
  len : Nat
  vlan : Bool
  dst : Nat
  etherType : Nat
  ip : Option IpPacket
  fecc : Nat := 0
  fecu : Nat := 0
  deriving DecidableEq, Repr

/-- A received UDP datagram that may carry an ABT frame: its addresses and ports, its UDP checksum field and its payload
(R93, R95). -/
structure Datagram where
  srcMac : Nat
  srcIp : Nat
  dstIp : Nat
  srcPort : Nat
  dstPort : Nat
  sum : Nat
  payload : List Byte
  deriving DecidableEq, Repr

/-- What every received PTP message brings: the port it arrived on, whether its UDP checksum is right or zero (R93), its
domain, unicast flag and sequence number (R119). -/
structure PtpHead where
  port : Port
  sumOk : Bool
  domain : Nat
  unicast : Bool
  seqn : Nat
  deriving DecidableEq, Repr

/-- A received Sync message: its two-step flag, the time base at its receive timestamp point, and the origin timestamp and
the correction field in picoseconds (R119, R120). -/
structure PtpSync where
  head : PtpHead
  twoStep : Bool
  rx : Nat
  origin : Nat
  corr : Int
  deriving DecidableEq, Repr

/-- A received Announce message, with the fields of the best master clock comparison of IEEE 1588-2019 (R119). -/
structure PtpAnnounce where
  head : PtpHead
  prio1 : Nat
  clockClass : Nat
  accuracy : Nat
  variance : Nat
  prio2 : Nat
  gmid : Nat
  steps : Nat
  deriving DecidableEq, Repr

/-! ### Answers of the environment -/

/-- One request pending at a bank (R136 to R139): class 0 to 7; the requester's number in its class (an octet for SITE, a
stream for REFILL, a capture unit or 128 + a site for ACQ, a tag for MSE, an initiator for HOST); the row; and the bank
word when it writes. -/
structure BankReq where
  cls : Nat
  who : Nat
  row : Nat
  wr : Option (BitVec 96)
  deriving DecidableEq, Repr

/-- What the check of a bank word finds (R127). -/
inductive BankErr
  | none | single | multi
  deriving DecidableEq, Repr

/-- What the memory controller finds when it reads the mode registers and trains (R142). -/
structure DramEnv where
  fitted0 : Bool
  fitted1 : Bool
  dens0 : Nat
  dens1 : Nat
  ranks0 : Nat
  ranks1 : Nat
  best0 : Option Nat
  best1 : Option Nat
  deriving DecidableEq, Repr

/-- What a start meets outside the device: what each of its steps needs to know of the silicon, the board and the
memories (Tables 15.1 and 15.2). -/
structure StartEnv where
  /-- Banks with columns that fail BIST beyond the fused repairs, and how many (R129). -/
  badBanks : List (Nat × Nat)
  /-- REFCLK shows edges (R252), and the PLL locks (R222). -/
  ref : Bool := true
  pll : Bool
  dram : DramEnv
  /-- Three readings of the 16 sensors, in 1/64 degrees (step 5). -/
  temps : List (List Int)
  /-- The microcode ROM checksum is right, and its value. -/
  romOk : Bool
  romSum : Word
  /-- The active firmware area, the other area, and the active patch image verify (R446, R447). -/
  fwOk : Bool
  fwOtherOk : Bool
  patchOk : Bool
  /-- The serial flash answers (R420). -/
  flashOk : Bool
  /-- Octets whose stored or retained calibration record passes its CRC (R379). -/
  calOk : List Nat
  /-- Octets for which a full calibration in step 8 fails (R379). -/
  fullBad : List Nat
  /-- The sealed Chest images decrypt (R438). -/
  chestOk : Bool
  /-- A link partner answers on port A and on port B (step 9). -/
  linkA : Bool
  linkB : Bool
  /-- The step at which PWRWARN_N is recognised, if it is (R54). -/
  warnAt : Option Nat
  deriving DecidableEq, Repr

/-- What happens at one pin while a site's cycle runs: the changes of its voltage, each with its time in picoseconds after
the start of the cycle and the new voltage in microvolts, in time order (R158, R235, R266). -/
structure PinIn where
  volts : List (Int × Int)
  deriving DecidableEq, Repr

/-- Do the changes rise in time? -/
def PinIn.ordered (p : PinIn) : Bool :=
  (List.zip p.volts (p.volts.drop 1)).all (fun x => decide (x.1.1 < x.2.1))

/-- What a micro-word's step meets: whether its fetch passes parity, and the voltage at the ball of the home channel, which
the home comparator reads, in microvolts (R302, R304). -/
structure MicroEnv where
  parityOk : Bool
  volt : Int
  deriving DecidableEq, Repr

/-- One change at a lane's comparator input, as its TDC times it (R314, R315): the timing-clock edge at or before it, the
raw fine count from that edge, and the pin's voltage after it in microvolts. -/
structure EdgeIn where
  lane : Fin 8
  edge : Nat
  fine : Nat
  volt : Int
  deriving DecidableEq, Repr

/-- What a capture unit samples (Table 11.1): one code from each ADC in MASK, in ascending order, or the changes of one slot
of an EDGES source, in time order. STROBE and EVENTS samples come from the unit's capture stile. -/
structure CapIn where
  codes : List Word := []
  edges : List EdgeIn := []
  deriving DecidableEq, Repr

/-- What a gleaning task measures (Table 14.1). -/
inductive GleanTask
  | edges | tdc | levels | pmu | adc | rail | tone
  deriving DecidableEq, Repr

/-- One measured calibration quantity (R382): octet, word of the octet record, and its value. -/
structure Meas where
  oct : Nat
  word : Nat
  val : Word
  ok : Bool
  deriving DecidableEq, Repr

/-- An operation of the flash window (R425, R426); an erase is of a 64 KiB block where `big`, else of a 4 KiB one. -/
inductive FlashOp
  | read (addr n : Nat)
  | program (addr : Nat) (data : List Byte)
  | erase (addr : Nat) (big : Bool)
  deriving DecidableEq, Repr

/-- The byte address an operation of the flash window names. -/
def FlashOp.addr : FlashOp → Nat
  | .read a _ => a
  | .program a _ => a
  | .erase a _ => a

/-- The operation lies in the window, and a program in one 256-byte page of the flash, whole words of it (R426). -/
def FlashOp.ok : FlashOp → Bool
  | .read a n => decide (a + 3 * n ≤ 2 ^ 32)
  | .program a ds => decide (a < 2 ^ 32) && decide (ds.length % 3 = 0) && decide (a % 256 + ds.length ≤ 256)
  | .erase a _ => decide (a < 2 ^ 32)

end Sys2Proof
end

