-- ==== Sys2Proof/Syntax.lean ====
section
/-!
DEFINITION. The commands of the device: one constructor for each row of spec/opcode_table.json, in its order, with the
operands the row's step needs. No row gives bits, so a command is its name and its operands.
-/
namespace Sys2Proof

/-- The commands (rows of the opcode table). -/
inductive Instr
  /-- PORST_RESET -/
  | porstReset (ps : Nat)
  /-- COLD_START -/
  | coldStart (env : StartEnv)
  /-- PWRWARN -/
  | pwrwarn (lowPs : Nat) (sealed : Bool)
  /-- PWRWARN_RISE -/
  | pwrwarnRise (env : StartEnv)
  /-- G_LATCH_CLEAR -/
  | gLatchClear
  /-- TAP_INSTRUCTION_LOAD -/
  | tapLoad (trstN : Bool) (code : Byte) (tdi : List Bool)
  /-- REGISTER_WRITE -/
  | registerWrite (ini : Ini) (addr : Nat) (val : Word)
  /-- SNAPSHOT_READ -/
  | snapshotRead (ini : Ini) (addr : Nat)
  /-- TBL_DATA_ACCESS -/
  | tblDataAccess (ini : Ini) (page : Nat) (wr : Option Word)
  /-- PG_LOCK_OPEN -/
  | pgLockOpen (ini : Ini) (page : Nat)
  /-- PG_LOCK_CLOSE -/
  | pgLockClose (ini : Ini) (page : Nat)
  /-- PG_ERR_CLR -/
  | pgErrClr (ini : Ini) (page : Nat)
  /-- HEDGE_REQ -/
  | hedgeReq (ini : Ini) (page : Nat)
  /-- PG_FORCE -/
  | pgForce (ini : Ini) (page : Nat) (bits : Word)
  /-- PG_INJ -/
  | pgInj (ini : Ini) (page : Nat) (bits : Word)
  /-- WARM_START -/
  | warmStart (ini : Ini) (env : StartEnv)
  /-- RECOVER -/
  | recover (ini : Ini)
  /-- RECOVERY_COMPLETE -/
  | recoveryComplete
  /-- ENTER_TEST -/
  | enterTest (ini : Ini)
  /-- LEAVE_TEST -/
  | leaveTest (ini : Ini) (env : StartEnv)
  /-- CHIPNO_WRITE -/
  | chipnoWrite (ini : Ini) (val : Word)
  /-- FRAME_RECEIVE -/
  | frameReceive (port : Port) (frame : EthFrame)
  /-- ARP_REQUEST -/
  | arpRequest (port : Port) (ip : Nat) (srcMac : Nat) (srcIp : Nat)
  /-- ICMP_ECHO_REQUEST -/
  | icmpEchoRequest (port : Port) (srcMac : Nat) (srcIp : Nat) (ident : Nat) (seqn : Nat) (data : List Byte)
  /-- ABT_REQUEST_FRAME -/
  | abtRequestFrame (port : Port) (dg : Datagram)
  /-- HELD_FRAME_EXECUTE -/
  | heldFrameExecute (src : Nat) (grp : Nat)
  /-- GAP_TIMEOUT -/
  | gapTimeout (src : Nat) (grp : Nat)
  /-- SOURCE_EXPIRY -/
  | sourceExpiry (src : Nat)
  /-- ABT_REPLY_SEND -/
  | abtReplySend (src : Nat) (grp : Nat)
  /-- READ -/
  | read (org : Org) (addr : Nat) (n : Nat)
  /-- WRITE -/
  | write (org : Org) (addr : Nat) (data : List Word) (seqchk : Option Word)
  /-- MWRITE -/
  | mwrite (org : Org) (addr : Nat) (mask : Word) (data : Word) (seqchk : Option Word)
  /-- BULK_READ -/
  | bulkRead (org : Org) (desc : BulkDesc)
  /-- BULK_WRITE -/
  | bulkWrite (org : Org) (desc : BulkDesc) (data : List Word) (seqchk : Option Word)
  /-- BULK_WRITE_COMPLETE -/
  | bulkWriteComplete
  /-- FENCE -/
  | fence (org : Org) (wdone : Bool) (wseal : Bool)
  /-- FENCE_COMPLETE -/
  | fenceComplete
  /-- TIME -/
  | time (org : Org) (sfd : Nat)
  /-- SUBSCRIBE_OPEN -/
  | subscribeOpen (org : Org) (w0 : Word) (w1 : Word) (w2 : Word) (filter : List Word)
  /-- SUBSCRIBE_CLOSE -/
  | subscribeClose (org : Org) (w0 : Word)
  /-- SUBSCRIBE_ACK -/
  | subscribeAck (org : Org) (w0 : Word) (w1 : Word)
  /-- STREAM_FRAME_SEND -/
  | streamFrameSend (slot : Fin 16)
  /-- STREAM_RESEND_TIMEOUT -/
  | streamResendTimeout (slot : Fin 16)
  /-- LINK_UP -/
  | linkUp (port : Port)
  /-- LINKDOWN -/
  | linkdown (port : Port) (lfault : Bool) (rfault : Bool)
  /-- HIBER -/
  | hiber (port : Port)
  /-- LINK_IP_WRITE -/
  | linkIpWrite (ini : Ini) (port : Port) (lo : Word) (hi : Word)
  /-- RETRAIN -/
  | retrain (ini : Ini) (port : Port) (trained : Bool)
  /-- LINK_CLRCNT -/
  | linkClrcnt (ini : Ini) (port : Port)
  /-- FORGET -/
  | forget (ini : Ini)
  /-- ABT_CLRCNT -/
  | abtClrcnt (ini : Ini)
  /-- PTP_SYNC_RECEIVE -/
  | ptpSyncReceive (sync : PtpSync)
  /-- PTP_FOLLOW_UP_RECEIVE -/
  | ptpFollowUpReceive (head : PtpHead) (origin : Nat) (corr : Int)
  /-- PTP_DELAY_RESP_RECEIVE -/
  | ptpDelayRespReceive (head : PtpHead) (rx : Nat) (corr : Int) (rate : Int)
  /-- PTP_ANNOUNCE_RECEIVE -/
  | ptpAnnounceReceive (ann : PtpAnnounce)
  /-- PTP_DELAY_REQ_SEND -/
  | ptpDelayReqSend
  /-- PTP_DELAY_REQ_RECEIVE -/
  | ptpDelayReqReceive (head : PtpHead) (sender : Nat)
  /-- PTP_SYNC_SEND -/
  | ptpSyncSend
  /-- PTP_ANNOUNCE_SEND -/
  | ptpAnnounceSend
  /-- PTPLOST -/
  | ptplost
  /-- PTP_OFS_WRITE -/
  | ptpOfsWrite (ini : Ini) (w0 : Word) (w1 : Word) (w2 : Word)
  /-- PPS -/
  | pps
  /-- BANK_ACCESS -/
  | bankAccess (bank : Fin 128) (reqs : List BankReq) (err : BankErr)
  /-- RETEST -/
  | retest (ini : Ini) (pass : Bool)
  /-- STORE_CLRCNT -/
  | storeClrcnt (ini : Ini)
  /-- REGION_TABLE_WRITE -/
  | regionTableWrite (ini : Ini) (index : Nat) (val : Word)
  /-- DRAM_TRACK -/
  | dramTrack (drifted : Bool)
  /-- DRAM_REFRESH -/
  | dramRefresh (hot : Bool) (exceeded : Bool)
  /-- DRAM_RETRAIN -/
  | dramRetrain (ini : Ini) (train : DramEnv)
  /-- DRAM_CLRCNT -/
  | dramClrcnt (ini : Ini)
  /-- REFILL_WINDOW_FETCH -/
  | refillWindowFetch
  /-- REFILL_WINDOW_COMPLETE -/
  | refillWindowComplete (str : Str) (lecc : Nat) (ce : Nat) (ue : Bool) (retryUe : Bool)
  /-- REFILL_CLRCNT -/
  | refillClrcnt (ini : Ini)
  /-- SNAPALL -/
  | snapall (ini : Ini) (clear : Bool)
  /-- CONFL_CLEAR -/
  | conflClear (ini : Ini)
  /-- VEC -/
  | vec (str : Str) (path : Nat)
  /-- RPT -/
  | rpt (str : Str) (path : Nat)
  /-- RUN -/
  | run (str : Str) (path : Nat)
  /-- LOOP -/
  | loop (str : Str) (path : Nat)
  /-- ENDL -/
  | endl (str : Str) (path : Nat)
  /-- MATCH -/
  | match_ (str : Str) (path : Nat)
  /-- ENDM -/
  | endm (str : Str) (path : Nat)
  /-- SEG -/
  | seg (str : Str) (path : Nat)
  /-- JSEG -/
  | jseg (str : Str) (path : Nat)
  /-- CALL -/
  | call (str : Str) (path : Nat)
  /-- RET -/
  | ret (str : Str) (path : Nat)
  /-- TSW -/
  | tsw (str : Str) (path : Nat)
  /-- SUBP -/
  | subp (str : Str) (path : Nat)
  /-- PAUSE_BEGIN -/
  | pauseBegin (str : Str) (path : Nat)
  /-- PAUSE_END -/
  | pauseEnd (str : Str) (path : Nat)
  /-- ALIGN -/
  | align (str : Str) (path : Nat)
  /-- HALT -/
  | halt (str : Str) (path : Nat)
  /-- NOP -/
  | nop (str : Str) (path : Nat)
  /-- INVALID_WORD -/
  | invalidWord (str : Str) (site : SiteN)
  /-- EXEC_ARM -/
  | execArm (org : Org) (w0 : Word) (e0 : Word) (e1 : Word)
  /-- EXEC_JUMP -/
  | execJump (org : Org) (w0 : Word)
  /-- EXEC_STOP -/
  | execStop (org : Org) (w0 : Word)
  /-- EXEC_RESET -/
  | execReset (org : Org) (w0 : Word)
  /-- EXEC_RELEASE -/
  | execRelease (org : Org) (w0 : Word)
  /-- COMMAND_STILE_EXIT -/
  | commandStileExit
  /-- STREAM_PRIMED -/
  | streamPrimed (str : Str)
  /-- STREAM_START -/
  | streamStart (str : Str)
  /-- FIRST_CYCLE_START -/
  | firstCycleStart (site : SiteN)
  /-- VECTOR_COMMIT -/
  | vectorCommit (site : SiteN) (pins : List PinIn) (bad : List Oct)
  /-- MATCH_DECISION -/
  | matchDecision (site : SiteN)
  /-- HOLD_RESUME -/
  | holdResume (str : Str)
  /-- STREAM_DRAIN_COMPLETE -/
  | streamDrainComplete (str : Str)
  /-- SEGMENT_RECORD_CLOSE -/
  | segmentRecordClose (site : SiteN)
  /-- SITE_ASSIGN -/
  | siteAssign (ini : Ini) (site : SiteN) (str : Str)
  /-- SITE_UNASSIGN -/
  | siteUnassign (ini : Ini) (site : SiteN)
  /-- STREAM_CLRCNT -/
  | streamClrcnt (ini : Ini) (str : Str)
  /-- SLIP_SNAP -/
  | slipSnap (ini : Ini)
  /-- CLRMAX -/
  | clrmax (ini : Ini)
  /-- TIMING_SET_WRITE -/
  | timingSetWrite (ini : Ini) (oct : Oct) (index : Nat) (data : List Word)
  /-- PLL_UNLOCK -/
  | pllUnlock (noRef : Bool)
  /-- BELL_PULSE -/
  | bellPulse (width : Nat)
  /-- BELL_REGISTRATION -/
  | bellRegistration
  /-- GEN_BELL -/
  | genBell (ini : Ini)
  /-- GEN_EPOCH -/
  | genEpoch (ini : Ini)
  /-- BELLO_GENERATE -/
  | belloGenerate
  /-- SEND -/
  | send (ini : Ini) (line : Fin 4)
  /-- LISTEN -/
  | listen (ini : Ini) (line : Fin 4)
  /-- SKEW_SEND_EDGE -/
  | skewSendEdge
  /-- SKEW_TRG_WRITE -/
  | skewTrgWrite (ini : Ini) (val : Word)
  /-- TRG_RECEIVE -/
  | trgReceive (line : Fin 4) (arr : Nat)
  /-- LEVEL_TABLE_WRITE -/
  | levelTableWrite (ini : Ini) (oct : Oct) (index : Nat) (data : List Word)
  /-- LOAD -/
  | load (ini : Ini) (oct : Oct)
  /-- CONV -/
  | conv (ini : Ini) (oct : Oct) (mask : Byte)
  /-- LOAD_STROBE -/
  | loadStrobe (grp : Fin 8) (bad : List Oct)
  /-- SPAN_SEQUENCE_STEP -/
  | spanSequenceStep (oct : Oct) (lane : Fin 8)
  /-- CONV_RESULT -/
  | convResult (oct : Oct) (adc : Fin 8) (code : Word)
  /-- TONE_SAMPLE -/
  | toneSample (oct : Oct) (parityOk : Bool)
  /-- PMU_CLAMP -/
  | pmuClamp (oct : Oct) (lane : Fin 8) (load : Int)
  /-- OCTPE_PIN_WRITE -/
  | octpePinWrite (ini : Ini) (oct : Oct) (lane : Fin 8) (val : Word)
  /-- RAIL_ON -/
  | railOn (ini : Ini) (oct : Oct) (sns : Int)
  /-- RAIL_OFF -/
  | railOff (ini : Ini) (oct : Oct)
  /-- RAIL_RAMP_END -/
  | railRampEnd (oct : Oct) (sns : Int)
  /-- OPERATION_SUBMIT -/
  | operationSubmit (ini : Ini) (tag : Nat) (hi : Word)
  /-- OPERATION_DISPATCH -/
  | operationDispatch (lane : Fin 8)
  /-- MICRO_NEXT -/
  | microNext (tag : Nat) (env : MicroEnv)
  /-- MICRO_CALL -/
  | microCall (tag : Nat) (env : MicroEnv)
  /-- MICRO_RET -/
  | microRet (tag : Nat) (env : MicroEnv)
  /-- MICRO_BR -/
  | microBr (tag : Nat) (env : MicroEnv)
  /-- MICRO_LOOP -/
  | microLoop (tag : Nat) (env : MicroEnv)
  /-- MICRO_WAIT -/
  | microWait (tag : Nat) (env : MicroEnv)
  /-- MICRO_END -/
  | microEnd (tag : Nat) (env : MicroEnv)
  /-- MICRO_DISPATCH -/
  | microDispatch (tag : Nat) (env : MicroEnv)
  /-- SETTLE_TIMER_EXPIRY -/
  | settleTimerExpiry (tag : Nat)
  /-- SAMPLE_RUN_DONE -/
  | sampleRunDone (tag : Nat) (samples : List Word)
  /-- ADC_WAIT_TIMEOUT -/
  | adcWaitTimeout (tag : Nat)
  /-- MSE_ACK -/
  | mseAck (ini : Ini) (val : Word)
  /-- MSE_ABORT -/
  | mseAbort (ini : Ini) (val : Word)
  /-- MSE_CLRCNT -/
  | mseClrcnt (ini : Ini)
  /-- SWITCH -/
  | switch (ini : Ini)
  /-- ACQ_ARM -/
  | acqArm (ini : Ini) (unit : Nat)
  /-- ACQ_DISARM -/
  | acqDisarm (ini : Ini) (unit : Nat)
  /-- WINDOW_OPEN -/
  | windowOpen (unit : Nat)
  /-- WINDOW_CLOSE -/
  | windowClose (unit : Nat)
  /-- CAPTURE_SAMPLE -/
  | captureSample (unit : Nat) (inp : CapIn)
  /-- PENDING_GAP_WRITE -/
  | pendingGapWrite (unit : Nat)
  /-- SPILL -/
  | spill (unit : Nat)
  /-- XLEN_WRITE -/
  | xlenWrite (ini : Ini) (lo : Word) (hi : Word)
  /-- ACQG_CLRCNT -/
  | acqgClrcnt (ini : Ini)
  /-- GREEN_EVENT -/
  | greenEvent (arr : Nat)
  /-- DELAY_LINE_FIRE -/
  | delayLineFire (line : Fin 4)
  /-- WATCH_IN -/
  | watchIn (k : Fin 8)
  /-- GREEN_SW -/
  | greenSw (ini : Ini) (bits : Word)
  /-- GREEN_TABLE_WRITE -/
  | greenTableWrite (ini : Ini) (tsel : Nat) (index : Nat) (data : List Word)
  /-- GREEN_PAR -/
  | greenPar (ok : Bool)
  /-- CLRFLG -/
  | clrflg (ini : Ini)
  /-- GREEN_CLRCNT -/
  | greenClrcnt (ini : Ini)
  /-- MONITOR_SAMPLE -/
  | monitorSample (mon : Nat) (x : Int) (parityOk : Bool)
  /-- MONITOR_SELF_CHECK -/
  | monitorSelfCheck (mon : Nat) (above below : Int) (swap : Bool)
  /-- GUARD_CLRCNT -/
  | guardClrcnt (ini : Ini)
  /-- SITE_HEDGE -/
  | siteHedge (site : SiteN)
  /-- HEDGE_CONFIRM -/
  | hedgeConfirm (site : SiteN) (isolated : Bool)
  /-- SENSOR_READING -/
  | sensorReading (temps : List Int) (bad : List (Fin 16))
  /-- REVALID -/
  | revalid (ini : Ini) (sensor : Fin 16)
  /-- FAULT_LATCH -/
  | faultLatch
  /-- WATCH_CLEAR -/
  | watchClear (ini : Ini) (val : Word)
  /-- WATCH_CLRCNT -/
  | watchClrcnt (ini : Ini)
  /-- FULL -/
  | full (ini : Ini)
  /-- FULL_CALIBRATION_COMPLETE -/
  | fullCalibrationComplete (meas : List Meas)
  /-- TDR -/
  | tdr (ini : Ini) (oct : Oct) (rtt : List Nat)
  /-- STORE -/
  | store (ini : Ini)
  /-- STORE_COMPLETE -/
  | storeComplete (ok : Bool)
  /-- BORROWING -/
  | borrowing (chan : Fin 512) (task : GleanTask) (len : Nat)
  /-- GLEAN_TASK_COMPLETE -/
  | gleanTaskComplete (meas : List Meas)
  /-- GLEAN_ABORT -/
  | gleanAbort
  /-- DAYBOOK_PROGRAM -/
  | daybookProgram (ok : Bool)
  /-- SEAL_TIMER -/
  | sealTimer
  /-- DB_SEAL -/
  | dbSeal (ini : Ini)
  /-- DB_COMPACT -/
  | dbCompact (ini : Ini)
  /-- COMPACTION_COMPLETE -/
  | compactionComplete (ok : Bool)
  /-- DB_AREA_WRITE -/
  | dbAreaWrite (ini : Ini) (hi : Word)
  /-- DAYBOOK_FORMAT_COMPLETE -/
  | daybookFormatComplete (ok : Bool)
  /-- JOURNAL_STAT -/
  | journalStat (org : Org)
  /-- JOURNAL_READ -/
  | journalRead (org : Org) (w1 : Word) (w2 : Word) (w3 : Word)
  /-- JOURNAL_COMPACT -/
  | journalCompact (org : Org)
  /-- REEVE_WDOG -/
  | reeveWdog
  /-- REEVE_RAM_ERROR -/
  | reeveRamError (ue : Bool)
  /-- GO -/
  | go (ini : Ini)
  /-- SERM_TRANSFER_DONE -/
  | sermTransferDone (sdi : Nat)
  /-- SERM_TMO -/
  | sermTmo
  /-- SERM_CLRCNT -/
  | sermClrcnt (ini : Ini)
  /-- FLASH_WINDOW_OPERATION -/
  | flashWindowOperation (op : FlashOp) (ok : Bool)
  /-- SELFORCE -/
  | selforce (op : FlashOp) (ok : Bool)
  /-- GATE_FRAME -/
  | gateFrame (bits : Nat) (bytes : List Byte) (early : Bool)
  /-- GATE_NOP -/
  | gateNop
  /-- GATE_READ -/
  | gateRead (addr : Word) (n : Nat)
  /-- GATE_WRITE -/
  | gateWrite (addr : Word) (data : List Word)
  /-- IDENT -/
  | ident
  /-- GATE_STATUS -/
  | gateStatus
  /-- GATE_CLRCNT -/
  | gateClrcnt (ini : Ini)
  /-- ADVANCE -/
  | advance (ini : Ini) (target : Nat)
  /-- PROG_MKEY -/
  | progMkey (ini : Ini)
  /-- CHEST_SEAL -/
  | chestSeal (ini : Ini) (ok : Bool)
  /-- CHEST_AUTO_SEAL -/
  | chestAutoSeal (ok : Bool)
  /-- WIPE -/
  | wipe (ini : Ini)
  /-- TAMPER -/
  | tamper (cause : Nat)
  /-- UPDATE_BEGIN -/
  | updateBegin (org : Org) (kind : Nat) (total : Nat)
  /-- UPDATE_DATA -/
  | updateData (org : Org) (offset : Nat) (data : List Word) (ok : Bool)
  /-- UPDATE_FINISH -/
  | updateFinish (org : Org) (ok : Bool)
  /-- UPDATE_ABORT -/
  | updateAbort (org : Org)
  /-- UPDATE_STATUS -/
  | updateStatus (org : Org)
  /-- UPDATE_SAVE -/
  | updateSave (org : Org)
  /-- UPDATE_IDLE_TIMEOUT -/
  | updateIdleTimeout
  /-- UPD_CMD_ABORT -/
  | updCmdAbort (ini : Ini)
  /-- REEVE_SAVE -/
  | reeveSave (ini : Ini)
  /-- REEVE_CLRCNT -/
  | reeveClrcnt (ini : Ini)
  /-- PWRWARN_N_RISE_IN_COLD -/
  | pwrwarnNRiseInCold (env : StartEnv)
  /-- WIPE_COMPLETE -/
  | wipeComplete
  /-- LIFECYCLE_CHANGE_COMPLETE -/
  | lifecycleChangeComplete (ok : Bool)
  /-- FIRMWARE_RELOAD_COMPLETE -/
  | firmwareReloadComplete (ok : Bool)
  deriving DecidableEq, Repr

end Sys2Proof
end

