-- ==== Sys2Proof/Config.lean ====
section
/-!
DEFINITION. What the spec leaves to the silicon: opaque constants with no body, so that nothing can be proved of their
values, and the fixed sizes the spec states.
-/
namespace Sys2Proof.Config

/-- The free values of the model: the k-th value the spec leaves open in a run. `State.fresh` counts them (log entry 5). -/
opaque free : Nat → Nat

/-- The micro ROM, by address (R304); the spec gives no word of it (log entry 9). -/
opaque microRom : Nat → BitVec 24

/-- The nano ROM, by address, 120 bits (R304, R306); only word 0 is given (log entry 9). -/
opaque nanoRom : Nat → Nat

/-- The code that a measured code becomes under the correction words of its converter and of its PMU path, where they
are not both zero: the spec states no formula (R296, R377, log entry 10). -/
opaque corrected : (converter path : BitVec 24) → Int → Int

/-- The vendor key hash, fused in the vendor's production (R435): the SHA-256 of the vendor's public key. -/
opaque vendorKeyHash : Nat

/-- Bytes that the board's flash holds beyond the 64 MiB that it must hold (R421). -/
opaque flashMore : Nat

/-- The size in bytes of the board's flash, as SFDP reports it; at least 64 MiB (R403, R421). -/
def flashSize : Nat := 2 ^ 26 + flashMore

/-- The correction, in µV, that a reference buffer needs at a temperature in 1/64 °C: the spec states no formula (R361). -/
opaque compAt : (buffer : Nat) → (temp : Int) → Int

/-- The VERSION of the firmware image that an area, A or B, holds from before the first update (R450). -/
opaque fwVersion : Bool → Nat

/-- offsetScaledLogVariance of the device's own clock in the comparison of IEEE 1588-2019, which the spec does not give
(R119). -/
opaque ptpVariance : Nat

end Sys2Proof.Config
end

