-- ==== Sys2Proof/Machine/Bits.lean ====
section
/-!
DEFINITION. Bit fields of 24-bit words, wide quantities of consecutive words (R3), two's complement, and byte order.
-/
namespace Sys2Proof.Machine

/-- Field [hi:lo] of a word (R2). -/
def fld (w : Word) (hi lo : Nat) : Nat := (w.toNat / 2 ^ lo) % 2 ^ (hi + 1 - lo)

/-- Bit `i` of a word. -/
def bit (w : Word) (i : Nat) : Bool := w.getLsbD i

/-- A word whose field [hi:lo] is replaced by the low bits of `v`. -/
def putFld (w : Word) (hi lo v : Nat) : Word :=
  BitVec.ofNat 24 (w.toNat - fld w hi lo * 2 ^ lo + (v % 2 ^ (hi + 1 - lo)) * 2 ^ lo)

/-- A word with bit `i` set to `b`. -/
def putBit (w : Word) (i : Nat) (b : Bool) : Word := putFld w i i b.toNat

/-- A word from a natural number, modulo 2^24. -/
def word (n : Nat) : Word := BitVec.ofNat 24 n

/-- A field value shifted to its place. -/
def at_ (lo v : Nat) : Nat := v * 2 ^ lo

/-- The quantity held in consecutive words, the least significant first (R3). -/
def wide : List Word → Nat
  | [] => 0
  | w :: ws => w.toNat + 2 ^ 24 * wide ws

/-- `n` words of a quantity, the least significant first (R3). -/
def unwide : Nat → Nat → List Word
  | 0, _ => []
  | n + 1, v => word v :: unwide n (v / 2 ^ 24)

/-- Two's complement reading of the low `n` bits of `v`. -/
def signed (n v : Nat) : Int :=
  let u := v % 2 ^ n
  if u < 2 ^ (n - 1) then (u : Int) else (u : Int) - (2 ^ n : Nat)

/-- Two's complement writing of `x` in `n` bits. -/
def unsigned (n : Nat) (x : Int) : Nat := (x % (2 ^ n : Nat)).toNat

/-- Division rounded to the nearest, ties away from zero (R296, R377). -/
def roundDiv (a : Int) (b : Nat) : Int :=
  if 0 ≤ a then (2 * a + b) / (2 * b) else -((2 * (-a) + b) / (2 * b))

/-- Is `x` representable in `n` bits of two's complement? -/
def fitsSigned (n : Nat) (x : Int) : Bool := decide (-(2 ^ (n - 1) : Nat) ≤ x) && decide (x < (2 ^ (n - 1) : Nat))

/-- A count that stops at `m`. -/
def satAdd (m a b : Nat) : Nat := min m (a + b)

/-- Bit `i` of a natural number. -/
def nbit (n i : Nat) : Bool := n.testBit i

/-- A natural number with bit `i` set to `b`. -/
def setNbit (n i : Nat) (b : Bool) : Nat :=
  if n.testBit i then (if b then n else n - 2 ^ i) else (if b then n + 2 ^ i else n)

/-- The numbers below `n` whose bit is set in `m`, rising. -/
def bitsOf (n m : Nat) : List Nat := (List.range n).filter (fun i => m.testBit i)

/-- The big-endian number of a list of bytes. -/
def beNat (bs : List Byte) : Nat := bs.foldl (fun a b => a * 256 + b.toNat) 0

/-- `n` bytes of a number, big-endian. -/
def beBytes : Nat → Nat → List Byte
  | 0, _ => []
  | n + 1, v => beBytes n (v / 256) ++ [BitVec.ofNat 8 v]

/-- A word as three bytes, most significant first. -/
def wordBytes (w : Word) : List Byte := beBytes 3 w.toNat

/-- Bytes read as big-endian 24-bit words; a rest of fewer than three bytes is dropped. -/
def bytesWords : List Byte → List Word
  | a :: b :: c :: r => word (beNat [a, b, c]) :: bytesWords r
  | _ => []

/-- One byte through CRC-32C in its reflected form (R95): polynomial 0x1EDC6F41, reflected 0x82F63B78. -/
def crcByte (c : Nat) (b : Byte) : Nat :=
  (List.range 8).foldl (fun x _ => if x % 2 = 1 then (x / 2) ^^^ 0x82F63B78 else x / 2) (c ^^^ b.toNat)

/-- CRC-32C of bytes: initial value and final XOR 0xFFFF_FFFF (R95). -/
def crc32c (bs : List Byte) : Nat := bs.foldl crcByte 0xFFFFFFFF ^^^ 0xFFFFFFFF

/-- `v` rounded down to a multiple of `m`. -/
def floorTo (m v : Nat) : Nat := v / m * m

/-- Do the half-open ranges [a, a+n) and [b, b+m) meet? Empty ranges meet nothing. -/
def overlap (a n b m : Nat) : Bool := decide (a < b + m) && decide (b < a + n) && decide (0 < n) && decide (0 < m)

end Sys2Proof.Machine
end

