-- ==== Sys2Proof/Machine/Regs.lean ====
section
/-!
DEFINITION. The register map: for every page kind of Table 3.1 (R62) the registers of its chapter, with the access
masks and the Reset column of the register tables (R5 to R9), the last implemented offset (R63), the assigned bits of
PG_FORCE and PG_INJ (R74, R75) and the LAST of each table (R71). Written from the register tables of spec/.
-/
namespace Sys2Proof.Machine

/-- One register word: which bits have which access type of Table 0.2, its reset value, and the wide group it
belongs to (R3): `base` is the offset of the group's lowest word, `n` how many words it has. -/
structure RegInfo where
  off : Nat
  rw : Word := 0
  lk : Word := 0
  w1c : Word := 0
  w1s : Word := 0
  wo : Word := 0
  ro : Word := 0
  reset : Word := 0
  base : Nat := off
  n : Nat := 1
  deriving DecidableEq, Repr

/-- The bits of a register word that some write can change (R8). -/
def RegInfo.writable (r : RegInfo) : Word := r.rw ||| r.lk ||| r.w1c ||| r.w1s ||| r.wo

/-! ### Names of the registers: their offsets on their page -/

abbrev PG_ID : Nat := 0x00
abbrev PG_VER : Nat := 0x01
abbrev PG_STAT : Nat := 0x02
abbrev PG_CTL : Nat := 0x03
abbrev PG_ERR : Nat := 0x04
abbrev PG_FLT : Nat := 0x05
abbrev PG_FORCE : Nat := 0x06
abbrev PG_INJ : Nat := 0x07
abbrev PG_LOCK : Nat := 0x08
abbrev PG_SEQ : Nat := 0x09
abbrev TBL_ADDR : Nat := 0x0A
abbrev TBL_DATA : Nat := 0x0B
abbrev TBL_LAST : Nat := 0x0C
abbrev ID_PART : Nat := 0x10
abbrev ID_STEP : Nat := 0x11
abbrev ID_LOT0 : Nat := 0x12
abbrev ID_LOT1 : Nat := 0x13
abbrev ID_WAFER : Nat := 0x14
abbrev ID_DIEXY : Nat := 0x15
abbrev ID_SITE : Nat := 0x16
abbrev ID_UNIQ0 : Nat := 0x17
abbrev ID_UNIQ1 : Nat := 0x18
abbrev ID_UNIQ2 : Nat := 0x19
abbrev ID_FUSE : Nat := 0x1A
abbrev TOP_STATE : Nat := 0x10
abbrev TOP_CMD : Nat := 0x11
abbrev TOP_CHIPNO : Nat := 0x12
abbrev TOP_BADPG : Nat := 0x13
abbrev TOP_WHO : Nat := 0x14
abbrev LINK_CFG : Nat := 0x10
abbrev LINK_STAT : Nat := 0x11
abbrev LINK_MAC0 : Nat := 0x12
abbrev LINK_MAC1 : Nat := 0x13
abbrev LINK_IP0 : Nat := 0x14
abbrev LINK_IP1 : Nat := 0x15
abbrev LINK_IPOPT : Nat := 0x16
abbrev LINK_CMD : Nat := 0x17
abbrev LINK_RXOK : Nat := 0x18
abbrev LINK_RXFCS : Nat := 0x19
abbrev LINK_RXDROP : Nat := 0x1A
abbrev LINK_TXOK : Nat := 0x1B
abbrev LINK_FECC : Nat := 0x1C
abbrev LINK_FECU : Nat := 0x1D
abbrev ABT_CFG : Nat := 0x10
abbrev ABT_PORT : Nat := 0x11
abbrev ABT_MCBASE0 : Nat := 0x12
abbrev ABT_MCBASE1 : Nat := 0x13
abbrev ABT_MCJOIN : Nat := 0x14
abbrev ABT_INFL : Nat := 0x15
abbrev ABT_SRC : Nat := 0x16
abbrev ABT_CMD : Nat := 0x17
abbrev ABT_BADCRC : Nat := 0x18
abbrev ABT_BADFRM : Nat := 0x19
abbrev ABT_DUP : Nat := 0x1A
abbrev ABT_TWIN : Nat := 0x1B
abbrev ABT_GAPDROP : Nat := 0x1C
abbrev ABT_NOTME : Nat := 0x1D
abbrev PTP_CFG : Nat := 0x10
abbrev PTP_CFG2 : Nat := 0x11
abbrev PTP_STAT : Nat := 0x12
abbrev PTP_OFS0 : Nat := 0x13
abbrev PTP_OFS1 : Nat := 0x14
abbrev PTP_OFS2 : Nat := 0x15
abbrev PTP_RATE : Nat := 0x16
abbrev PTP_MPD : Nat := 0x17
abbrev PTP_ASYM : Nat := 0x18
abbrev PTP_GM0 : Nat := 0x1B
abbrev PTP_GM1 : Nat := 0x1C
abbrev PTP_GM2 : Nat := 0x1D
abbrev PTP_CNT : Nat := 0x1E
abbrev STORE_CFG : Nat := 0x10
abbrev STORE_STAT : Nat := 0x11
abbrev STORE_INJSEL : Nat := 0x12
abbrev STORE_CMD : Nat := 0x13
abbrev DRAM_CFG : Nat := 0x10
abbrev DRAM_STAT : Nat := 0x11
abbrev DRAM_GEOM : Nat := 0x12
abbrev DRAM_SIZE0 : Nat := 0x13
abbrev DRAM_SIZE1 : Nat := 0x14
abbrev DRAM_CMD : Nat := 0x15
abbrev DRAM_LECC : Nat := 0x16
abbrev DRAM_IECC_CE : Nat := 0x17
abbrev DRAM_IECC_UE : Nat := 0x18
abbrev DRAM_RETRY : Nat := 0x19
abbrev DRAM_TRACK : Nat := 0x1A
abbrev REFILL_CFG : Nat := 0x10
abbrev REFILL_CMD : Nat := 0x11
abbrev CONFL_CMD : Nat := 0x10
abbrev CONFL_STAT : Nat := 0x11
abbrev STREAM_CFG : Nat := 0x10
abbrev STREAM_STAT : Nat := 0x11
abbrev STREAM_FLAG : Nat := 0x12
abbrev STREAM_HALT : Nat := 0x13
abbrev STREAM_ERRA0 : Nat := 0x14
abbrev STREAM_ERRA1 : Nat := 0x15
abbrev STREAM_MASK0 : Nat := 0x16
abbrev STREAM_MASK1 : Nat := 0x17
abbrev STREAM_MASK2 : Nat := 0x18
abbrev STREAM_HPOS0 : Nat := 0x19
abbrev STREAM_HPOS1 : Nat := 0x1A
abbrev STREAM_SEG : Nat := 0x1B
abbrev STREAM_SQUASH : Nat := 0x1C
abbrev STREAM_HOLDS : Nat := 0x1D
abbrev STREAM_LATE : Nat := 0x1E
abbrev STREAM_CMD : Nat := 0x1F
abbrev SLIP_CFG : Nat := 0x10
abbrev SLIP_MAXA : Nat := 0x11
abbrev SLIP_MAXB : Nat := 0x12
abbrev SLIP_MAXC : Nat := 0x13
abbrev SLIP_MAXD : Nat := 0x14
abbrev SLIP_CMD : Nat := 0x15
abbrev TBASE_CFG : Nat := 0x10
abbrev TBASE_STAT : Nat := 0x11
abbrev TBASE_CMD : Nat := 0x12
abbrev TBASE_NOW0 : Nat := 0x13
abbrev TBASE_NOW1 : Nat := 0x14
abbrev TBASE_NOW2 : Nat := 0x15
abbrev TBASE_EPOCH0 : Nat := 0x16
abbrev TBASE_EPOCH1 : Nat := 0x17
abbrev TBASE_EPOCH2 : Nat := 0x18
abbrev TBASE_BELLT0 : Nat := 0x19
abbrev TBASE_BELLT1 : Nat := 0x1A
abbrev TBASE_BELLT2 : Nat := 0x1B
abbrev TBASE_BELLCNT : Nat := 0x1C
abbrev SKEW_OFS : Nat := 0x10
abbrev SKEW_TRG : Nat := 0x11
abbrev SKEW_CMD : Nat := 0x12
abbrev SKEW_AT0 : Nat := 0x13
abbrev SKEW_AT1 : Nat := 0x14
abbrev SKEW_AT2 : Nat := 0x15
abbrev SKEW_TX0 : Nat := 0x16
abbrev SKEW_TX1 : Nat := 0x17
abbrev SKEW_TX2 : Nat := 0x18
abbrev SKEW_RX0 : Nat := 0x19
abbrev SKEW_RX1 : Nat := 0x1A
abbrev SKEW_RX2 : Nat := 0x1B
abbrev SKEW_STAT : Nat := 0x1C
abbrev MSE_CFG : Nat := 0x10
abbrev MSE_STAT : Nat := 0x11
abbrev MSE_ACK : Nat := 0x12
abbrev MSE_ABORT : Nat := 0x13
abbrev MSE_QCNT : Nat := 0x14
abbrev MSE_DCNT : Nat := 0x15
abbrev MSE_CNT : Nat := 0x16
abbrev MSE_CMD : Nat := 0x17
abbrev UCODE_STAT : Nat := 0x10
abbrev UCODE_CMD : Nat := 0x11
abbrev UCODE_MEN0 : Nat := 0x12
abbrev UCODE_MEN1 : Nat := 0x13
abbrev UCODE_PID0 : Nat := 0x14
abbrev UCODE_PID1 : Nat := 0x15
abbrev UCODE_ROMSUM : Nat := 0x16
abbrev ACQG_CFG : Nat := 0x10
abbrev ACQG_STAT : Nat := 0x11
abbrev ACQG_XBASE0 : Nat := 0x12
abbrev ACQG_XBASE1 : Nat := 0x13
abbrev ACQG_XLEN0 : Nat := 0x14
abbrev ACQG_XLEN1 : Nat := 0x15
abbrev ACQG_SRBASE : Nat := 0x16
abbrev ACQG_SRSIZE : Nat := 0x17
abbrev ACQG_XUSED0 : Nat := 0x18
abbrev ACQG_XUSED1 : Nat := 0x19
abbrev ACQG_GCMD : Nat := 0x1A
abbrev ACQG_GFLAG : Nat := 0x1B
abbrev ACQG_RECS : Nat := 0x1C
abbrev ACQG_CMD : Nat := 0x1D
abbrev GREEN_STAT : Nat := 0x10
abbrev GREEN_SW : Nat := 0x11
abbrev GREEN_DLY0 : Nat := 0x12
abbrev GREEN_DLY1 : Nat := 0x13
abbrev GREEN_DLY2 : Nat := 0x14
abbrev GREEN_DLY3 : Nat := 0x15
abbrev GREEN_LOOP : Nat := 0x16
abbrev GREEN_CMD : Nat := 0x17
abbrev GUARD_TICKR : Nat := 0x10
abbrev GUARD_TICKP : Nat := 0x11
abbrev GUARD_CHK : Nat := 0x12
abbrev GUARD_SEL : Nat := 0x13
abbrev GUARD_STAT : Nat := 0x14
abbrev GUARD_CMD : Nat := 0x15
abbrev THERM_CFG : Nat := 0x10
abbrev THERM_STAT : Nat := 0x11
abbrev THERM_HOT : Nat := 0x12
abbrev THERM_VALID : Nat := 0x13
abbrev THERM_COMP : Nat := 0x14
abbrev THERM_CMD : Nat := 0x15
abbrev WATCH_CFG : Nat := 0x10
abbrev WATCH_STAT : Nat := 0x11
abbrev WATCH_CLEAR : Nat := 0x12
abbrev WATCH_NREC : Nat := 0x13
abbrev WATCH_NDROP : Nat := 0x14
abbrev WATCH_LOST : Nat := 0x15
abbrev WATCH_HEDGES : Nat := 0x16
abbrev WATCH_CMD : Nat := 0x17
abbrev GLEAN_CFG : Nat := 0x10
abbrev GLEAN_STAT : Nat := 0x11
abbrev GLEAN_SEQ0 : Nat := 0x12
abbrev GLEAN_SEQ1 : Nat := 0x13
abbrev GLEAN_CMD : Nat := 0x14
abbrev GLEAN_AGE : Nat := 0x15
abbrev GLEAN_APPL : Nat := 0x16
abbrev GLEAN_BORROW : Nat := 0x17
abbrev GLEAN_ABORT : Nat := 0x18
abbrev REEVE_FWVER0 : Nat := 0x10
abbrev REEVE_FWVER1 : Nat := 0x11
abbrev REEVE_STAT : Nat := 0x12
abbrev REEVE_RAMERR : Nat := 0x13
abbrev REEVE_UTIL : Nat := 0x14
abbrev REEVE_CMD : Nat := 0x15
abbrev SERM_CFG : Nat := 0x10
abbrev SERM_SELMASK : Nat := 0x11
abbrev SERM_GPIO_OE : Nat := 0x12
abbrev SERM_GPIO_OUT : Nat := 0x13
abbrev SERM_GPIO_IN : Nat := 0x14
abbrev SERM_XCFG : Nat := 0x15
abbrev SERM_TX0 : Nat := 0x16
abbrev SERM_TX1 : Nat := 0x17
abbrev SERM_RX0 : Nat := 0x18
abbrev SERM_RX1 : Nat := 0x19
abbrev SERM_STAT : Nat := 0x1A
abbrev SERM_FWERR : Nat := 0x1B
abbrev SERM_CMD : Nat := 0x1C
abbrev GATE_CFG : Nat := 0x10
abbrev GATE_STAT : Nat := 0x11
abbrev GATE_FRAMES : Nat := 0x12
abbrev GATE_BAD : Nat := 0x13
abbrev GATE_DUP : Nat := 0x14
abbrev GATE_SKIP : Nat := 0x15
abbrev GATE_CMD : Nat := 0x16
abbrev DB_BASE0 : Nat := 0x10
abbrev DB_BASE1 : Nat := 0x11
abbrev DB_SIZE0 : Nat := 0x12
abbrev DB_SIZE1 : Nat := 0x13
abbrev DB_STAT : Nat := 0x14
abbrev DB_LASTREC0 : Nat := 0x15
abbrev DB_LASTREC1 : Nat := 0x16
abbrev DB_SEALED0 : Nat := 0x17
abbrev DB_SEALED1 : Nat := 0x18
abbrev DB_LASTW0 : Nat := 0x19
abbrev DB_LASTW1 : Nat := 0x1A
abbrev DB_REPLAY : Nat := 0x1B
abbrev DB_GROUPS : Nat := 0x1C
abbrev DB_CMD : Nat := 0x1D
abbrev CHEST_STAT : Nat := 0x10
abbrev CHEST_CMD : Nat := 0x11
abbrev CHEST_WIPES : Nat := 0x12
abbrev CHEST_LAST : Nat := 0x13
abbrev LIFE_STATE : Nat := 0x10
abbrev LIFE_CMD : Nat := 0x11
abbrev LIFE_MKEY0 : Nat := 0x12
abbrev LIFE_MKEY1 : Nat := 0x13
abbrev LIFE_MKEY2 : Nat := 0x14
abbrev LIFE_MKEY3 : Nat := 0x15
abbrev LIFE_MKEY4 : Nat := 0x16
abbrev LIFE_MKEY5 : Nat := 0x17
abbrev LIFE_MKEY6 : Nat := 0x18
abbrev LIFE_MKEY7 : Nat := 0x19
abbrev LIFE_MKEY8 : Nat := 0x1A
abbrev LIFE_MKEY9 : Nat := 0x1B
abbrev LIFE_MKEY10 : Nat := 0x1C
abbrev LIFE_SVN : Nat := 0x1D
abbrev UPD_STAT : Nat := 0x10
abbrev UPD_TOTAL0 : Nat := 0x11
abbrev UPD_TOTAL1 : Nat := 0x12
abbrev UPD_RECV0 : Nat := 0x13
abbrev UPD_RECV1 : Nat := 0x14
abbrev UPD_AREAS : Nat := 0x15
abbrev UPD_PVER0 : Nat := 0x16
abbrev UPD_PVER1 : Nat := 0x17
abbrev UPD_CMD : Nat := 0x18
abbrev OCTPE_CFG : Nat := 0x10
abbrev OCTPE_STAT : Nat := 0x11
abbrev OCTPE_CMD : Nat := 0x12
abbrev OCTPE_FLAG : Nat := 0x13
abbrev OCTPE_ADCSEL0 : Nat := 0x14
abbrev OCTPE_ADCSEL1 : Nat := 0x15
abbrev OCTPE_ADCRATE : Nat := 0x16
abbrev OCTPE_PIN0 : Nat := 0x18
abbrev OCTPE_PIN1 : Nat := 0x19
abbrev OCTPE_PIN2 : Nat := 0x1A
abbrev OCTPE_PIN3 : Nat := 0x1B
abbrev OCTPE_PIN4 : Nat := 0x1C
abbrev OCTPE_PIN5 : Nat := 0x1D
abbrev OCTPE_PIN6 : Nat := 0x1E
abbrev OCTPE_PIN7 : Nat := 0x1F
abbrev OCTPE_RAILCFG : Nat := 0x20
abbrev OCTPE_RAILSET : Nat := 0x21
abbrev OCTPE_RAILSTAT : Nat := 0x22
abbrev OCTPE_TONECFG : Nat := 0x23
abbrev OCTPE_TONEAMP : Nat := 0x24
abbrev OCTPE_TONEFTW0 : Nat := 0x25
abbrev OCTPE_TONEFTW1 : Nat := 0x26
abbrev OCTPE_TONEPH : Nat := 0x27
abbrev OCTPE_ADCRES0 : Nat := 0x28
abbrev OCTPE_ADCRES1 : Nat := 0x29
abbrev OCTPE_ADCRES2 : Nat := 0x2A
abbrev OCTPE_ADCRES3 : Nat := 0x2B
abbrev OCTPE_ADCRES4 : Nat := 0x2C
abbrev OCTPE_ADCRES5 : Nat := 0x2D
abbrev OCTPE_ADCRES6 : Nat := 0x2E
abbrev OCTPE_ADCRES7 : Nat := 0x2F
abbrev OCTTM_CUR : Nat := 0x10
abbrev OCTTM_FLAG : Nat := 0x11
abbrev OCTTM_CYC0 : Nat := 0x12
abbrev OCTTM_CYC1 : Nat := 0x13
abbrev OCTTM_TSTART0 : Nat := 0x14
abbrev OCTTM_TSTART1 : Nat := 0x15
abbrev OCTTM_TSTART2 : Nat := 0x16
abbrev ACQ_CFG : Nat := 0x10
abbrev ACQ_NWIN : Nat := 0x11
abbrev ACQ_SEG : Nat := 0x12
abbrev ACQ_DELAY : Nat := 0x13
abbrev ACQ_LEN0 : Nat := 0x14
abbrev ACQ_LEN1 : Nat := 0x15
abbrev ACQ_LEVEL : Nat := 0x16
abbrev ACQ_HYS : Nat := 0x17
abbrev ACQ_DBAND : Nat := 0x18
abbrev ACQ_OPENAT0 : Nat := 0x19
abbrev ACQ_OPENAT1 : Nat := 0x1A
abbrev ACQ_OPENAT2 : Nat := 0x1B
abbrev ACQ_RBASE : Nat := 0x1C
abbrev ACQ_RSIZE : Nat := 0x1D
abbrev ACQ_STAT : Nat := 0x1E
abbrev ACQ_FLAG : Nat := 0x1F
abbrev ACQ_RUSED : Nat := 0x20
abbrev ACQ_CMD : Nat := 0x21
abbrev SITE_CFG : Nat := 0x10
abbrev SITE_OCT0 : Nat := 0x11
abbrev SITE_OCT1 : Nat := 0x12
abbrev SITE_STAT : Nat := 0x13
abbrev SITE_FLAG : Nat := 0x14
abbrev SITE_POS0 : Nat := 0x15
abbrev SITE_POS1 : Nat := 0x16
abbrev SITE_SLIP : Nat := 0x17
abbrev SITE_SUBPTR : Nat := 0x18
abbrev SITE_FAILS : Nat := 0x19
abbrev SITE_IDLES : Nat := 0x1A

/-! ### The header (R74) -/

/-- The header registers every page holds at 0x00 to 0x09 (R74). HEDGE_REQ, FORCE and INJ are masked further by
the page's kind; the table window is on pages with tables only (R71). -/
def headerRegs : List RegInfo :=
  [ { off := PG_ID, ro := 0xFFFFFF },
    { off := PG_VER, ro := 0xFFFFFF },
    { off := PG_STAT, ro := 0xFFFFFF },
    { off := PG_CTL, rw := 0xB00000, w1s := 0x400000 },
    { off := PG_ERR, w1c := 0x002000, wo := 0x001000, ro := 0xFFC0FF },
    { off := PG_FLT, ro := 0xF80FFF },
    { off := PG_FORCE, w1s := 0xFFFFFF },
    { off := PG_INJ, w1s := 0xFFFFFF },
    { off := PG_LOCK, wo := 0xFFFFFF },
    { off := PG_SEQ, ro := 0xFFFFFF } ]

/-! ### The registers of each kind of page -/

/-- Registers of page kind ID (R81 of spec/03_register_pages.md). -/
def regsId : List RegInfo :=
  [ { off := ID_PART, ro := 0xFFFFFF, reset := 0x512B00 },
    { off := ID_STEP, ro := 0x0000FF, reset := 0x0000A2 },
    { off := ID_LOT0, ro := 0xFFFFFF },
    { off := ID_LOT1, ro := 0xFFF000 },
    { off := ID_WAFER, ro := 0x0000FF },
    { off := ID_DIEXY, ro := 0xFFFFFF },
    { off := ID_SITE, ro := 0x0000FF },
    { off := ID_UNIQ0, ro := 0xFFFFFF, base := 0x17, n := 3 },
    { off := ID_UNIQ1, ro := 0xFFFFFF, base := 0x17, n := 3 },
    { off := ID_UNIQ2, ro := 0xFFFFFF, base := 0x17, n := 3 },
    { off := ID_FUSE, ro := 0x800000 } ]

/-- Registers of page kind TOP (R456 of spec/03_register_pages.md). -/
def regsTop : List RegInfo :=
  [ { off := TOP_STATE, ro := 0xFFF001, reset := 0x101000 },
    { off := TOP_CMD, wo := 0xFFFFFF },
    { off := TOP_CHIPNO, rw := 0x0003FF, ro := 0x3FF000 },
    { off := TOP_BADPG, w1c := 0xC00000, ro := 0x300FFF },
    { off := TOP_WHO, ro := 0x000003 } ]

/-- Registers of page kind LINK (R123 of spec/04_host_link.md). -/
def regsLink : List RegInfo :=
  [ { off := LINK_CFG, lk := 0xF80000, reset := 0x100000 },
    { off := LINK_STAT, ro := 0xFE0000 },
    { off := LINK_MAC0, lk := 0xFFFFFF, base := 0x12, n := 2 },
    { off := LINK_MAC1, lk := 0xFFFFFF, reset := 0x02A510, base := 0x12, n := 2 },
    { off := LINK_IP0, rw := 0xFFFFFF, base := 0x14, n := 2 },
    { off := LINK_IP1, rw := 0x0000FF, reset := 0x0000A9, base := 0x14, n := 2 },
    { off := LINK_IPOPT, rw := 0xFFFC00, reset := 0x400000 },
    { off := LINK_CMD, wo := 0xFFFFFF },
    { off := LINK_RXOK, ro := 0xFFFFFF },
    { off := LINK_RXFCS, ro := 0xFFFFFF },
    { off := LINK_RXDROP, ro := 0xFFFFFF },
    { off := LINK_TXOK, ro := 0xFFFFFF },
    { off := LINK_FECC, ro := 0xFFFFFF },
    { off := LINK_FECU, ro := 0xFFFFFF } ]

/-- Registers of page kind ABT (R124 of spec/04_host_link.md). -/
def regsAbt : List RegInfo :=
  [ { off := ABT_CFG, rw := 0x3FFFFC, lk := 0xC00000, reset := 0x190520 },
    { off := ABT_PORT, lk := 0x00FFFF, reset := 0x00AF15 },
    { off := ABT_MCBASE0, lk := 0xFFFFFF, reset := 0xC05100, base := 0x12, n := 2 },
    { off := ABT_MCBASE1, lk := 0x0000FF, reset := 0x0000EF, base := 0x12, n := 2 },
    { off := ABT_MCJOIN, rw := 0xF0FFFF },
    { off := ABT_INFL, ro := 0x03FFFF },
    { off := ABT_SRC, ro := 0x0000FF },
    { off := ABT_CMD, wo := 0xFFFFFF },
    { off := ABT_BADCRC, ro := 0xFFFFFF },
    { off := ABT_BADFRM, ro := 0xFFFFFF },
    { off := ABT_DUP, ro := 0xFFFFFF },
    { off := ABT_TWIN, ro := 0xFFFFFF },
    { off := ABT_GAPDROP, ro := 0xFFFFFF },
    { off := ABT_NOTME, ro := 0xFFFFFF } ]

/-- Registers of page kind PTP (R125 of spec/04_host_link.md). -/
def regsPtp : List RegInfo :=
  [ { off := PTP_CFG, rw := 0xFFFFF0, reset := 0x100800 },
    { off := PTP_CFG2, rw := 0xFFFFFF, reset := 0x80F801 },
    { off := PTP_STAT, ro := 0xF80000, reset := 0x300000 },
    { off := PTP_OFS0, rw := 0xFFFFFF, base := 0x13, n := 3 },
    { off := PTP_OFS1, rw := 0xFFFFFF, base := 0x13, n := 3 },
    { off := PTP_OFS2, rw := 0xFFFFFF, base := 0x13, n := 3 },
    { off := PTP_RATE, ro := 0xFFFFFF },
    { off := PTP_MPD, ro := 0xFFFFFF },
    { off := PTP_ASYM, rw := 0xFFFFFF },
    { off := PTP_GM0, ro := 0xFFFFFF, base := 0x1B, n := 3 },
    { off := PTP_GM1, ro := 0xFFFFFF, base := 0x1B, n := 3 },
    { off := PTP_GM2, ro := 0xFFFFFF, base := 0x1B, n := 3 },
    { off := PTP_CNT, ro := 0xFFFFFF } ]

/-- Registers of page kind STORE (R150 of spec/05_pattern_store.md). -/
def regsStore : List RegInfo :=
  [ { off := STORE_CFG, rw := 0xFF0000, reset := 0x100000 },
    { off := STORE_STAT, ro := 0xFFFFFF },
    { off := STORE_INJSEL, rw := 0x00007F },
    { off := STORE_CMD, wo := 0xFFFFFF } ]

/-- Registers of page kind DRAM (R151 of spec/05_pattern_store.md). -/
def regsDram : List RegInfo :=
  [ { off := DRAM_CFG, lk := 0xE00000, reset := 0x800000 },
    { off := DRAM_STAT, ro := 0xFE0000 },
    { off := DRAM_GEOM, ro := 0x000F0F },
    { off := DRAM_SIZE0, ro := 0xFFFFFF, base := 0x13, n := 2 },
    { off := DRAM_SIZE1, ro := 0xFFFFFF, base := 0x13, n := 2 },
    { off := DRAM_CMD, wo := 0xFFFFFF },
    { off := DRAM_LECC, ro := 0xFFFFFF },
    { off := DRAM_IECC_CE, ro := 0xFFFFFF },
    { off := DRAM_IECC_UE, ro := 0xFFFFFF },
    { off := DRAM_RETRY, ro := 0xFFFFFF },
    { off := DRAM_TRACK, ro := 0xFFFFFF } ]

/-- Registers of page kind REFILL (R152 of spec/05_pattern_store.md). -/
def regsRefill : List RegInfo :=
  [ { off := REFILL_CFG, rw := 0x800000, reset := 0x800000 },
    { off := REFILL_CMD, wo := 0xFFFFFF } ]

/-- Registers of page kind CONFL (R153 of spec/05_pattern_store.md). -/
def regsConfl : List RegInfo :=
  [ { off := CONFL_CMD, wo := 0xFFFFFF },
    { off := CONFL_STAT, ro := 0x00FFFF } ]

/-- Registers of page kind STREAM (R218 of spec/07_pattern_pipeline.md). -/
def regsStream : List RegInfo :=
  [ { off := STREAM_CFG, rw := 0xFFE000, reset := 0x180000 },
    { off := STREAM_STAT, ro := 0xFFC000 },
    { off := STREAM_FLAG, w1c := 0xF00000 },
    { off := STREAM_HALT, ro := 0x00FFFF },
    { off := STREAM_ERRA0, ro := 0xFFFFFF, base := 0x14, n := 2 },
    { off := STREAM_ERRA1, ro := 0xFFFFFF, base := 0x14, n := 2 },
    { off := STREAM_MASK0, rw := 0xFFFFFF, base := 0x16, n := 3 },
    { off := STREAM_MASK1, rw := 0xFFFFFF, base := 0x16, n := 3 },
    { off := STREAM_MASK2, rw := 0xFFFFFF, base := 0x16, n := 3 },
    { off := STREAM_HPOS0, ro := 0xFFFFFF, base := 0x19, n := 2 },
    { off := STREAM_HPOS1, ro := 0xFFFFFF, base := 0x19, n := 2 },
    { off := STREAM_SEG, ro := 0x01FFFF },
    { off := STREAM_SQUASH, ro := 0xFFFFFF },
    { off := STREAM_HOLDS, ro := 0xFFFFFF },
    { off := STREAM_LATE, ro := 0xFFFFFF },
    { off := STREAM_CMD, wo := 0xFFFFFF } ]

/-- Registers of page kind SLIP (R219 of spec/07_pattern_pipeline.md). -/
def regsSlip : List RegInfo :=
  [ { off := SLIP_CFG, rw := 0x01FFFF, reset := 0x00F000 },
    { off := SLIP_MAXA, ro := 0x01FFFF },
    { off := SLIP_MAXB, ro := 0x01FFFF },
    { off := SLIP_MAXC, ro := 0x01FFFF },
    { off := SLIP_MAXD, ro := 0x01FFFF },
    { off := SLIP_CMD, wo := 0xFFFFFF } ]

/-- Registers of page kind TBASE (R252 of spec/08_timing_edges.md). -/
def regsTbase : List RegInfo :=
  [ { off := TBASE_CFG, rw := 0xE00000 },
    { off := TBASE_STAT, ro := 0xF00000 },
    { off := TBASE_CMD, wo := 0xFFFFFF },
    { off := TBASE_NOW0, ro := 0xFFFFFF, base := 0x13, n := 3 },
    { off := TBASE_NOW1, ro := 0xFFFFFF, base := 0x13, n := 3 },
    { off := TBASE_NOW2, ro := 0xFFFFFF, base := 0x13, n := 3 },
    { off := TBASE_EPOCH0, rw := 0xFFFFFF, base := 0x16, n := 3 },
    { off := TBASE_EPOCH1, rw := 0xFFFFFF, base := 0x16, n := 3 },
    { off := TBASE_EPOCH2, rw := 0xFFFFFF, base := 0x16, n := 3 },
    { off := TBASE_BELLT0, ro := 0xFFFFFF, base := 0x19, n := 3 },
    { off := TBASE_BELLT1, ro := 0xFFFFFF, base := 0x19, n := 3 },
    { off := TBASE_BELLT2, ro := 0xFFFFFF, base := 0x19, n := 3 },
    { off := TBASE_BELLCNT, ro := 0xFFFFFF } ]

/-- Registers of page kind SKEW (R253 of spec/08_timing_edges.md). -/
def regsSkew : List RegInfo :=
  [ { off := SKEW_OFS, rw := 0xFFFFFF },
    { off := SKEW_TRG, rw := 0x0000FF },
    { off := SKEW_CMD, wo := 0xFFFFFF },
    { off := SKEW_AT0, rw := 0xFFFFFF, base := 0x13, n := 3 },
    { off := SKEW_AT1, rw := 0xFFFFFF, base := 0x13, n := 3 },
    { off := SKEW_AT2, rw := 0xFFFFFF, base := 0x13, n := 3 },
    { off := SKEW_TX0, ro := 0xFFFFFF, base := 0x16, n := 3 },
    { off := SKEW_TX1, ro := 0xFFFFFF, base := 0x16, n := 3 },
    { off := SKEW_TX2, ro := 0xFFFFFF, base := 0x16, n := 3 },
    { off := SKEW_RX0, ro := 0xFFFFFF, base := 0x19, n := 3 },
    { off := SKEW_RX1, ro := 0xFFFFFF, base := 0x19, n := 3 },
    { off := SKEW_RX2, ro := 0xFFFFFF, base := 0x19, n := 3 },
    { off := SKEW_STAT, w1c := 0xE00000, ro := 0x180000 } ]

/-- Registers of page kind MSE (R310 of spec/10_measurement_engine.md). -/
def regsMse : List RegInfo :=
  [ { off := MSE_CFG, rw := 0xFF0000, reset := 0x640000 },
    { off := MSE_STAT, ro := 0xFF0000 },
    { off := MSE_ACK, wo := 0xFFFFFF },
    { off := MSE_ABORT, wo := 0xFFFFFF },
    { off := MSE_QCNT, ro := 0xFFFFFF },
    { off := MSE_DCNT, ro := 0xFFF000 },
    { off := MSE_CNT, ro := 0xFFFFFF },
    { off := MSE_CMD, wo := 0xFFFFFF } ]

/-- Registers of page kind UCODE (R311 of spec/10_measurement_engine.md). -/
def regsUcode : List RegInfo :=
  [ { off := UCODE_STAT, ro := 0xFFE000 },
    { off := UCODE_CMD, wo := 0xFFFFFF },
    { off := UCODE_MEN0, rw := 0x00FFFF },
    { off := UCODE_MEN1, rw := 0x00FFFF },
    { off := UCODE_PID0, rw := 0xFFFFFF },
    { off := UCODE_PID1, rw := 0xFFFFFF },
    { off := UCODE_ROMSUM, ro := 0xFFFFFF } ]

/-- Registers of page kind ACQG (R334 of spec/11_acquisition.md). -/
def regsAcqg : List RegInfo :=
  [ { off := ACQG_CFG, rw := 0xF00000, reset := 0x800000 },
    { off := ACQG_STAT, ro := 0xC00000 },
    { off := ACQG_XBASE0, lk := 0xFFFFFF, base := 0x12, n := 2 },
    { off := ACQG_XBASE1, lk := 0xFFFFFF, base := 0x12, n := 2 },
    { off := ACQG_XLEN0, lk := 0xFFFFFF, base := 0x14, n := 2 },
    { off := ACQG_XLEN1, lk := 0xFFFFFF, base := 0x14, n := 2 },
    { off := ACQG_SRBASE, lk := 0xFFFFFF },
    { off := ACQG_SRSIZE, lk := 0xFFFFFF },
    { off := ACQG_XUSED0, ro := 0xFFFFFF, base := 0x18, n := 2 },
    { off := ACQG_XUSED1, ro := 0xFFFFFF, base := 0x18, n := 2 },
    { off := ACQG_GCMD, wo := 0xFFFFFF },
    { off := ACQG_GFLAG, w1c := 0xF3CF3C },
    { off := ACQG_RECS, ro := 0xFFFFFF },
    { off := ACQG_CMD, wo := 0xFFFFFF } ]

/-- Registers of page kind GREEN (R347 of spec/12_event_green.md). -/
def regsGreen : List RegInfo :=
  [ { off := GREEN_STAT, ro := 0xFFC000 },
    { off := GREEN_SW, wo := 0xFFFFFF },
    { off := GREEN_DLY0, rw := 0xFFFFFF, reset := 0x000001 },
    { off := GREEN_DLY1, rw := 0xFFFFFF, reset := 0x000001 },
    { off := GREEN_DLY2, rw := 0xFFFFFF, reset := 0x000001 },
    { off := GREEN_DLY3, rw := 0xFFFFFF, reset := 0x000001 },
    { off := GREEN_LOOP, w1c := 0x800000, ro := 0x00007F },
    { off := GREEN_CMD, wo := 0xFFFFFF } ]

/-- Registers of page kind GUARD (R373 of spec/13_guard_faults.md). -/
def regsGuard : List RegInfo :=
  [ { off := GUARD_TICKR, rw := 0x001FFF, reset := 0x000001 },
    { off := GUARD_TICKP, rw := 0x001FFF, reset := 0x000001 },
    { off := GUARD_CHK, rw := 0xFF0000, reset := 0x0A0000 },
    { off := GUARD_SEL, rw := 0x0003FF },
    { off := GUARD_STAT, ro := 0xFFFFF0, reset := 0x040000 },
    { off := GUARD_CMD, wo := 0xFFFFFF } ]

/-- Registers of page kind THERM (R374 of spec/13_guard_faults.md). -/
def regsTherm : List RegInfo :=
  [ { off := THERM_CFG, rw := 0xFF0000, reset := 0x5F0000 },
    { off := THERM_STAT, ro := 0xDF0000, reset := 0x100000 },
    { off := THERM_HOT, ro := 0xF0FFFF },
    { off := THERM_VALID, ro := 0x00FFFF, reset := 0x00FFFF },
    { off := THERM_COMP, ro := 0xFFFFFF },
    { off := THERM_CMD, wo := 0xF00001 } ]

/-- Registers of page kind WATCH (R375 of spec/13_guard_faults.md). -/
def regsWatch : List RegInfo :=
  [ { off := WATCH_CFG, rw := 0xFF0000 },
    { off := WATCH_STAT, w1c := 0x3F8000, ro := 0xC06000 },
    { off := WATCH_CLEAR, wo := 0xFFFFFF },
    { off := WATCH_NREC, ro := 0xFFFFFF },
    { off := WATCH_NDROP, ro := 0xFFFFFF },
    { off := WATCH_LOST, ro := 0xFFFFFF },
    { off := WATCH_HEDGES, ro := 0xFFFFFF },
    { off := WATCH_CMD, wo := 0x000001 } ]

/-- Registers of page kind GLEAN (R394 of spec/14_gleaning.md). -/
def regsGlean : List RegInfo :=
  [ { off := GLEAN_CFG, rw := 0xC0FF00, reset := 0x804000 },
    { off := GLEAN_STAT, ro := 0xFC03FF },
    { off := GLEAN_SEQ0, ro := 0xFFFFFF, base := 0x12, n := 2 },
    { off := GLEAN_SEQ1, ro := 0xFFFFFF, base := 0x12, n := 2 },
    { off := GLEAN_CMD, wo := 0xFFFFFF },
    { off := GLEAN_AGE, ro := 0x000FFF },
    { off := GLEAN_APPL, ro := 0xFFFFFF },
    { off := GLEAN_BORROW, ro := 0xFFFFFF },
    { off := GLEAN_ABORT, ro := 0xFFFFFF } ]

/-- Registers of page kind REEVE (R450 of spec/16_reeve_management.md). -/
def regsReeve : List RegInfo :=
  [ { off := REEVE_FWVER0, ro := 0xFFFFFF, base := 0x10, n := 2 },
    { off := REEVE_FWVER1, ro := 0xFFFFFF, base := 0x10, n := 2 },
    { off := REEVE_STAT, ro := 0xE00000 },
    { off := REEVE_RAMERR, ro := 0xFFFFFF },
    { off := REEVE_UTIL, ro := 0xFFFF00 },
    { off := REEVE_CMD, wo := 0xFFFFFF } ]

/-- Registers of page kind SERM (R451 of spec/16_reeve_management.md). -/
def regsSerm : List RegInfo :=
  [ { off := SERM_CFG, lk := 0xFDFE00, ro := 0x020000, reset := 0x001000 },
    { off := SERM_SELMASK, rw := 0x00FFFF },
    { off := SERM_GPIO_OE, rw := 0x00FFFF },
    { off := SERM_GPIO_OUT, rw := 0x00FFFF, reset := 0x00FFFF },
    { off := SERM_GPIO_IN, ro := 0x00FFFF },
    { off := SERM_XCFG, rw := 0xFFFF80, reset := 0x080800 },
    { off := SERM_TX0, rw := 0xFFFFFF, base := 0x16, n := 2 },
    { off := SERM_TX1, rw := 0xFFFFFF, base := 0x16, n := 2 },
    { off := SERM_RX0, ro := 0xFFFFFF, base := 0x18, n := 2 },
    { off := SERM_RX1, ro := 0xFFFFFF, base := 0x18, n := 2 },
    { off := SERM_STAT, w1c := 0x380000, ro := 0xC00000 },
    { off := SERM_FWERR, ro := 0xFFFFFF },
    { off := SERM_CMD, wo := 0xFFFFFF } ]

/-- Registers of page kind GATE (R452 of spec/16_reeve_management.md). -/
def regsGate : List RegInfo :=
  [ { off := GATE_CFG, rw := 0x800000, reset := 0x800000 },
    { off := GATE_STAT, ro := 0xF80000 },
    { off := GATE_FRAMES, ro := 0xFFFFFF },
    { off := GATE_BAD, ro := 0xFFFFFF },
    { off := GATE_DUP, ro := 0xFFFFFF },
    { off := GATE_SKIP, ro := 0xFFFFFF },
    { off := GATE_CMD, wo := 0x000001 } ]

/-- Registers of page kind DAYBOOK (R416 of spec/15_start_recovery.md). -/
def regsDaybook : List RegInfo :=
  [ { off := DB_BASE0, lk := 0xFFFFFF, base := 0x10, n := 2 },
    { off := DB_BASE1, lk := 0x0000FF, base := 0x10, n := 2 },
    { off := DB_SIZE0, lk := 0xFFFFFF, base := 0x12, n := 2 },
    { off := DB_SIZE1, lk := 0xFFFFFF, base := 0x12, n := 2 },
    { off := DB_STAT, ro := 0xFFFF00 },
    { off := DB_LASTREC0, ro := 0xFFFFFF, base := 0x15, n := 2 },
    { off := DB_LASTREC1, ro := 0xFFFFFF, base := 0x15, n := 2 },
    { off := DB_SEALED0, ro := 0xFFFFFF, base := 0x17, n := 2 },
    { off := DB_SEALED1, ro := 0xFFFFFF, base := 0x17, n := 2 },
    { off := DB_LASTW0, ro := 0xFFFFFF, base := 0x19, n := 2 },
    { off := DB_LASTW1, ro := 0xFFFFFF, base := 0x19, n := 2 },
    { off := DB_REPLAY, ro := 0xFFFFFF },
    { off := DB_GROUPS, ro := 0xFFFFFF },
    { off := DB_CMD, wo := 0xFFFFFF } ]

/-- Registers of page kind CHEST (R453 of spec/16_reeve_management.md). -/
def regsChest : List RegInfo :=
  [ { off := CHEST_STAT, ro := 0xFFE000 },
    { off := CHEST_CMD, wo := 0xFFFFFF },
    { off := CHEST_WIPES, ro := 0xFFFFFF },
    { off := CHEST_LAST, ro := 0xF00000 } ]

/-- Registers of page kind LIFE (R454 of spec/16_reeve_management.md). -/
def regsLife : List RegInfo :=
  [ { off := LIFE_STATE, ro := 0xF80000 },
    { off := LIFE_CMD, lk := 0xFFFFFF },
    { off := LIFE_MKEY0, lk := 0xFFFFFF },
    { off := LIFE_MKEY1, lk := 0xFFFFFF },
    { off := LIFE_MKEY2, lk := 0xFFFFFF },
    { off := LIFE_MKEY3, lk := 0xFFFFFF },
    { off := LIFE_MKEY4, lk := 0xFFFFFF },
    { off := LIFE_MKEY5, lk := 0xFFFFFF },
    { off := LIFE_MKEY6, lk := 0xFFFFFF },
    { off := LIFE_MKEY7, lk := 0xFFFFFF },
    { off := LIFE_MKEY8, lk := 0xFFFFFF },
    { off := LIFE_MKEY9, lk := 0xFFFFFF },
    { off := LIFE_MKEY10, lk := 0xFFFFFF },
    { off := LIFE_SVN, ro := 0x00003F } ]

/-- Registers of page kind UPDATE (R455 of spec/16_reeve_management.md). -/
def regsUpdate : List RegInfo :=
  [ { off := UPD_STAT, ro := 0xFFF000 },
    { off := UPD_TOTAL0, ro := 0xFFFFFF, base := 0x11, n := 2 },
    { off := UPD_TOTAL1, ro := 0xFFFFFF, base := 0x11, n := 2 },
    { off := UPD_RECV0, ro := 0xFFFFFF, base := 0x13, n := 2 },
    { off := UPD_RECV1, ro := 0xFFFFFF, base := 0x13, n := 2 },
    { off := UPD_AREAS, ro := 0xE00000 },
    { off := UPD_PVER0, ro := 0xFFFFFF, base := 0x16, n := 2 },
    { off := UPD_PVER1, ro := 0xFFFFFF, base := 0x16, n := 2 },
    { off := UPD_CMD, wo := 0xFFFFFF } ]

/-- Registers of page kind OCTPE (R285 of spec/09_pin_electronics.md). -/
def regsOctpe : List RegInfo :=
  [ { off := OCTPE_CFG, rw := 0xE00000 },
    { off := OCTPE_STAT, ro := 0xFFFFFF },
    { off := OCTPE_CMD, wo := 0xFFFFFF },
    { off := OCTPE_FLAG, w1c := 0xFF8000, ro := 0x004000 },
    { off := OCTPE_ADCSEL0, rw := 0xFFFFFF },
    { off := OCTPE_ADCSEL1, rw := 0xFFFFFF },
    { off := OCTPE_ADCRATE, rw := 0x1FFFFF, reset := 0x000640 },
    { off := OCTPE_PIN0, rw := 0xFFF000, reset := 0x0C0000 },
    { off := OCTPE_PIN1, rw := 0xFFF000, reset := 0x0C0000 },
    { off := OCTPE_PIN2, rw := 0xFFF000, reset := 0x0C0000 },
    { off := OCTPE_PIN3, rw := 0xFFF000, reset := 0x0C0000 },
    { off := OCTPE_PIN4, rw := 0xFFF000, reset := 0x0C0000 },
    { off := OCTPE_PIN5, rw := 0xFFF000, reset := 0x0C0000 },
    { off := OCTPE_PIN6, rw := 0xFFF000, reset := 0x0C0000 },
    { off := OCTPE_PIN7, rw := 0xFFF000, reset := 0x0C0000 },
    { off := OCTPE_RAILCFG, rw := 0xFFFF00, reset := 0x1A1400 },
    { off := OCTPE_RAILSET, rw := 0xFFFFFF },
    { off := OCTPE_RAILSTAT, ro := 0xF00000, reset := 0x100000 },
    { off := OCTPE_TONECFG, rw := 0xF0FFFF, reset := 0x000040 },
    { off := OCTPE_TONEAMP, rw := 0x00FFFF },
    { off := OCTPE_TONEFTW0, rw := 0xFFFFFF, base := 0x25, n := 2 },
    { off := OCTPE_TONEFTW1, rw := 0xFFFFFF, base := 0x25, n := 2 },
    { off := OCTPE_TONEPH, rw := 0x000FFF },
    { off := OCTPE_ADCRES0, ro := 0xFFFFFF },
    { off := OCTPE_ADCRES1, ro := 0xFFFFFF },
    { off := OCTPE_ADCRES2, ro := 0xFFFFFF },
    { off := OCTPE_ADCRES3, ro := 0xFFFFFF },
    { off := OCTPE_ADCRES4, ro := 0xFFFFFF },
    { off := OCTPE_ADCRES5, ro := 0xFFFFFF },
    { off := OCTPE_ADCRES6, ro := 0xFFFFFF },
    { off := OCTPE_ADCRES7, ro := 0xFFFFFF } ]

/-- Registers of page kind OCTTM (R254 of spec/08_timing_edges.md). -/
def regsOcttm : List RegInfo :=
  [ { off := OCTTM_CUR, ro := 0x3FFFE0 },
    { off := OCTTM_FLAG, w1c := 0xE00000 },
    { off := OCTTM_CYC0, ro := 0xFFFFFF, base := 0x12, n := 2 },
    { off := OCTTM_CYC1, ro := 0xFFFFFF, base := 0x12, n := 2 },
    { off := OCTTM_TSTART0, ro := 0xFFFFFF, base := 0x14, n := 3 },
    { off := OCTTM_TSTART1, ro := 0xFFFFFF, base := 0x14, n := 3 },
    { off := OCTTM_TSTART2, ro := 0xFFFFFF, base := 0x14, n := 3 } ]

/-- Registers of page kind OCTACQ (R333 of spec/11_acquisition.md). -/
def regsOctacq : List RegInfo :=
  [ { off := ACQ_CFG, rw := 0xFFFFFF },
    { off := ACQ_NWIN, rw := 0xFFF000, reset := 0x001000 },
    { off := ACQ_SEG, rw := 0x01FFFF },
    { off := ACQ_DELAY, rw := 0xFFFFFF },
    { off := ACQ_LEN0, rw := 0xFFFFFF, reset := 0x000001, base := 0x14, n := 2 },
    { off := ACQ_LEN1, rw := 0xFFFFFF, base := 0x14, n := 2 },
    { off := ACQ_LEVEL, rw := 0xFFFFFF },
    { off := ACQ_HYS, rw := 0xFFFFFF },
    { off := ACQ_DBAND, rw := 0xFFFFFF },
    { off := ACQ_OPENAT0, rw := 0xFFFFFF, base := 0x19, n := 3 },
    { off := ACQ_OPENAT1, rw := 0xFFFFFF, base := 0x19, n := 3 },
    { off := ACQ_OPENAT2, rw := 0xFFFFFF, base := 0x19, n := 3 },
    { off := ACQ_RBASE, rw := 0xFFFFFF },
    { off := ACQ_RSIZE, rw := 0xFFFFFF },
    { off := ACQ_STAT, ro := 0xFFFF00 },
    { off := ACQ_FLAG, w1c := 0xFC0000 },
    { off := ACQ_RUSED, ro := 0xFFFFFF },
    { off := ACQ_CMD, wo := 0xFFFFFF } ]

/-- Registers of page kind SITE (R220 of spec/07_pattern_pipeline.md). -/
def regsSite : List RegInfo :=
  [ { off := SITE_CFG, rw := 0xE00000 },
    { off := SITE_OCT0, rw := 0xFFFFFF },
    { off := SITE_OCT1, rw := 0xFFFFFF },
    { off := SITE_STAT, ro := 0xFE0000 },
    { off := SITE_FLAG, w1c := 0xF80000 },
    { off := SITE_POS0, ro := 0xFFFFFF, base := 0x15, n := 2 },
    { off := SITE_POS1, ro := 0xFFFFFF, base := 0x15, n := 2 },
    { off := SITE_SLIP, ro := 0x01FFFF },
    { off := SITE_SUBPTR, ro := 0x007FFF },
    { off := SITE_FAILS, ro := 0xFFFFFF },
    { off := SITE_IDLES, ro := 0xFFFFFF } ]

/-- The registers of a page of the given kind (Table 3.1). -/
def regsOf : Kind → List RegInfo
  | .id => regsId
  | .top => regsTop
  | .link => regsLink
  | .abt => regsAbt
  | .ptp => regsPtp
  | .store => regsStore
  | .dram => regsDram
  | .refill => regsRefill
  | .confl => regsConfl
  | .stream => regsStream
  | .slip => regsSlip
  | .tbase => regsTbase
  | .skew => regsSkew
  | .mse => regsMse
  | .ucode => regsUcode
  | .acqg => regsAcqg
  | .green => regsGreen
  | .guard => regsGuard
  | .therm => regsTherm
  | .watch => regsWatch
  | .glean => regsGlean
  | .reeve => regsReeve
  | .serm => regsSerm
  | .gate => regsGate
  | .daybook => regsDaybook
  | .chest => regsChest
  | .life => regsLife
  | .update => regsUpdate
  | .octpe => regsOctpe
  | .octtm => regsOcttm
  | .octacq => regsOctacq
  | .site => regsSite

/-- PG_VER.LAST of the page kind (R63, R74). -/
def lastOff : Kind → Nat
  | .id => 0x1A
  | .top => 0x14
  | .link => 0x1D
  | .abt => 0x1D
  | .ptp => 0x1E
  | .store => 0x13
  | .dram => 0x1A
  | .refill => 0x11
  | .confl => 0x11
  | .stream => 0x1F
  | .slip => 0x15
  | .tbase => 0x1C
  | .skew => 0x1C
  | .mse => 0x17
  | .ucode => 0x16
  | .acqg => 0x1D
  | .green => 0x17
  | .guard => 0x15
  | .therm => 0x15
  | .watch => 0x17
  | .glean => 0x18
  | .reeve => 0x15
  | .serm => 0x1C
  | .gate => 0x16
  | .daybook => 0x1D
  | .chest => 0x13
  | .life => 0x1D
  | .update => 0x18
  | .octpe => 0x2F
  | .octtm => 0x16
  | .octacq => 0x21
  | .site => 0x1A

/-- The PG_FORCE bits the owning chapter assigns to a source (R75). -/
def forceMask : Kind → Word
  | .id => 0x000000
  | .top => 0x000000
  | .link => 0x000003
  | .abt => 0x000001
  | .ptp => 0x000001
  | .store => 0x000003
  | .dram => 0x000003
  | .refill => 0x000000
  | .confl => 0x000000
  | .stream => 0x000007
  | .slip => 0x000001
  | .tbase => 0x000003
  | .skew => 0x000001
  | .mse => 0x0003FF
  | .ucode => 0x000000
  | .acqg => 0x00001F
  | .green => 0x000001
  | .guard => 0x000007
  | .therm => 0xFFFF07
  | .watch => 0x000003
  | .glean => 0x000000
  | .reeve => 0x000007
  | .serm => 0x000001
  | .gate => 0x000000
  | .daybook => 0x000003
  | .chest => 0x000001
  | .life => 0x000000
  | .update => 0x000007
  | .octpe => 0x000001
  | .octtm => 0x000001
  | .octacq => 0x000001
  | .site => 0x000001

/-- The PG_INJ bits the owning chapter assigns to a checker (R74). -/
def injMask : Kind → Word
  | .id => 0x000000
  | .top => 0x000000
  | .link => 0x000001
  | .abt => 0x000001
  | .ptp => 0x000000
  | .store => 0x000003
  | .dram => 0x000003
  | .refill => 0x000000
  | .confl => 0x000000
  | .stream => 0x000000
  | .slip => 0x000000
  | .tbase => 0x000001
  | .skew => 0x000000
  | .mse => 0x0000FF
  | .ucode => 0x000000
  | .acqg => 0x000000
  | .green => 0x000001
  | .guard => 0x000001
  | .therm => 0x000001
  | .watch => 0x000001
  | .glean => 0x000001
  | .reeve => 0x000003
  | .serm => 0x000000
  | .gate => 0x000001
  | .daybook => 0x000001
  | .chest => 0x000000
  | .life => 0x000000
  | .update => 0x000001
  | .octpe => 0x000003
  | .octtm => 0x000001
  | .octacq => 0x000000
  | .site => 0x000000

/-- LAST of each table of the page kind, TSEL 0 first (R71). -/
def tableLasts : Kind → List Nat
  | .id => []
  | .top => []
  | .link => []
  | .abt => [0x3f]
  | .ptp => []
  | .store => [0x7f, 0x7f]
  | .dram => []
  | .refill => [0x1f]
  | .confl => [0x7f, 0x7f]
  | .stream => []
  | .slip => [0x3f, 0x3f]
  | .tbase => []
  | .skew => []
  | .mse => [0x5fff, 0x77ff, 0xff]
  | .ucode => [0x7f, 0x7f, 0x9f, 0x9f, 0xf, 0xf, 0xf7f, 0x95f]
  | .acqg => [0x3f]
  | .green => [0x3ff, 0x7f, 0x3f]
  | .guard => [0x93f, 0x24f]
  | .therm => [0xf]
  | .watch => [0x17, 0x1f]
  | .glean => [0x8fff, 0x8fff, 0x1ff]
  | .reeve => []
  | .serm => []
  | .gate => []
  | .daybook => []
  | .chest => [0xffff, 0xff]
  | .life => []
  | .update => []
  | .octpe => [0x7f, 0x7f, 0xfff]
  | .octtm => [0x7ff]
  | .octacq => []
  | .site => [0x3ff]

/-- Does the page kind have a table window (R71)? -/
def hasTables (k : Kind) : Bool := !(tableLasts k).isEmpty

/-- LAST of table `t` of the page kind, where the table is implemented (R72). -/
def tableLast (k : Kind) (t : Nat) : Option Nat := (tableLasts k)[t]?

/-- Is HEDGE_REQ implemented on the page kind? It is reserved on pages that are not a hedgeable unit (R74). -/
def hedgeable : Kind → Bool
  | .site => true
  | .stream => true
  | _ => false

/-- The register at an offset of a page kind; none where the offset is reserved (R63). -/
def regInfo (k : Kind) (off : Nat) : Option RegInfo :=
  if off < 0x0A then headerRegs.find? (fun r => r.off == off)
  else if off < 0x0D then
    if hasTables k then
      if off = TBL_ADDR then some { off := TBL_ADDR, rw := 0xFFFFFF }
      else if off = TBL_DATA then some { off := TBL_DATA, rw := 0xFFFFFF }
      else some { off := TBL_LAST, ro := 0x07FFFF }
    else none
  else (regsOf k).find? (fun r => r.off == off)

/-- The Reset column of the register at an offset (R6); zero for a reserved offset. -/
def regReset (k : Kind) (off : Nat) : Word :=
  match regInfo k off with
  | some r => r.reset
  | none => 0

end Sys2Proof.Machine
end

