-- ==== Sys2Proof/Machine/Store.lean ====
section
/-!
DEFINITION. Sparse storage in one canonical form: a list of (key, value) pairs with strictly rising keys and no entry
equal to what an unlisted key reads as. Registers, tables, banks, external memory and every family of numbered units
(sites, streams, octets, capture units ...) are held so, and so equal contents are equal data.
-/
namespace Sys2Proof.Machine

/-- Sparse contents: strictly rising keys, defaults never listed (`Store.wf`). -/
abbrev Store (α : Type) := List (Nat × α)

/-- The value at key `k`; an unlisted key reads as the default `d k`. -/
def Store.get {α : Type} (d : Nat → α) : Store α → Nat → α
  | [], k => d k
  | (j, v) :: m, k => if j = k then v else Store.get d m k

/-- Remove the entry of key `k`. -/
def Store.erase {α : Type} : Store α → Nat → Store α
  | [], _ => []
  | (j, v) :: m, k => if j = k then Store.erase m k else (j, v) :: Store.erase m k

/-- Put an entry at its place among rising keys. -/
def Store.insert {α : Type} : Store α → Nat → α → Store α
  | [], k, v => [(k, v)]
  | (j, w) :: m, k, v => if k < j then (k, v) :: (j, w) :: m else (j, w) :: Store.insert m k v

/-- Write `v` at key `k`, keeping the canonical form: writing the default removes the entry. -/
def Store.put {α : Type} [DecidableEq α] (d : Nat → α) : Store α → Nat → α → Store α
  | [], k, v => if v = d k then [] else [(k, v)]
  | e :: m, k, v => if v = d k then Store.erase (e :: m) k else (Store.erase (e :: m) k).insert k v

/-- Every key of the contents is at least `b` and the keys rise strictly; no entry is a default. -/
def Store.wfFrom {α : Type} [DecidableEq α] (d : Nat → α) : Nat → Store α → Bool
  | _, [] => true
  | b, (j, v) :: m => decide (b ≤ j) && decide (v ≠ d j) && Store.wfFrom d (j + 1) m

/-- The canonical form. -/
def Store.wf {α : Type} [DecidableEq α] (d : Nat → α) (m : Store α) : Bool := Store.wfFrom d 0 m

/-- Write a run of values at consecutive keys. -/
def Store.putList {α : Type} [DecidableEq α] (d : Nat → α) : Store α → Nat → List α → Store α
  | m, _, [] => m
  | m, k, v :: vs => Store.putList d (m.put d k v) (k + 1) vs

/-- Read a run of `n` values at consecutive keys. -/
def Store.getList {α : Type} (d : Nat → α) (m : Store α) : Nat → Nat → List α
  | _, 0 => []
  | k, n + 1 => m.get d k :: Store.getList d m (k + 1) n

/-- Apply a function to every value that is listed; what unlisted keys read as is the function's fixed point. -/
def Store.mapVals {α : Type} [DecidableEq α] (d : Nat → α) (f : Nat → α → α) : Store α → Store α
  | [] => []
  | (k, v) :: m => Store.put d (Store.mapVals d f m) k (f k v)

/-- Drop every entry whose key fails the test. -/
def Store.keep {α : Type} (p : Nat → Bool) (m : Store α) : Store α := m.filter (fun e => p e.1)

end Sys2Proof.Machine
end

