-- ==== Sys2Proof/Machine/Units.lean ====
section
/-!
DEFINITION. The parts of the state, chapter by chapter: what the spec gives each block beyond its registers, as plain
data. Registers that hold a value of their own are in `State.regs` and `State.tabs`.
-/
namespace Sys2Proof.Machine

/-! ### Accesses (chapter "Register Pages and the Access Fabric") -/

/-- What the last host access or command returned: the status code of Table 4.5 and the data words. -/
structure Reply where
  status : Nat := 0
  data : List Word := []
  deriving DecidableEq, Repr

/-- A captured snapshot of a wide quantity (R67, R68): its initiator, page, place (0 a register, t + 1 table t), lowest
offset or index, and words. -/
structure Snap where
  ini : Nat
  page : Nat
  place : Nat
  base : Nat
  words : List Word
  deriving DecidableEq, Repr

/-- A lower word of a wide quantity that waits for the highest word (R69). -/
structure Waiting where
  ini : Nat
  page : Nat
  place : Nat
  off : Nat
  val : Word
  deriving DecidableEq, Repr

/-! ### Power and start (chapters "Package, Supplies and Heat" and "Starting, Recovering and Losing Power") -/

/-- The run state and the progress of a start (R78, R395, R456). -/
structure Run where
  st : RunState := .cold
  prev : RunState := .cold
  step : Nat := 1
  warm : Bool := false
  /-- The start has been interrupted by PWRWARN_N and waits for its rise (R54). -/
  waiting : Bool := false
  /-- Step 7 of the last cold start completed (R398). -/
  replayed : Bool := false
  /-- The halt arose during START (R408). -/
  inStart : Bool := false
  /-- The safe state of R357 is in force. -/
  safe : Bool := false
  /-- Bit k: start step k has completed, so that the pages it names read UP = 1 (R457). -/
  up : Nat := 0
  deriving DecidableEq, Repr

/-- Pins and cells the board drives or reads. -/
structure Pins where
  porstN : Bool := false
  pwrwarnN : Bool := true
  /-- CID0 to CID9 as the board straps them (R46). -/
  cid : Nat := 0
  /-- STRAP: the value sampled at the last rising edge of PORST_N (R46). -/
  strap : Nat := 0
  /-- TRST_N, which an internal resistor pulls low (R46); low, it holds the test access port in Test-Logic-Reset (R58). -/
  trstN : Bool := false
  /-- Current instruction of the test access port (R58); IDCODE in Test-Logic-Reset (log entry 46). -/
  tap : Byte := 0x01
  /-- Update latches of the boundary register's cells, cell 0 in bit 0 (R60). -/
  cells : Nat := 0
  /-- Bits that the last scan of a data register shifted out on TDO, the first one first (R58 to R60). -/
  tdo : List Bool := []
  /-- Chip-supply monitors of VPE_HI and VPE_LO whose last sample lay outside Table 2.8 (R49). -/
  vpeOut : List Nat := []
  /-- The class G latch cell, supplied from VCORE (R367). -/
  gLatch : Bool := false
  /-- An external reference is on REFIN (R46). -/
  refin : Bool := false
  /-- GPIO00 to GPIO15 as driven from outside. -/
  gpioIn : Nat := 0xFFFF
  deriving DecidableEq, Repr

/-- What the fuses hold (R81, R434 to R436). -/
structure Fuses where
  ok : Bool := true
  lot0 : Word := 0
  lot1 : Word := 0
  wafer : Nat := 1
  x : Nat := 0
  y : Nat := 0
  tsite : Nat := 0
  uniq : Nat := 0
  /-- Lifecycle state: 0 BLANK, 1 MAKER, 2 FIELD, 3 SECURED, 4 SCRAPPED (Table 16.6). -/
  life : Nat := 2
  mkeySet : Bool := false
  mkey : List Word := []
  svn : Nat := 0
  epoch : Nat := 0
  /-- Column spares that fuses use, per bank. -/
  spares : List (Nat × Nat) := []
  deriving DecidableEq, Repr

/-! ### Host link (chapter "Ethernet Host Link and Abamen Transport") -/

/-- The IPv4 head of a packet sent (R89): addresses, TTL, DSCP, the DF flag, and a length of 5 words, which means no
options. -/
structure IpHead where
  src : Nat
  dst : Nat
  ttl : Nat
  dscp : Nat
  df : Bool := true
  ihl : Nat := 5
  deriving DecidableEq, Repr

/-- The fields of an Announce message sent (R119, R125, Table 4.6). -/
structure AnnBody where
  prio1 : Nat
  clockClass : Nat
  accuracy : Nat
  variance : Nat
  prio2 : Nat
  gmid : Nat
  steps : Nat
  timeSource : Nat
  deriving DecidableEq, Repr

/-- A PTP message sent (Table 4.6): its type, domain, sequence number and two-step flag, the clock identity and port
number of its sender, its interval, its time, the requester that a Delay_Resp names, and what an Announce carries. -/
structure PtpMsg where
  typ : Nat
  domain : Nat
  seqn : Nat
  twoStep : Bool := false
  clock : Nat
  portNum : Nat := 1
  interval : Int
  time : Int := 0
  dest : Nat := 0
  ann : Option AnnBody := none
  deriving DecidableEq, Repr

/-- What a frame sent on a port carries. -/
inductive TxBody
  | arp (ip mac : Nat)
  | arpReply (toMac toIp : Nat)
  | icmpReply (head : IpHead) (toMac ident seqn : Nat) (data : List Byte)
  | udp (head : IpHead) (toMac srcPort toPort sum : Nat) (payload : List Byte)
  | ptp (head : IpHead) (msg : PtpMsg)
  deriving DecidableEq, Repr

/-- A frame the device has sent. -/
structure TxFrame where
  port : Nat
  body : TxBody
  deriving DecidableEq, Repr

/-- One command of a request frame (R96). -/
structure AbtCmd where
  op : Nat
  cflags : Nat
  words : List Word
  deriving DecidableEq, Repr

/-- One command of a reply frame (R96). -/
structure CmdReply where
  op : Nat
  status : Nat
  data : List Word
  deriving DecidableEq, Repr

/-- What takes effect only once the reply to the write has been sent: the chip number (R80), the address of a port (R90),
FORGET (R124). -/
inductive Settle
  | chip (n : Nat)
  | ip (port addr : Nat)
  | forget
  deriving DecidableEq, Repr

/-- A frame held for the gap before it (R106, R108), or executing. -/
structure AbtFrame where
  seq : Nat
  mc : Bool
  port : Nat
  count : Nat
  /-- Commands not yet executed. -/
  rest : List AbtCmd
  /-- Replies of the commands executed so far, in order. -/
  results : List CmdReply := []
  /-- The timing-clock edge at which it arrived, at which its last command completed, or at which its reply was sent. -/
  edge : Nat := 0
  /-- What takes effect once its reply has been sent, in order (R80, R90, R124). -/
  settles : List Settle := []
  /-- A SYNC has restarted its space since: its completion no longer moves N (R107). -/
  stale : Bool := false
  deriving DecidableEq, Repr

/-- A sequence space of a source (R105). -/
structure Space where
  grp : Nat
  next : Nat
  syncSeq : Option Nat := none
  held : List AbtFrame := []
  /-- Frames in execution that wait at a FENCE. -/
  exec : List AbtFrame := []
  /-- Completed frames whose reply has not been sent, oldest first. -/
  ready : List AbtFrame := []
  /-- The reply cache (R106). -/
  cache : List AbtFrame := []
  deriving DecidableEq, Repr

/-- A source (R105) and what is known of it: its port in split use, 2 where it was created in redundant use. -/
structure Source where
  id : Nat
  port : Nat
  ip : Nat
  udp : Nat
  /-- Source MAC address last received on port A and on port B (R86). -/
  macA : Option Nat := none
  macB : Option Nat := none
  last : Nat := 0
  spaces : List Space := []
  deriving DecidableEq, Repr

/-- A posted command that has not yet taken full effect (R103). -/
inductive PostKind
  | bulk (d : BulkDesc) (data : List Word)
  | exec (action streams gen : Nat)
  deriving DecidableEq, Repr

/-- A posted command of a sequence space. -/
structure Post where
  org : Org
  kind : PostKind
  deriving DecidableEq, Repr

/-- The first posted command of a space that failed since the space's last FENCE (R103). -/
structure PostFail where
  src : Nat
  grp : Nat
  num : Nat
  code : Nat
  deriving DecidableEq, Repr

/-- A FENCE that waits for its conditions (R103, R402). -/
structure FenceWait where
  org : Org
  wantDone : Bool
  wantSeal : Bool
  lastRec : Nat
  deriving DecidableEq, Repr

/-- ABT beyond its registers. -/
structure Abt where
  sources : List Source := []
  nextId : Nat := 0
  /-- The chip number and the addresses in effect (R80, R90). -/
  chip : Nat := 0
  ipA : Nat := 0
  ipB : Nat := 0
  /-- What waits for the reply to a write that no frame brought, with the initiator that made it (R80, R90, R124). -/
  settles : List (Nat × Settle) := []
  posts : List Post := []
  fails : List PostFail := []
  fences : List FenceWait := []
  deriving DecidableEq, Repr

/-- A subscription slot (R114 to R117, Table 4.7). -/
structure Slot where
  isOpen : Bool := false
  stall : Bool := false
  kind : Nat := 0
  port : Nat := 0
  dport : Nat := 0
  dip : Nat := 0
  macA : Option Nat := none
  macB : Option Nat := none
  /-- Whose OPEN it was: the source's port, 2 in redundant use, and its UDP port (R114, R91). -/
  key : Nat := 2
  sport : Nat := 0
  next : Nat := 0
  oldest : Nat := 0
  /-- The edges at which the unacknowledged frames were last sent, oldest first (R116). -/
  sentAt : List Nat := []
  window : Nat := 0
  filter : List Word := []
  resends : Nat := 0
  deriving DecidableEq, Repr

/-- A record that waits for the host's acknowledgement (R115): KIND 0 an MSE result, 1 an acquisition record, 2 a Green
event record, 3 a fault record. `unit` is what its filter selects by: the tag, capture unit (64 octets, 64 + g global,
128 + s a site), producer or class. -/
structure Rec where
  kind : Nat
  unit : Nat
  words : List Word
  /-- The slot whose frame `seq` carries the record, once sent. -/
  sent : Option (Nat × Nat) := none
  /-- Where the record lies: a fault record's place in the ring of region KEEP (R133), the first pattern word in its ring of a
  record of acquisition (R325). -/
  place : Nat := 0
  spilled : Bool := false
  /-- Its check bits were inverted (PG_INJ of page WATCH). -/
  bad : Bool := false
  deriving DecidableEq, Repr

/-- The PTP clock beyond its registers (R119 to R122). -/
structure Ptp where
  /-- The last Sync received that waits for its Follow_Up: sequence number, and receive time less its correction field. -/
  waitSync : Option (Nat × Nat × Int) := none
  /-- Receive time on the time base less the master's time and the corrections, of the last completed Sync. -/
  sync : Option Int := none
  /-- By how much that Sync differed from PTP_OFS before it. -/
  err : Int := 0
  /-- The last Delay_Req sent: sequence number and send time. -/
  dreq : Option (Nat × Nat) := none
  /-- Exchanges in a row with the offset within 100 ns. -/
  good : Nat := 0
  /-- The time base at which PTP_OFS was last updated. -/
  at_ : Nat := 0
  /-- The best foreign master heard (R119). -/
  best : Option PtpAnnounce := none
  seqSync : Nat := 0
  seqAnn : Nat := 0
  deriving DecidableEq, Repr

/-! ### The Daybook (R399 to R416) -/

/-- A Daybook record (Table 15.4). -/
structure DayRec where
  typ : Nat
  first : Bool := false
  last : Bool := false
  testf : Bool := false
  rseq : Nat := 0
  time : Nat := 0
  page : Nat := 0
  tsel : Nat := 0
  index : Nat := 0
  origin : Nat := 0
  old : List Word := []
  new : List Word := []
  count : Nat := 0
  gcrc : Nat := 0
  torn : Bool := false
  deriving DecidableEq, Repr

/-- The Daybook's mode (DB_STAT.MODE). -/
inductive DayMode
  | none | on | formatting | failed
  deriving DecidableEq, Repr

/-- The journal: what is programmed in the area, what waits in Reeve RAM, and the counters of page DAYBOOK. -/
structure Daybook where
  mode : DayMode := .none
  /-- Records programmed in the area, oldest first. -/
  log : List DayRec := []
  /-- Records waiting in Reeve RAM, oldest first (R400). -/
  queue : List DayRec := []
  /-- Records of the open group, oldest first (R401). -/
  group : List DayRec := []
  /-- Number of the last record made. -/
  lastRec : Nat := 0
  sealedRec : Nat := 0
  lastW : Nat := 0
  compacting : Bool := false
  full : Bool := false
  torn : Nat := 0
  skip : Nat := 0
  groups : Nat := 0
  /-- The area in use and the area descriptor in flash, as base and size in bytes (R403). -/
  area : Option (Nat × Nat) := none
  /-- The area being formatted. -/
  newArea : Option (Nat × Nat) := none
  /-- Checkpoint records of a compaction not yet programmed. -/
  ckpt : List DayRec := []
  /-- Number of the last record that was rolled back or abandoned. -/
  abandoned : Nat := 0
  /-- Number of the last record before ENTER_TEST (R407). -/
  testFrom : Nat := 0
  /-- Time base of the open group's first record (R401). -/
  opened : Nat := 0
  deriving DecidableEq, Repr

/-! ### Pattern store (chapter "Pattern Store and External Memory") -/

/-- A bank's service state beyond its status word (R127 to R130, R138). -/
structure Bank where
  fenced : Bool := false
  bistFail : Bool := false
  soft : Nat := 0
  ce : Nat := 0
  ue : Nat := 0
  /-- Requests that have lost and stay pending, oldest first (R26). -/
  waiting : List BankReq := []
  /-- Reads whose corrected word waits to be written back, as an extra access of the reading master's class (R127). -/
  fixes : List BankReq := []
  /-- Consecutive grants to classes 0 to 2 (R138). -/
  run : Nat := 0
  /-- Round-robin pointer of each class (R138). -/
  ptr : List Nat := []
  deriving DecidableEq, Repr

/-- The refill of one stream (R148, R149). -/
structure Refill where
  /-- Windows resident in the ring: window number and the ring place that holds it, oldest first. -/
  resident : List (Nat × Nat) := []
  /-- Windows asked for by a decoded JSEG or CALL and not yet fetched. -/
  wanted : List Nat := []
  /-- The window in transfer and its ring place. -/
  fetching : Option (Nat × Nat) := none
  wins : Nat := 0
  empty : Nat := 0
  deriving DecidableEq, Repr

/-! ### Pattern expansion and pipeline (chapters "Pattern Language" and "Pattern Pipeline") -/

/-- A JSEG of the open segment (R168): its condition, target and word offset. -/
structure Jseg where
  cond : Nat
  target : Nat
  addr : Nat
  deriving DecidableEq, Repr

/-- What the expander hands on, in execution order (R155, R189). -/
inductive Item
  /-- A segment opens (R165). -/
  | seg (addr tset segid : Nat) (rejoin segstart paused holdcal : Bool)
  /-- `n` pattern vectors of the same resolved codes, the first at stream position `pos` (R190); in a match body, `sw` has
  the columns that a TSW of the body has switched before them (R183). -/
  | vec (pos n : Nat) (codes tsets : List Nat) (pause : Bool) (sw : Nat)
  /-- The end of a segment with its JSEG instructions, and which candidate it settled on: 0 the default (R170). -/
  | boundary (jsegs : List Jseg) (settled : Option Nat)
  | matchBegin (max : Nat)
  /-- The end of a match body whose MATCH is `back` items before, with the sets that its TSWs leave (R183). -/
  | matchEnd (back : Nat) (tsets : List Nat)
  | subp (ptr : Nat)
  | align (form : Nat)
  | halt (code : Nat)
  /-- An invalid word (R161) and its offset from the image base. -/
  | invalid (addr : Nat)
  deriving DecidableEq, Repr

/-- An open LOOP or MATCH in the expander (R174 to R178). -/
structure LoopFrame where
  isMatch : Bool
  addr : Nat
  start : Nat
  left : Nat
  calls : Nat
  pinned : Bool := false
  /-- The body has run once. -/
  again : Bool := false
  /-- The pin region holds the body; the current iteration is being copied into it (R175). -/
  copied : Bool := false
  copying : Bool := false
  /-- Columns that a TSW of the match body has switched (R183). -/
  sw : Nat := 0
  /-- Vectors of the current iteration. -/
  vecs : Nat := 0
  /-- The body has a strobed code. -/
  strobed : Bool := false
  /-- Offset of the ENDL of a pinned loop, once decoded (R175). -/
  endAt : Nat := 0
  deriving DecidableEq, Repr

/-- A RUN in expansion (R164): its header's offset, its list of kind and pin, the number of vectors, and how many have
been produced. -/
structure RunIn where
  at_ : Nat
  ents : List (Nat × Nat)
  n : Nat
  i : Nat := 0
  deriving DecidableEq, Repr

/-- The expander's place on one path (R189, R195). -/
structure Exp where
  pc : Nat := 0
  loops : List LoopFrame := []
  calls : List Nat := []
  /-- Codes of the previous pattern vector as written and as resolved (R157, R163); 8w entries. -/
  raw : List Nat := []
  res : List Nat := []
  hasVec : Bool := false
  /-- A pausable region is open: the numbers of loops and calls open where it opened (R184). -/
  pause : Option (Nat × Nat) := none
  inSeg : Bool := false
  segVecs : Nat := 0
  jsegs : List Jseg := []
  tsets : List Nat := []
  /-- Timing sets that apply from the next vector (R183). -/
  tsw : List Nat := []
  pos : Nat := 0
  /-- An RPT or RUN in expansion (R163, R164): repetitions left, and the run. -/
  rptLeft : Nat := 0
  run : Option RunIn := none
  /-- The JSEG or CALL that led here, while its target has not been decoded. -/
  jumped : Option Nat := none
  /-- Nothing further will be expanded. -/
  ended : Bool := false
  deriving DecidableEq, Repr

/-- A staged alternative of a segment boundary (R196): the path it belongs to (none: the main path), the boundary's
index among that path's items, which conditional JSEG it is (from 1), and what has been expanded on it. Its share of the
dual-path buffer follows from the decision points that are open (`Stream.room`). -/
structure Alt where
  id : Nat
  parent : Option Nat
  at_ : Nat
  cand : Nat
  exp : Exp
  items : List Item := []
  deriving DecidableEq, Repr

/-- A stream beyond its registers. -/
structure Stream where
  exp : Exp := {}
  items : List Item := []
  alts : List Alt := []
  nextAlt : Nat := 1
  /-- One more than the high mark H; 0 while no site has committed (R191). -/
  h : Nat := 0
  /-- Sites marked to activate (R203). -/
  marked : Nat := 0
  /-- Sites that have been warned about (R194). -/
  warned : Nat := 0
  /-- Pending HOST and GREEN requests and their times in ps of the timing clock (R169). -/
  hostReq : Option Nat := none
  greenReq : Option Nat := none
  /-- Pending ANYFAIL request and whether it was late at a boundary (R171). -/
  failReq : Option (Nat × Bool) := none
  /-- STOP with NOW = 0 waits for the next boundary (R214). -/
  stopNext : Bool := false
  /-- Match loops that a site has left, by the item of their ENDM (R197). -/
  left : List Nat := []
  /-- A start event registered and not yet acted on: its edge, and whether PRIMED was 1 (R204). -/
  startAt : Option (Nat × Bool) := none
  /-- Start of the missing cycle and starving site of the hold in progress (R211). -/
  hold : Option (Nat × Nat) := none
  /-- Resume edge time of the hold in progress, once known (R211). -/
  resume : Option Nat := none
  /-- Sites stop at the first cycle at or after this time (R212, R214). -/
  stopAt : Option Nat := none
  /-- Number of the EXEC that armed it: streams armed together start together (R204). -/
  gen : Nat := 0
  deriving DecidableEq, Repr

/-- A gap record in the making (Table 11.7, R324). -/
structure Gap where
  cause : Nat
  tstart : Nat
  lenps : Nat
  count : Nat
  multi : Bool := false
  aux0 : Nat := 0
  aux1 : Nat := 0
  aux2 : Nat := 0
  aux3 : Nat := 0
  deriving DecidableEq, Repr

/-- A segment record in the making (R217, Table 7.11). -/
structure SegAcc where
  num : Nat
  stream : Nat
  segid : Nat
  void : Bool := false
  matchFail : Bool := false
  skipped : Bool := false
  diverged : Bool := false
  held : Bool := false
  subwrap : Bool := false
  jumped : Bool := false
  fails : Nat := 0
  firstFail : Option Nat := none
  tend : Nat := 0
  deriving DecidableEq, Repr

/-- A decision of a site that the timing domain has yet to make (R179, R181): its time, and what it decides. -/
inductive DecKind
  | matched
  | loopEnd (matched : Bool)
  | fail
  deriving DecidableEq, Repr

/-- A decision: its time in ps of the timing clock, and the number of the site's segment it belongs to. -/
structure Decision where
  time : Nat
  seg : Nat
  kind : DecKind
  deriving DecidableEq, Repr

/-- A site beyond its registers. -/
structure Site where
  /-- How many octets it was assigned with: the width of its stream then (R31). -/
  noct : Nat := 0
  /-- Index of the next item and vectors of it already committed. -/
  cur : Nat := 0
  off : Nat := 0
  /-- Start of the site's next cycle in ps of the timing clock, of its last one, and of its last pattern vector's. -/
  tnext : Nat := 0
  tcyc : Nat := 0
  tlast : Nat := 0
  tsets : List Nat := []
  /-- Resolved codes of the last pattern vector, and each pin's last substitute bit. -/
  codes : List Nat := []
  bits : List Nat := []
  subptr : Nat := 0
  /-- One more than the highest position committed, and position of the last commit. -/
  top : Nat := 0
  pos : Nat := 0
  /-- Match loop: iterations run, all strobes of the iteration passed so far, its latest strobe, first matching strobe. -/
  iter : Nat := 0
  iterOk : Bool := true
  iterStrobe : Nat := 0
  matchAt : Option Nat := none
  inMatch : Bool := false
  seg : Option SegAcc := none
  segNum : Nat := 0
  ended : List SegAcc := []
  decisions : List Decision := []
  /-- Held cycles and ps of the hold in progress. -/
  gapCycles : Nat := 0
  gapPs : Nat := 0
  gapFrom : Nat := 0
  /-- The site has stopped committing pattern vectors. -/
  stopped : Bool := false
  /-- Index of the ALIGN or SEG the site waits at. -/
  waitAt : Option Nat := none
  /-- When the wait began, in ps of the timing clock. -/
  waitFrom : Nat := 0
  /-- The item up to which a release has let the site pass (R207). -/
  passed : Option Nat := none
  /-- Positions that the read buffers of the site's slip rings hold: from the first up to the second (R140). -/
  rbuf : Nat × Nat := (0, 0)
  /-- A commit has raised the site's slip above 65,536: it parks at its next cycle (R193). -/
  overDue : Bool := false
  /-- Sets that the TSWs of the match body in progress left at its last ENDM; none in the first iteration (R183). -/
  loopSets : Option (List Nat) := none
  /-- PERMIS has been reported for the segment (R226). -/
  permis : Bool := false
  /-- The first cycle has begun (R204). -/
  begun : Bool := false
  /-- Consecutive vectors with X on each pin (R159). -/
  xrun : List Nat := []
  /-- The site's pending gap record (R324). -/
  pendGap : Option Gap := none
  deriving DecidableEq, Repr

/-- A command on its way into the timing domain through the command stile of a stream or the measurement stile of an
octet (R458). -/
inductive StileOp
  | jump (str : Nat)
  | stop (str : Nat) (now : Bool)
  | hedge (str ini : Nat)
  | load (oct grp : Nat)
  | conv (oct mask : Nat)
  deriving DecidableEq, Repr

/-- The stile a command passes through: 0 to 3 the command stiles, 4 + o the measurement stile of octet o (Table 1.2). -/
def StileOp.stile : StileOp → Nat
  | .jump k => k
  | .stop k _ => k
  | .hedge k _ => k
  | .load o _ => 4 + o
  | .conv o _ => 4 + o

/-- How many commands a stile holds (Table 1.2). -/
def stileDepth (st : Nat) : Nat := if st < 4 then 4 else 16

/-- A command in a stile with its capture edge (R20), or one that waits in the fabric because its stile is full: none. -/
structure StileCmd where
  op : StileOp
  capture : Option Nat
  /-- Its place in the order in which commands came to the stiles. -/
  num : Nat := 0
  deriving DecidableEq, Repr

/-! ### Timing (chapter "Timing, Edges and System Synchronisation") -/

/-- A Bell pulse sampled and not yet registered (R239, R240): the edge of B0 and whether its kind is EPOCH. -/
structure Bell where
  b0 : Nat
  epoch : Bool
  deriving DecidableEq, Repr

/-- A pulse the device generates on BELLO (R244): the edge at which it rises, its width in REFCLK periods, and the edge
at which BELLO was taken low during it, if it was. -/
structure GenPulse where
  rise : Nat
  width : Nat
  risen : Bool := false
  cut : Option Nat := none
  deriving DecidableEq, Repr

/-- A pending SEND (R247): line and ball time without SKEW_OFS. -/
structure SendReq where
  line : Nat
  time : Nat
  deriving DecidableEq, Repr

/-- A pulse driven on a TRG line (R247, R250, R345): the line, the ball time of its rising edge on the time base, and
how long it is high, in ps. -/
structure TrgPulse where
  line : Nat
  rise : Int
  high : Nat
  deriving DecidableEq, Repr

/-- The timing clock, the time base, and what hangs on them. -/
structure Time where
  /-- Timing-clock edges since the device was powered (R11); every 16th is a reference edge (R222). -/
  edge : Nat := 0
  /-- The time base modulo 2^64 (R13, R241). -/
  base : Nat := 0
  bells : List Bell := []
  /-- Edge of the last high sample of the previous pulse (R239). -/
  lastHigh : Option Nat := none
  gen : Option GenPulse := none
  /-- Pulses driven on BELLO: rising edge and width in REFCLK periods. -/
  bello : List GenPulse := []
  send : Option SendReq := none
  listen : Option Nat := none
  /-- Pulses driven on the TRG lines (R250). -/
  trgOut : List TrgPulse := []
  /-- Arrival times of the last edge on each TRG line (R250). -/
  trgLast : List (Nat × Nat) := []
  deriving DecidableEq, Repr

/-- A drive edge placed on a pin (R232 to R236): when, the state it takes the driver to (0 low, 1 high, 2 off), the
start of the cycle that placed it in ps of the timing clock, and its number. -/
structure DrvEdge where
  time : Int
  level : Nat
  cyc : Nat
  num : Nat
  deriving DecidableEq, Repr

/-- A channel's driver (R232, R265): its state, the edges still to come, and whether its last code was a driving one. -/
structure Chan where
  drv : Nat := 2
  driving : Bool := false
  /-- When the last edge took effect. -/
  lastAt : Option Int := none
  edges : List DrvEdge := []
  /-- The comparator's band as the pin last moved it: 0 low, 1 mid, 2 high (R266; log entry 55). -/
  band : Nat := 1
  deriving DecidableEq, Repr

/-! ### Pin electronics (chapter "Pin Electronics and Site Rails") -/

/-- A level in a span sequence (R263): its number, its span and code before the change, and the code that step 3 moves it
to, once that has begun (Table 9.4). -/
structure SpanLevel where
  level : Nat
  span : Nat
  code : Nat
  target : Option Nat := none
  deriving DecidableEq, Repr

/-- A span sequence of a lane (R263): strobe edge, step 1 to 3, and the levels that change. -/
structure SpanSeq where
  lane : Nat
  strobe : Nat
  step : Nat
  levels : List SpanLevel
  deriving DecidableEq, Repr

/-- The tone settings in effect (R276, R277). -/
structure Tone where
  en : Bool := false
  lane : Nat := 0
  tdiv : Nat := 64
  amp : Nat := 0
  ftw : Nat := 0
  poff : Nat := 0
  /-- Phase accumulator, current sample, and the edge from which samples are taken. -/
  p : Nat := 0
  out : Word := 0
  /-- What the PMU of the lane forces with the tone, limited (R278), times 2^24 and in microvolts. -/
  force : Int := 0
  since : Nat := 0
  deriving DecidableEq, Repr

/-- An octet beyond its registers. -/
structure Octet where
  seqs : List SpanSeq := []
  tone : Tone := {}
  /-- Holder of each ADC: 0 none, 1 the MSE, 2 acquisition (R275). -/
  adc : List Nat := [0, 0, 0, 0, 0, 0, 0, 0]
  /-- ADCs with a host conversion pending. -/
  conv : Nat := 0
  /-- Host conversions that have begun: the ADC, and the edge at which its result leaves the measurement stile (R273). -/
  convDue : List (Nat × Nat) := []
  /-- The last value seen at RAILSNS, in microvolts (R280). -/
  sns : Int := 0
  /-- Lanes whose PMU an MSE operation holds, with the tag (R262). -/
  pmu : List (Nat × Nat) := []
  /-- FV, FI, CLL, CLH and SPAN1 words that wait for the PMU's release (R261): index and value. -/
  late : List (Nat × Word) := []
  /-- Where the set-point ramp started (RAILSNS, in microvolts), while it runs (R280). -/
  ramp : Option Int := none
  /-- The last stretch of the time base over which acquisition held each ADC: from its first grid edge up to the close of
  its window (R313). -/
  span : List (Nat × Nat) := List.replicate 8 (0, 0)
  /-- At which limit the PMU of each lane limits: 0 none, 1 the low one, 2 the high one (R270). -/
  lim : List Nat := [0, 0, 0, 0, 0, 0, 0, 0]
  deriving DecidableEq, Repr

/-! ### Faults (chapter "Guard Monitors, Temperature and Faults") -/

/-- The unit a class D fault names (Table 13.4). -/
inductive FUnit
  | none
  | site (n : Nat)
  | stream (n : Nat)
  | octet (n : Nat)
  | bank (n : Nat)
  | lane (n : Nat)
  | sensor (n : Nat)
  deriving DecidableEq, Repr

/-- A fault on its way to the Watchhouse or being handled (R362 to R365). -/
structure Raised where
  cls : FClass
  code : Nat
  page : Nat
  detail : Nat := 0
  unit : FUnit := .none
  /-- Raised through PG_FORCE: the page and bit written (R370). -/
  fbit : Option (Nat × Nat) := none
  inj : Bool := false
  deriving DecidableEq, Repr

/-- The Watchhouse beyond its registers. -/
structure Watch where
  /-- Faults raised and not yet latched, oldest first. -/
  raised : List Raised := []
  /-- Faults being handled (R365). -/
  handling : List Raised := []
  /-- Sites whose hedge has been ordered and not yet carried out (R355, R356). -/
  orders : List Nat := []
  /-- Sites whose hedge awaits confirmation (R356). -/
  confirm : List Nat := []
  seq : Nat := 0
  /-- Class D faults latched in the current second of the time base, and that second (R366). -/
  dCount : Nat := 0
  dSecond : Nat := 0
  /-- ESCALATE has been raised in that second. -/
  dRaised : Bool := false
  /-- Fault records held before region KEEP is enabled (R133). -/
  buffer : List Rec := []
  deriving DecidableEq, Repr

/-- A guard monitor (R350): its side, its last sample, and its counts. -/
structure Mon where
  fault : Bool := false
  /-- Class of the last sample: 0 good, 1 in band, 2 beyond. -/
  last : Nat := 0
  /-- Consecutive beyond samples. -/
  beyond : Nat := 0
  trips : Nat := 0
  chkFail : Bool := false
  /-- Consecutive failed self-checks (R353). -/
  chkRun : Nat := 0
  deriving DecidableEq, Repr

/-- A temperature sensor (R358, R359): validity, last reading in 1/64 degrees, and consecutive counts. -/
structure Sensor where
  valid : Bool := true
  suspect : Bool := false
  dcnt : Nat := 0
  t : Int := 0
  /-- Bits 0 to 3: the last reading was at or above WARN, 105, 120, 135 degrees; bits 4 to 7: so were the last two (R360). -/
  met : Nat := 0
  deriving DecidableEq, Repr

/-! ### Measurement (chapter "Measurement Sequencing Engine") -/

/-- The state of an operation slot (Table 10.1). -/
inductive SlotSt
  | free | queued | running | done
  deriving DecidableEq, Repr

/-- A sample run as the result record reports it (R296): its mean, and its largest less its smallest sample. -/
structure RunRes where
  mean : Int
  spread : Int
  deriving DecidableEq, Repr

/-- An operation slot with its context (R287, R305). -/
structure Op where
  st : SlotSt := .free
  /-- Place in the order of submission (R291). -/
  order : Nat := 0
  upc : Nat := 0
  stack : List Nat := []
  lc : Nat := 0
  /-- Work registers W0 to W7, 48 bits each. -/
  w : List Nat := [0, 0, 0, 0, 0, 0, 0, 0]
  /-- The condition the context waits for, as the WAIT argument codes it (Table 10.7). -/
  wait : Option Nat := none
  /-- The edge at which the settle timer expires, once it has been loaded. -/
  timer : Option Nat := none
  runDone : Bool := false
  /-- The MSE trigger has come for which the context waits. -/
  trig : Bool := false
  /-- Edge of the MSE trigger that the run in progress met under EVT (R293). -/
  trigAt : Option Nat := none
  /-- A run has been issued and its samples have not all come. -/
  running : Bool := false
  /-- The edge at which the run's request reached the ADC (R293). -/
  runAt : Nat := 0
  /-- Input of the run (Table 10.8). -/
  ain : Nat := 0
  scr : Bool := false
  /-- The last ALU result and judgement. -/
  alu : Int := 0
  judged : Nat := 0
  judge : Nat := 0
  val0 : Int := 0
  val1 : Int := 0
  clamp : Bool := false
  adcsat : Bool := false
  delayed : Bool := false
  /-- Limits met during runs: bit 0 the low one, bit 1 the high one (R295). -/
  lim : Nat := 0
  /-- Every word fetched so far came from ROM, at the address asked for. -/
  rom : Bool := true
  /-- The runs so far, in order, and for RAMP_SEARCH the forced codes and the comparator's band at each (Table 10.4). -/
  runs : List RunRes := []
  bands : List (Nat × Nat) := []
  /-- Correction words in effect at dispatch (R296): the converter's, the PMU's five currents and its voltage, the rail's and
  the tone's. -/
  cal : List Word := []
  /-- The PMU as the recipe has set it: mode, range, connected, forced code (R262). -/
  pmode : Nat := 0
  prng : Nat := 3
  pcon : Bool := false
  pval : Nat := 0
  holdsPmu : Bool := false
  holdsAdc : Bool := false
  holdsTone : Bool := false
  site : Option Nat := none
  calseq : Nat := 0
  tend : Nat := 0
  status : Nat := 0
  deriving DecidableEq, Repr

/-- The measurement engine beyond its registers and slots. -/
structure Mse where
  submitted : Nat := 0
  /-- Active bank, pending switch, and the bank of each lane (R309). -/
  act : Nat := 0
  pend : Bool := false
  laneBank : Nat := 0
  fenced : Nat := 0
  romOk : Bool := false
  /-- FORCE of STACK or UC_INVALID waits for the next fetch (R310). -/
  forceStack : Bool := false
  forceInvalid : Bool := false
  /-- Tag of the context that each lane executed last (R292). -/
  turn : List Nat := [0, 0, 0, 0, 0, 0, 0, 0]
  deriving DecidableEq, Repr

/-! ### Event Green -/

/-- An event on its way through a channel (R336 to R339): its producer, channel and consumer; when it fired, in ps of
the timing clock; the edge at which it leaves its producer's event-in stile, for a clockless producer on a clocked
channel (R20, Table 1.2); and the TDC tag it carries, in ps of the time base, for TRGIN (R250). -/
structure GEvent where
  prod : Nat
  chan : Nat
  cons : Nat
  clocked : Bool
  timing : Bool
  fired : Nat
  exit : Nat := 0
  tag : Option Nat := none
  deriving DecidableEq, Repr

/-- An event in the event-in stile of a clockless producer: when it fired, in ps of the timing clock, and the edge at which
it leaves the stile and reaches the clocked channels (R20, R339, R342). -/
structure StileEvent where
  prod : Nat
  fired : Nat
  exit : Nat
  deriving DecidableEq, Repr

/-- The Green beyond its tables. Edges are stored plus one, zero meaning none. -/
structure Green where
  /-- Events in flight, oldest first. -/
  flight : List GEvent := []
  /-- Events in the event-in stiles. -/
  ins : List StileEvent := []
  /-- Action edge of each consumer's last activation. -/
  last : Store Nat := []
  /-- Last edge of each consumer's busy time (Table 12.2). -/
  busyTo : Store Nat := []
  /-- Edge at which each delay line fires (R344). -/
  dly : Store Nat := []
  /-- WATCH consumers whose request waits for the Watchhouse, oldest first. -/
  watch : List Nat := []
  /-- Next record number of each EVREC consumer, and those with an overrun since their previous record (Table 12.6). -/
  seq : Store Nat := []
  ovr : Nat := 0
  /-- Entries of the channel table and rows of the matrix that fail their parity check (R347, R408). -/
  bad : Nat := 0
  deriving DecidableEq, Repr

/-! ### Acquisition -/

/-- The reductions of one ADC or lane of a window (Table 11.5), and what they need to go on. `mn` and `mx` are MIN and
MAX, or PMIN and PMAX; `a`, `b`, `c` are the three counts of the source. -/
structure Red where
  n : Nat := 0
  sum : Int := 0
  sumsq : Nat := 0
  mn : Int := 0
  mx : Int := 0
  imin : Nat := 0
  imax : Nat := 0
  a : Nat := 0
  b : Nat := 0
  c : Nat := 0
  /-- The previous sample's code in the window. -/
  last : Option Int := none
  /-- Tag of the last rising change or activation. -/
  prev : Option Nat := none
  /-- A sample at or beyond the hysteresis has armed a rising and a falling crossing (R320, R321). -/
  armUp : Bool := false
  armDown : Bool := false
  /-- Code of the last change entry in the window (R322). -/
  entry : Option Int := none
  deriving DecidableEq, Repr

/-- A sample or trigger-forming happening on its way to a unit (R312): its tag and its values. -/
structure Sample where
  tag : Nat
  vals : List Nat
  /-- The edge at which the stile offers it (R21). -/
  offered : Nat := 0
  deriving DecidableEq, Repr

/-- A capture unit (R312 to R324). Times are on the time base. -/
structure AcqUnit where
  /-- Open and close triggers that have come and not been used, oldest first. -/
  opens : List Nat := []
  closes : List Nat := []
  topen : Nat := 0
  /-- TCLOSE with its code of Table 11.4, once known. -/
  tclose : Option (Nat × Nat) := none
  prevClose : Option Nat := none
  /-- Windows closed since ARM, without the modulus of WINNO. -/
  closed : Nat := 0
  n : Nat := 0
  reds : List Red := []
  tfirst : Nat := 0
  tlast : Nat := 0
  /-- The last sample of the level ADC while ARMED, and whether a further crossing is armed (R320). -/
  level : Option (Nat × Int) := none
  rearm : Bool := true
  /-- Entries of the open change block: channel, tag, value (R322). -/
  chg : List (Nat × Nat × Nat) := []
  /-- Last bands of the STROBE source. -/
  bands : Option Nat := none
  site : Option Nat := none
  calseq : Nat := 0
  sat : Bool := false
  held : Bool := false
  gap : Bool := false
  void : Bool := false
  retrig : Bool := false
  glitch : Bool := false
  adcsat : Bool := false
  late : Bool := false
  /-- The unit has claimed its ADCs: from which grid edge it wanted them, from which it has them, and the grid edge of its last
  sample (R313). -/
  heldAdc : Bool := false
  wanted : Nat := 0
  holdFrom : Nat := 0
  lastGrid : Option Nat := none
  /-- A DROP of this arming has been reported (R324). -/
  dropped : Bool := false
  pend : Option Gap := none
  /-- The capture stile (Table 1.2). -/
  stile : List Sample := []
  /-- Next pattern word of the ring to be written. -/
  wr : Nat := 0
  deriving DecidableEq, Repr

/-! ### Gleaning -/

/-- What the gleaner borrows (R380, R383 to R385): a channel for one task, with the vectors that are left of an X window's
share where it lies in one; or everything for a full calibration. -/
inductive Borrow
  | chan (c : Nat) (task : GleanTask) (left : Option Nat)
  | full
  deriving DecidableEq, Repr

/-- A target word that changed lately: its index, the value before, and when in ps of the timing clock (R387). -/
structure Retarget where
  idx : Nat
  old : Word
  time : Nat
  deriving DecidableEq, Repr

/-- The gleaner beyond its tables and registers. -/
structure Glean where
  borrow : Option Borrow := none
  recent : List Retarget := []
  /-- Channels with CALBAD (R390). -/
  bad : List Nat := []
  /-- When each octet's corrections were last loaded from the calibration image, on the time base (R389). -/
  loads : Store (Option Nat) := []
  deriving DecidableEq, Repr

/-! ### Reeve, Gate, Chest, updates -/

/-- The reply buffer of the Gate port (R431). -/
structure GateReply where
  op : Nat := 0
  status : Nat := 0
  data : List Byte := []
  alive : Nat := 0
  deriving DecidableEq, Repr

/-- The Gate port (R427 to R431): its reply buffer, the flags for the next reply, and the bytes the last frame shifted
out. -/
structure Gate where
  buf : GateReply := {}
  flags : Nat := 0
  out : List Byte := []
  deriving DecidableEq, Repr

/-- A sealed Chest image (R438): the EPOCH it is bound to, its order, and what it restores. -/
structure Sealed where
  epoch : Nat
  order : Nat
  data : Store Word
  attrs : Store Word
  deriving DecidableEq, Repr

/-- The Chest beyond its tables and registers. -/
structure Chest where
  imgA : Option Sealed := none
  imgB : Option Sealed := none
  order : Nat := 0
  /-- Time base of the last Chest write (R438). -/
  touched : Nat := 0
  deriving DecidableEq, Repr

/-- What the flash holds for the management services (Table 16.2), as its services write and read it: boot header,
settings block, and the images of each area. -/
structure FlashMap where
  /-- Boot headers written (R422). -/
  seq : Nat := 0
  fwB : Bool := false
  patchB : Bool := false
  calB : Bool := false
  settings : Option (List Word) := none
  fw : List (Option (List Word)) := [none, none]
  patch : List (Option (List Word)) := [none, none]
  /-- Calibration images: ID_UNIQ and the words of the active table. -/
  cal : List (Option (Nat × Store Word)) := [none, none]
  deriving DecidableEq, Repr

/-- The update path beyond its registers (R443 to R446). -/
structure Upd where
  staged : List Word := []
  /-- Time base of the last BEGIN or DATA. -/
  last : Nat := 0
  /-- A committed patch waits for UCODE_STAT.PEND to clear (R446). -/
  patchWait : Bool := false
  deriving DecidableEq, Repr

/-- The serial master beyond its registers: a window operation that waits, a lifecycle change in progress (R434), and
the firmware's reload (R419). -/
structure Reeve where
  /-- A window operation that waits, and whether the flash will carry it out. -/
  winWait : Option (FlashOp × Bool) := none
  change : Option Nat := none
  reload : Bool := false
  fwver : Nat := 0
  /-- The bits that the last host transfer shifted out on SM_DO, in order (R423). -/
  sdo : List Bool := []
  /-- The frames of command, address and data bytes that the last window operation sent to the flash (R426). -/
  sent : List (List Byte) := []
  deriving DecidableEq, Repr

end Sys2Proof.Machine
end

