-- ==== Sys2Proof/Machine/State.lean ====
section
/-!
DEFINITION. The state of the device: everything the spec gives it, as plain data, and the state right after power-on
with PORST_N low (R78, R395).
-/
namespace Sys2Proof.Machine

/-- Reasons for the model to stop with a fault. The spec describes no happening that stops the device's model: every
fault of the device is part of its state (`Watch`). -/
inductive Fault
  /-- Raised by no command; the type needs a constructor. Safe: nothing stops with it. -/
  | none
  deriving DecidableEq, Repr

/-- Reasons to refuse a command. -/
inductive Refusal
  /-- The command has no meaning in this model yet. Safe: the run stops. -/
  | notModelled (mnemonic : String)
  deriving DecidableEq, Repr

/-- The kind of block behind a page; none where no page is implemented (Table 3.1, R62). -/
def kindOf (page : Nat) : Option Kind :=
  if page < 0x100 then
    if page = 0x000 then some .id else if page = 0x001 then some .top
    else if page = 0x002 ∨ page = 0x003 then some .link else if page = 0x004 then some .abt
    else if page = 0x005 then some .ptp else if page = 0x008 then some .store
    else if page = 0x009 then some .dram else if page = 0x00A then some .refill
    else if page = 0x00B then some .confl else if 0x010 ≤ page ∧ page ≤ 0x013 then some .stream
    else if page = 0x018 then some .slip else if page = 0x020 then some .tbase
    else if page = 0x021 then some .skew else if page = 0x028 then some .mse
    else if page = 0x029 then some .ucode else if page = 0x030 then some .acqg
    else if page = 0x038 then some .green else if page = 0x040 then some .guard
    else if page = 0x041 then some .therm else if page = 0x042 then some .watch
    else if page = 0x048 then some .glean else if page = 0x050 then some .reeve
    else if page = 0x051 then some .serm else if page = 0x052 then some .gate
    else if page = 0x053 then some .daybook else if page = 0x054 then some .chest
    else if page = 0x055 then some .life else if page = 0x056 then some .update
    else none
  else if page < 0x140 then some .octpe else if page < 0x180 then some .octtm
  else if page < 0x1C0 then some .octacq else if page < 0x200 then some .site
  else none

/-- The instance number of a page (Table 3.1). -/
def instOf (page : Nat) : Nat :=
  if page < 0x100 then
    if page = 0x003 then 1 else if 0x010 ≤ page ∧ page ≤ 0x013 then page - 0x010 else 0
  else page % 64

/-- Block type codes (Table 3.1). -/
def typeOf (page : Nat) : Nat :=
  if page < 0x100 then
    if page ≤ 0x002 then 0x101 + page else if 0x010 ≤ page ∧ page ≤ 0x013 then 0x110 else 0x100 + page
  else 0x200 + (page - 0x100) / 64

/-- Pages by name (Table 3.1). -/
abbrev pID : Nat := 0x000
abbrev pTOP : Nat := 0x001
abbrev pLINK (p : Nat) : Nat := 0x002 + p
abbrev pABT : Nat := 0x004
abbrev pPTP : Nat := 0x005
abbrev pSTORE : Nat := 0x008
abbrev pDRAM : Nat := 0x009
abbrev pREFILL : Nat := 0x00A
abbrev pCONFL : Nat := 0x00B
abbrev pSTREAM (k : Nat) : Nat := 0x010 + k
abbrev pSLIP : Nat := 0x018
abbrev pTBASE : Nat := 0x020
abbrev pSKEW : Nat := 0x021
abbrev pMSE : Nat := 0x028
abbrev pUCODE : Nat := 0x029
abbrev pACQG : Nat := 0x030
abbrev pGREEN : Nat := 0x038
abbrev pGUARD : Nat := 0x040
abbrev pTHERM : Nat := 0x041
abbrev pWATCH : Nat := 0x042
abbrev pGLEAN : Nat := 0x048
abbrev pREEVE : Nat := 0x050
abbrev pSERM : Nat := 0x051
abbrev pGATE : Nat := 0x052
abbrev pDAY : Nat := 0x053
abbrev pCHEST : Nat := 0x054
abbrev pLIFE : Nat := 0x055
abbrev pUPD : Nat := 0x056
abbrev pOCTPE (n : Nat) : Nat := 0x100 + n
abbrev pOCTTM (n : Nat) : Nat := 0x140 + n
abbrev pACQ (n : Nat) : Nat := 0x180 + n
abbrev pSITE (n : Nat) : Nat := 0x1C0 + n

/-- The key of a register in `State.regs`. -/
abbrev rkey (page off : Nat) : Nat := page * 256 + off

/-- What an unlisted register reads as: its Reset column (R6). -/
def regDefault (key : Nat) : Word :=
  match kindOf (key / 256) with
  | some k => regReset k (key % 256)
  | none => 0

/-- The key of a table word in `State.tabs`. -/
abbrev tkey (page tsel idx : Nat) : Nat := (page * 16 + tsel) * 2 ^ 19 + idx

/-- Reset content of the level tables, word `w` of a lane (R285). -/
def levelReset (w : Nat) : Word :=
  if w = 8 then 0x333333 else if w = 9 then 0x800000 else if w = 11 then 0xFFFFFF
  else if w = 12 then 0x01B6DB else if w = 13 then 0x000689 else 0

/-- Limits of the chip-supply monitors 576 to 591, LO and HI in microvolts (R354, Tables 2.8 and 13.1). -/
def supplyLimits (m : Nat) : Int × Int :=
  if m < 580 then (720000, 780000) else if m < 582 then (1710000, 1890000)
  else if m < 584 then (1140000, 1260000) else if m < 586 then (470000, 570000)
  else if m < 588 then (6800000, 7200000) else if m < 590 then (-2600000, -2400000)
  else if m = 590 then (2475000, 2525000) else (-12500, 12500)

/-- Reset content of the guard limit table (R354). -/
def guardReset (idx : Nat) : Word :=
  let m := idx / 4
  if m < 576 then (if idx % 4 = 0 then 0x800000 else if idx % 4 = 1 then 0x7FFFFF else 0)
  else if idx % 4 = 0 then word (unsigned 24 (supplyLimits m).1)
  else if idx % 4 = 1 then word (unsigned 24 (supplyLimits m).2)
  else if idx % 4 = 2 then 2000
  else 0x880000

/-- What an unlisted table word reads as, by page kind, table and index: the reset content the chapters give, else
zero. -/
def tabReset (k : Kind) (tsel idx : Nat) : Word :=
  match k with
  | .octtm => if idx % 64 = 0 then 0x002710 else 0
  | .octpe => if tsel < 2 then levelReset (idx % 16) else 0
  | .acqg => if idx % 16 = 0 then 0xC00000 else if idx % 16 = 1 then 0x001000 else if idx % 16 = 4 then 1 else 0
  | .guard => if tsel = 0 then guardReset idx else 0
  | .chest => if tsel = 1 then 0x800000 else 0
  | _ => 0

/-- What an unlisted table word reads as. -/
def tabDefault (key : Nat) : Word :=
  match kindOf (key / 2 ^ 23) with
  | some k => tabReset k (key / 2 ^ 19 % 16) (key % 2 ^ 19)
  | none => 0

/-- An unwritten word of a bank or of the external memory reads zero (R129; DESIGN CHOICE for external memory, log entry 4). -/
def zeroDefault (_ : Nat) : Word := 0

/-- An unwritten byte of the flash is erased (R400; DESIGN CHOICE, log entry 4). -/
def flashDefault (_ : Nat) : Byte := 0xFF

/-- The default of a family of units: every unit at its reset value. -/
def unitDefault {α : Type} (a : α) (_ : Nat) : α := a

/-- Guard monitors at reset: the chip-supply monitors are on their fault side (R351, R354). -/
def monDefault (m : Nat) : Mon := { fault := decide (576 ≤ m) }

/-- The whole device. -/
structure State where
  /-- Commands waiting, first in, first out (the row's cut). -/
  pending : List Instr := []
  /-- What the last host access or command returned. -/
  reply : Reply := {}
  /-- Free values taken so far (the model's own, log entry 5). -/
  fresh : Nat := 0
  run : Run := {}
  pins : Pins := {}
  fuses : Fuses := {}
  /-- What the last start met; the next start of the device's own meets the same. -/
  env : Option StartEnv := none
  regs : Store Word := []
  tabs : Store Word := []
  /-- TBL_ADDR of each initiator: key initiator * 4096 + page (R71). -/
  tblAddr : Store Word := []
  snaps : List Snap := []
  waits : List Waiting := []
  /-- Rotation pointer of each page (R64). -/
  rot : Store Nat := []
  time : Time := {}
  /-- Frames the device has sent, oldest first. -/
  tx : List TxFrame := []
  abt : Abt := {}
  slots : Store Slot := []
  /-- Records waiting for acknowledgement, oldest first. -/
  recs : List Rec := []
  ptp : Ptp := {}
  banks : Store Bank := []
  /-- Bank contents: key (bank * 21846 + row) * 4 + word (R126). -/
  bankMem : Store Word := []
  /-- External memory by pattern word (R145). -/
  dram : Store Word := []
  refill : Store Refill := []
  /-- The memory controller's grants to refill in a row, 15 at most (R149). -/
  dramRun : Nat := 0
  streams : Store Stream := []
  sites : Store Site := []
  stile : List StileCmd := []
  chans : Store Chan := []
  octets : Store Octet := []
  mons : Store Mon := []
  sensors : Store Sensor := []
  /-- Corrections of the 16 reference buffers, in µV (R361). -/
  comps : Store Int := []
  watch : Watch := {}
  ops : Store Op := []
  mse : Mse := {}
  day : Daybook := {}
  flash : Store Byte := []
  green : Green := {}
  units : Store AcqUnit := []
  /-- Next pattern word of the site ring and of the external capture area to be written (R325, R326). -/
  siteWr : Nat := 0
  extWr : Nat := 0
  glean : Glean := {}
  gate : Gate := {}
  chest : Chest := {}
  fmap : FlashMap := {}
  upd : Upd := {}
  reeve : Reeve := {}
  deriving DecidableEq, Repr

/-- Right after power-on, PORST_N low: COLD, nothing pending, every register at its Reset column (R6, R78). -/
def State.reset : State := {}

end Sys2Proof.Machine
end

