-- ==== Sys2Proof/Machine/Ops.lean ====
section
/-!
DEFINITION. The named operations on the state that every chapter uses: registers, tables and units by number; faults;
free values; frames sent; the timing clock.
-/
namespace Sys2Proof.Machine

/-- The outcome of a command: the next state. -/
abbrev Out := Host.Outcome State Fault Refusal

/-! ### Registers and tables -/

/-- The stored word of a register. -/
def State.reg (s : State) (page off : Nat) : Word := s.regs.get regDefault (rkey page off)

/-- Store a register word. -/
def State.setReg (s : State) (page off : Nat) (w : Word) : State :=
  { s with regs := s.regs.put regDefault (rkey page off) w }

/-- A field of a stored register. -/
def State.fldR (s : State) (page off hi lo : Nat) : Nat := fld (s.reg page off) hi lo

/-- Store a field of a register. -/
def State.setFld (s : State) (page off hi lo v : Nat) : State := s.setReg page off (putFld (s.reg page off) hi lo v)

/-- A bit of a stored register. -/
def State.bitR (s : State) (page off i : Nat) : Bool := bit (s.reg page off) i

/-- Store a bit of a register. -/
def State.setBit (s : State) (page off i : Nat) (b : Bool) : State := s.setFld page off i i b.toNat

/-- A counter register that wraps to zero. -/
def State.inc (s : State) (page off : Nat) (n : Nat := 1) : State := s.setReg page off (s.reg page off + word n)

/-- A counter register that saturates at 0xFFF_FFF. -/
def State.incSat (s : State) (page off : Nat) (n : Nat := 1) : State :=
  s.setReg page off (word (satAdd 0xFFFFFF (s.reg page off).toNat n))

/-- A counter field that wraps within its width. -/
def State.incFld (s : State) (page off hi lo : Nat) (n : Nat := 1) : State :=
  s.setFld page off hi lo (s.fldR page off hi lo + n)

/-- Clear the registers of a range of offsets. -/
def State.clearRegs (s : State) (page : Nat) (offs : List Nat) : State := offs.foldl (fun s o => s.setReg page o 0) s

/-- A wide quantity of `n` stored registers (R3). -/
def State.wideR (s : State) (page off n : Nat) : Nat := wide ((List.range n).map (fun i => s.reg page (off + i)))

/-- Store a wide quantity in `n` registers (R3). -/
def State.setWide (s : State) (page off n v : Nat) : State :=
  (List.range n).foldl (fun s i => s.setReg page (off + i) (word (v / 2 ^ (24 * i)))) s

/-- The stored word of a table. -/
def State.tab (s : State) (page tsel idx : Nat) : Word := s.tabs.get tabDefault (tkey page tsel idx)

/-- Store a table word. -/
def State.setTab (s : State) (page tsel idx : Nat) (w : Word) : State :=
  { s with tabs := s.tabs.put tabDefault (tkey page tsel idx) w }

/-- Store a run of table words. -/
def State.setTabs (s : State) (page tsel idx : Nat) (ws : List Word) : State :=
  { s with tabs := s.tabs.putList tabDefault (tkey page tsel idx) ws }

/-- A wide quantity of `n` stored table words (R3). -/
def State.wideT (s : State) (page tsel idx n : Nat) : Nat :=
  wide ((List.range n).map (fun i => s.tab page tsel (idx + i)))

/-! ### Units by number -/

def State.stream (s : State) (k : Nat) : Stream := s.streams.get (unitDefault {}) k
def State.setStream (s : State) (k : Nat) (v : Stream) : State := { s with streams := s.streams.put (unitDefault {}) k v }
def State.site (s : State) (n : Nat) : Site := s.sites.get (unitDefault {}) n
def State.setSite (s : State) (n : Nat) (v : Site) : State := { s with sites := s.sites.put (unitDefault {}) n v }
def State.oct (s : State) (n : Nat) : Octet := s.octets.get (unitDefault {}) n
def State.setOct (s : State) (n : Nat) (v : Octet) : State := { s with octets := s.octets.put (unitDefault {}) n v }
def State.chan (s : State) (n : Nat) : Chan := s.chans.get (unitDefault {}) n
def State.setChan (s : State) (n : Nat) (v : Chan) : State := { s with chans := s.chans.put (unitDefault {}) n v }
def State.bank (s : State) (n : Nat) : Bank := s.banks.get (unitDefault {}) n
def State.setBank (s : State) (n : Nat) (v : Bank) : State := { s with banks := s.banks.put (unitDefault {}) n v }
def State.slot (s : State) (n : Nat) : Slot := s.slots.get (unitDefault {}) n
def State.setSlot (s : State) (n : Nat) (v : Slot) : State := { s with slots := s.slots.put (unitDefault {}) n v }
def State.rfl_ (s : State) (k : Nat) : Refill := s.refill.get (unitDefault {}) k
def State.setRefill (s : State) (k : Nat) (v : Refill) : State := { s with refill := s.refill.put (unitDefault {}) k v }
def State.mon (s : State) (m : Nat) : Mon := s.mons.get monDefault m
def State.setMon (s : State) (m : Nat) (v : Mon) : State := { s with mons := s.mons.put monDefault m v }
def State.sensor (s : State) (k : Nat) : Sensor := s.sensors.get (unitDefault {}) k
def State.setSensor (s : State) (k : Nat) (v : Sensor) : State := { s with sensors := s.sensors.put (unitDefault {}) k v }
/-- The correction of reference buffer `b` in µV (R361). -/
def State.comp (s : State) (b : Nat) : Int := s.comps.get (unitDefault 0) b
def State.setComp (s : State) (b : Nat) (v : Int) : State := { s with comps := s.comps.put (unitDefault 0) b v }
def State.op (s : State) (t : Nat) : Op := s.ops.get (unitDefault {}) t
def State.setOp (s : State) (t : Nat) (v : Op) : State := { s with ops := s.ops.put (unitDefault {}) t v }

/-! ### Replies, free values, faults, frames -/

/-- Answer an access or command with OK and data. -/
def State.ok (s : State) (data : List Word := []) : State := { s with reply := ⟨0, data⟩ }

/-- Answer an access or command with an error code and no data (R10, R96). -/
def State.err (s : State) (e : Err) : State := { s with reply := ⟨e.code, []⟩ }

/-- Take the next free value (log entry 5). -/
def State.takeFree (s : State) : Nat × State := (Config.free s.fresh, { s with fresh := s.fresh + 1 })

/-- Raise a fault: it goes to the Watchhouse (R364). -/
def State.raise (s : State) (r : Raised) : State := { s with watch := { s.watch with raised := s.watch.raised ++ [r] } }

/-- Raise a class N fault. -/
def State.raiseN (s : State) (page code : Nat) (detail : Nat := 0) : State :=
  s.raise { cls := .n, code := code, page := page, detail := detail }

/-- Raise a class H fault. -/
def State.raiseH (s : State) (page code : Nat) (detail : Nat := 0) : State :=
  s.raise { cls := .h, code := code, page := page, detail := detail }

/-- Raise a class D fault on a unit. -/
def State.raiseD (s : State) (page code : Nat) (u : FUnit) (detail : Nat := 0) : State :=
  s.raise { cls := .d, code := code, page := page, detail := detail, unit := u }

/-- Is the port up? -/
def State.portUp (s : State) (p : Nat) : Bool := s.bitR (pLINK p) LINK_STAT 22

/-- Send a frame on a port; LINK_TXOK counts it (R123). A port that is not up sends nothing. -/
def State.send (s : State) (port : Nat) (b : TxBody) : State :=
  if s.portUp port then
    { s.inc (pLINK port) LINK_TXOK with tx := s.tx ++ [⟨port, b⟩] }
  else s

/-- LINK_IP of a port in effect (R90). -/
def State.ipOf (s : State) (p : Nat) : Nat := if p = 0 then s.abt.ipA else s.abt.ipB

/-- The IPv4 head of a packet that a port sends (R89). -/
def State.ipHead (s : State) (p dst : Nat) : IpHead :=
  { src := s.ipOf p, dst := dst, ttl := s.fldR (pLINK p) LINK_IPOPT 23 16, dscp := s.fldR (pLINK p) LINK_IPOPT 15 10 }

/-- The sum of the bytes as 16-bit words, the last one filled with zero. -/
def sum16 : List Byte → Nat
  | a :: b :: r => a.toNat * 256 + b.toNat + sum16 r
  | [a] => a.toNat * 256
  | [] => 0

/-- The UDP checksum of a datagram (R93): over the addresses, the protocol number 17, the ports, the length and the payload,
and never zero (log entry 57). -/
def udpSum (src dst srcPort dstPort : Nat) (payload : List Byte) : Nat :=
  let n := 8 + payload.length
  65535 - sum16 (beBytes 4 src ++ beBytes 4 dst ++ beBytes 2 17 ++ beBytes 2 n ++ beBytes 2 srcPort ++ beBytes 2 dstPort
    ++ beBytes 2 n ++ payload) % 65535

/-- Send a datagram from the ABT port to an address and port of the network (R89, R93, R98). -/
def State.sendUdp (s : State) (p toMac toIp toPort : Nat) (payload : List Byte) : State :=
  let from_ := s.fldR pABT ABT_PORT 15 0
  s.send p (.udp (s.ipHead p toIp) toMac from_ toPort (udpSum (s.ipOf p) toIp from_ toPort payload) payload)

/-! ### The timing clock (R11, R241) -/

/-- Is the PLL locked (R222)? -/
def State.locked (s : State) : Bool := s.bitR pTBASE TBASE_STAT 23

/-- Advance the timing clock by `n` cycles: the time base counts 625 ps at each edge, modulo 2^64 (R241). -/
def State.ticks (s : State) (n : Nat) : State :=
  { s with time := { s.time with edge := s.time.edge + n, base := (s.time.base + 625 * n) % 2 ^ 64 } }

/-- Advance the timing clock to an edge, if it has not passed it. -/
def State.toEdge (s : State) (e : Nat) : State := if s.time.edge < e then s.ticks (e - s.time.edge) else s

/-- The time of the timing clock in picoseconds, at the present edge. -/
def State.ps (s : State) : Nat := s.time.edge * 625

/-- Advance the timing clock to the first edge at or after a time of the clock in picoseconds. -/
def State.toPs (s : State) (t : Nat) : State := s.toEdge ((t + 624) / 625)

/-- The time base at a time of the timing clock in picoseconds (R241). -/
def State.baseAt (s : State) (t : Nat) : Nat :=
  ((s.time.base : Int) + (t : Int) - (s.ps : Int)) % (2 ^ 64 : Nat) |>.toNat

/-- The first edge at which the time base is at or after `b`, in the present epoch (R241). -/
def State.edgeAt (s : State) (b : Nat) : Nat := ((s.time.edge : Int) + ((b : Int) - (s.time.base : Int) + 624) / 625).toNat

/-- SKEW_OFS, in picoseconds (R246). -/
def State.skew (s : State) : Int := signed 24 (s.reg pSKEW SKEW_OFS).toNat

/-- The first reference edge at or after an edge: every 16th timing-clock edge (R222). -/
def refEdge (e : Nat) : Nat := (e + 15) / 16 * 16

/-- The capture edge of an entry that enters a stile now (R20): the next edge, or the one after it where the request
falls into the synchroniser's aperture, which a free value decides (log entry 5). -/
def State.captureEdge (s : State) : Nat × State :=
  let (v, s) := s.takeFree
  (s.time.edge + 1 + v % 2, s)

/-- Does the page lie in the timing domain, behind a register stile (R62, Table 3.1)? -/
def timingPage (page : Nat) : Bool := page == pTBASE || page == pSKEW || (decide (0x140 ≤ page) && decide (page < 0x180))

/-- An access reaches its page: one to a timing page leaves the page's register stile 3 cycles after its capture edge
(R20, R458, Table 1.2). An access is one step, so that no other access is in the stile with it (log entry 47). -/
def State.enterPage (s : State) (page : Nat) : State :=
  if timingPage page then
    let (e, s) := s.captureEdge
    s.toEdge (e + 3)
  else s

/-- The answer of an access leaves its page: from a timing page it is offered 3 cycles later (R21, Table 1.2). -/
def State.leavePage (s : State) (page : Nat) : State := if timingPage page then s.ticks 3 else s

/-! ### Streams, sites and octets (R31, R198, R201) -/

/-- State codes of a stream (Table 7.2). -/
abbrev sIDLE : Nat := 0
abbrev sARMED : Nat := 1
abbrev sRUNNING : Nat := 2
abbrev sHOLDING : Nat := 3
abbrev sDRAINING : Nat := 4
abbrev sSTOPPED : Nat := 5

/-- State codes of a site (Table 7.5). -/
abbrev tFREE : Nat := 0
abbrev tASSIGNED : Nat := 1
abbrev tACTIVE : Nat := 2
abbrev tPARKED : Nat := 3
abbrev tHEDGED : Nat := 4
abbrev tRETIRED : Nat := 5

/-- STREAM_STAT.STATE. -/
def State.strSt (s : State) (k : Nat) : Nat := s.fldR (pSTREAM k) STREAM_STAT 23 21
def State.setStrSt (s : State) (k v : Nat) : State := s.setFld (pSTREAM k) STREAM_STAT 23 21 v

/-- SITE_STAT.STATE. -/
def State.siteSt (s : State) (n : Nat) : Nat := s.fldR (pSITE n) SITE_STAT 23 21
def State.setSiteSt (s : State) (n v : Nat) : State := s.setFld (pSITE n) SITE_STAT 23 21 v

/-- SITE_STAT.PREASON: 0 none, 1 ALIGN, 2 REJOIN, 3 OVERFLOW. -/
def State.preason (s : State) (n : Nat) : Nat := s.fldR (pSITE n) SITE_STAT 20 19

/-- The stream a site is bound to (R31). -/
def State.siteStream (s : State) (n : Nat) : Nat := s.fldR (pSITE n) SITE_CFG 22 21

/-- Width of a stream in octets (STREAM_CFG.WIDTH plus one). -/
def State.width (s : State) (k : Nat) : Nat := s.fldR (pSTREAM k) STREAM_CFG 23 21 + 1

/-- Column `c` of a site's octet list (SITE_OCT0, SITE_OCT1). -/
def State.column (s : State) (n c : Nat) : Nat :=
  if c < 4 then s.fldR (pSITE n) SITE_OCT0 (23 - 6 * c) (18 - 6 * c)
  else s.fldR (pSITE n) SITE_OCT1 (23 - 6 * (c - 4)) (18 - 6 * (c - 4))

/-- The octets of a site, by column: as many as its stream was wide when it was assigned (R31). -/
def State.octetsOf (s : State) (n : Nat) : List Nat :=
  if s.siteSt n = tFREE then [] else (List.range (s.site n).noct).map (s.column n)

/-- The octet of a site monitor (R348). -/
def monOct (m : Nat) : Nat := if m < 64 then m else (m - 64) / 8

/-- Word `w` of a monitor's limit entry, and its ACTION (Table 13.9). -/
def State.monW (s : State) (m w : Nat) : Word := s.tab pGUARD 0 (4 * m + w)
def State.monAction (s : State) (m : Nat) : Nat := fld (s.monW m 3) 23 22

/-- The monitors of a list of octets, ascending (R348). -/
def monsOf (os : List Nat) : List Nat := (List.range 576).filter (fun m => os.contains (monOct m))

/-- Put monitors that sample on their fault side (R351). -/
def State.monsToFault (s : State) (ms : List Nat) : State :=
  ms.foldl (fun (s : State) m => if s.monAction m = 0 then s else s.setMon m { s.mon m with fault := true, beyond := 0 }) s

/-- A site becomes ASSIGNED: its monitors are on their fault side (R351). -/
def State.toAssigned (s : State) (n : Nat) : State :=
  let s := s.setSiteSt n tASSIGNED
  s.monsToFault (monsOf (s.octetsOf n))

/-- A free site becomes ASSIGNED, with as many octets as its stream is wide (R31, R202). -/
def State.assign (s : State) (n : Nat) : State :=
  (s.setSite n { s.site n with noct := s.width (s.siteStream n) }).toAssigned n

/-- An ASSIGNED site becomes FREE (R202). -/
def State.unassign (s : State) (n : Nat) : State := (s.setSiteSt n tFREE).setSite n { s.site n with noct := 0 }

/-- The site that holds an octet, if one does (R31). -/
def State.siteOf (s : State) (o : Nat) : Option Nat := (List.range 64).find? (fun n => (s.octetsOf n).contains o)

/-- The sites bound to a stream. -/
def State.sitesOf (s : State) (k : Nat) : List Nat :=
  (List.range 64).filter (fun n => s.siteSt n != tFREE && s.siteStream n == k)

/-- Is the stream ARMED, RUNNING, HOLDING or DRAINING? -/
def State.strBusy (s : State) (k : Nat) : Bool := decide (sARMED ≤ s.strSt k) && decide (s.strSt k ≤ sDRAINING)

/-- Is any stream ARMED, RUNNING, HOLDING or DRAINING? -/
def State.anyBusy (s : State) : Bool := (List.range 4).any s.strBusy

/-- Does the octet belong to a site whose stream is ARMED, RUNNING, HOLDING or DRAINING? -/
def State.octBusy (s : State) (o : Nat) : Bool :=
  match s.siteOf o with
  | some n => s.strBusy (s.siteStream n)
  | none => false

/-- Does a boundary-scan instruction isolate the channels (R61)? EXTEST, CLAMP, HIGHZ. -/
def tapIsolates (code : Byte) : Bool := code == 0x00 || code == 0x04 || code == 0x05

/-- Is every channel high impedance and every RAILCTL at its off level: PORST_N low, or VPE_HI or VPE_LO outside Table
2.8 (R49)? -/
def State.pinsOff (s : State) : Bool := !s.pins.porstN || !s.pins.vpeOut.isEmpty

/-- Is the channel isolated: by the supplies, by CHEN, by the safe state, by a hedge, by a full calibration, or by a
boundary-scan instruction (R49, R61, R283, R356, R357, R380)? -/
def State.isolated (s : State) (c : Nat) : Bool :=
  s.pinsOff || s.run.safe || s.bitR pGLEAN GLEAN_STAT 22 || tapIsolates s.pins.tap
    || !s.bitR (pOCTPE (c / 8)) (OCTPE_PIN0 + c % 8) 12
    || (match s.siteOf (c / 8) with
        | some n => s.siteSt n == tHEDGED || s.siteSt n == tRETIRED
        | none => false)

/-- The PMU of a lane does not limit (R270). -/
def State.endLimit (s : State) (o lane : Nat) : State :=
  (s.setOct o { s.oct o with lim := (s.oct o).lim.set lane 0 }).setBit (pOCTPE o) OCTPE_STAT (8 + lane) false

/-- No PMU limits (R270). -/
def State.endLimits (s : State) : State :=
  (List.range 64).foldl (fun (s : State) o =>
    (s.setFld (pOCTPE o) OCTPE_STAT 15 8 0).setOct o { s.oct o with lim := [0, 0, 0, 0, 0, 0, 0, 0] }) s

/-- Every channel is isolated: no driver places a further edge, and no PMU, disconnected, limits (R265, R270, R283). -/
def State.isolatePins (s : State) : State :=
  { s with chans := s.chans.mapVals (unitDefault {}) (fun _ c => { c with edges := [], drv := 2 }) }.endLimits

/-! ### Tags of operations (R286) -/

/-- The home channel of a tag, its octet, lane within the octet and MSE lane. -/
abbrev tagChan (t : Nat) : Nat := t / 6
abbrev tagOct (t : Nat) : Nat := t / 48
abbrev tagPin (t : Nat) : Nat := t / 6 % 8
abbrev tagLane (t : Nat) : Nat := t / 384

/-- Does an operation hold ADC `a` of an octet (R290)? -/
def State.mseHolds (s : State) (o a : Nat) : Bool :=
  s.ops.any (fun e => tagOct e.1 == o && tagPin e.1 == a && e.2.holdsAdc)

/-- Picoseconds from one edge of an octet's sample grid to the next (R273). -/
def State.gridStep (s : State) (o : Nat) : Nat := 625 * max 1 (s.fldR (pOCTPE o) OCTPE_ADCRATE 20 0)

/-- The first multiple of `n` at or after `b`. -/
def ceilTo (n b : Nat) : Nat := (b + n - 1) / n * n

/-! ### What the gleaner borrows (R383 to R386) -/

/-- Does a gleaning task measure through its lane's ADC (Table 14.1)? -/
def taskAdc : GleanTask → Bool
  | .edges => false
  | .tdc => false
  | .levels => true
  | .pmu => true
  | .adc => true
  | .rail => true
  | .tone => true

/-- End the borrowing in progress: discarded and counted (R386). -/
def State.gleanStop (s : State) : State :=
  match s.glean.borrow with
  | some (.chan ..) => { s.inc pGLEAN GLEAN_ABORT with glean := { s.glean with borrow := none } }
  | _ => s

/-- The ADCs `m` of an octet are claimed: a borrowing that uses one of them ends (R386). -/
def State.gleanYield (s : State) (o m : Nat) : State :=
  match s.glean.borrow with
  | some (.chan c task _) => if c / 8 = o ∧ nbit m (c % 8) ∧ taskAdc task then s.gleanStop else s
  | _ => s

/-- An EDGES unit is armed on an octet: a borrowing of one of its TDCs ends (R384, R386). -/
def State.gleanTdc (s : State) (o : Nat) : State :=
  match s.glean.borrow with
  | some (.chan c task _) => if c / 8 = o ∧ task = .tdc then s.gleanStop else s
  | _ => s

/-- Is the octet in a gap (R385)? -/
def State.inGap (s : State) (o : Nat) : Bool :=
  match s.siteOf o with
  | none => true
  | some n =>
    let st := s.strSt (s.siteStream n)
    (s.siteSt n == tASSIGNED || s.siteSt n == tRETIRED) && (st == sIDLE || st == sSTOPPED)

/-- Does a channel lend every element in a gap (R385)? -/
def State.gapOpen (s : State) (c : Nat) : Bool :=
  let w := s.reg (pOCTPE (c / 8)) (OCTPE_PIN0 + c % 8)
  !bit w 12 || ((s.chan c).drv == 2 && (s.chan c).edges.isEmpty && fld w 23 21 == 0)

/-- Is the octet's site PARKED? -/
def State.inParked (s : State) (o : Nat) : Bool :=
  match s.siteOf o with
  | some n => s.siteSt n == tPARKED
  | none => false

/-- Is a channel free for a task, an X window aside (Table 14.1, R384, R385)? -/
def State.gleanOpen (s : State) (c : Nat) (task : GleanTask) : Bool :=
  let o := c / 8
  match task with
  | .adc => true
  | .tdc => s.inGap o || s.inParked o
  | .rail => s.inGap o && !s.bitR (pOCTPE o) OCTPE_RAILCFG 8
  | .tone => s.inGap o && !(s.oct o).tone.en
  | _ => s.inGap o && s.gapOpen c

/-- A borrowing outside an X window ends where its opportunity has gone (R385, R386). -/
def State.gleanReview (s : State) : State :=
  match s.glean.borrow with
  | some (.chan c task none) => if s.gleanOpen c task then s else s.gleanStop
  | _ => s

/-- A site commits one more vector of a borrowed X window; at the end of its share the borrowing is over (R383, log
entry 61). -/
def State.gleanTick (s : State) (n : Nat) : State :=
  match s.glean.borrow with
  | some (.chan c task (some l)) =>
    if s.siteOf (c / 8) ≠ some n then s
    else if l ≤ 1 then { s.inc pGLEAN GLEAN_BORROW with glean := { s.glean with borrow := none } }
    else { s with glean := { s.glean with borrow := some (.chan c task (some (l - 1))) } }
  | _ => s

/-- The fused lifecycle state is FIELD, SECURED or SCRAPPED. -/
def State.fielded (s : State) : Bool := decide (2 ≤ s.fuses.life)

end Sys2Proof.Machine
end

