-- ==== Sys2Proof/Machine/DayOps.lean ====
section
/-!
DEFINITION. The Daybook: which fields are journalled, how records are made, grouped, sealed, programmed and applied
(R396, R399 to R407, R415, R416).
-/
namespace Sys2Proof.Machine

/-! ### Journalled fields (R399, Table 15.3) -/

/-- Is the page kind journalled? -/
def journalPage : Kind → Bool
  | .id => false | .confl => false | .ucode => false
  | .reeve => false | .serm => false | .gate => false | .daybook => false
  | .chest => false | .life => false | .update => false
  | .top => true | .link => true | .abt => true | .ptp => true | .store => true | .dram => true | .refill => true
  | .slip => true | .stream => true | .site => true | .tbase => true | .skew => true | .octtm => true | .octpe => true
  | .mse => true | .acqg => true | .octacq => true | .green => true | .guard => true | .therm => true | .watch => true
  | .glean => true

/-- The bits that Table 15.3 excludes on a page that is journalled. -/
def journalExcluded (k : Kind) (off : Nat) : Word :=
  if off = PG_CTL then 0x7FFFFF
  else match k with
  | .ptp => if PTP_OFS0 ≤ off ∧ off ≤ PTP_OFS2 then 0xFFFFFF else 0
  | .tbase => if off = TBASE_CFG then 0x200000 else 0
  | .skew => if off = SKEW_OFS ∨ (SKEW_AT0 ≤ off ∧ off ≤ SKEW_AT2) then 0xFFFFFF else 0
  | .octpe => if off = OCTPE_RAILCFG then 0x000100 else 0
  | _ => 0

/-- The journalled bits of a register (R399). -/
def journalMask (k : Kind) (off : Nat) : Word :=
  if journalPage k then
    match regInfo k off with
    | some r => if off = TBL_ADDR ∨ off = TBL_DATA then 0 else (r.rw ||| r.lk) &&& ~~~ journalExcluded k off
    | none => 0
  else 0

/-- Is a table word journalled (R399)? -/
def journalTab (k : Kind) (tsel idx : Nat) : Bool :=
  match k with
  | .store => tsel == 0 | .refill => idx % 8 < 4 | .site => true | .octtm => true
  | .octpe => tsel != 1 | .acqg => idx % 16 < 14 | .green => tsel < 2 | .guard => tsel == 0
  | .watch => tsel == 1 | .glean => tsel == 0
  | _ => false

/-- The value in effect of a journalled word: `place` 0 a register, t + 1 table t. -/
def State.placeWord (s : State) (page place idx : Nat) : Word :=
  if place = 0 then s.reg page idx else s.tab page (place - 1) idx

/-- Store a journalled word, leaving the bits that are not journalled. -/
def State.applyWord (s : State) (page place idx : Nat) (w : Word) : State :=
  match kindOf page with
  | none => s
  | some k =>
    if place = 0 then
      let m := journalMask k idx
      s.setReg page idx ((s.reg page idx &&& ~~~ m) ||| (w &&& m))
    else if journalTab k (place - 1) idx then s.setTab page (place - 1) idx w else s

/-! ### Records (Table 15.4) -/

/-- FLAGS of a record (Table 15.4). -/
def DayRec.flags (r : DayRec) : Nat :=
  if r.typ ≤ 3 then r.first.toNat * 128 + r.last.toNat * 64 + r.testf.toNat * 32 + r.new.length else r.count

/-- Six words as 18 bytes, zero beyond the words given. -/
def sixWords (ws : List Word) : List Byte :=
  ((ws ++ List.replicate 6 0).take 6).flatMap wordBytes

/-- Bytes 0 to 59 of a record (Table 15.4). -/
def DayRec.body (r : DayRec) : List Byte :=
  [BitVec.ofNat 8 r.typ, BitVec.ofNat 8 r.flags] ++ beBytes 6 r.rseq ++ beBytes 8 r.time ++
    (if r.typ = 0x10 ∨ r.typ = 0x13 then beBytes 4 r.gcrc ++ List.replicate 40 0
     else beBytes 2 (r.page * 16 + r.tsel) ++ beBytes 3 r.index ++ [BitVec.ofNat 8 (r.origin * 32)] ++
       sixWords r.old ++ sixWords r.new ++ [0, 0])

/-- The 64 bytes of a record; a torn record's CHECK is inverted (R416). -/
def DayRec.bytes (r : DayRec) : List Byte :=
  r.body ++ beBytes 4 (if r.torn then crc32c r.body ^^^ 0xFFFFFFFF else crc32c r.body)

/-- The 22 words JOURNAL READ returns for a record (R415). -/
def DayRec.words (r : DayRec) : List Word := bytesWords (r.bytes ++ [0, 0])

/-- GCRC of a group (Table 15.4). -/
def groupCrc (rs : List DayRec) : Nat := crc32c (rs.flatMap DayRec.bytes)

/-! ### Programming (R400, R401, R404) -/

/-- Slots of 64 bytes in the area. -/
def Daybook.slots (d : Daybook) : Nat :=
  match d.area with
  | some a => a.2 / 64
  | none => 0

/-- Area in use, in percent (DB_STAT.FILL). -/
def Daybook.fill (d : Daybook) : Nat := if d.slots = 0 then 0 else d.log.length * 100 / d.slots

/-- LASTW of the last durable write: the highest LASTW record at or below the last sealed record (R401, R411). -/
def lastDurable (rs : List DayRec) (upto : Nat) : Nat :=
  rs.foldl (fun a r => if r.typ ≤ 2 ∧ r.last ∧ r.rseq ≤ upto ∧ a < r.rseq then r.rseq else a) 0

/-- Close the open group: its SEAL record joins the queue (R401). -/
def State.dayClose (s : State) : State :=
  match s.day.group with
  | [] => s
  | r :: rs =>
    let rec_ : DayRec := { typ := 0x10, rseq := r.rseq, time := s.time.base, count := (r :: rs).length,
                           gcrc := groupCrc (r :: rs) }
    { s with day := { s.day with group := [], queue := s.day.queue ++ [rec_] } }

/-- A list cut into runs of at most six items, each item of a run following the one before it. -/
def runsOf6 {α : Type} (follows : α → α → Bool) (xs : List α) : List (List α) :=
  ((xs.foldl (fun (a : List (List α)) x =>
    match a with
    | (y :: r) :: rest => if follows y x && decide (r.length < 5) then (x :: y :: r) :: rest else [x] :: (y :: r) :: rest
    | _ => [[x]]) []).map List.reverse).reverse

/-- The journalled words in which a stored configuration differs from its reset, as page, place, index and value. -/
def ckptCells (isTab : Bool) (m : Store Word) : List (Nat × Nat × Nat × Word) :=
  m.filterMap (fun e =>
    let page := if isTab then e.1 / 2 ^ 23 else e.1 / 256
    let place := if isTab then e.1 / 2 ^ 19 % 16 + 1 else 0
    let idx := if isTab then e.1 % 2 ^ 19 else e.1 % 256
    match kindOf page with
    | some kd => if if isTab then journalTab kd (place - 1) idx else journalMask kd idx != 0 then some (page, place, idx, e.2) else none
    | none => none)

/-- The CKPT records of a compaction: one for each run of up to six consecutive words (R404). -/
def ckptRuns (isTab : Bool) (m : Store Word) : List DayRec :=
  (runsOf6 (fun a b => a.1 == b.1 && a.2.1 == b.2.1 && a.2.2.1 + 1 == b.2.2.1) (ckptCells isTab m)).filterMap (fun cs =>
    match cs with
    | [] => none
    | c :: _ => some { typ := 0x03, page := c.1, tsel := c.2.1 - 1, index := c.2.2.1, new := cs.map (·.2.2.2), count := c.2.1 })

/-- Start a compaction (R404): seal the open group and prepare the checkpoint's records. -/
def State.dayCompact (s : State) : State :=
  let s := s.dayClose
  let d := s.day
  { s with day := { d with compacting := true,
                           ckpt := { typ := 0x12, rseq := d.lastRec, time := s.time.base } ::
                                   (ckptRuns false s.regs ++ ckptRuns true s.tabs) ++
                                   [{ typ := 0x13, rseq := d.lastRec, time := s.time.base }] } }

/-- A flash failure of the Daybook (R404): MODE FAILED, class N DAYBOOK_FAIL. -/
def State.dayFail (s : State) : State :=
  { (s.raiseN pDAY 0x0E3) with day := { s.day with mode := .failed, queue := [], group := [], compacting := false,
                                                   ckpt := [] } }

/-- Program the oldest queued record (R400): a SEAL seals its group where none of its records is torn (R401); the area
at 75 % starts a compaction (R404). -/
def State.dayProgram (s : State) (ok : Bool) : State :=
  match s.day.queue with
  | [] => s
  | r :: q =>
    if ok then
      let inj := s.bitR pDAY PG_INJ 0
      let s : State := if inj then s.setBit pDAY PG_INJ 0 false else s
      let r := { r with torn := inj }
      let log := s.day.log ++ [r]
      let s : State := { s with day := { s.day with queue := q, log := log } }
      let s : State :=
        if r.typ = 0x10 ∧ !r.torn ∧ !(log.any (fun x => x.typ ≤ 2 && x.torn && r.rseq ≤ x.rseq && x.rseq < r.rseq + r.count))
        then
          let upto := r.rseq + r.count - 1
          { s with day := { s.day with sealedRec := upto, lastW := lastDurable log upto,
                                       groups := (s.day.groups + 1) % 2 ^ 24 } }
        else s
      if 75 ≤ s.day.fill ∧ !s.day.compacting ∧ s.day.mode = .on then s.dayCompact else s
    else s.dayFail

/-- Program queued records until at most `n` are left: a journalled write that finds no room waits for that (R400; log
entry 8). -/
def State.dayDrain (s : State) (n : Nat) : State :=
  (List.range s.day.queue.length).foldl (fun s _ => if n < s.day.queue.length then s.dayProgram true else s) s

/-- Put one record into the open group and the queue; the 16th record closes the group (R401). -/
def State.dayPut (s : State) (r : DayRec) : State :=
  let n := s.day.lastRec + 1
  let r := { r with rseq := n, time := s.time.base }
  let s := if s.day.queue.length < 32 then s else s.dayDrain 31
  let opened := if s.day.group.isEmpty then s.time.base else s.day.opened
  let s := { s with day := { s.day with lastRec := n, queue := s.day.queue ++ [r], group := s.day.group ++ [r],
                                        opened := opened } }
  if 16 ≤ s.day.group.length then s.dayClose else s

/-- Split rising word numbers into runs of at most six consecutive ones (R400). -/
def runs6 (is : List Nat) : List (List Nat) := runsOf6 (fun i j => i + 1 == j) is

/-- Mark the first of a write's records FIRSTW and the last LASTW (R400). -/
def markWrite : List DayRec → List DayRec
  | [] => []
  | r :: rs => { r with first := true } :: rs

/-- The records of one write of words `idxs` of a page, OLD from the state before and NEW from the state after it. -/
def dayRecords (s0 s1 : State) (origin page place : Nat) (idxs : List Nat) : List DayRec :=
  let rs := (runs6 idxs).map (fun run =>
    { typ := if place = 0 then 0x01 else 0x02, page := page, tsel := place - 1, index := run.headD 0, origin := origin,
      testf := s0.run.st == .test, old := run.map (s0.placeWord page place), new := run.map (s1.placeWord page place) : DayRec })
  let rs := markWrite rs
  match rs.getLast? with
  | some l => rs.dropLast ++ [{ l with last := true }]
  | none => []

/-- The words of a write that are journalled, rising and without repeats (R399). -/
def journalled (page place : Nat) (idxs : List Nat) : List Nat :=
  match kindOf page with
  | none => []
  | some k =>
    let js := idxs.filter (fun i => if place = 0 then journalMask k i != 0 else journalTab k (place - 1) i)
    (List.range (js.foldl max 0 + 1)).filter (fun i => js.contains i)

/-- Is the journal kept: ON, or FORMATTING a new area while the old one stays in use (R403)? -/
def Daybook.active (d : Daybook) : Bool := d.mode == .on || (d.mode == .formatting && d.area.isSome)

/-- Journal a change that took the state from `s0` to `s1` (R399, R400): nothing while MODE is not ON. -/
def State.journal (s1 s0 : State) (origin page place : Nat) (idxs : List Nat) : State :=
  if s1.day.active then
    (dayRecords s0 s1 origin page place (journalled page place idxs)).foldl State.dayPut s1
  else s1

/-- Is the area full, so that a journalled write is rejected with LIMIT (R404)? -/
def State.dayFull (s : State) (n : Nat) : Bool :=
  s.day.active && decide (s.day.slots < s.day.log.length + s.day.queue.length + n + 2)

/-! ### Replay and roll-back (R405 to R407) -/

/-- What replay finds in the log: records of sealed groups, the group in progress, torn records, and where it stopped. -/
structure Scan where
  applied : List DayRec := []
  cur : List DayRec := []
  torn : Nat := 0
  bad : Bool := false
  stopped : Bool := false
  /-- First record numbers of the groups that ABANDON records name. -/
  gone : List Nat := []
  next : Nat
  sealedTo : Nat
  deriving DecidableEq, Repr

/-- One record of the log in replay (R405). -/
def scanRec (a : Scan) (r : DayRec) : Scan :=
  if a.stopped then a
  else if r.typ ≤ 2 then
    if r.rseq < a.next then a
    else if r.rseq ≠ a.next then { a with stopped := true }
    else if r.torn then { a with torn := a.torn + 1, bad := true, next := a.next + 1, cur := a.cur ++ [r] }
    else { a with cur := a.cur ++ [r], next := a.next + 1 }
  else if r.typ = 0x10 then
    let gone := match a.cur with
      | x :: _ => a.gone.contains x.rseq
      | [] => false
    if a.cur.isEmpty then a
    else if gone then { a with cur := [], bad := false, torn := a.torn + r.torn.toNat }
    else if r.torn then { a with torn := a.torn + 1, stopped := true }
    else if a.bad ∨ r.count ≠ a.cur.length then { a with stopped := true }
    else { a with applied := a.applied ++ a.cur, cur := [], sealedTo := a.next - 1 }
  else if r.typ = 0x11 then { a with cur := [], bad := false, next := max a.next (r.rseq + r.count) }
  else a

/-- The records of the newest complete checkpoint, and the record number it reflects (R405). -/
def newestCkpt (log : List DayRec) : List DayRec × Nat :=
  match log.reverse.dropWhile (fun r => !(r.typ == 0x13 && !r.torn)) with
  | e :: rest => (((rest.takeWhile (fun r => r.typ != 0x12)).filter (fun r => r.typ == 0x03 && !r.torn)).reverse, e.rseq)
  | [] => ([], 0)

/-- Group the records of sealed groups into whole writes, FIRSTW to LASTW (R405). -/
def wholeWrites (rs : List DayRec) : List (List DayRec) :=
  (rs.foldl (fun (a : List (List DayRec) × Option (List DayRec)) r =>
    let cur : Option (List DayRec) := if r.first then some [r] else a.2.map (· ++ [r])
    if r.last then (match cur with | some w => (a.1 ++ [w], none) | none => (a.1, none)) else (a.1, cur)) ([], none)).1

/-- Apply a record's words: the NEW ones or the OLD ones. -/
def State.applyRec (s : State) (r : DayRec) (useOld : Bool) : State :=
  let place := if r.typ = 0x01 then 0 else if r.typ = 0x03 then r.count else r.tsel + 1
  let ws := if useOld then r.old else r.new
  (List.range ws.length).foldl (fun s i => s.applyWord r.page place (r.index + i) (ws.getD i 0)) s

/-- The groups that are not sealed, as the ABANDON records that name them (R405, R406): those whose SEAL waits in the
queue or has failed, and the open one. -/
def State.unsealed (s : State) : List DayRec :=
  let d := s.day
  let ab (r n : Nat) : DayRec := { typ := 0x11, rseq := r, time := s.time.base, count := n }
  ((d.log ++ d.queue).filter (fun r => r.typ == 0x10 && decide (max d.sealedRec d.abandoned < r.rseq))).map (fun r => ab r.rseq r.count)
    ++ (match d.group with
      | [] => []
      | r :: rs => [ab r.rseq (r :: rs).length])

/-- Roll back every write that is not durable (R406): the records that wait are programmed and their seals are not (log
entry 62), the OLD words are applied in descending order, and the groups that are not sealed are abandoned. -/
def State.dayRollback (s : State) : State :=
  if s.day.active then
    let d := s.day
    let log := d.log ++ d.queue.filter (fun r => decide (r.typ ≤ 2))
    let lost := log.filter (fun r => decide (r.typ ≤ 2) && decide (max d.lastW d.abandoned < r.rseq))
    let s1 := lost.reverse.foldl (fun s r => s.applyRec r true) s
    { s1 with day := { d with log := log ++ s.unsealed, queue := [], group := [], abandoned := d.lastRec
                              torn := (lost.filter (·.torn)).length, skip := 0 } }
  else s

/-- Undo the journalled writes made since ENTER_TEST except those to page GLEAN, journal the restoring and seal it
(R407). -/
def State.dayUndoTest (s : State) : State :=
  let rs := (s.day.log ++ s.day.queue).filter
    (fun r => r.typ ≤ 2 && r.testf && r.page != pGLEAN && s.day.testFrom < r.rseq)
  let s1 := rs.reverse.foldl (fun s r => s.applyRec r true) s
  let s2 := rs.foldl (fun t r =>
    t.journal s 4 r.page (if r.typ = 0x01 then 0 else r.tsel + 1)
      ((List.range r.new.length).map (· + r.index))) s1
  (s2.dayClose).dayDrain 0

end Sys2Proof.Machine
end

