-- ==== Sys2Proof/Machine/StoreOps.lean ====
section
/-!
DEFINITION. Banks, regions, external memory and refill windows (R126 to R153), as operations that the pipeline, the
host's bulk commands and the start use.
-/
namespace Sys2Proof.Machine

/-! ### Regions (R131 to R135) -/

/-- The banks a region selects, rising (Table 5.2). -/
def State.regionBanks (s : State) (g : Nat) : List Nat :=
  (List.range 128).filter (fun b => bit (s.tab pSTORE 0 (8 * g + b / 24)) (b % 24))

def State.regionFirst (s : State) (g : Nat) : Nat := fld (s.tab pSTORE 0 (8 * g + 6)) 14 0
def State.regionEn (s : State) (g : Nat) : Bool := bit (s.tab pSTORE 0 (8 * g + 7)) 23
def State.regionRows (s : State) (g : Nat) : Nat := fld (s.tab pSTORE 0 (8 * g + 7)) 14 0

/-- Bank words of a region: the selected banks times ROWS (R134). -/
def State.regionSize (s : State) (g : Nat) : Nat := (s.regionBanks g).length * s.regionRows g

/-- Bank and row of bank word `r` of a region (R134). -/
def State.regionWord (s : State) (g r : Nat) : Option (Nat × Nat) :=
  let bs := s.regionBanks g
  match bs[r % bs.length]? with
  | some b => if s.regionEn g ∧ r < bs.length * s.regionRows g then some (b, s.regionFirst g + r / bs.length) else none
  | none => none

/-- The key of word `j` of a row of a bank in `bankMem` (R126). -/
abbrev bkey (b row j : Nat) : Nat := (b * 21846 + row) * 4 + j

/-! ### Bank errors (R127, R128) -/

/-- A corrected error met by the read `r`: CE counts, BANK_CE is raised when it reaches CETHR, and the corrected word
waits to be written back in the reading master's class (R127). -/
def State.bankCe (s : State) (b : Nat) (r : BankReq) (inj : Bool) : State :=
  let v := s.bank b
  let s := s.setBank b { v with ce := satAdd 255 v.ce 1
                                fixes := if v.fixes.contains r then v.fixes else v.fixes ++ [r] }
  if v.ce + 1 = s.fldR pSTORE STORE_CFG 23 16 then
    s.raise { cls := .n, code := 0x050, page := pSTORE, detail := b, inj := inj }
  else s

/-- An uncorrectable error: UE counts, BANK_UE is raised and the bank is fenced (R127). -/
def State.bankUe (s : State) (b : Nat) (inj : Bool) : State :=
  let v := s.bank b
  (s.setBank b { v with ue := satAdd 255 v.ue 1, fenced := true }).raise
    { cls := .d, code := 0x051, page := pSTORE, detail := b, unit := .bank b, inj := inj }

/-- The check of the read `r` of a bank (R127, R150): whether the data is delivered. PG_INJ of page STORE acts on the
bank STORE_INJSEL names. A fenced bank fails. -/
def State.bankCheck (s : State) (b : Nat) (r : BankReq) : Bool × State :=
  if (s.bank b).fenced then (false, s)
  else if b = s.fldR pSTORE STORE_INJSEL 6 0 ∧ s.reg pSTORE PG_INJ ≠ 0 then
    let two := s.bitR pSTORE PG_INJ 1
    let s := s.setReg pSTORE PG_INJ 0
    if two then (false, s.bankUe b true) else (true, s.bankCe b r true)
  else (true, s)

/-- The word of page GLEAN's tables that word `j` of a bank's row holds, as table and index, where that row lies in the
active or the target calibration table of region KEEP (R133). The tables are held once, in `tabs`. -/
def State.keepCell (s : State) (b row j : Nat) : Option (Nat × Nat) :=
  if s.regionEn 14 && decide (s.regionFirst 14 ≤ row) && decide (row < s.regionFirst 14 + s.regionRows 14) then
    let bs := s.regionBanks 14
    match bs.findIdx? (· == b) with
    | none => none
    | some i =>
      let p := 4 * ((row - s.regionFirst 14) * bs.length + i) + j
      if 6144 ≤ p ∧ p < 43008 then some (0, p - 6144) else if 43008 ≤ p ∧ p < 79872 then some (1, p - 43008) else none
  else none

/-- Word `j` of a row of a bank (R126, R133). -/
def State.cell (s : State) (b row j : Nat) : Word :=
  match s.keepCell b row j with
  | some (t, i) => s.tab pGLEAN t i
  | none => s.bankMem.get zeroDefault (bkey b row j)

/-- Store word `j` of a row of a bank (R126, R133). -/
def State.setCell (s : State) (b row j : Nat) (w : Word) : State :=
  match s.keepCell b row j with
  | some (t, i) => s.setTab pGLEAN t i w
  | none => { s with bankMem := s.bankMem.put zeroDefault (bkey b row j) w }

/-- The four pattern words of a bank word (R126). -/
def State.rowWords (s : State) (b row : Nat) : List Word := (List.range 4).map (s.cell b row)

/-- Store the four pattern words of a bank word (R126). -/
def State.setRow (s : State) (b row : Nat) (ws : List Word) : State :=
  (List.range 4).foldl (fun s j => s.setCell b row j (ws.getD j 0)) s

/-- Read pattern word `p` of a region for a requester of class `cls`: none where the region ends or its bank fails (R128,
R134). -/
def State.readRegion (s : State) (cls who g p : Nat) : Option Word × State :=
  match s.regionWord g (p / 4) with
  | none => (none, s)
  | some (b, row) =>
    let (good, s) := s.bankCheck b ⟨cls, who, row, none⟩
    (if good then some (s.cell b row (p % 4)) else none, s)

/-- Write pattern word `p` of a region: false where the region ends or its bank is fenced. -/
def State.writeRegion (s : State) (g p : Nat) (w : Word) : Bool × State :=
  match s.regionWord g (p / 4) with
  | none => (false, s)
  | some (b, row) =>
    if (s.bank b).fenced then (false, s)
    else (true, s.setCell b row (p % 4) w)

/-- Write a run of pattern words of a region: whether every access was accepted (R128). -/
def State.writeRegionRun (s : State) (g p : Nat) (ws : List Word) : Bool × State :=
  (List.range ws.length).foldl (fun a i =>
    let (good, s) := a.2.writeRegion g (p + i) (ws.getD i 0)
    (a.1 && good, s)) (true, s)

/-- Write one octet's 32-bit vector slot of a slip region: vector `v` of column `c` of a stream `w` octets wide (R135).
The slot is 32 of the bank word's 96 bits. False where the bank is fenced (R127). -/
def State.writeSlip (s : State) (k w v c : Nat) (slot : Nat) : Bool × State :=
  let v := v % 65538
  let r := v / 3 * w + c
  match s.regionWord k r with
  | none => (false, s)
  | some (b, row) =>
    if (s.bank b).fenced then (false, s)
    else
      let old := wide (s.rowWords b row)
      let sh := 2 ^ (32 * (v % 3))
      let new := old - old / sh % 2 ^ 32 * sh + slot % 2 ^ 32 * sh
      (true, s.setRow b row (unwide 4 new))

/-- Does word `i` of table `t` of page GLEAN lie in a bank (R133)? -/
def State.keepIn (s : State) (b t i : Nat) : Bool :=
  match s.regionWord 14 ((i + 6144 + 36864 * t) / 4) with
  | some x => x.1 == b
  | none => false

/-- Clear a bank: every word reads zero (R129, R130), those of region KEEP's calibration tables too (R133). -/
def State.clearBank (s : State) (b : Nat) : State :=
  { s with
    bankMem := s.bankMem.keep (fun k => k / 4 / 21846 != b)
    tabs := s.tabs.keep (fun k =>
      !(k / 2 ^ 23 == pGLEAN && decide (k / 2 ^ 19 % 16 < 2) && s.keepIn b (k / 2 ^ 19 % 16) (k % 2 ^ 19))) }

/-! ### Region table checks (R132) -/

/-- Do the rectangles of two regions share a bank and a row? -/
def State.regionsMeet (s : State) (g h : Nat) : Bool :=
  (s.regionBanks g).any (fun b => (s.regionBanks h).contains b)
    && overlap (s.regionFirst g) (s.regionRows g) (s.regionFirst h) (s.regionRows h)

/-- Is a master of the region active (R132)? -/
def State.regionActive (s : State) (g : Nat) : Bool :=
  (if g < 12 then
      let st := s.strSt (g % 4)
      st != sIDLE && st != sSTOPPED
    else if g = 12 then
      (List.range 64).any (fun u => let st := s.fldR (pACQ u) ACQ_STAT 23 22; st == 1 || st == 2)
        || (List.range 4).any (fun u => let st := fld (s.tab pACQG 0 (16 * u + 14)) 23 22; st == 1 || st == 2)
        || (s.anyBusy && s.reg pACQG ACQG_SRSIZE != 0)
    else if g = 13 then s.ops.any (fun e => e.2.st == .queued || e.2.st == .running)
    else false)
  || s.abt.posts.any (fun p => match p.kind with
      | .bulk d _ => d.space == 1 && d.addr / 2 ^ 24 % 16 == g
      | .exec .. => false)

/-- The bits of a region entry's words that Table 5.2 assigns; the others read zero and are not checked (R5). -/
def regionMask (i : Nat) : Word := if i < 5 then 0xFFFFFF else if i = 5 then 0x0000FF else if i = 6 then 0x007FFF else 0x807FFF

/-- The check of a write of a word of the region table (R132, R133). -/
def State.checkRegion (s : State) (idx : Nat) (w : Word) : Option Err :=
  let g := idx / 8
  let i := idx % 8
  let new := w &&& regionMask i
  if 112 ≤ idx ∧ idx ≤ 119 then some .roWrite
  else
    let s1 := s.setTab pSTORE 0 idx new
    let on := s.regionEn g
    if i < 7 then
      if on then some .state
      else if i = 6 ∧ 21845 < new.toNat then some .range
      else none
    else if 21846 < fld new 14 0 then some .range
    else if bit new 23 then
      if on && s.regionRows g != fld new 14 0 then some .state
      else if (s1.regionBanks g).isEmpty ∨ (s1.regionBanks g).any (fun b => (s.bank b).fenced) ∨ s1.regionRows g = 0
          ∨ 21846 < s1.regionFirst g + s1.regionRows g
          ∨ (List.range 16).any (fun h => h != g && s1.regionEn h && s1.regionsMeet g h) then some .range
      else none
    else if s.regionActive g then some .state else none

/-- The entry of region KEEP at the end of step 2 (R133): every unfenced bank, ROWS = ceil (20992 / n). -/
def State.setupKeep (s : State) : State :=
  let good := (List.range 128).filter (fun b => !(s.bank b).fenced)
  let n := good.length
  if n = 0 then s
  else
    let rows := (20992 + n - 1) / n
    let mask := (List.range 6).map (fun w => word ((List.range 24).foldl (fun a i =>
      if good.contains (24 * w + i) then a + 2 ^ i else a) 0))
    (s.setTabs pSTORE 0 112 mask).setTabs pSTORE 0 118 [word (21846 - rows), word (2 ^ 23 + rows)]

/-! ### Conflict counters (R139, R153) -/

/-- One loss of a decision by class `c` at bank `b`. -/
def State.lose (s : State) (b c : Nat) : State :=
  let idx := 8 * (b / 8) + c
  let v := (s.tab pCONFL 0 idx).toNat + 1
  let s := s.setTab pCONFL 0 idx (word (min v 0xFFFFFF))
  if 0xFFFFFF ≤ v then s.setBit pCONFL CONFL_STAT (b / 8) true else s

/-! ### External memory (R141 to R147) -/

/-- DRAM_SIZE: usable pattern words (R145). -/
def State.dramSize (s : State) : Nat := s.wideR pDRAM DRAM_SIZE0 2

/-- Bytes of one die density code of DRAM_GEOM: 8, 12, 16, 24, 32 Gb. -/
def densityGb (code : Nat) : Nat :=
  if code = 1 then 8 else if code = 2 then 12 else if code = 3 then 16 else if code = 4 then 24
  else if code = 5 then 32 else 0

/-- Fitted bytes: per channel two x16 dies per rank (R141). -/
def fittedBytes (e : DramEnv) : Nat :=
  (densityGb e.dens0 * (e.ranks0) + densityGb e.dens1 * (e.ranks1)) * 2 * 2 ^ 27

/-- Train the external memory (R142 to R145): geometry, rate, capacity; DRAM_TRAIN at class H where it fails. -/
def State.trainDram (s : State) (e : DramEnv) : State :=
  let s := s.setReg pDRAM DRAM_GEOM (word (at_ 11 (decide (e.ranks1 = 2)).toNat + at_ 8 (e.dens1 % 8) +
    at_ 3 (decide (e.ranks0 = 2)).toNat + e.dens0 % 8))
  let alike := e.dens0 == e.dens1 && e.ranks0 == e.ranks1 && decide (1 ≤ e.dens0) && decide (e.dens0 ≤ 5)
    && decide (1 ≤ e.ranks0) && decide (e.ranks0 ≤ 2) && e.fitted0 && e.fitted1
  let want := s.fldR pDRAM DRAM_CFG 23 22
  let trained := if alike then 2 * e.best0.isSome.toNat + e.best1.isSome.toNat else 0
  let s := (s.setBit pDRAM DRAM_STAT 18 false).setFld pDRAM DRAM_STAT 23 22 trained
  let fail : State → State := fun s => (s.setWide pDRAM DRAM_SIZE0 2 0).raiseH pDRAM 0x053
  match e.best0, e.best1 with
  | some a, some b =>
    if alike then
      let rate := min want (min a b)
      let iecc := s.bitR pDRAM DRAM_CFG 21
      let bytes := if iecc then fittedBytes e * 7 / 8 else fittedBytes e
      ((s.setFld pDRAM DRAM_STAT 21 20 rate).setBit pDRAM DRAM_STAT 19 iecc).setWide pDRAM DRAM_SIZE0 2 (bytes / 96 * 32)
    else fail s
  | _, _ => fail s

/-- A read of external memory other than refill's meets corrections and counts them (R144): how many is a free value
(log entry 51). -/
def State.dramMet (s : State) : State :=
  let (a, s) := s.takeFree
  let (b, s) := s.takeFree
  let s := { s with dramRun := 0 }.inc pDRAM DRAM_LECC a
  if s.bitR pDRAM DRAM_STAT 19 then s.inc pDRAM DRAM_IECC_CE b else s

/-! ### Stream images and windows (R148, R149, R152) -/

/-- BASE and BLEN of a stream's image (Table 5.6). -/
def State.imageBase (s : State) (k : Nat) : Nat := s.wideT pREFILL 0 (8 * k) 2
def State.imageLen (s : State) (k : Nat) : Nat := s.wideT pREFILL 0 (8 * k + 2) 2

/-- Windows the window region holds: 512 bank words each (R148). -/
def State.ring (s : State) (k : Nat) : Nat := if s.regionEn (4 + k) then s.regionSize (4 + k) / 512 else 0

/-- The check of the refill table when BLEN takes a value (R152). -/
def State.checkImage (s : State) (k base len : Nat) : Option Err :=
  let xbase := s.wideR pACQG ACQG_XBASE0 2
  let xlen := s.wideR pACQG ACQG_XLEN0 2
  if base % 32 ≠ 0 ∨ s.dramSize < base + len ∨ len = 0 ∨ overlap base len xbase xlen then some .range
  else let _ := k; none

/-- Bits per vector of a RUN pin kind (Table 6.5). -/
def kindBits (k : Nat) : Nat := if k = 2 then 2 else if k = 3 then 0 else 1

/-- B of a RUN (R164). -/
def RunIn.bits (r : RunIn) : Nat := (r.ents.map (fun x => kindBits x.1)).foldl (· + ·) 0

/-- Offset of the first data word of a RUN, and how many there are (Table 6.4). -/
def RunIn.data (r : RunIn) : Nat × Nat := (r.at_ + 1 + (r.ents.length + 2) / 3, (r.n * r.bits + 23) / 24)

/-- The expander's fetch address on a path: the next data word of a RUN in expansion, else the next instruction. -/
def Exp.fetchAt (e : Exp) : Nat :=
  match e.run with
  | some r => r.data.1 + r.i * r.bits / 24
  | none => e.pc

/-- The windows the paths of a stream need now: those that hold a fetch address (R148). -/
def neededWindows (st : Stream) : List Nat :=
  (st.exp :: st.alts.map (·.exp)).filterMap (fun e => if e.ended then none else some (e.fetchAt / 2048))

/-- The windows that a path will come back to: where an open loop's body starts, unless it is read from the pin region
or in its last iteration, where a call returns to, and the targets of the open segment's JSEGs (R148). -/
def Exp.refers (e : Exp) : List Nat :=
  if e.ended then []
  else (e.loops.filterMap (fun f => if f.isMatch || f.left ≤ 1 || f.copied then none else some (f.start / 2048)))
    ++ e.calls.map (· / 2048) ++ e.jsegs.map (·.target / 2048)

/-- Windows of the image. -/
def State.windows (s : State) (k : Nat) : Nat := (s.imageLen k + 2047) / 2048

/-- The next window to fetch for a stream, in the order of the fetch address (R148). -/
def State.nextWindow (s : State) (k : Nat) : Option Nat :=
  let st := s.stream k
  let r := s.rfl_ k
  let have_ := r.resident.map Prod.fst
  let cands := neededWindows st ++ r.wanted ++ (List.range (s.ring k)).map (fun i => st.exp.fetchAt / 2048 + i)
  if s.strBusy k ∧ s.strSt k ≠ sDRAINING ∧ !(st.exp.ended ∧ st.alts.isEmpty) then
    cands.find? (fun w => decide (w < s.windows k) && !have_.contains w)
  else none

/-- Resident windows ahead of the expander: those it has read no word of (REFILL word 4, R149; DEDUCED). -/
def State.residentAhead (s : State) (k : Nat) : Nat :=
  ((s.rfl_ k).resident.filter (fun w => decide ((s.stream k).exp.fetchAt ≤ w.1 * 2048))).length

/-- Has a window a reference that is pending (R148): a path's fetch address, what a path will come back to, a target
asked for, or the windows ahead of the main path's fetch address? -/
def State.windowReferred (s : State) (k w : Nat) : Bool :=
  let st := s.stream k
  let cur := st.exp.fetchAt / 2048
  (neededWindows st).contains w || (st.exp :: st.alts.map (·.exp)).any (fun e => e.refers.contains w)
    || (s.rfl_ k).wanted.contains w || (!st.exp.ended && decide (cur ≤ w) && decide (w < cur + s.ring k))

/-- A ring place for window `w`: a free one, else that of the oldest window without a pending reference. A full ring
waits, but for the window that holds a path's fetch address: it takes the place of the oldest that no path needs now,
which is fetched again when it is needed (R148, log entry 52). -/
def State.ringPlace (s : State) (k w : Nat) : Option (Nat × List (Nat × Nat)) :=
  let r := s.rfl_ k
  let needed := neededWindows (s.stream k)
  let used := r.resident.map Prod.snd
  let take (x : Nat × Nat) : Nat × List (Nat × Nat) := (x.2, r.resident.filter (fun y => y != x))
  match (List.range (s.ring k)).find? (fun p => !used.contains p) with
  | some p => some (p, r.resident)
  | none =>
    match r.resident.find? (fun x => !s.windowReferred k x.1) with
    | some x => some (take x)
    | none =>
      if needed.contains w then (r.resident.find? (fun x => !needed.contains x.1)).map take else none

/-- The words of window `w` of a stream's image, up to BLEN. -/
def State.windowWords (s : State) (k w : Nat) : List Word :=
  s.dram.getList zeroDefault (s.imageBase k + 2048 * w) (min 2048 (s.imageLen k - 2048 * w))

/-- What a fetch of a pattern word finds. -/
inductive Fetch
  | word (w : Word)
  /-- The window is not resident: the expander waits (R148). -/
  | waits
  /-- The offset lies at or beyond BLEN (R148, R161). -/
  | outside
  /-- The bank access failed (R128). -/
  | failed
  deriving DecidableEq, Repr

/-- Fetch the pattern word at offset `o` of a stream's image from its resident windows (R148). -/
def State.fetch (s : State) (k o : Nat) : Fetch × State :=
  if s.imageLen k ≤ o then (.outside, s)
  else match (s.rfl_ k).resident.find? (fun w => w.1 == o / 2048) with
  | none => (.waits, s)
  | some (_, p) =>
    match s.readRegion 2 k (4 + k) (p * 2048 + o % 2048) with
    | (some w, s) => (.word w, s)
    | (none, s) => (.failed, s)

/-- Fetch `n` words from offset `o`: the words, or why not. -/
def State.fetchN (s : State) (k : Nat) : Nat → Nat → Except Fetch (List Word) × State
  | _, 0 => (.ok [], s)
  | o, n + 1 =>
    match s.fetch k o with
    | (.word w, s1) =>
      match s1.fetchN k (o + 1) n with
      | (.ok ws, s2) => (.ok (w :: ws), s2)
      | (.error e, s2) => (.error e, s2)
    | (f, s1) => (.error f, s1)

end Sys2Proof.Machine
end

