-- ==== Sys2Proof/Machine/AcqOps.lean ====
section
/-!
DEFINITION. Events entering the Green (R335 to R339), and acquisition as the pipeline and the converters feed it:
capture units, rings, gap records, triggers (R312 to R330).
-/
namespace Sys2Proof.Machine

/-! ### Producers (R335) -/

/-- Is the producer in the timing domain (Table 12.1)? -/
def timingProducer (p : Nat) : Bool :=
  (decide (132 ≤ p) && decide (p ≤ 147)) || (decide (160 ≤ p) && decide (p ≤ 178))

/-- Is channel `c` enabled and producer `p` in its row (R337)? -/
def State.chanTakes (s : State) (c p : Nat) : Bool :=
  bit (s.tab pGREEN 1 c) 23 && bit (s.tab pGREEN 0 (8 * c + p / 24)) (p % 24)

/-- The events that a producer's event becomes on the channels of one kind, clocked or direct, that take it as they stand
(R337). -/
def State.chanEvents (s : State) (clocked : Bool) (p t exit : Nat) (tag : Option Nat) : List GEvent :=
  ((List.range 128).filter (fun c => s.chanTakes c p && bit (s.tab pGREEN 1 c) 22 == clocked)).map (fun c =>
    { prod := p, chan := c, cons := fld (s.tab pGREEN 1 c) 21 16, clocked := clocked, timing := timingProducer p, fired := t
      exit := exit, tag := tag })

/-- A producer emits one event at time `t` of the timing clock in ps: it enters every enabled channel whose row names
it (R337). A timing-domain producer fires at the first edge at or after that time; a clockless one reaches the clocked
channels through its event-in stile, with whose event an event that finds it taken merges (R335, Table 1.2). Pulses that
overlap on one direct channel are one event (R340). -/
def State.fire (s : State) (p t : Nat) (tag : Option Nat := none) : State :=
  let tm := timingProducer p
  let t := if tm then (t + 624) / 625 * 625 else t
  let direct := (s.chanEvents false p t 0 tag).filter (fun e =>
    !s.green.flight.any (fun x => x.chan == e.chan && !x.clocked && x.fired == t))
  if tm then { s with green := { s.green with flight := s.green.flight ++ direct ++ s.chanEvents true p t 0 tag } }
  else
    let ins := s.green.ins.filter (fun x => decide (t < x.exit * 625))
    if ins.any (fun x => x.prod == p) then { s with green := { s.green with flight := s.green.flight ++ direct } }
    else
      let (v, s) := s.takeFree
      let exit := t / 625 + 1 + v % 2 + 2
      { s with green := { s.green with flight := s.green.flight ++ direct ++ s.chanEvents true p t exit tag, ins := ins ++ [⟨p, t, exit⟩] } }

/-- The matrix or the channel table has changed at the present edge: an event that still is in its event-in stile reaches
the clocked channels as they stand now (R342). -/
def State.rewire (s : State) : State :=
  let late (e : Nat) : Bool := decide (s.time.edge < e)
  { s with green := { s.green with
    flight := s.green.flight.filter (fun x => !(x.clocked && !x.timing && late x.exit))
      ++ (s.green.ins.filter (fun x => late x.exit)).flatMap (fun x => s.chanEvents true x.prod x.fired x.exit none) } }

/-! ### Capture units (R312, R333, R334) -/

def State.acq (s : State) (u : Nat) : AcqUnit := s.units.get (unitDefault {}) u
def State.setAcq (s : State) (u : Nat) (v : AcqUnit) : State := { s with units := s.units.put (unitDefault {}) u v }

/-- Configuration and status word `i` of a unit: offset 0x10 + i of its page, or word i of its table entry. -/
def State.acqW (s : State) (u i : Nat) : Word :=
  if u < 64 then s.reg (pACQ u) (0x10 + i) else s.tab pACQG 0 (16 * (u - 64) + i)

def State.setAcqW (s : State) (u i : Nat) (w : Word) : State :=
  if u < 64 then s.setReg (pACQ u) (0x10 + i) w else s.setTab pACQG 0 (16 * (u - 64) + i) w

/-- A field of ACQ_CFG. -/
def State.acqF (s : State) (u hi lo : Nat) : Nat := fld (s.acqW u 0) hi lo

/-- State of a unit (Table 11.2): 0 IDLE, 1 ARMED, 2 OPEN, 3 DONE. -/
def State.acqSt (s : State) (u : Nat) : Nat := fld (s.acqW u 14) 23 22
def State.setAcqSt (s : State) (u v : Nat) : State := s.setAcqW u 14 (putFld (s.acqW u 14) 23 22 v)

/-- Set a flag of ACQ_FLAG by its bit there; on a global unit the bit of ACQG_GFLAG (R334). -/
def State.acqFlag (s : State) (u b : Nat) : State :=
  if u < 64 then s.setBit (pACQ u) ACQ_FLAG b true
  else
    let g := 6 * (u - 64)
    if b = 23 then s.setBit pACQG ACQG_GFLAG (g + 5) true
    else if b = 22 then s.setBit pACQG ACQG_GFLAG (g + 4) true
    else if b = 20 then s.setBit pACQG ACQG_GFLAG (g + 3) true
    else if b = 19 then s.setBit pACQG ACQG_GFLAG (g + 2) true
    else s

/-- The page a unit's faults name. -/
def acqPage (u : Nat) : Nat := if u < 64 then pACQ u else pACQG

/-- The octet units of a site. -/
def State.acqOf (s : State) (n : Nat) : List Nat := s.octetsOf n

/-! ### Rings (R325, R326). Ring 0 to 67 is a unit's; 128 stands for the site ring. -/

/-- Is a record in a ring and not spilled? -/
def inRing (r : Nat) (x : Rec) : Bool := x.kind == 1 && !x.spilled && (if r < 68 then x.unit == r else decide (128 ≤ x.unit))

/-- Pattern words of a ring in use. -/
def State.ringUsed (s : State) (r : Nat) : Nat :=
  ((s.recs.filter (inRing r)).map (fun x => x.words.length)).foldl (· + ·) 0

def State.ringBase (s : State) (r : Nat) : Nat :=
  if r < 68 then (s.acqW r 12).toNat else (s.reg pACQG ACQG_SRBASE).toNat

/-- Size of a ring in bank words. -/
def State.ringSize (s : State) (r : Nat) : Nat :=
  if r < 68 then (s.acqW r 13).toNat else (s.reg pACQG ACQG_SRSIZE).toNat

def State.ringFree (s : State) (r : Nat) : Nat := 4 * s.ringSize r - s.ringUsed r

def State.ringWr (s : State) (r : Nat) : Nat := if r < 68 then (s.acq r).wr else s.siteWr

def State.setRingWr (s : State) (r w : Nat) : State :=
  if r < 68 then s.setAcq r { s.acq r with wr := w } else { s with siteWr := w }

/-- Does a write of `n` pattern words at a ring's write pointer meet a failed bank access (R329)? -/
def State.ringFails (s : State) (r n : Nat) : Bool :=
  (List.range n).any (fun i =>
    !(s.writeRegion 12 (4 * s.ringBase r + (s.ringWr r + i) % (4 * s.ringSize r)) 0).1)

/-- Write one complete record into a ring; it becomes visible for delivery (R325) and ACQG_RECS counts it. -/
def State.ringPut (s : State) (r unit : Nat) (ws : List Word) : State :=
  let len := 4 * s.ringSize r
  let wr := s.ringWr r
  let s := (List.range ws.length).foldl (fun (s : State) i =>
    (s.writeRegion 12 (4 * s.ringBase r + (wr + i) % len) (ws.getD i 0)).2) s
  let s := s.setRingWr r ((wr + ws.length) % len)
  { s.inc pACQG ACQG_RECS with recs := s.recs ++ [{ kind := 1, unit := unit, words := ws, place := wr }] }

/-- The ring that a record of acquisition was written to. -/
def ringOf (x : Rec) : Nat := if x.unit < 68 then x.unit else 128

/-- A record is read from its ring in bank class 3 (R325, R329): whether every access delivers. -/
def State.ringRead (s : State) (x : Rec) : Bool × State :=
  let r := ringOf x
  (List.range x.words.length).foldl (fun (a : Bool × State) i =>
    let (w, s) := a.2.readRegion 3 r 12 (4 * s.ringBase r + (x.place + i) % (4 * s.ringSize r))
    (a.1 && w.isSome, s)) (true, s)

/-! ### Gap records (R323, R324) -/

/-- Merge a further gap into a pending one (R324). -/
def Gap.merge (p g : Gap) : Gap :=
  { p with
      lenps := satAdd (2 ^ 48 - 1) p.lenps g.lenps
      count := satAdd 0xFFFFFF p.count g.count
      tstart := min p.tstart g.tstart
      multi := true
      aux0 := satAdd 0xFFFFFF p.aux0 g.aux0
      aux1 := p.aux1 ||| g.aux1
      aux2 := if p.cause = 5 then p.aux2 else g.aux2
      aux3 := if g.cause = 5 then g.aux3 else p.aux3 }

/-- Add a gap to what is pending. -/
def Gap.add (p : Option Gap) (g : Gap) : Option Gap :=
  match p with
  | none => some g
  | some q => some (q.merge g)

/-- The words of a gap record (Table 11.9): UNIT 127 with SITEV for a site's gap. -/
def Gap.words (g : Gap) (unit : Nat) (site : Option Nat) : List Word :=
  [word (at_ 20 3 + at_ 16 g.cause + at_ 9 unit + at_ 8 site.isSome.toNat + at_ 7 g.multi.toNat + site.getD 0)]
    ++ unwide 3 g.tstart ++ unwide 2 g.lenps ++ [word g.count, word g.aux0, word g.aux1, word g.aux2, word g.aux3]

/-- A gap of a unit: it joins the pending record, and the open window carries GAP (R324). The first DROP of an arming
raises ACQ_DROP. -/
def State.unitGap (s : State) (u : Nat) (g : Gap) : State :=
  let v := s.acq u
  let first := g.cause == 2 && !v.dropped
  let s := s.setAcq u { v with pend := Gap.add v.pend g, gap := v.gap || s.acqSt u == 2, dropped := v.dropped || g.cause == 2 }
  let s := if g.cause = 2 then s.acqFlag u 23 else s
  if first then s.raiseN (acqPage u) 0x0A0 else s

/-- A gap of a site. -/
def State.siteGap (s : State) (n : Nat) (g : Gap) : State :=
  let v := s.site n
  s.setSite n { v with pendGap := Gap.add v.pendGap g }

/-! ### Records of a unit -/

/-- Lanes or ADCs with reductions (Table 11.5). -/
def State.acqChans (s : State) (u : Nat) : List Nat :=
  if s.acqF u 23 22 = 1 then bitsOf 8 (s.acqF u 7 0) else if s.acqF u 23 22 = 3 then [0] else List.range 8

/-- Length of a unit's window record (Table 11.8). -/
def State.windowLen (s : State) (u : Nat) : Nat :=
  match s.acqF u 23 22 with
  | 0 => 34
  | 1 => 10 + 10 * (s.acqChans u).length
  | 2 => 50
  | _ => 20

/-- Words of the reductions of a window (Table 11.8). -/
def redWords (src : Nat) (v : AcqUnit) : List Word :=
  match src with
  | 0 => v.reds.flatMap (fun r => [word r.a, word r.b, word r.c])
  | 1 => v.reds.flatMap (fun r => unwide 2 (unsigned 48 r.sum) ++ unwide 3 r.sumsq ++
      [word (unsigned 24 r.mn), word (unsigned 24 r.mx), word r.imin, word r.imax, word r.a])
  | 2 => v.reds.flatMap (fun r => [word r.a, word r.b, word r.mn.toNat, word r.mx.toNat, word r.c])
  | _ => unwide 3 v.tfirst ++ unwide 3 v.tlast ++
      (match v.reds with
       | r :: _ => unwide 2 r.mn.toNat ++ unwide 2 r.mx.toNat
       | [] => [0, 0, 0, 0])

/-- The window record of a unit closed at `tc` with code `code` (Table 11.8). -/
def State.windowRecord (s : State) (u tc code : Nat) : List Word :=
  let v := s.acq u
  let src := s.acqF u 23 22
  let flags := v.sat.toNat * 128 + v.held.toNat * 64 + v.gap.toNat * 32 + v.void.toNat * 16 + v.retrig.toNat * 8 +
    v.glitch.toNat * 4 + v.adcsat.toNat * 2 + v.late.toNat
  [word (at_ 20 1 + at_ 18 src + at_ 11 u + at_ 8 code + flags),
   word (at_ 23 v.site.isSome.toNat + at_ 16 (v.site.getD 0) + v.calseq % 65536),
   word (at_ 12 (v.closed % 4096))]
    ++ unwide 3 v.topen ++ unwide 3 tc ++ [word v.n] ++ redWords src v

/-- The words of a change block (Table 11.9). -/
def State.changeBlock (s : State) (u : Nat) (es : List (Nat × Nat × Nat)) : List Word :=
  let v := s.acq u
  let t0 := match es with | e :: _ => e.2.1 | [] => 0
  let rec body : Nat → List (Nat × Nat × Nat) → List Word
    | _, [] => []
    | t, (ch, tag, val) :: r => word (at_ 21 ch + (tag - t) % 2 ^ 21) :: word val :: body tag r
  [word (at_ 20 2 + at_ 18 (s.acqF u 23 22) + at_ 11 u + es.length), word (at_ 12 (v.closed % 4096))] ++ unwide 3 t0 ++ body t0 es

/-- The tag of a grid edge of the time base: less SKEW_OFS (Table 11.1). -/
def State.gridTag (s : State) (b : Nat) : Nat := unsigned 64 ((b : Int) - s.skew)

/-- The grid edges before `t` that a unit wanted and did not have become an ADC_BUSY gap (R313, R323). -/
def State.settleHold (s : State) (u t : Nat) : State :=
  let v := s.acq u
  let step := s.gridStep u
  let n := (min v.holdFrom (ceilTo step t) - v.wanted) / step
  if v.heldAdc ∧ n ≠ 0 then
    (s.setAcq u { v with wanted := v.holdFrom }).unitGap u
      { cause := 3, tstart := s.gridTag v.wanted, lenps := (n - 1) * step, count := n }
  else s

/-- The unit gives up its ADCs at time base `t` (R313); one that an operation holds is the MSE's again (R290). -/
def State.acqRelease (s : State) (u t : Nat) : State :=
  let v := s.acq u
  if v.heldAdc then
    let o := s.oct u
    let m := s.acqF u 7 0
    (s.setOct u { o with
      adc := (List.range 8).map (fun a => if nbit m a then (s.mseHolds u a).toNat else o.adc.getD a 0)
      span := (List.range 8).map (fun a =>
        let x := o.span.getD a (0, 0)
        if nbit m a then (x.1, max x.1 t) else x) }).setAcq u { v with heldAdc := false }
  else s

/-- A record of a unit is lost to a failed bank access: a BANK gap (R329). -/
def State.bankGap (s : State) (u tag : Nat) : State := s.unitGap u { cause := 4, tstart := tag, lenps := 0, count := 1 }

/-- Close the open change block of a unit: it is written, or dropped with a DROP gap where the ring's free space would
fall below its largest window record (R322, R323); whether its bank accesses were good (R329). -/
def State.closeBlock (s : State) (u : Nat) : Bool × State :=
  let v := s.acq u
  match v.chg with
  | [] => (true, s)
  | e :: es =>
    let ws := s.changeBlock u (e :: es)
    let s := s.setAcq u { v with chg := [] }
    if s.ringFree u < ws.length + s.windowLen u then
      let lastTag := ((e :: es).getLastD e).2.1
      (true, s.unitGap u { cause := 2, tstart := e.2.1, lenps := lastTag - e.2.1, count := (e :: es).length })
    else if s.ringFails u ws.length then (false, s.bankGap u e.2.1)
    else (true, s.ringPut u u ws)

/-- The window of a unit closes at `tc` with code `code`: its record is written, or dropped with a DROP gap where it has no
room, or lost to a failed bank access, and the unit goes to state `next`, in the last case to DONE (Table 11.2, R323,
R329). -/
def State.endWindow (s : State) (u tc code next : Nat) : State :=
  let s := s.settleHold u tc
  let v := s.acq u
  let ws := s.windowRecord u tc code
  let fails := ws.length ≤ s.ringFree u ∧ s.ringFails u ws.length
  let next := if fails then 3 else next
  let s : State :=
    if s.ringFree u < ws.length then
      s.unitGap u { cause := 2, tstart := v.topen, lenps := tc - v.topen, count := 0, aux0 := 1 }
    else if fails then s.bankGap u v.topen
    else s.ringPut u u ws
  let s := if s.acqF u 21 19 = 3 ∧ next = 1 then s else s.acqRelease u tc
  let v := s.acq u
  let closed := v.closed + 1
  let s := s.setAcq u { v with closed := closed, tclose := none, prevClose := some tc, chg := [], reds := [], n := 0
                               bands := none, gap := false, level := none, closes := v.closes.filter (fun t => decide (tc < t)) }
  (s.setAcqW u 14 (putFld (s.acqW u 14) 21 10 closed)).setAcqSt u next

/-- A failed bank access under a unit's ring takes it to DONE, closing its window with ABORT at the present edge (R329, Table
11.4). -/
def State.abortUnit (s : State) (u : Nat) : State :=
  if s.acqSt u = 2 then s.endWindow u s.time.base 7 3
  else if s.acqSt u = 0 then s
  else (s.acqRelease u s.time.base).setAcqSt u 3

/-- A record of a unit's ring is lost to a failed bank access (R329): a BANK gap, and the unit goes to DONE. -/
def State.unitBankFail (s : State) (u tag : Nat) : State := (s.bankGap u tag).abortUnit u

/-- Close the window of a unit at `tc` with code `code`, and its change block with it (R322). -/
def State.closeWindow (s : State) (u tc code next : Nat) : State :=
  match s.closeBlock u with
  | (true, s) => s.endWindow u tc code next
  | (false, s) => s.abortUnit u

/-- The state after a window that closes by its CMODE or FULL (Table 11.2): DONE once NWIN windows have closed. -/
def State.afterWindow (s : State) (u : Nat) : Nat :=
  let nwin := fld (s.acqW u 1) 23 12
  if s.acqSt u = 3 then 3 else if nwin ≠ 0 ∧ nwin ≤ (s.acq u).closed + 1 then 3 else 1

/-- End a unit by a hedge, class H or a failed access at time base `t` (Table 11.2, codes 6 and 7): an open window
closes, any state but IDLE goes to DONE. -/
def State.endUnit (s : State) (u t code : Nat) : State :=
  let st := s.acqSt u
  if st = 0 then s
  else if st = 2 then
    let tc := match (s.acq u).tclose with
      | some (c, _) => if c < t then c else t
      | none => t
    let cd := match (s.acq u).tclose with
      | some (c, k) => if c < t then k else code
      | none => code
    s.closeWindow u tc cd 3
  else (s.acqRelease u t).setAcqSt u 3

/-! ### Triggers and samples that the device itself gives a unit -/

/-- Note TCLOSE of an open window, unless an earlier one is known. -/
def State.setClose (s : State) (u t code : Nat) : State :=
  if s.acqSt u = 2 then
    let v := s.acq u
    match v.tclose with
    | some (c, _) => if t < c then s.setAcq u { v with tclose := some (t, code) } else s
    | none => s.setAcq u { v with tclose := some (t, code) }
  else s

/-- A close trigger comes at time base `t`: GREEN at or after TOPEN, SEGEND after it (Table 11.4). Membership depends on tags
alone, so that it is kept for a window whose opening is known later (R319). -/
def State.closeTrigger (s : State) (u t code : Nat) : State :=
  let v := s.acq u
  let st := s.acqSt u
  if st = 1 ∨ st = 2 then
    let s := s.setAcq u { v with closes := v.closes ++ [t] }
    if st = 2 ∧ (v.topen < t ∨ (code = 2 ∧ v.topen = t)) then s.setClose u t code else s
  else s

/-- An open trigger comes at time base `t` (R318, R319): kept while ARMED, or for the next window where the open one is known
to have closed by then; else ignored with RETRIG while OPEN. -/
def State.openTrigger (s : State) (u t : Nat) : State :=
  let v := s.acq u
  let past : Bool := match v.tclose with
    | some (c, _) => decide (c ≤ t)
    | none => false
  if s.acqSt u = 1 ∨ (s.acqSt u = 2 ∧ past) then s.setAcq u { v with opens := v.opens ++ [t] }
  else if s.acqSt u = 2 then (s.setAcq u { v with retrig := true }).acqFlag u 22
  else s

/-- A site starts a segment at time base `t`: the open trigger SEG of its octet units (Table 11.3). -/
def State.segTrigger (s : State) (n segid t : Nat) : State :=
  (s.acqOf n).foldl (fun (s : State) u =>
    if s.acqF u 21 19 = 2 ∧ (bit (s.acqW u 2) 16 ∨ fld (s.acqW u 2) 15 0 = segid) then s.openTrigger u t else s) s

/-- A site ends a segment at time base `t`: SEGEND closes the windows of its octet units (Table 11.4). -/
def State.segEndTrigger (s : State) (n t : Nat) : State :=
  (s.acqOf n).foldl (fun (s : State) u => if s.acqF u 18 17 = 3 then s.closeTrigger u t 3 else s) s

/-- A STROBE sample enters an octet unit's capture stile, which offers it 2 cycles after its last strobe at edge `e` (R21,
R312, Table 1.2). -/
def State.strobeSample (s : State) (u tag bands e : Nat) : State :=
  if s.acqF u 23 22 = 0 ∧ (s.acqSt u = 1 ∨ s.acqSt u = 2) then
    let v := s.acq u
    s.setAcq u { v with stile := v.stile ++ [⟨tag, [bands], e + 2⟩] }
  else s

/-- A flag of the open windows of a site's octet units. -/
def State.markUnits (s : State) (n : Nat) (f : AcqUnit → AcqUnit) : State :=
  (s.acqOf n).foldl (fun (s : State) u => if s.acqSt u = 2 then s.setAcq u (f (s.acq u)) else s) s

end Sys2Proof.Machine
end

