-- ==== Sys2Proof/Machine/GleanOps.lean ====
section
/-!
DEFINITION. Corrections in effect and how they move: the active and target tables of page GLEAN, applications at segment
boundaries and at once (R376 to R378, R382, R387, R388, R391).
-/
namespace Sys2Proof.Machine

/-- Word `w` of an octet's active record (Table 14.4). -/
def State.calW (s : State) (o w : Nat) : Word := s.tab pGLEAN 0 (576 * o + w)

/-- Word `w` of an octet's target record. -/
def State.calT (s : State) (o w : Nat) : Word := s.tab pGLEAN 1 (576 * o + w)

/-- A timing correction of a channel in ps: word `w` of its channel words (R377). -/
def State.corr (s : State) (c w : Nat) : Int := signed 24 (s.calW (c / 8) (64 * (c % 8) + w)).toNat

/-- Words of an octet record that hold corrections or what belongs to them (Table 14.4): all but DBREC, word 573 and
the CRC. -/
def calWords : List Nat := List.range 523

/-- `a` moved toward `b` by at most `d`. -/
def stepTo (d a b : Int) : Int := if a < b then min b (a + d) else max b (a - d)

/-- One application of a word (R387): timing words by 2 ps, OFS and GAIN by one unit, FCAL and TDCD by one. -/
def moveWord (w : Nat) (a t : Word) : Word :=
  let j := w % 64
  let two : Word :=
    word (at_ 12 (unsigned 12 (stepTo 1 (signed 12 (fld a 23 12)) (signed 12 (fld t 23 12)))) +
      unsigned 12 (stepTo 1 (signed 12 (fld a 11 0)) (signed 12 (fld t 11 0))))
  if w < 512 then
    if j ≤ 4 then word (unsigned 24 (stepTo 2 (signed 24 a.toNat) (signed 24 t.toNat)))
    else if j = 5 then word (stepTo 1 (a.toNat : Int) (t.toNat : Int)).toNat
    else if j = 6 then word (unsigned 24 (stepTo 1 (signed 24 a.toNat) (signed 24 t.toNat)))
    else if 8 ≤ j ∧ j < 48 then two
    else t
  else if w < 522 then two
  else t

/-- GLEAN_SEQ (R387). -/
def State.calSeq (s : State) : Nat := s.wideR pGLEAN GLEAN_SEQ0 2

/-- Word 573 of an octet's record: SOURCE, REFIN and the sequence of the last change (Table 14.4). -/
def State.calStamp (s : State) (o source : Nat) : State :=
  s.setTab pGLEAN 0 (576 * o + 573) (word (at_ 22 source + at_ 21 s.pins.refin.toNat + s.calSeq % 65536))

/-- DBREC of an octet: the last journalled change to its record (R391). -/
def State.calNote (s : State) (o : Nat) : State :=
  if s.day.active then s.setTabs pGLEAN 0 (576 * o + 523) (unwide 2 s.day.lastRec) else s

/-- Put a changed octet record's word 573, journal the words as the device's change, and note DBREC (R391). `s0` is the
state before the change. -/
def State.calCommit (s : State) (s0 : State) (o source : Nat) (ws : List Nat) : State :=
  ((s.calStamp o source).journal s0 4 pGLEAN 1 ((ws ++ [573]).map (576 * o + ·))).calNote o

/-- The target word that stood at time `t` of the timing clock (R387). -/
def State.targetAt (s : State) (o w t : Nat) : Word :=
  match (s.glean.recent.filter (fun r => r.idx == 576 * o + w && decide (t < r.time))).getLast? with
  | some r => r.old
  | none => s.calT o w

/-- Give an octet's active words new values; the octet record is committed where a word changes. -/
def State.calSet (s : State) (o source : Nat) (f : Nat → Word) : State :=
  let ws := calWords.filter (fun w => f w != s.calW o w)
  if ws.isEmpty then s
  else (ws.foldl (fun (t : State) w => t.setTab pGLEAN 0 (576 * o + w) (f w)) s).calCommit s o source ws

/-- Does some active word of the octet differ from where an application takes it? -/
def State.calMoves (s : State) (o t : Nat) : Bool :=
  calWords.any (fun w => moveWord w (s.calW o w) (s.targetAt o w t) != s.calW o w)

/-- One more calibration sequence number (R387, R388). -/
def State.nextSeq (s : State) : State :=
  (s.setWide pGLEAN GLEAN_SEQ0 2 (s.calSeq + 1)).setBit pGLEAN GLEAN_STAT 21 s.pins.refin

/-- The application of a site at a segment boundary whose application point is `t` (R387); `now` is the start of the
next segment. -/
def State.applyCal (s : State) (n t now : Nat) : State :=
  let os := (s.octetsOf n).filter (fun o => s.calMoves o t)
  if os.isEmpty then s
  else
    let s := s.nextSeq
    let s := os.foldl (fun (s : State) o => s.calSet o 3 (fun w => moveWord w (s.calW o w) (s.targetAt o w t))) s
    (s.fire 183 now).inc pGLEAN GLEAN_APPL

/-- Is the octet covered by R387: does it belong to a site whose stream is ARMED, RUNNING, HOLDING or DRAINING? Other
octets take their targets in full at once (R388). -/
def State.takeTargets (s : State) (o : Nat) : State :=
  if s.octBusy o then s
  else if calWords.any (fun w => s.calT o w != s.calW o w) then s.nextSeq.calSet o 3 (s.calT o)
  else s

end Sys2Proof.Machine
end

