-- ==== Sys2Proof/Machine/ExpandOps.lean ====
section
/-!
DEFINITION. The expander: fetching pattern words, decoding the instructions of Table 6.2, and what each adds to the
vectors of its path (R148, R155 to R188, R195, R196).
-/
namespace Sys2Proof.Machine

/-! ### Pin codes (Table 6.1) -/

abbrev cD0 : Nat := 0x0
abbrev cD1 : Nat := 0x1
abbrev cDZ : Nat := 0x2
abbrev cKEEP : Nat := 0x3
abbrev cEL : Nat := 0x4
abbrev cEH : Nat := 0x5
abbrev cEM : Nat := 0x6
abbrev cX : Nat := 0x7
abbrev cCP : Nat := 0x8
abbrev cCN : Nat := 0x9
abbrev cCAP : Nat := 0xA
abbrev cSUBD : Nat := 0xB
abbrev cSUBE : Nat := 0xC

/-- Is the code strobed (Table 6.1)? -/
def strobed (c : Nat) : Bool := c == cEL || c == cEH || c == cEM || c == cSUBE

/-- Is it a driving code (R232)? -/
def driving (c : Nat) : Bool := c == cD0 || c == cD1 || c == cCP || c == cCN || c == cSUBD

/-! ### Fetching -/

/-- Why an instruction is not decoded now. -/
inductive ExpErr
  /-- Its words are not resident (R148). -/
  | waits
  /-- A bank access failed (R128). -/
  | failed
  /-- It is an invalid word: the offset STREAM_ERRA takes (R161). -/
  | invalid (addr : Nat)
  deriving DecidableEq, Repr

/-- The pinned loop whose body is being expanded, and whether it is read from the pin region (R175). -/
def Exp.pin (e : Exp) : Option LoopFrame := e.loops.find? (·.pinned)

/-- Fetch the pattern word at offset `o` for a path: from the pin region once it holds the path's pinned body, else from
the resident windows, and copied into the pin region in the body's first iteration (R148, R175). `data`: it is a data
word. -/
def State.fetchFor (s : State) (k : Nat) (e : Exp) (o : Nat) (data : Bool) : Except ExpErr Word × State :=
  match e.pin with
  | some f =>
    if f.copied then
      if o = f.endAt then (.ok 0x140000, s)
      else match s.readRegion 2 k (8 + k) (o - f.start) with
        | (some w, s) => (.ok w, s)
        | (none, s) => (.error .failed, s)
    else if data ∧ f.start + 21845 ≤ o then (.error (.invalid f.addr), s)
    else match s.fetch k o with
      | (.word w, s) =>
        if f.copying then
          match s.writeRegion (8 + k) (o - f.start) w with
          | (true, s) => (.ok w, s)
          | (false, s) => (.error .failed, s)
        else (.ok w, s)
      | (.waits, s) => (.error .waits, s)
      | (.outside, s) => (.error (.invalid (s.imageLen k)), s)
      | (.failed, s) => (.error .failed, s)
  | none =>
    match s.fetch k o with
    | (.word w, s) => (.ok w, s)
    | (.waits, s) => (.error .waits, s)
    | (.outside, s) => (.error (.invalid (s.imageLen k)), s)
    | (.failed, s) => (.error .failed, s)

/-- Fetch `n` data words from offset `o`: those before the first that is not delivered, and why that one is not. -/
def State.fetchSome (s : State) (k : Nat) (e : Exp) : Nat → Nat → (List Word × Option ExpErr) × State
  | _, 0 => (([], none), s)
  | o, n + 1 =>
    match s.fetchFor k e o true with
    | (.ok w, s1) =>
      let (r, s2) := s1.fetchSome k e (o + 1) n
      ((w :: r.1, r.2), s2)
    | (.error x, s1) => (([], some x), s1)

/-- Fetch `n` data words from offset `o`, or the first reason why not. -/
def State.fetchData (s : State) (k : Nat) (e : Exp) (o n : Nat) : Except ExpErr (List Word) × State :=
  match s.fetchSome k e o n with
  | ((ws, none), s) => (.ok ws, s)
  | ((_, some x), s) => (.error x, s)

/-! ### Vectors (R155 to R164) -/

/-- Resolve KEEP against the previous vector (R157). -/
def resolve (prev raw : List Nat) : List Nat := List.zipWith (fun p c => if c = cKEEP then p else c) prev raw

/-- Vectors that may still be produced before the limit of an open body is broken (R175, R178), and the word that is then
invalid: the closest of all open bodies, the innermost of equals. -/
def Exp.bodyRoom (e : Exp) (at_ : Nat) : Option (Nat × Nat) :=
  e.loops.foldl (fun a f =>
    let r : Option (Nat × Nat) :=
      if f.isMatch then some (512 - f.vecs, at_) else if f.pinned then some (16384 - f.vecs, f.addr) else none
    match a, r with
    | some x, some y => if y.1 < x.1 then some y else some x
    | none, y => y
    | x, none => x) none

/-- Add `n` vectors of codes `raw` as written to a path, from the instruction at `at_`: the new place, the items, and
whether an invalid word follows. -/
def Exp.emit (e : Exp) (at_ n : Nat) (raw : List Nat) : Exp × List Item × Bool :=
  let res := resolve e.res raw
  let inMatch := e.loops.any (·.isMatch)
  let bad (a : Nat) : Item := .invalid a
  if inMatch ∧ (res.contains cSUBD ∨ res.contains cSUBE) then ({ e with ended := true }, [bad at_], true)
  else
    let m := match e.bodyRoom at_ with
      | some (r, _) => min n r
      | none => n
    let st := res.any strobed
    let e' : Exp := { e with
      raw := raw, res := res, hasVec := true, tsets := e.tsw, pos := e.pos + m, segVecs := e.segVecs + m
      loops := e.loops.map (fun f => { f with vecs := f.vecs + m, strobed := f.strobed || (f.isMatch && st) }) }
    let sw := (e.loops.find? (·.isMatch)).elim 0 LoopFrame.sw
    let v : List Item := if m = 0 then [] else [.vec e.pos m res e.tsw e.pause.isSome sw]
    if m < n then
      match e.bodyRoom at_ with
      | some (_, a) => ({ e' with ended := true }, v ++ [bad a], true)
      | none => (e', v, false)
    else (e', v, false)

/-- The codes of a full VEC (Table 6.3): header pins 0 to 3, then six to a word. -/
def fullCodes (npin : Nat) (h : Word) (ds : List Word) : List Nat :=
  ([fld h 15 12, fld h 11 8, fld h 7 4, fld h 3 0] ++
    ds.flatMap (fun d => [fld d 23 20, fld d 19 16, fld d 15 12, fld d 11 8, fld d 7 4, fld d 3 0])).take npin

/-- The first word of a full VEC that is invalid: a reserved code, or unused trailing bits that are not zero. -/
def fullBad (npin at_ : Nat) (h : Word) (ds : List Word) : Option Nat :=
  if bit h 16 ∨ fld h 15 12 > 12 ∨ fld h 11 8 > 12 ∨ fld h 7 4 > 12 ∨ fld h 3 0 > 12 then some at_
  else (List.range ds.length).findSome? (fun j =>
    let d := ds.getD j 0
    let bad := (List.range 6).any (fun i =>
      let c := fld d (23 - 4 * i) (20 - 4 * i)
      if 4 + 6 * j + i < npin then decide (12 < c) else c != 0)
    if bad then some (at_ + 1 + j) else none)

/-- The entries of a sparse VEC with the word each lies in (Table 6.3). -/
def sparseEntries (at_ : Nat) (h : Word) (ds : List Word) : List (Nat × Nat) :=
  (at_, fld h 11 0) :: (List.range ds.length).flatMap (fun j =>
    let d := ds.getD j 0
    [(at_ + 1 + j, fld d 23 12), (at_ + 1 + j, fld d 11 0)])

/-- Read sparse entries in order: the codes, or the first invalid word. -/
def sparseCodes (npin : Nat) : List (Nat × Nat) → Option Nat → List Nat → Except Nat (List Nat)
  | [], _, codes => .ok codes
  | (a, x) :: r, last, codes =>
    let p := x / 16 % 64
    let c := x % 16
    let ordered := match last with
      | some l => decide (l < p)
      | none => true
    if x / 1024 ≠ 0 ∨ npin ≤ p ∨ !ordered ∨ 12 < c then .error a
    else sparseCodes npin r (some p) (codes.set p c)

/-- The codes of one vector of a RUN from its B bits, most significant first; none for 0b11 (Table 6.5). -/
def runCodes (ents : List (Nat × Nat)) (codes : List Nat) : Nat → Nat → Except Nat (List Nat)
  | left, v =>
    match ents with
    | [] => .ok codes
    | (k, p) :: r =>
      let nb := kindBits k
      let x := v / 2 ^ (left - nb) % 2 ^ nb
      if k = 2 ∧ x = 3 then .error left
      else
        let c := if k = 0 then (if x = 1 then cD1 else cD0)
          else if k = 1 then (if x = 1 then cEH else cEL)
          else if k = 2 then (if x = 0 then cEL else if x = 1 then cEH else cX)
          else cCP
        runCodes r (codes.set p c) (left - nb) v

/-- The codes of vector `i` of a RUN, fetched from its data words (R164). -/
def State.runVector (s : State) (k npin : Nat) (e : Exp) (r : RunIn) : Except ExpErr (List Nat) × State :=
  let b := r.bits
  let (d0, nd) := r.data
  let keepAll := List.replicate npin cKEEP
  if b = 0 then
    match runCodes r.ents keepAll 0 0 with
    | .ok cs => (.ok cs, s)
    | .error _ => (.error (.invalid r.at_), s)
  else
    let lo := r.i * b / 24
    let hi := (r.i * b + b - 1) / 24
    match s.fetchData k e (d0 + lo) (hi + 1 - lo) with
    | (.error x, s) => (.error x, s)
    | (.ok ws, s) =>
      let pad := nd * 24 - r.n * b
      if hi = nd - 1 ∧ (ws.getLastD 0).toNat % 2 ^ pad ≠ 0 then (.error (.invalid (d0 + hi)), s)
      else
        let big := ws.foldl (fun a w => a * 2 ^ 24 + w.toNat) 0
        let v := big / 2 ^ ((hi + 1 - lo) * 24 - (r.i * b - lo * 24) - b) % 2 ^ b
        match runCodes r.ents keepAll b v with
        | .ok cs => (.ok cs, s)
        | .error left => (.error (.invalid (d0 + (r.i * b + b - left) / 24)), s)

/-! ### What decoding gives -/

/-- What an instruction does to a path: its new place, the items it adds, windows it asks for, and why it stopped. -/
structure Dec where
  exp : Exp
  items : List Item := []
  wanted : List Nat := []
  err : Option ExpErr := none

/-- The path ends at an invalid word. -/
def Dec.bad (e : Exp) (a : Nat) (items : List Item := []) : Dec := ⟨{ e with ended := true }, items ++ [.invalid a], [], none⟩

/-- Nothing decoded. -/
def Dec.stop (e : Exp) (x : ExpErr) : Dec :=
  match x with
  | .invalid a => Dec.bad e a
  | _ => ⟨e, [], [], some x⟩

/-- The vectors of an instruction. -/
def Dec.vecs (e : Exp) (at_ n : Nat) (raw : List Nat) : Dec :=
  let (e, is, _) := e.emit at_ n raw
  ⟨e, is, [], none⟩

/-- Go on with an RPT: as many repetitions as fit, the rest later (R163, R195). -/
def rptGo (e : Exp) (room : Nat) : Dec :=
  let m := min e.rptLeft room
  if m = 0 then ⟨e, [], [], none⟩ else Dec.vecs { e with rptLeft := e.rptLeft - m } (e.pc - 1) m e.raw

/-- Go on with a RUN for at most `fuel` vectors (R164, R195). -/
def State.runGo (s : State) (k npin : Nat) (e : Exp) (items : List Item) : Nat → Dec × State
  | 0 => (⟨e, items, [], none⟩, s)
  | fuel + 1 =>
    match e.run with
    | none => (⟨e, items, [], none⟩, s)
    | some r =>
      match s.runVector k npin e r with
      | (.error (.invalid a), s) => (Dec.bad e a items, s)
      | (.error x, s) => (⟨e, items, [], some x⟩, s)
      | (.ok cs, s) =>
        let e1 : Exp := { e with run := if r.i + 1 = r.n then none else some { r with i := r.i + 1 } }
        let (e2, is, bad) := e1.emit r.at_ 1 cs
        if bad then (⟨e2, items ++ is, [], none⟩, s) else s.runGo k npin e2 (items ++ is) fuel

/-- The segment that is open ends at its boundary (R166, R184): the place after it, and the item; none where it has no
vector. -/
def Exp.boundary (e : Exp) : Option (Exp × Item) :=
  if e.segVecs = 0 then none
  else some ({ e with inSeg := false, segVecs := 0, jsegs := [], pause := none, jumped := none }, .boundary e.jsegs none)

/-- The first ALWAYS JSEG of a segment, and the conditional ones before it (R196). -/
def alwaysOf (js : List Jseg) : Option Jseg := js.find? (·.cond == 0)
def condsOf (js : List Jseg) : List Jseg := js.takeWhile (·.cond != 0)

/-- A SEG at `pc`, with no segment open (R165 to R167). -/
def segHere (e : Exp) (w : Nat) (h w1 : Word) (items : List Item) : Dec :=
  if fld h 8 0 ≠ 0 then Dec.bad e e.pc items
  else if fld w1 23 16 ≠ 0 then Dec.bad e (e.pc + 1) items
  else
    ⟨{ e with pc := e.pc + 2, inSeg := true, segVecs := 0, jsegs := [], jumped := none
              tsw := List.replicate w (fld h 17 13)
              pause := if bit h 10 then some (0, 0) else none },
     items ++ [.seg e.pc (fld h 17 13) (fld w1 15 0) (bit h 12) (bit h 11) (bit h 10) (bit h 9)], [], none⟩

/-- End the open segment before `rest`, which decodes what follows where no ALWAYS JSEG leads away (R170). -/
def endSegment (e : Exp) (rest : Exp → List Item → Dec) : Dec :=
  if e.inSeg then
    match e.boundary with
    | none => Dec.bad e e.pc
    | some (e', b) =>
      match alwaysOf e.jsegs with
      | some j => ⟨{ e' with pc := j.target, jumped := some j.addr }, [b], [], none⟩
      | none => rest e' [b]
  else rest e []

/-- Is the path at the top level of a segment? -/
def Exp.top (e : Exp) : Bool := e.loops.isEmpty && e.calls.isEmpty

/-! ### The instructions (R162 to R188). `w` is the stream's width, `h` the header at `e.pc`. -/

def decVec (s : State) (k w : Nat) (e : Exp) (h : Word) : Dec × State :=
  let npin := 8 * w
  if !bit h 17 then
    let nd := (npin - 4 + 5) / 6
    let ((ds, err), s) := s.fetchSome k e (e.pc + 1) nd
    match fullBad npin e.pc h ds, err with
    | some a, _ => (Dec.bad e a, s)
    | none, some x => (Dec.stop e x, s)
    | none, none => (Dec.vecs { e with pc := e.pc + 1 + nd } e.pc 1 (fullCodes npin h ds), s)
  else
    let n := fld h 16 12
    if n = 0 then (Dec.bad e e.pc, s)
    else
      let nd := n / 2
      let ((ds, err), s) := s.fetchSome k e (e.pc + 1) nd
      let es := sparseEntries e.pc h ds
      match sparseCodes npin (es.take n) none (List.replicate npin cKEEP), (es.drop n).find? (fun x => x.2 != 0), err with
      | .error a, _, _ => (Dec.bad e a, s)
      | .ok _, some x, _ => (Dec.bad e x.1, s)
      | .ok _, none, some x => (Dec.stop e x, s)
      | .ok cs, none, none => (Dec.vecs { e with pc := e.pc + 1 + nd } e.pc 1 cs, s)

def decRpt (e : Exp) (h : Word) (room : Nat) : Dec :=
  let n := fld h 17 0
  if n = 0 ∨ !e.hasVec then Dec.bad e e.pc else rptGo { e with pc := e.pc + 1, rptLeft := n } room

def decRun (s : State) (k w : Nat) (e : Exp) (h : Word) (room : Nat) : Dec × State :=
  let npins := fld h 17 14 + 1
  let nl := (npins + 2) / 3
  let ((ls, err), s) := s.fetchSome k e (e.pc + 1) nl
  let raw := (List.range ls.length).flatMap (fun j =>
    let l := ls.getD j 0
    [(e.pc + 1 + j, fld l 23 16), (e.pc + 1 + j, fld l 15 8), (e.pc + 1 + j, fld l 7 0)])
  let ents := (raw.take npins).map (fun x => (x.2 / 64, x.2 % 64))
  let badPin := (List.range ents.length).findSome? (fun i =>
    let p := (ents.getD i (0, 0)).2
    if 8 * w ≤ p ∨ (ents.take i).any (fun x => x.2 == p) then (raw[i]?).map Prod.fst else none)
  match badPin, (raw.drop npins).find? (fun x => x.2 != 0), err with
  | some a, _, _ => (Dec.bad e a, s)
  | none, some x, _ => (Dec.bad e x.1, s)
  | none, none, some x => (Dec.stop e x, s)
  | none, none, none =>
    let r : RunIn := { at_ := e.pc, ents := ents, n := fld h 13 0 + 1 }
    let (d0, nd) := r.data
    s.runGo k (8 * w) { e with pc := d0 + nd, run := some r } [] room

/-- `own`: the path may copy a pinned body into the pin region. -/
def decLoop (e : Exp) (h : Word) (own : Bool) : Dec :=
  let n := fld h 16 0
  let pin := bit h 17
  if n = 0 ∨ 4 ≤ e.loops.length then Dec.bad e e.pc
  else match e.pin with
  | some f => if pin then Dec.bad e f.addr
    else ⟨{ e with pc := e.pc + 1, loops := { isMatch := false, addr := e.pc, start := e.pc + 1, left := n, calls := e.calls.length } :: e.loops }, [], [], none⟩
  | none =>
    ⟨{ e with pc := e.pc + 1, loops := { isMatch := false, addr := e.pc, start := e.pc + 1, left := n, calls := e.calls.length, pinned := pin, copying := pin && own } :: e.loops }, [], [], none⟩

def decEndl (e : Exp) (h : Word) : Dec :=
  match e.loops with
  | [] => Dec.bad e e.pc
  | f :: fs =>
    let pauseInside : Bool := match e.pause with
      | some (l, _) => decide (e.loops.length ≤ l)
      | none => false
    if fld h 17 0 ≠ 0 ∨ f.isMatch ∨ f.calls ≠ e.calls.length ∨ pauseInside ∨ f.vecs = 0 then Dec.bad e e.pc
    else if 1 < f.left then
      ⟨{ e with pc := f.start, loops := { f with left := f.left - 1, again := true, vecs := 0, endAt := e.pc, copied := f.copying } :: fs }, [], [], none⟩
    else ⟨{ e with pc := e.pc + 1, loops := fs }, [], [], none⟩

def decMatch (e : Exp) (h : Word) : Dec :=
  let n := fld h 17 0
  if n = 0 ∨ 4 ≤ e.loops.length then Dec.bad e e.pc
  else ⟨{ e with pc := e.pc + 1, loops := { isMatch := true, addr := e.pc, start := e.pc + 1, left := n, calls := e.calls.length } :: e.loops },
        [.matchBegin n], [], none⟩

/-- Items from the innermost MATCH of a path to its end. -/
def sinceMatch (items : List Item) : Nat :=
  (items.reverse.takeWhile (fun i => match i with | .matchBegin _ => false | _ => true)).length + 1

def decEndm (e : Exp) (h : Word) (items : List Item) : Dec :=
  match e.loops with
  | [] => Dec.bad e e.pc
  | f :: fs =>
    if fld h 17 0 ≠ 0 ∨ !f.isMatch ∨ f.vecs = 0 ∨ !f.strobed then Dec.bad e e.pc
    else ⟨{ e with pc := e.pc + 1, loops := fs }, [.matchEnd (sinceMatch items) e.tsw], [], none⟩

def decSeg (s : State) (k w : Nat) (e : Exp) (h : Word) : Dec × State :=
  if !e.top then (Dec.bad e e.pc, s)
  else if fld h 8 0 ≠ 0 then (endSegment e (fun e is => Dec.bad e e.pc is), s)
  else match s.fetchData k e (e.pc + 1) 1 with
  | (.error .waits, s) => (⟨e, [], [], some .waits⟩, s)
  | (.error .failed, s) => (⟨e, [], [], some .failed⟩, s)
  | (.error (.invalid a), s) => (endSegment e (fun e is => Dec.bad e a is), s)
  | (.ok ws, s) => (endSegment e (fun e is => segHere e w h (ws.headD 0) is), s)

/-- The windows of a JSEG or CALL target, when REFILL_CFG.PREFJ is 1 (R148). -/
def State.prefetch (s : State) (k t : Nat) : List Nat :=
  if s.bitR pREFILL REFILL_CFG 23 ∧ t < s.imageLen k then [t / 2048] else []

def decJseg (s : State) (k : Nat) (e : Exp) (h : Word) : Dec × State :=
  if !e.top ∨ 4 ≤ e.jsegs.length ∨ 3 < fld h 17 15 ∨ fld h 14 0 ≠ 0 then (Dec.bad e e.pc, s)
  else match s.fetchData k e (e.pc + 1) 2 with
  | (.error x, s) => (Dec.stop e x, s)
  | (.ok ws, s) =>
    let j : Jseg := { cond := fld h 17 15, target := wide ws, addr := e.pc }
    (⟨{ e with pc := e.pc + 3, jsegs := e.jsegs ++ [j] }, [], s.prefetch k j.target, none⟩, s)

def decCall (s : State) (k : Nat) (e : Exp) (h : Word) : Dec × State :=
  match e.pin with
  | some f => (Dec.bad e f.addr, s)
  | none =>
    if fld h 17 0 ≠ 0 ∨ 8 ≤ e.calls.length then (Dec.bad e e.pc, s)
    else match s.fetchData k e (e.pc + 1) 2 with
    | (.error x, s) => (Dec.stop e x, s)
    | (.ok ws, s) =>
      if s.imageLen k ≤ wide ws then (Dec.bad e e.pc, s)
      else (⟨{ e with pc := wide ws, calls := (e.pc + 3) :: e.calls }, [], s.prefetch k (wide ws), none⟩, s)

def decRet (e : Exp) (h : Word) : Dec :=
  match e.calls with
  | [] => Dec.bad e e.pc
  | r :: rs =>
    let loopInside : Bool := match e.loops with
      | f :: _ => f.calls == e.calls.length
      | [] => false
    if fld h 17 0 ≠ 0 ∨ loopInside then Dec.bad e e.pc else ⟨{ e with pc := r, calls := rs }, [], [], none⟩

def decTsw (e : Exp) (w : Nat) (h : Word) : Dec :=
  let m := fld h 7 0
  if fld h 12 8 ≠ 0 ∨ m = 0 ∨ 2 ^ w ≤ m then Dec.bad e e.pc
  else ⟨{ e with pc := e.pc + 1, tsw := (List.range w).map (fun c => if nbit m c then fld h 17 13 else e.tsw.getD c 0)
                 loops := e.loops.map (fun f => if f.isMatch then { f with sw := f.sw ||| m } else f) }, [], [], none⟩

def decSubp (e : Exp) (h : Word) : Dec :=
  if fld h 17 15 ≠ 0 ∨ 24575 < fld h 14 0 then Dec.bad e e.pc
  else ⟨{ e with pc := e.pc + 1 }, [.subp (fld h 14 0)], [], none⟩

def decPauseBegin (e : Exp) (h : Word) : Dec :=
  if fld h 17 0 ≠ 0 ∨ !e.calls.isEmpty ∨ e.pause.isSome then Dec.bad e e.pc
  else ⟨{ e with pc := e.pc + 1, pause := some (e.loops.length, e.calls.length) }, [], [], none⟩

def decPauseEnd (e : Exp) (h : Word) : Dec :=
  if fld h 17 0 ≠ 0 ∨ e.pause ≠ some (e.loops.length, e.calls.length) ∨ !e.calls.isEmpty then Dec.bad e e.pc
  else ⟨{ e with pc := e.pc + 1, pause := none }, [], [], none⟩

def decAlign (e : Exp) (h : Word) : Dec :=
  if fld h 16 0 ≠ 0 ∨ !e.top then Dec.bad e e.pc else ⟨{ e with pc := e.pc + 1 }, [.align (fld h 17 17)], [], none⟩

def decHalt (e : Exp) (h : Word) : Dec :=
  if !e.top then Dec.bad e e.pc
  else endSegment e (fun e is =>
    if fld h 17 16 ≠ 0 then Dec.bad e e.pc is
    else ⟨{ e with ended := true }, is ++ [.halt (fld h 15 0)], [], none⟩)

/-- Decode the instruction at a path's fetch address, whose header is `h` (Table 6.2). `room` bounds the vectors it may
produce now, and `own` says whether the path may copy a pinned body. -/
def decodeAt (s : State) (k w room : Nat) (own : Bool) (e : Exp) (items : List Item) (h : Word) : Dec × State :=
  let op := fld h 23 18
  let inMatch : Bool := match e.loops with
    | f :: _ => f.isMatch
    | [] => false
  let longPin := match e.pin with
    | some f => if !f.again ∧ f.start + 21845 ≤ e.pc ∧ !(op = 0x05 ∧ e.loops.head? = some f) then some f.addr else none
    | none => none
  match e.jumped, longPin with
  | some a, _ => if op ≠ 0x08 then (Dec.bad e a, s) else decSeg s k w e h
  | none, some a => (Dec.bad e a, s)
  | none, none =>
    if !e.inSeg ∧ op ≠ 0x08 then (Dec.bad e e.pc, s)
    else if inMatch ∧ !(op = 0x01 ∨ op = 0x02 ∨ op = 0x03 ∨ op = 0x0C ∨ op = 0x12 ∨ op = 0x07) then (Dec.bad e e.pc, s)
    else match op with
    | 0x01 => decVec s k w e h
    | 0x02 => (decRpt e h room, s)
    | 0x03 => decRun s k w e h room
    | 0x04 => (decLoop e h own, s)
    | 0x05 => (decEndl e h, s)
    | 0x06 => (decMatch e h, s)
    | 0x07 => (decEndm e h items, s)
    | 0x08 => decSeg s k w e h
    | 0x09 => decJseg s k e h
    | 0x0A => decCall s k e h
    | 0x0B => (decRet e h, s)
    | 0x0C => (decTsw e w h, s)
    | 0x0D => (decSubp e h, s)
    | 0x0E => (decPauseBegin e h, s)
    | 0x0F => (decPauseEnd e h, s)
    | 0x10 => (decAlign e h, s)
    | 0x11 => (decHalt e h, s)
    | 0x12 => (⟨{ e with pc := e.pc + 1 }, [], [], none⟩, s)
    | _ => (Dec.bad e e.pc, s)

/-! ### Paths (R195, R196) -/

/-- Vectors among items. -/
def vecCount (items : List Item) : Nat :=
  items.foldl (fun a i => match i with | .vec _ n .. => a + n | _ => a) 0

/-- The place and items of a path: 0 the main path, else a staged alternative. -/
def Stream.path (v : Stream) (p : Nat) : Option (Exp × List Item) :=
  if p = 0 then some (v.exp, v.items)
  else (v.alts.find? (·.id == p)).map (fun a => (a.exp, a.items))

/-- What is left of a path's share of the dual-path buffer after its items, from the item number `i` on: none while the
path has met no open decision point and holds no share. The first decision point gives the path 512 vectors; a later one
divides what is left equally among its candidates: the path itself, and a conditional JSEG's targets or what follows an
ENDM (R196). `left` holds the match loops that a site has left. -/
def shareLeft (left : List Nat) : Nat → Option Nat → List Item → Option Nat
  | _, r, [] => r
  | i, r, x :: xs =>
    let n : Nat := match x with
      | .boundary js none => (condsOf js).length
      | .matchEnd .. => if left.contains i then 0 else 1
      | _ => 0
    let m : Nat := match x with
      | .vec _ m .. => m
      | _ => 0
    shareLeft left (i + 1) (match r with
      | none => if n = 0 then none else some 512
      | some r => some ((r - m) / (n + 1))) xs

/-- The share of a staged alternative (R196): an equal part of path 1 where its boundary is the first open decision
point, else an equal part of what is left of its path's share there. `fuel` bounds how deep it is staged. -/
def Stream.altShare (v : Stream) : Nat → Alt → Nat
  | 0, _ => 0
  | fuel + 1, a =>
    let onPath (r : Option Nat) (left : List Nat) (items : List Item) : Nat :=
      let n : Nat := match items[a.at_]? with
        | some (.boundary js none) => (condsOf js).length
        | _ => 1
      match shareLeft left 0 r (items.take a.at_) with
      | none => 512 / n
      | some r => r / (n + 1)
    match a.parent with
    | none => onPath none v.left v.items
    | some p =>
      match v.alts.find? (·.id == p) with
      | some b => onPath (some (v.altShare fuel b)) [] b.items
      | none => 0

/-- Vectors a path may still produce: 512 above H, and within its share of the dual-path buffer (R195, R196). -/
def Stream.room (v : Stream) (p : Nat) : Nat :=
  if p = 0 then
    match shareLeft v.left 0 none v.items with
    | none => v.h + 512 - v.exp.pos
    | some r => min (v.h + 512 - v.exp.pos) r
  else match v.alts.find? (·.id == p) with
    | some a => (shareLeft [] 0 (some (v.altShare (v.alts.length + 1) a)) a.items).getD 0
    | none => 0

/-- The alternatives that a new boundary stages (R196): the conditional JSEGs before the first ALWAYS. -/
def stageAlts (v : Stream) (p idx : Nat) (e : Exp) (js : List Jseg) : List Alt :=
  let cs := condsOf js
  (List.range cs.length).map (fun i =>
    let j := cs.getD i ⟨0, 0, 0⟩
    { id := v.nextAlt + i, parent := if p = 0 then none else some p, at_ := idx, cand := i + 1
      exp := { e with inSeg := false, segVecs := 0, jsegs := [], pause := none, pc := j.target, jumped := some j.addr } })

/-- Another path than `p` has a pinned loop open, so that `p` may not copy a body into the stream's one pin region; the
main path always may (R155, R175). -/
def Stream.mayCopy (v : Stream) (p : Nat) : Bool :=
  p == 0 || !(v.exp.pin.isSome || v.alts.any (fun a => a.id != p && a.exp.pin.isSome))

/-- A staged path no longer holds its pinned body in the pin region: the main path has opened a pinned loop (R175). -/
def Alt.losePin (a : Alt) : Alt :=
  { a with exp := { a.exp with loops := a.exp.loops.map (fun f => { f with copied := false, copying := false }) } }

/-- Put a decoded instruction onto its path. -/
def Stream.put (v : Stream) (p : Nat) (e0 : Exp) (items0 : List Item) (d : Dec) : Stream :=
  let js : List Jseg := match d.items with
    | .boundary js _ :: _ => js
    | _ => []
  let alts := if js.isEmpty then [] else stageAlts v p items0.length e0 js
  let v : Stream := if p = 0 then
      { v with exp := d.exp, items := items0 ++ d.items, alts := if d.exp.pin.isSome then v.alts.map Alt.losePin else v.alts }
    else { v with alts := v.alts.map (fun a => if a.id = p then { a with exp := d.exp, items := items0 ++ d.items } else a) }
  { v with alts := v.alts ++ alts, nextAlt := v.nextAlt + alts.length }

/-- The expander executes the instruction on path `p` of stream `k`, where it has the opcode `op`: nothing where the word
at the path's fetch address is another instruction, is not resident, or the run-ahead is full (R195). `op` none: any
opcode. The second part says that a bank access failed (R128). -/
def State.expand (s : State) (k p : Nat) (op : Option Nat) : State × Bool :=
  let v := s.stream k
  match v.path p with
  | none => (s, false)
  | some (e, items) =>
    let room := v.room p
    let st := s.strSt k
    if e.ended ∨ room = 0 ∨ !(st = sARMED ∨ st = sRUNNING ∨ st = sHOLDING) then (s, false)
    else
      let w := s.width k
      let finish (d : Dec) (s : State) : State × Bool :=
        match d.err with
        | some .failed => (s, true)
        | _ =>
          let s := s.setStream k ((s.stream k).put p e items d)
          let r := s.rfl_ k
          (s.setRefill k { r with wanted := r.wanted ++ d.wanted.filter (fun x => !r.wanted.contains x) }, false)
      if 0 < e.rptLeft then (if op.getD 0x02 = 0x02 then finish (rptGo e room) s else (s, false))
      else if e.run.isSome then
        (if op.getD 0x03 = 0x03 then
          let (d, s) := s.runGo k (8 * w) e [] room
          finish d s
        else (s, false))
      else match s.fetchFor k e e.pc false with
        | (.error x, s) => finish (Dec.stop e (match e.jumped, x with
            | some a, .invalid _ => .invalid a
            | _, x => x)) s
        | (.ok h, s) =>
          let hop := fld h 23 18
          if hop ≠ op.getD hop ∧ 0x01 ≤ hop ∧ hop ≤ 0x12 then (s, false)
          else
            let (d, s) := decodeAt s k w room (v.mayCopy p) e items h
            finish d s

/-- The expander keeps ahead of the sites while the windows it needs are resident: it goes on with the main path until a
vector has been added or it can do nothing (R23, R28, R195, R210). The second part says that a bank access failed. -/
def State.expandMore (s : State) (k : Nat) : Nat → State × Bool
  | 0 => (s, false)
  | fuel + 1 =>
    match s.expand k 0 none with
    | (t, true) => (t, true)
    | (t, false) =>
      if t.stream k = s.stream k ∨ vecCount (s.stream k).items < vecCount (t.stream k).items then (t, false)
      else t.expandMore k fuel

end Sys2Proof.Machine
end

