-- ==== Sys2Proof/Machine/Levels.lean ====
section
/-!
DEFINITION. The values of the pin electronics: what a level code stands for, what a span sequence makes of a level, what
the driver, the active load and the comparator of a channel do at its ball (R255 to R267, R283).
-/
namespace Sys2Proof.Machine

/-! ### Level codes (R256, R257) -/

/-- Span of level `k` of a lane in a level table (Table 9.2). -/
def spanOf (span0 span1 : Word) (k : Nat) : Nat :=
  if k < 8 then fld span0 (3 * k + 2) (3 * k) else fld span1 (3 * (k - 8) + 2) (3 * (k - 8))

/-- Number of spans that Table 9.3 lists for a level: pin voltages have five, currents and the force voltage two. -/
def spansOf (k : Nat) : Nat := if k = 6 ∨ k = 7 ∨ k = 8 ∨ k = 9 then 2 else 5

/-- The value of a pin-voltage code under a span, times 2^24 and in microvolts (Table 9.3). -/
def pinVolt (span code : Nat) : Int :=
  let c : Nat := if span = 4 then code / 256 * 256 else code
  (if span = 0 then (-1000000) * (2 ^ 24 : Int) + 2500000 * (c : Int)
   else if span = 1 then 500000 * (2 ^ 24 : Int) + 2500000 * (c : Int)
   else if span = 2 then (-1000000) * (2 ^ 24 : Int) + 5000000 * (c : Int)
   else if span = 3 then 500000 * (2 ^ 24 : Int) + 5000000 * (c : Int)
   else (-500000) * (2 ^ 24 : Int) + 5000000 * (c : Int))

/-- The gain of a current or force-voltage span (Table 9.3). -/
def spanGain (span : Nat) : Int := if span = 0 then 1 else 2

/-- A force-voltage code's value, times 2^24 and in microvolts (Table 9.3): -1.5 V + 1.5 x G x 2.5 V x c. -/
def forceVolt (span code : Nat) : Int := (-1500000) * (2 ^ 24 : Int) + 3750000 * spanGain span * (code : Int)

/-- A load-current code's value, times 2^24 and in picoamperes (Table 9.3): G x 12 mA x c. -/
def loadCurrent (span code : Nat) : Int := spanGain span * 12000000000 * (code : Int)

/-- Full scale of a PMU current range, in picoamperes (Table 9.7). -/
def fullScale (irng : Nat) : Int :=
  if irng = 0 then 2000000 else if irng = 1 then 20000000 else if irng = 2 then 200000000 else if irng = 3 then 2000000000
  else 32000000000

/-- A force-current code's value, times 2^24 and in picoamperes (Table 9.3): G x IFS x (c - 0.5). -/
def forceCurrent (span code irng : Nat) : Int := spanGain span * fullScale irng * ((code : Int) - 2 ^ 23)

/-- The value of a code of level `k` (Tables 9.2 and 9.3), times 2^24, in microvolts or picoamperes. -/
def levelValue (k span code irng : Nat) : Int :=
  if k = 6 ∨ k = 7 then loadCurrent span code
  else if k = 8 then forceVolt span code
  else if k = 9 then forceCurrent span code irng
  else pinVolt span code

/-- The safe value of level `k` (R263), scaled as `levelValue`: +0.5 V, 0 V or 0 A. -/
def safeValue (k : Nat) : Int := if k = 6 ∨ k = 7 ∨ k = 8 ∨ k = 9 then 0 else 500000 * 2 ^ 24

/-- A level at edge `e` of its span sequence (R263): from S + 4 cycles it ramps to the safe value in 2,400 cycles, stays
there until step 3 at S + 4,804 cycles, and ramps to its new value in 2,400. -/
def SpanSeq.valueAt (q : SpanSeq) (old safe new : Int) (e : Nat) : Int :=
  let d : Int := (e : Int) - (q.strobe + 4 : Nat)
  if d ≤ 0 then old
  else if d < 2400 then old + (safe - old) * d / 2400
  else if d < 4800 then safe
  else if d < 7200 then safe + (new - safe) * (d - 4800) / 2400
  else new

/-- Span and code of a level in the active table of an octet. -/
def State.activeLevel (s : State) (o lane k : Nat) : Nat × Nat :=
  (spanOf (s.tab (pOCTPE o) 1 (16 * lane + 12)) (s.tab (pOCTPE o) 1 (16 * lane + 13)) k, (s.tab (pOCTPE o) 1 (16 * lane + k)).toNat)

/-- The value of a level of a lane at the present edge, scaled as `levelValue`: that of its active code, or what its
span sequence makes of it (R260, R263). -/
def State.levelNow (s : State) (o lane k : Nat) : Int :=
  let (span, code) := s.activeLevel o lane k
  let irng := s.fldR (pOCTPE o) (OCTPE_PIN0 + lane) 20 18
  match (s.oct o).seqs.findSome? (fun q => if q.lane = lane then (q.levels.find? (fun l => l.level == k)).map (fun l => (q, l)) else none) with
  | none => levelValue k span code irng
  | some (q, l) =>
    q.valueAt (levelValue k l.span l.code irng) (safeValue k) (levelValue k span (l.target.getD code) irng) s.time.edge

/-! ### Corrections of level codes (R377, R392) -/

/-- The code that reaches a DAC for a level code under the correction word of the DAC's gain: OFS in 16 codes, GAIN in
8 ppm (R377). -/
def dacCode (corr : Word) (code : Nat) : Nat :=
  let x : Int := (code : Int) + roundDiv ((code : Int) * signed 12 (fld corr 11 0) * 8) 1000000 + 16 * signed 12 (fld corr 23 12)
  (max 0 (min x (2 ^ 24 - 1))).toNat

/-- The word of a channel's calibration that corrects level `k` under a span (Table 14.4, R377, R392): that of gain x1 or
x2, or in the LEGACY span that of the levels VIL, VIH, VT, VOL, VOH, VCOM, CLL and CLH. -/
def levelCorrWord (k span : Nat) : Nat :=
  if spansOf k = 5 then
    if span = 4 then 40 + (if k < 6 then k else k - 4) else 8 + 2 * k + (if span < 2 then 0 else 1)
  else 8 + 2 * k + span

/-! ### The channel (R265 to R267, R283) -/

/-- Mode of a lane's PMU, and whether it is connected: as the operation that holds it has set it, else as OCTPE_PIN says
(R262, R269). -/
def State.pmuOf (s : State) (o lane : Nat) : Nat × Bool :=
  match (s.oct o).pmu.find? (fun x => x.1 == lane) with
  | some x => ((s.op x.2).pmode, (s.op x.2).pcon)
  | none => (s.fldR (pOCTPE o) (OCTPE_PIN0 + lane) 23 21, s.bitR (pOCTPE o) (OCTPE_PIN0 + lane) 17)

/-- Is the lane's PMU connected and not OFF, so that the driver stays in HIZ and the load off (R265)? -/
def State.pmuOn (s : State) (o lane : Nat) : Bool :=
  let (mode, conn) := s.pmuOf o lane
  conn && mode != 0

/-- Does the PMU of a lane force a voltage or a current at its ball (R269, R283)? -/
def State.pmuForces (s : State) (o lane : Nat) : Bool :=
  let (mode, conn) := s.pmuOf o lane
  conn && (mode == 1 || mode == 2 || mode == 4) && !s.isolated (8 * o + lane)

/-- The driver of a channel stays in HIZ, whatever the pattern says: isolated, or its PMU connected and not OFF (R265,
R283). -/
def State.driverHeld (s : State) (c : Nat) : Bool := s.isolated c || s.pmuOn (c / 8) (c % 8)

/-- What a channel's driver drives its ball to through 50 ohms, times 2^24 and in microvolts; none in HIZ (R265). -/
def State.drives (s : State) (c : Nat) : Option Int :=
  let o := c / 8
  let i := c % 8
  if s.driverHeld c then none
  else match (s.chan c).drv with
    | 0 => some (s.levelNow o i 0)
    | 1 => some (s.levelNow o i 1)
    | _ => if s.bitR (pOCTPE o) (OCTPE_PIN0 + i) 16 then some (s.levelNow o i 2) else none

/-- The current that a channel's active load sinks from its ball at `v` microvolts, times 2^24 and in picoamperes, below
zero where it sources: IOL above VCOM and IOH below it, full from 200 mV on and falling linearly to zero in between
(R267). -/
def State.loadAt (s : State) (c : Nat) (v : Int) : Int :=
  let o := c / 8
  let i := c % 8
  if !s.bitR (pOCTPE o) (OCTPE_PIN0 + i) 15 || (s.pmuOf o i).2 || s.isolated c then 0
  else
    let d := v * 2 ^ 24 - s.levelNow o i 5
    let full : Int := 200000 * 2 ^ 24
    if 0 ≤ d then s.levelNow o i 6 * min d full / full else -(s.levelNow o i 7 * min (-d) full / full)

/-- Half of the comparator's hysteresis of a channel, times 2^24 and in microvolts (R266, OCTPE_PIN.HYST). -/
def State.halfHyst (s : State) (c : Nat) : Int :=
  let h := s.fldR (pOCTPE (c / 8)) (OCTPE_PIN0 + c % 8) 14 13
  (if h = 0 then 0 else if h = 1 then 5000 else if h = 2 then 15000 else 30000) * 2 ^ 24

/-- The comparator's band, 0 low, 1 mid, 2 high, with the pin at `v` microvolts after it was `was` (R266): each threshold
keeps the side it was on within its hysteresis. -/
def State.bandOf (s : State) (c was : Nat) (v : Int) : Nat :=
  let h := s.halfHyst c
  let x := v * 2 ^ 24
  let low := s.levelNow (c / 8) (c % 8) 3
  let high := s.levelNow (c / 8) (c % 8) 4
  let below := if was = 0 then decide (x ≤ low + h) && (h != 0 || decide (x < low)) else decide (x < low - h)
  let above := if was = 2 then decide (high - h ≤ x) && (h != 0 || decide (high < x)) else decide (high + h < x)
  if below then 0 else if above then 2 else 1

end Sys2Proof.Machine
end

