-- ==== Sys2Proof/Machine/PipeOps.lean ====
section
/-!
DEFINITION. The commit point: cycles of a site, markers between vectors, edges and strobes, boundaries and jumps, match
exits, parking and release, holds, stops and segment records (R154 to R217, R225 to R237).
-/
namespace Sys2Proof.Machine

/-! ### Segments (R166, R209, R217) -/

/-- The time base, with SKEW_OFS, at a time of a site's cycles in ps of the timing clock (R227). -/
def State.siteTime (s : State) (t : Nat) : Nat := unsigned 64 ((s.baseAt t : Int) + s.skew)

/-- Mark a site's current segment RESULTS_VOID. -/
def State.voidSeg (s : State) (n : Nat) : State :=
  let v := s.site n
  match v.seg with
  | none => s
  | some g =>
    ((s.setSite n { v with seg := some { g with void := true } }).setBit (pSITE n) SITE_FLAG 23 true).markUnits n
      (fun u => { u with void := true })

/-- End a site's segment at time `t`: its record waits for its decisions (R217). -/
def State.closeSeg (s : State) (n t : Nat) (jumped : Bool := false) : State :=
  let v := s.site n
  match v.seg with
  | none => s
  | some g =>
    let tend := s.siteTime t
    (s.setSite n { v with seg := none, ended := v.ended ++ [{ g with tend := tend, jumped := jumped }] }).segEndTrigger n tend

/-- The record of a site's new segment opens (R217). -/
def State.openSeg (s : State) (n k segid : Nat) : State :=
  let v := s.site n
  s.setSite n { v with seg := some { num := v.segNum + 1, stream := k, segid := segid }, segNum := v.segNum + 1,
                       permis := false }

/-- A site starts a segment at time `t` (R165, R209): its record, the triggers of its units, SEGSTART. -/
def State.startSeg (s : State) (n k segid t : Nat) (segstart : Bool) : State :=
  let s := s.openSeg n k segid
  let s := s.segTrigger n segid (s.siteTime t)
  if segstart then s.fire (132 + k) t else s

/-- The words of a segment record (Table 7.11). -/
def SegAcc.words (g : SegAcc) (n : Nat) : List Word :=
  [word (at_ 18 n + at_ 16 g.stream + g.segid),
   word (at_ 23 g.void.toNat + at_ 22 g.matchFail.toNat + at_ 21 g.skipped.toNat + at_ 20 g.diverged.toNat +
     at_ 19 g.held.toNat + at_ 18 g.subwrap.toNat + at_ 17 g.jumped.toNat), word g.fails]
    ++ unwide 2 (g.firstFail.getD (2 ^ 48 - 1)) ++ unwide 3 g.tend

/-! ### Slip (R191 to R194) -/

/-- The sites of a stream that are ACTIVE or PARKED. -/
def State.liveSites (s : State) (k : Nat) : List Nat :=
  (s.sitesOf k).filter (fun n => s.siteSt n == tACTIVE || s.siteSt n == tPARKED)

/-- The slip of a site: H less the position of the last vector it committed, never above 65,536 (R191, R193). -/
def State.slip (s : State) (n : Nat) : Nat :=
  let v := s.site n
  let h := (s.stream (s.siteStream n)).h
  if v.top = 0 ∨ h = 0 then 0 else min 65536 (h - 1 - v.pos)

/-- SLIP_MAX and the warnings of a stream's sites in a cycle that starts at `t` (R191, R194, R219). An ACTIVE site
whose own cycle at `t` has not been committed yet is left for that commit: its slip is measured from the vector it
commits in the current cycle. -/
def State.noteSlips (s : State) (k t : Nat) : State :=
  (s.liveSites k).foldl (fun (s : State) n =>
    let sl := s.slip n
    if s.siteSt n = tACTIVE ∧ (s.site n).tnext ≤ t then s
    else
      let s := if (s.reg pSLIP (SLIP_MAXA + k)).toNat < sl then s.setReg pSLIP (SLIP_MAXA + k) (word sl) else s
      if s.fldR pSLIP SLIP_CFG 16 0 < sl ∧ !nbit (s.stream k).warned n then
        (s.setStream k { s.stream k with warned := setNbit (s.stream k).warned n true }).raiseN pSLIP 0x063 n
      else s) s

/-- Park a site with reason OVERFLOW, at the start of its present cycle (R193). -/
def State.overflow (s : State) (k n : Nat) : State :=
  let s := (s.setSiteSt n tPARKED).setFld (pSITE n) SITE_STAT 20 19 3
  let s := (s.setBit (pSTREAM k) STREAM_FLAG 20 true).setBit (pSITE n) SITE_FLAG 20 true
  let v := s.site n
  (s.setSite n { v with waitAt := none, waitFrom := v.tnext, overDue := false
                        seg := v.seg.map (fun g => { g with diverged := true }) }).voidSeg n

/-! ### Draining and stopping (R198, R199, R212 to R215) -/

/-- A stream goes to DRAINING for a cause (R198, R199); the expander expands nothing more, and producer DRAIN fires. -/
def State.drain (s : State) (k why : Nat) : State :=
  let st := s.strSt k
  if st = sRUNNING ∨ st = sHOLDING then
    let v := s.stream k
    let s := s.setStream k { v with exp := { v.exp with ended := true }, alts := [], stopNext := false }
    ((s.setStrSt k sDRAINING).setFld (pSTREAM k) STREAM_STAT 19 16 why).fire (148 + k) s.ps
  else s

/-- Every site of a stream stops at its first cycle at or after time `t` (R212, R214). -/
def State.stopAll (s : State) (k why t : Nat) : State :=
  let v := s.stream k
  let t' := match v.stopAt with
    | some u => min u t
    | none => t
  (s.setStream k { v with stopAt := some t' }).drain k why

/-- Mark the current segments of a stream's ACTIVE and PARKED sites RESULTS_VOID. -/
def State.voidAll (s : State) (k : Nat) : State := (s.liveSites k).foldl State.voidSeg s

/-- No site left ACTIVE or PARKED, nor marked to become ACTIVE: DRAINING with WHY NOSITE (Tables 7.3, 7.7). -/
def State.checkNoSite (s : State) (k : Nat) : State :=
  let coming := (bitsOf 64 (s.stream k).marked).any (fun n => s.siteSt n == tASSIGNED && s.siteStream n == k && !(s.site n).begun)
  if (s.liveSites k).isEmpty && !coming then s.drain k 8 else s

/-- A hedged site whose stream is IDLE or STOPPED retires (Table 7.6). -/
def State.retire (s : State) (k : Nat) : State :=
  (s.sitesOf k).foldl (fun (s : State) n => if s.siteSt n = tHEDGED then s.setSiteSt n tRETIRED else s) s

/-- A start event of a stream at edge `e`: it waits for STREAM_START with the PRIMED of that moment. -/
def State.startEvent (s : State) (k e : Nat) : State :=
  let v := s.stream k
  if s.strSt k = sARMED ∧ v.startAt.isNone then
    s.setStream k { v with startAt := some (e, s.bitR (pSTREAM k) STREAM_STAT 20) }
  else s

/-- START of the stream's last ARM: 0 BELL, 1 GREEN, 2 NOW. -/
def State.startMode (s : State) (k : Nat) : Nat := s.fldR (pSTREAM k) STREAM_STAT 15 14

/-- Streams that one EXEC armed with START = NOW start together, at the next edge, once every one that is still ARMED is
PRIMED (R204). -/
def State.startNow (s : State) : State :=
  let waits (j : Nat) : Bool := s.strSt j == sARMED && s.startMode j == 2
  let due := (List.range 4).filter (fun k => waits k && (s.stream k).startAt.isNone && (List.range 4).all (fun j =>
    !(waits j && (s.stream j).gen == (s.stream k).gen) || s.bitR (pSTREAM j) STREAM_STAT 20))
  due.foldl (fun (s : State) k => s.startEvent k (s.time.edge + 1)) s

/-- A failed bank or memory access of a stream (R128, R144): `code` 0x064 STREAM_BANK_UE or 0x055 DRAM_UE. ARMED, it
goes to STOPPED with no segment record. DRAINING keeps its WHY (R199). -/
def State.streamFail (s : State) (k code : Nat) : State :=
  let why := if code = 0x064 then 5 else 6
  let st := s.strSt k
  if st = sARMED then
    let v := s.stream k
    let s := s.setStream k { v with exp := { v.exp with ended := true }, alts := [], startAt := none, marked := 0 }
    (((s.setStrSt k sSTOPPED).setFld (pSTREAM k) STREAM_STAT 19 16 why).retire k).startNow.raiseD (pSTREAM k) code (.stream k)
  else if st = sRUNNING ∨ st = sHOLDING ∨ st = sDRAINING then
    ((s.voidAll k).stopAll k why s.ps).raiseD (pSTREAM k) code (.stream k)
  else s

/-- A site stops committing pattern vectors at time `t` (R213, R214): its segment closes, void or not. -/
def State.stopSite (s : State) (n t : Nat) (void : Bool) : State :=
  let s := if void then s.voidSeg n else s
  let s := s.closeSeg n t
  s.setSite n { s.site n with stopped := true }

/-! ### Boundaries and jumps (R170, R171, R197, R209) -/

/-- The pending request of a condition and its time: 1 HOST, 2 GREEN, 3 ANYFAIL. -/
def Stream.request (v : Stream) (cond : Nat) : Option Nat :=
  if cond = 1 then v.hostReq else if cond = 2 then v.greenReq else v.failReq.map Prod.fst

/-- What a boundary settles on (R170): the candidate (0 the default), its condition, and the late conditions found. -/
def judge (v : Stream) (tlast : Nat) : List Jseg → Nat → List Nat → Nat × Nat × List Nat
  | [], _, late => (0, 0, late)
  | j :: js, i, late =>
    if j.cond = 0 then (0, 0, late)
    else match v.request j.cond with
    | some r => if r < tlast then (i, j.cond, late) else judge v tlast js (i + 1) (if late.contains j.cond then late else j.cond :: late)
    | none => judge v tlast js (i + 1) late

/-- The alternatives that lie on alternative `id`, with those directly on it moved to the main path (R197). -/
def adoptAlts (id shift : Nat) : List Alt → List Nat → List Alt
  | [], _ => []
  | a :: as, ids =>
    match a.parent with
    | some p =>
      if p = id then { a with parent := none, at_ := a.at_ + shift } :: adoptAlts id shift as (a.id :: ids)
      else if ids.contains p then a :: adoptAlts id shift as (a.id :: ids)
      else adoptAlts id shift as ids
    | none => adoptAlts id shift as ids

/-- The alternatives left when the boundary at item `idx` of the main path takes its default path. -/
def dropAlts (idx : Nat) : List Alt → List Nat → List Alt
  | [], _ => []
  | a :: as, gone =>
    match a.parent with
    | none => if a.at_ = idx then dropAlts idx as (a.id :: gone) else a :: dropAlts idx as gone
    | some p => if gone.contains p then dropAlts idx as (a.id :: gone) else a :: dropAlts idx as gone

/-- Settle the boundary at item `idx` on candidate `c`: the path not taken is discarded (R197). -/
def Stream.settle (v : Stream) (idx c : Nat) (js : List Jseg) : Stream :=
  let mark := (v.items.take idx) ++ [.boundary js (some c)]
  match (if c = 0 then none else v.alts.find? (fun a => a.parent == none && a.at_ == idx && a.cand == c)) with
  | some a => { v with items := mark ++ a.items, exp := a.exp, alts := adoptAlts a.id (idx + 1) v.alts [] }
  | none => { v with items := mark ++ v.items.drop (idx + 1), alts := dropAlts idx v.alts [] }

/-- The first site reaches the boundary at item `idx`, its last cycle having started at `tlast` on the time base (R170,
R209, R214). -/
def State.judgeBoundary (s : State) (k idx tlast : Nat) (js : List Jseg) : State :=
  let v := s.stream k
  let conds := (condsOf js).length
  let s := s.inc (pSTREAM k) STREAM_SQUASH conds
  if v.stopNext then
    s.setStream k { v with items := (v.items.take idx) ++ [.boundary [] (some 0), .halt 0xFFFF], alts := []
                           exp := { v.exp with ended := true } }
  else
    let (c, cond, late) := judge v tlast js 1 []
    let s := if late.isEmpty then s
      else (s.setBit (pSTREAM k) STREAM_FLAG 23 true).inc (pSTREAM k) STREAM_LATE late.length
    let failReq := match v.failReq with
      | some (t, carried) => if cond ≠ 3 ∧ late.contains 3 ∧ !carried then some (t, true) else none
      | none => none
    let v := v.settle idx c js
    s.setStream k { v with hostReq := if cond = 1 then none else v.hostReq
                           greenReq := if cond = 2 then none else v.greenReq
                           failReq := failReq }

/-- Did the boundary end its segment by a taken JSEG? -/
def jumpTaken (js : List Jseg) (c : Nat) : Bool := c != 0 || js.any (·.cond == 0)

/-! ### Parking and release (R207, R208) -/

/-- Cut off the edges of a waiting site's idle cycle in progress that fall at or after the release (R207); those of its
vectors stay. -/
def State.cutIdle (s : State) (n cyc : Nat) (t : Int) : State :=
  if cyc < (s.site n).waitFrom then s
  else (s.octetsOf n).foldl (fun (s : State) o => (List.range 8).foldl (fun (s : State) i =>
    let c := s.chan (8 * o + i)
    s.setChan (8 * o + i) { c with edges := c.edges.filter (fun e => !(e.cyc == cyc && decide (t ≤ e.time))) }) s) s

/-- The segments that an overflow-parked site passed over on its way to item `idx` (R208): their records are closed
with SKIPPED, and the segment it resumes in is opened. -/
def State.skipSegments (s : State) (n k idx t : Nat) (intoSeg : Bool) : State :=
  let v := s.site n
  let items : List Item := (s.stream k).items
  let segs : List Nat := ((List.range idx).filter (fun i => decide (v.cur ≤ i))).filterMap (fun i =>
    match items[i]? with
    | some (Item.seg _ _ segid ..) => some segid
    | _ => none)
  if segs.isEmpty ∧ !intoSeg then s
  else
    let s := s.closeSeg n t
    let v := s.site n
    let skipped (i segid : Nat) : SegAcc :=
      { num := v.segNum + 1 + i, stream := k, segid := segid, void := true, skipped := true, diverged := true, tend := s.siteTime t }
    let passed := if intoSeg then segs else segs.dropLast
    let recs := (List.range passed.length).map (fun i => skipped i (passed.getD i 0))
    let num := v.segNum + passed.length
    let cur : Option SegAcc := if intoSeg then none
      else segs.getLast?.map (fun g => { num := num + 1, stream := k, segid := g, void := true, diverged := true })
    let s := s.setSite n { v with ended := v.ended ++ recs, seg := cur, segNum := if cur.isSome then num + 1 else num }
    s.setBit (pSITE n) SITE_FLAG 23 true

/-- Release the waiting sites of a stream at time `t`, and with them the overflow-parked ones (R207, R208). -/
def State.release (s : State) (k t : Nat) : State :=
  let waiting := (s.liveSites k).filter (fun n => s.siteSt n == tPARKED && (s.site n).waitAt.isSome)
  match waiting with
  | [] => s
  | w :: _ =>
    let wv := s.site w
    let idx := wv.waitAt.getD 0
    let atSeg := match (s.stream k).items[idx]? with
      | some (.seg ..) => true
      | _ => false
    let overs := (s.liveSites k).filter (fun n => s.siteSt n == tPARKED && (s.preason n == 3) && !(s.site n).stopped)
    let s := overs.foldl (fun (s : State) n =>
      let s := s.skipSegments n k idx t atSeg
      s.setSite n { s.site n with cur := idx, off := 0, subptr := wv.subptr, pos := wv.pos, codes := wv.codes
                                  inMatch := false, waitAt := some idx }) s
    (waiting ++ overs).foldl (fun (s : State) n =>
      let v := s.site n
      let s := s.cutIdle n v.tcyc ((t : Int) + s.skew)
      ((s.setSite n { v with passed := some idx, waitAt := none, tnext := t }).setSiteSt n tACTIVE).setFld
        (pSITE n) SITE_STAT 20 19 0) s

/-- Release if no site of the stream is ACTIVE (R207). -/
def State.checkRelease (s : State) (k t : Nat) : State :=
  if (s.liveSites k).any (fun n => s.siteSt n == tACTIVE && !(s.site n).stopped) then s else s.release k t

/-- A site reaches an ALIGN (reason 1) or a REJOIN boundary (reason 2) at time `t`. -/
def State.arrive (s : State) (k n reason t : Nat) : State :=
  let v := s.site n
  if v.waitAt.isSome then s
  else
    let s := ((s.setSite n { v with waitAt := some v.cur, waitFrom := t }).setSiteSt n tPARKED).setFld
      (pSITE n) SITE_STAT 20 19 reason
    s.checkRelease k t

/-! ### Markers between vectors -/

/-- What a site does in its next cycle. -/
inductive Todo
  | vec (pos : Nat) (codes tsets : List Nat)
  | idle (form : Nat)
  /-- No entry for the next vector (R210). -/
  | empty
  deriving DecidableEq, Repr

/-- A time of a site's cycles with SKEW_OFS, where its cycles really start (R227). -/
def State.skewed (s : State) (t : Nat) : Nat := ((t : Int) + s.skew).toNat

/-- The end of a match iteration at time `t` (R179 to R181, R197); the next one starts with the sets that the body's TSWs
left (R183). -/
def State.endIteration (s : State) (k n back t : Nat) (tsets : List Nat) : State :=
  let v := s.site n
  let max := match (s.stream k).items[v.cur - back]? with
    | some (.matchBegin m) => m
    | _ => 1
  let first := v.matchAt.isNone && v.iterOk
  let m := if first then some v.iterStrobe else v.matchAt
  let v : Site := if first then { v with matchAt := m, decisions := v.decisions ++ [⟨v.iterStrobe + 60000, v.segNum, .matched⟩] } else v
  let due : Bool := match m with
    | some x => decide (x + 60000 ≤ s.skewed t)
    | none => false
  if due ∨ max ≤ v.iter then
    let v : Site := if m.isNone then { v with decisions := v.decisions ++ [⟨v.iterStrobe + 60000, v.segNum, .loopEnd false⟩] } else v
    let st := s.stream k
    let s := if st.left.contains v.cur then s
      else (s.setStream k { st with left := v.cur :: st.left }).inc (pSTREAM k) STREAM_SQUASH
    (s.setSite n { v with inMatch := false, loopSets := none, cur := v.cur + 1, off := 0 }).fire (140 + k) t
  else s.setSite n { v with iter := v.iter + 1, iterOk := true, loopSets := some tsets, cur := v.cur - back + 1, off := 0 }

/-- A site reaches a HALT (R173, R213). -/
def State.reachHalt (s : State) (k n code : Nat) : State :=
  let s := s.setBit (pSITE n) SITE_STAT 17 true
  let s := s.setSite n { s.site n with stopped := true }
  if s.strSt k = sRUNNING ∨ s.strSt k = sHOLDING then
    (s.setFld (pSTREAM k) STREAM_HALT 15 0 code).drain k (if (s.stream k).stopNext then 2 else 1)
  else s

/-- The first site reaches an invalid word at time `t` (R161, R215). -/
def State.reachInvalid (s : State) (k n addr t : Nat) : State :=
  if s.strSt k = sRUNNING ∨ s.strSt k = sHOLDING then
    let s := (s.setWide (pSTREAM k) STREAM_ERRA0 2 addr).voidAll k
    ((s.stopAll k 4 t).raiseD (pSTREAM k) 0x061 (.stream k)).stopSite n t true
  else s.stopSite n t true

/-- What follows a SEG: a vector or a place where the site stops or waits; an invalid word; or nothing yet. -/
inductive Follow
  | there | invalid | missing
  deriving DecidableEq, Repr

/-- What follows, past the markers that take effect with the vector. -/
def follow : List Item → Follow
  | [] => .missing
  | .invalid _ :: _ => .invalid
  | .matchBegin _ :: is => follow is
  | .subp _ :: is => follow is
  | _ :: _ => .there

/-- The sets of a vector of a match body: from the second iteration on, a column that no TSW of the body has switched yet
keeps the set that the body left (R183). -/
def bodySets (again : Option (List Nat)) (sw : Nat) (tsets : List Nat) : List Nat :=
  match again with
  | none => tsets
  | some ls => (List.range tsets.length).map (fun c => if nbit sw c then tsets.getD c 0 else ls.getD c 0)

/-- Pass the markers before a site's next vector at time `t`, at no cost in time, and say what its cycle is (R155). A SEG
takes effect with its first vector (R155, R167, R209); a segment that an invalid word ends is left open for R161. -/
def State.advance (s : State) (k n t : Nat) : Nat → Todo × State
  | 0 => (.empty, s)
  | fuel + 1 =>
    let v := s.site n
    if v.stopped then (.idle (s.fldR (pSTREAM k) STREAM_CFG 20 20), s)
    else
      let next (s : State) : State := s.setSite n { s.site n with cur := v.cur + 1, off := 0 }
      match (s.stream k).items[v.cur]? with
      | none => (.empty, s)
      | some (.vec pos _ codes tsets _ sw) => (.vec (pos + v.off) codes (bodySets v.loopSets sw tsets), s)
      | some (.seg _ _ segid rejoin segstart _ holdcal) =>
        if rejoin ∧ v.cur ≠ 0 ∧ v.passed ≠ some v.cur then
          let s := s.arrive k n 2 t
          if (s.site n).passed = some v.cur then s.advance k n t fuel else (.idle 0, s)
        else match follow ((s.stream k).items.drop (v.cur + 1)) with
          | .missing => (.empty, s)
          | .invalid => (next (s.openSeg n k segid)).advance k n t fuel
          | .there =>
            let s := if holdcal ∨ v.cur = 0 then s else s.applyCal n v.tcyc t
            (next (s.startSeg n k segid t segstart)).advance k n t fuel
      | some (.boundary js settled) =>
        match settled, (s.stream k).items[v.cur + 1]? with
        | some _, some (.invalid _) => (next s).advance k n t fuel
        | some c, _ => (next (s.closeSeg n t (jumpTaken js c))).advance k n t fuel
        | none, _ => (s.judgeBoundary k v.cur (s.skewed v.tlast) js).advance k n t fuel
      | some (.matchBegin _) =>
        (next (s.setSite n { v with inMatch := true, iter := 1, iterOk := true, iterStrobe := t, matchAt := none, loopSets := none })).advance k n t fuel
      | some (.matchEnd back tsets) => (s.endIteration k n back t tsets).advance k n t fuel
      | some (.subp p) => (next (s.setSite n { v with subptr := p })).advance k n t fuel
      | some (.align form) =>
        if v.passed = some v.cur then (next s).advance k n t fuel
        else
          let s := s.arrive k n 1 t
          if (s.site n).passed = some v.cur then (next s).advance k n t fuel else (.idle form, s)
      | some (.halt code) => (s.reachHalt k n code).advance k n t fuel
      | some (.invalid a) => (s.reachInvalid k n a t).advance k n t fuel

/-! ### Edges (R226, R232 to R237, R377) -/

/-- Edge position E of edge `e` of pin `i` in a set (R228). -/
def State.edgePos (s : State) (o set i e : Nat) : Nat :=
  let x := s.tab (pOCTTM o) 0 (64 * set + (if i < 4 then 2 else 3))
  (s.tab (pOCTTM o) 0 (64 * set + 4 + 6 * i + e)).toNat + (bit x (6 * (i % 4) + e)).toNat * 2 ^ 24

/-- PERIOD of a set. -/
def State.setPeriod (s : State) (o set : Nat) : Nat := (s.tab (pOCTTM o) 0 (64 * set)).toNat

/-- FORMAT and CMODE of a pin. -/
def State.pinFormat (s : State) (o set i : Nat) : Nat := fld (s.tab (pOCTTM o) 0 (64 * set + 1)) (3 * i + 1) (3 * i)
def State.pinWindow (s : State) (o set i : Nat) : Bool := bit (s.tab (pOCTTM o) 0 (64 * set + 1)) (3 * i + 2)

/-- The drive edges of a code (Table 8.3): edge number and the state it takes the driver to, 0 low, 1 high, 2 off. -/
def driveEdges (fmt code : Nat) (wasDriving : Bool) : List (Nat × Nat) :=
  if code = cD0 ∨ code = cD1 then
    let d := if code = cD1 then 1 else 0
    if fmt = 0 then [(0, d)] else if fmt = 1 then [(0, d), (1, 0)] else if fmt = 2 then [(0, d), (1, 1)]
    else [(0, 1 - d), (1, d), (2, 1 - d)]
  else if code = cCP then [(0, 0), (1, 1), (2, 0)]
  else if code = cCN then [(0, 1), (1, 0), (2, 1)]
  else if wasDriving then [(3, 2)] else []

/-- Put an edge among edges in time order; of two at one picosecond the later in the list takes effect (R236). -/
def insertEdge : List DrvEdge → DrvEdge → List DrvEdge
  | [], e => [e]
  | x :: xs, e => if e.time < x.time then e :: x :: xs else if e.time = x.time then e :: xs else x :: insertEdge xs e

/-- Are two neighbours less than 400 ps apart (R236)? -/
def tooClose : Option Int → List DrvEdge → Bool
  | _, [] => false
  | some a, e :: es => decide (e.time - a < 400) || tooClose (some e.time) es
  | none, e :: es => tooClose (some e.time) es

/-- Place the drive edges of a cycle on a channel: earlier edges that would fall at or after one of them are dropped
(R236); those that have passed take effect. Answers the channel, EDGE_DROP and SHORT. -/
def Chan.place (c : Chan) (new : List DrvEdge) (now : Int) (drivingNow : Bool) : Chan × Bool × Bool :=
  let new := new.foldl insertEdge []
  let kept : List DrvEdge := match new with
    | e :: _ => c.edges.filter (fun x => decide (x.time < e.time))
    | [] => c.edges
  let passed := kept.filter (fun x => decide (x.time ≤ now))
  let left := kept.filter (fun x => decide (now < x.time))
  let drv : Nat := match passed.getLast? with | some (x : DrvEdge) => x.level | none => c.drv
  let lastAt : Option Int := match passed.getLast? with | some (x : DrvEdge) => some x.time | none => c.lastAt
  let before : Option Int := match left.getLast? with | some (x : DrvEdge) => some x.time | none => lastAt
  ({ c with drv := drv, driving := drivingNow, lastAt := lastAt, edges := left ++ new }, kept.length != c.edges.length,
   tooClose before new)

/-- Is an edge placed in a cycle of the site's period: not at or after twice that period where the column's set has
another one (R226)? -/
def State.edgeFits (s : State) (o set i e period : Nat) : Bool :=
  s.setPeriod o set == period || decide (s.edgePos o set i e < 2 * period)

/-- Place the drive edges of one pin's code in a site's cycle that starts at `t` with period `period` (R226, R233,
R377). A driver that is held in HIZ gets no edge (R61, R265, R283). -/
def State.placePin (s : State) (o set i code t period : Nat) : State :=
  let c := 8 * o + i
  let ch := s.chan c
  if s.driverHeld c then s.setChan c { ch with drv := 2, driving := false, edges := [] }
  else
  let all := driveEdges (s.pinFormat o set i) code ch.driving
  let fits (e : Nat × Nat) : Bool := s.edgeFits o set i e.1 period
  let corrOf (level : Nat) : Int := s.corr c (if level = 1 then 0 else if level = 0 then 1 else 2) - s.corr c 4
  let new := (all.filter fits).map (fun e =>
    { time := (t : Int) + s.edgePos o set i e.1 + s.skew + corrOf e.2, level := e.2, cyc := t, num := e.1 : DrvEdge })
  let (ch, drop, short) := ch.place new ((t : Int) + s.skew) (driving code)
  let s := s.setChan c ch
  let s := if drop ∨ !(all.all fits) then s.setBit (pOCTTM o) OCTTM_FLAG 23 true else s
  if short then s.setBit (pOCTTM o) OCTTM_FLAG 22 true else s

/-- Pattern pins of a site with their octet, lane and set: pin p is lane p mod 8 of column p div 8 (R154). -/
def State.pinsOf (s : State) (n : Nat) (tsets : List Nat) : List (Nat × Nat × Nat) :=
  let os := s.octetsOf n
  (List.range os.length).flatMap (fun c => (List.range 8).map (fun i => (os.getD c 0, i, tsets.getD c 0)))

/-- Place the drive edges of all pins of a site. -/
def State.placeAll (s : State) (n t period : Nat) (tsets codes : List Nat) : State :=
  (List.zip (s.pinsOf n tsets) codes).foldl (fun (s : State) x => s.placePin x.1.1 x.1.2.2 x.1.2.1 x.2 t period) s

/-- A column's set has another period (R226): PERMIS, once per segment and site, and the flag. -/
def State.notePeriods (s : State) (n period : Nat) (tsets : List Nat) : State :=
  let os := s.octetsOf n
  let bad := (List.range os.length).filter (fun c => s.setPeriod (os.getD c 0) (tsets.getD c 0) != period)
  match bad with
  | [] => s
  | c :: _ =>
    let s := bad.foldl (fun (s : State) c => s.setBit (pOCTTM (os.getD c 0)) OCTTM_FLAG 21 true) s
    if (s.site n).permis then s
    else (s.setSite n { s.site n with permis := true }).raiseN (pOCTTM (os.getD c 0)) 0x075

/-- The sets of some octets fail the parity check of a cycle that reads them: class D on the OCTTM page (R231). -/
def State.setErrors (s0 s : State) (n : Nat) (bad : List Nat) : State :=
  if (s.site n).tnext = (s0.site n).tnext then s
  else ((s.octetsOf n).filter bad.contains).foldl (fun (s : State) o =>
    s.raise { cls := .d, code := 0x074, page := pOCTTM o, unit := .octet o }) s

/-- The injected parity error of the sets the formatter reads (R231, R254). -/
def State.setParity (s : State) (n : Nat) : State :=
  (s.octetsOf n).foldl (fun (s : State) o =>
    if s.bitR (pOCTTM o) PG_INJ 0 then
      (s.setBit (pOCTTM o) PG_INJ 0 false).raise { cls := .d, code := 0x074, page := pOCTTM o, unit := .octet o, inj := true }
    else s) s

/-- Begin a cycle of a site at `t`: the cycle counters count it, but not once the site has stopped (R205, R213, R227). -/
def State.beginCycle (s : State) (n t period : Nat) : State :=
  let os := if (s.site n).stopped then [] else s.octetsOf n
  let s := os.foldl (fun (s : State) o => s.setWide (pOCTTM o) OCTTM_CYC0 2 (s.wideR (pOCTTM o) OCTTM_CYC0 2 + 1)) s
  s.setSite n { s.site n with tcyc := t, tnext := t + period }

/-! ### A vector (R156 to R158, R179, R185, R186, R190, R192) -/

/-- Replace SUBD and SUBE by a site's bits in ascending pin order (R186): codes, each pin's last bit, the pointer, and
whether it wrapped. -/
def substitute (bitAt : Nat → Nat) : List Nat → List Nat → Nat → List Nat × List Nat × Nat × Bool
  | [], _, p => ([], [], p, false)
  | c :: cs, old, p =>
    if c = cSUBD ∨ c = cSUBE then
      let b := bitAt p
      let p' := if p = 24575 then 0 else p + 1
      let r := substitute bitAt cs old.tail p'
      ((if c = cSUBD then (if b = 1 then cD1 else cD0) else if b = 1 then cEH else cEL) :: r.1, b :: r.2.1, r.2.2.1,
       r.2.2.2 || p == 24575)
    else
      let r := substitute bitAt cs old.tail p
      (c :: r.1, old.headD 0 :: r.2.1, r.2.2.1, r.2.2.2)

/-- Bit `k` of a site's substitution table (R185). -/
def State.subBit (s : State) (n k : Nat) : Nat := (bit (s.tab (pSITE n) 0 (k / 24)) (23 - k % 24)).toNat

/-- The band that a strobed code expects (Table 6.1). -/
def expects (code : Nat) : Nat := if code = cEL then 0 else if code = cEH then 2 else 1

/-- The compare edges of a code (Table 8.3): C0, and C1 too in WINDOW mode. -/
def compareEdges (code : Nat) (window : Bool) : List Nat :=
  if strobed code then (if window then [4, 5] else [4]) else if code = cCAP then [4] else []

/-- When a compare edge of a pin falls, in ps after the start of the cycle: at E + SKEW_OFS + STRB + CARD (R233, R377). -/
def State.comparePos (s : State) (o set i e : Nat) : Int :=
  (s.edgePos o set i e : Int) + s.skew + s.corr (8 * o + i) 3 + s.corr (8 * o + i) 4

/-- The comparator's band on a channel `x` ps after the start of the cycle: each change of the pin's voltage up to then
moves it (R266). -/
def State.bandAt (s : State) (c : Nat) (p : PinIn) (x : Int) : Nat :=
  (p.volts.filter (fun e => decide (e.1 ≤ x))).foldl (fun b e => s.bandOf c b e.2) (s.chan c).band

/-- Is the pin in band `b` from `x` on and at every instant before `y` (R235)? -/
def State.bandHolds (s : State) (c b : Nat) (p : PinIn) (x y : Int) : Bool :=
  s.bandAt c p x == b &&
    (p.volts.filter (fun e => decide (x < e.1) && decide (e.1 < y))).all (fun e => s.bandAt c p e.1 == b)

/-- Does a pin pass its strobed code: in the expected band at C0, or over [C0, C1) (Table 8.3, R234, R235)? -/
def State.pinPasses (s : State) (o set i code : Nat) (p : PinIn) : Bool :=
  let c := 8 * o + i
  if s.pinWindow o set i then s.bandHolds c (expects code) p (s.comparePos o set i 4) (s.comparePos o set i 5)
  else s.bandAt c p (s.comparePos o set i 4) == expects code

/-- The strobe of a compare: C0 in EDGE mode, C1 in WINDOW mode (R234). -/
def State.strobePos (s : State) (o set i : Nat) : Int := s.comparePos o set i (if s.pinWindow o set i then 5 else 4)

/-- Are all compare edges of a pin's code placed (R226)? -/
def State.compares (s : State) (o set i code period : Nat) : Bool :=
  (compareEdges code (s.pinWindow o set i)).all (fun e => s.edgeFits o set i e period)

/-- The strobes of a vector: when, on the timing clock with SKEW_OFS, and whether it passes (R234). -/
def State.strobes (s : State) (n t period : Nat) (tsets codes : List Nat) (pins : List PinIn) : List (Nat × Bool) :=
  (List.zip (s.pinsOf n tsets) (List.zip codes (List.range codes.length))).filterMap (fun x =>
    let (o, i, set) := x.1
    let (c, p) := x.2
    if strobed c && s.compares o set i c period then
      some (((t : Int) + s.strobePos o set i).toNat, s.pinPasses o set i c (pins.getD p ⟨[]⟩))
    else none)

/-- A compare edge that is not placed sets EDGE_DROP on its column's page (R226). -/
def State.noteCompares (s : State) (n period : Nat) (tsets codes : List Nat) : State :=
  (List.zip (s.pinsOf n tsets) codes).foldl (fun (s : State) x =>
    let (o, i, set) := x.1
    if s.compares o set i x.2 period then s else s.setBit (pOCTTM o) OCTTM_FLAG 23 true) s

/-- The comparators of a site's channels follow what their pins did in the cycle (R266). -/
def State.noteBands (s : State) (n : Nat) (pins : List PinIn) : State :=
  let os := s.octetsOf n
  (List.range (8 * os.length)).foldl (fun (s : State) p =>
    match (pins.getD p ⟨[]⟩).volts with
    | [] => s
    | es =>
      let c := 8 * os.getD (p / 8) 0 + p % 8
      s.setChan c { s.chan c with band := es.foldl (fun b e => s.bandOf c b e.2) (s.chan c).band }) s

/-- Record the strobes outside a match body: fails, the first fail, and the fail decisions (R29, R158, R217). -/
def State.recordFails (s : State) (n pos : Nat) (sts : List (Nat × Bool)) : State :=
  let fs := sts.filter (fun x => !x.2)
  if fs.isEmpty then s
  else
    let v := s.site n
    let times := fs.foldl (fun (a : List Nat) x => if a.contains x.1 then a else a ++ [x.1]) []
    let seg := v.seg.map (fun g => { g with fails := satAdd 0xFFFFFF g.fails fs.length
                                            firstFail := if g.firstFail.isSome then g.firstFail else some pos })
    ((s.setSite n { v with seg := seg, decisions := v.decisions ++ times.map (fun x => ⟨x + 60000, v.segNum, .fail⟩) }).incSat
      (pSITE n) SITE_FAILS fs.length).setBit (pSITE n) SITE_FLAG 19 true

/-- Strobes inside a match body feed the match decision only (R158, R179). -/
def State.recordMatch (s : State) (n : Nat) (sts : List (Nat × Bool)) : State :=
  if sts.isEmpty then s
  else
    let v := s.site n
    s.setSite n { v with iterOk := v.iterOk && sts.all (·.2), iterStrobe := (sts.map (·.1)).foldl max 0 }

/-- The STROBE samples of a vector (Table 11.1). -/
def State.sampleStrobes (s : State) (n t period : Nat) (tsets codes : List Nat) (pins : List PinIn) : State :=
  let os := s.octetsOf n
  (List.range os.length).foldl (fun (s : State) c =>
    let u := os.getD c 0
    let all := bit (s.acqW u 0) 13
    let set := tsets.getD c 0
    let taken (i : Nat) : Bool :=
      let x := codes.getD (8 * c + i) 0
      (x == cCAP || (all && strobed x)) && s.compares u set i x period
    let at1 (i : Nat) : Int := if codes.getD (8 * c + i) 0 = cCAP then s.comparePos u set i 4 else s.strobePos u set i
    let last : Int := ((List.range 8).filter taken).foldl (fun a i => max a (at1 i)) 0
    if (List.range 8).any taken then
      s.strobeSample u (s.siteTime t) ((List.range 8).foldl (fun a i =>
        a + (if taken i then s.bandAt (8 * u + i) (pins.getD (8 * c + i) ⟨[]⟩) (at1 i) else 3) * 4 ^ i) 0)
        ((((t : Int) + last).toNat + 624) / 625)
    else s) s

/-- The expander writes a vector that is committed for the first time into the slip region; a lane's code lies in its four
bits (R135, R192). False where a bank fails (R128). -/
def State.storeSlip (s : State) (k pos : Nat) (codes : List Nat) : Bool × State :=
  let w := s.width k
  (List.range w).foldl (fun (a : Bool × State) c =>
    let (good, s) := a.2.writeSlip k w pos c ((List.range 8).foldl (fun x i => x + codes.getD (8 * c + i) 0 * 16 ^ i) 0)
    (a.1 && good, s)) (true, s)

/-- Every column's reader of a site reads the bank word of vectors 3q to 3q + 2 of a slip region (R135): whether all
banks deliver it. -/
def State.readSlipWord (s : State) (k n q : Nat) : Bool × State :=
  let w := s.width k
  (List.range w).foldl (fun (a : Bool × State) c =>
    match a.2.regionWord k (q % 21846 * w + c) with
    | some (b, row) =>
      let (good, s) := a.2.bankCheck b ⟨1, s.column n c, row, none⟩
      (a.1 && good, s)
    | none => (false, a.2)) (true, s)

/-- A site behind H takes the vector at `pos` from the read buffers of its slip rings, which read on up to 192 vectors
ahead of it (R140, R192): whether that vector was delivered, and whether every access was (R128). -/
def State.readSlip (s : State) (k n pos : Nat) : (Bool × Bool) × State :=
  let v := s.site n
  let upto := min (s.stream k).h (pos + 192)
  let b := if v.rbuf.1 ≤ pos ∧ pos ≤ v.rbuf.2 then v.rbuf.2 else pos
  let qs := (List.range ((upto + 2) / 3 - b / 3)).map (b / 3 + ·)
  let r := qs.foldl (fun (a : (Nat × Bool) × State) q =>
    if a.1.2 then
      match a.2.readSlipWord k n q with
      | (true, s) => ((min (3 * q + 3) upto, true), s)
      | (false, s) => ((a.1.1, false), s)
    else a) ((b, true), s)
  ((decide (pos < r.1.1), r.1.2), r.2.setSite n { r.2.site n with rbuf := (pos, r.1.1) })

/-- Move H and the site's position for a vector at `pos` committed in the cycle that starts at `t`; other sites that fall
more than 65,536 behind park with OVERFLOW at their next cycle (R190 to R194). -/
def State.movePos (s : State) (k n pos t segid : Nat) (codes : List Nat) : State :=
  let v := s.site n
  let s := s.setSite n { v with pos := pos, top := max v.top (pos + 1) }
  let s := s.setWide (pSITE n) SITE_POS0 2 (max v.top (pos + 1) - 1)
  let st := s.stream k
  let s : State :=
    if st.h ≤ pos then
      let (good, s) := (s.setStream k { st with h := pos + 1 }).storeSlip k pos codes
      let s := if good then s else s.streamFail k 0x064
      let s := (s.setWide (pSTREAM k) STREAM_HPOS0 2 pos).setReg (pSTREAM k) STREAM_SEG (word (at_ 16 1 + segid))
      ((s.liveSites k).filter (fun m => m != n && !(s.site m).stopped && s.preason m != 3)).foldl (fun (s : State) m =>
        let x := s.site m
        let atAlign : Bool := match (s.stream k).items[x.cur]? with
          | some (.align _) => decide (t ≤ x.tnext)
          | _ => false
        if 65536 < pos - x.pos ∧ x.top ≠ 0 ∧ (s.siteSt m = tPARKED ∨ t < x.tnext) ∧ !(x.waitAt.isSome ∧ x.waitFrom = t) ∧ !(atAlign ∧ x.waitAt.isNone) then
          s.setSite m { x with overDue := true }
        else s) s
    else s
  s.noteSlips k t

/-- A site commits a pattern vector in the cycle that starts at `t` (R205). -/
def State.commitVec (s : State) (k n t pos : Nat) (codes tsets : List Nat) (pins : List PinIn) : State :=
  let v := s.site n
  let os := s.octetsOf n
  let period := s.setPeriod (os.headD 0) (tsets.headD 0)
  let (cs, bits, ptr, wrap) := substitute (s.subBit n) codes v.bits v.subptr
  let sts := s.strobes n t period tsets cs pins
  let s := (s.beginCycle n t period).setParity n
  let s := ((s.notePeriods n period tsets).noteCompares n period tsets cs).placeAll n t period tsets cs
  let v := s.site n
  let n_ := match (s.stream k).items[v.cur]? with
    | some (.vec _ m ..) => m
    | _ => 1
  let s := s.setSite n { v with
    codes := codes, bits := bits, subptr := ptr, tsets := tsets, tlast := t
    cur := if v.off + 1 = n_ then v.cur + 1 else v.cur
    off := if v.off + 1 = n_ then 0 else v.off + 1
    xrun := List.zipWith (fun c x => if c = cX then x + 1 else 0) codes (v.xrun ++ List.replicate codes.length 0)
    seg := v.seg.map (fun g => { g with subwrap := g.subwrap || wrap }) }
  let s := if wrap then s.setBit (pSITE n) SITE_FLAG 21 true else s
  let s := if (s.site n).inMatch then s.recordMatch n sts else s.recordFails n pos sts
  let s := ((s.sampleStrobes n t period tsets cs pins).noteBands n pins).gleanTick n
  s.movePos k n pos t (((s.site n).seg.map (·.segid)).getD 0) codes

/-- The drive code of an idle vector (R188). -/
def idleCode (form code b : Nat) : Nat :=
  if form = 1 then cDZ
  else if code = cD0 ∨ code = cD1 then code
  else if code = cCP then cD0
  else if code = cCN then cD1
  else if code = cSUBD then (if b = 1 then cD1 else cD0)
  else cDZ

/-- A site holds an idle vector in the cycle that starts at `t` (R188, R225). -/
def State.commitIdle (s : State) (n t form : Nat) : State :=
  let v := s.site n
  let period := s.setPeriod ((s.octetsOf n).headD 0) (v.tsets.headD 0)
  let s := ((s.beginCycle n t period).setParity n).notePeriods n period v.tsets
  (s.placeAll n t period v.tsets (List.zipWith (idleCode form) v.codes (v.bits ++ List.replicate v.codes.length 0))).incSat
    (pSITE n) SITE_IDLES

/-- A site holds a held cycle (R211): drive states stay, every compare is masked. -/
def State.commitHeld (s : State) (n t : Nat) : State :=
  let v := s.site n
  let period := s.setPeriod ((s.octetsOf n).headD 0) (v.tsets.headD 0)
  let s := ((s.beginCycle n t period).setParity n).notePeriods n period v.tsets
  let v' := s.site n
  let s := s.setSite n { v' with gapCycles := v.gapCycles + 1, gapPs := v.gapPs + period
                                 gapFrom := if v.gapCycles = 0 then t else v.gapFrom
                                 seg := v'.seg.map (fun g => { g with held := true }) }
  s.markUnits n (fun u => { u with held := true })

/-- The hold of a site is over: its gap record (R211, R323). -/
def State.endGap (s : State) (n : Nat) : State :=
  let v := s.site n
  if v.gapCycles = 0 then s
  else
    (s.setSite n { v with gapCycles := 0, gapPs := 0 }).siteGap n
      { cause := 1, tstart := s.siteTime v.gapFrom, lenps := v.gapPs, count := v.gapCycles }

/-- The stream starves at a site whose next vector is missing at `t` (R210 to R212). -/
def State.starve (s : State) (k n t : Nat) : State :=
  let r := s.rfl_ k
  let s := s.setRefill k { r with empty := r.empty + 1 }
  let v := s.stream k
  if v.exp.pause.isSome then
    let s := s.setStream k { v with hold := some (t, n), resume := none }
    let s := ((s.setStrSt k sHOLDING).inc (pSTREAM k) STREAM_HOLDS).setBit (pSTREAM k) STREAM_FLAG 21 true
    (s.fire (144 + k) t).commitHeld n t
  else
    let s := ((s.voidAll k).stopAll k 3 t).raiseD (pSTREAM k) 0x060 (.stream k)
    (s.stopSite n t true).commitIdle n t (s.fldR (pSTREAM k) STREAM_CFG 20 20)

/-- Does a HALT follow with no vector before it? `tlast` judges a boundary that no site has reached (R170). -/
def haltNext (v : Stream) (tlast : Nat) : List Item → Bool
  | .halt _ :: _ => true
  | .align _ :: is => haltNext v tlast is
  | .subp _ :: is => haltNext v tlast is
  | .boundary js none :: is => (judge v tlast js 1 []).1 == 0 && haltNext v tlast is
  | .boundary _ (some _) :: is => haltNext v tlast is
  | _ => false

/-- Has the site committed the last vector before its HALT (R214)? -/
def State.atHalt (s : State) (k n : Nat) : Bool :=
  haltNext (s.stream k) (s.skewed (s.site n).tlast) ((s.stream k).items.drop (s.site n).cur)

/-- What a site does in its cycle at `t`. Where its next vector has not been expanded, the expander goes on as far as the
resident windows allow (R23, R28, R195, R210); a bank access that fails then stops the stream (R128). -/
def State.nextTodo (s : State) (k n t : Nat) : Todo × State :=
  match s.advance k n t ((s.stream k).items.length + 4) with
  | (.empty, s) =>
    match s.expandMore k (s.imageLen k + 64) with
    | (s, true) => (.empty, s.streamFail k 0x064)
    | (s, false) => s.advance k n t ((s.stream k).items.length + 4)
  | r => r

/-- Has another ACTIVE site of the stream a cycle at or before `t` still to be decided? -/
def State.othersDue (s : State) (k n t : Nat) : Bool :=
  (s.liveSites k).any (fun m => m != n && s.siteSt m == tACTIVE && !(s.site m).stopped && decide ((s.site m).tnext ≤ t))

/-- One cycle of a site: a vector, an idle vector or a held cycle (R205). A site that waits at an ALIGN or REJOIN begins
its idle cycle at `t` only once no ACTIVE site has a cycle at or before `t` to decide: one that reaches the boundary then
releases them all at `t` (R172, R187, R207). -/
def State.cycle (s : State) (n : Nat) (pins : List PinIn) : State :=
  let k := s.siteStream n
  let st := s.strSt k
  let v := s.site n
  let t := v.tnext
  if !v.begun ∨ s.run.safe ∨ !(s.siteSt n = tACTIVE ∨ s.siteSt n = tPARKED) ∨ !(st = sRUNNING ∨ st = sHOLDING ∨ st = sDRAINING) then s
  else
    let s := s.toPs t
    let endForm := s.fldR (pSTREAM k) STREAM_CFG 20 20
    let stopNow : Bool := match (s.stream k).stopAt with
      | some u => decide (u ≤ t) && !v.stopped
      | none => false
    let held : Bool := match (s.stream k).hold with
      | some (h, _) => s.siteSt n == tACTIVE && !v.stopped && decide (h ≤ t) &&
          (match (s.stream k).resume with | some e => decide (t < e) | none => st == sHOLDING)
      | none => false
    if stopNow then
      let missing : Bool := (s.nextTodo k n t).1 == .empty
      let s : State := if missing ∧ (s.stream k).stopAt = some t ∧ s.fldR (pSTREAM k) STREAM_STAT 19 16 = 2
          ∧ (s.stream k).exp.pause.isNone then
          (s.setFld (pSTREAM k) STREAM_STAT 19 16 3).raiseD (pSTREAM k) 0x060 (.stream k)
        else s
      let s := s.endGap n
      if s.atHalt k n then
        let (_, s') := s.advance k n t ((s.stream k).items.length + 4)
        (if (s'.site n).stopped then s' else s.stopSite n t false).commitIdle n t endForm
      else (s.stopSite n t true).commitIdle n t endForm
    else if held then s.commitHeld n t
    else if v.overDue ∧ !v.stopped then ((s.overflow k n).checkRelease k t).commitIdle n t 1
    else if s.preason n = 3 ∧ s.siteSt n = tPARKED then s.commitIdle n t (if v.stopped then endForm else 1)
    else
      let s := s.endGap n
      match s.nextTodo k n t with
      | (.idle form, s) => if (s.site n).waitAt.isSome && s.othersDue k n t then s else s.commitIdle n t form
      | (.empty, s) => if s.strSt k = sDRAINING then (s.stopSite n t true).commitIdle n t endForm else s.starve k n t
      | (.vec pos codes tsets, s) =>
        if pos + 65537 < (s.stream k).h ∧ s.siteSt n = tACTIVE then ((s.overflow k n).checkRelease k t).commitIdle n t 1
        else if pos < (s.stream k).h then
          let ((good, all), s) := s.readSlip k n pos
          let s := if all then s else s.streamFail k 0x064
          let now : Bool := match (s.stream k).stopAt with
            | some u => decide (u ≤ t)
            | none => false
          if good && !now then s.commitVec k n t pos codes tsets pins
          else (s.stopSite n t true).commitIdle n t endForm
        else s.commitVec k n t pos codes tsets pins

/-! ### Decisions, records, the end of a stream -/

/-- Set the MATCH_FAIL of the segment a decision belongs to (R181). -/
def Site.matchFail (v : Site) (num : Nat) : Site :=
  { v with seg := v.seg.map (fun g => if g.num = num then { g with matchFail := true } else g)
           ended := v.ended.map (fun g => if g.num = num then { g with matchFail := true } else g) }

/-- The oldest decision of a site is made, L_M after its strobe (R29, R169, R179, R181). -/
def State.makeDecision (s : State) (n : Nat) : State :=
  let v := s.site n
  match v.decisions with
  | [] => s
  | d :: ds =>
    let s := s.toPs d.time
    let v := { v with decisions := ds }
    match d.kind with
    | .matched => s.setSite n v
    | .loopEnd true => s.setSite n v
    | .loopEnd false => (s.setSite n (v.matchFail d.seg)).setBit (pSITE n) SITE_FLAG 22 true
    | .fail =>
      let k := s.siteStream n
      let s := s.setSite n v
      if s.siteSt n = tACTIVE then
        let st := s.stream k
        let s := if st.failReq.isNone then s.setStream k { st with failReq := some (d.time, false) } else s
        s.fire (136 + k) d.time
      else s

/-- Hand a site's oldest ended record to acquisition, once its decisions are made (R217, R323). -/
def State.closeRecord (s : State) (n : Nat) : State :=
  let v := s.site n
  match v.ended with
  | [] => s
  | g :: gs =>
    if v.decisions.any (fun d => d.seg ≤ g.num) then s
    else
      let s := s.setSite n { v with ended := gs }
      let ws := g.words n
      if s.ringFree 128 < 8 then
        s.siteGap n { cause := 5, tstart := g.tend, lenps := 0, count := 1, aux0 := g.fails
                      aux1 := (ws.getD 1 0).toNat, aux2 := g.segid, aux3 := g.segid }
      else if s.ringFails 128 8 then
        s.siteGap n { cause := 5, tstart := g.tend, lenps := 0, count := 1, aux0 := g.fails
                      aux1 := (ws.getD 1 0).toNat, aux2 := g.segid, aux3 := g.segid }
      else s.ringPut 128 (128 + n) ws

/-- A stream goes to STOPPED: its ACTIVE and PARKED sites go to ASSIGNED, hedged ones retire (Tables 7.3, 7.6). -/
def State.toStopped (s : State) (k : Nat) : State :=
  let s := (s.liveSites k).foldl (fun (s : State) n => (s.toAssigned n).setFld (pSITE n) SITE_STAT 20 19 0) s
  ((s.setStrSt k sSTOPPED).setStream k
    { s.stream k with hostReq := none, greenReq := none, failReq := none, stopAt := none, hold := none, resume := none
                      stopNext := false, startAt := none, alts := [] }).retire k

/-- Is a DRAINING stream done: every site stopped, every decision made, every record closed (Table 7.3)? -/
def State.drained (s : State) (k : Nat) : Bool :=
  s.strSt k == sDRAINING && (s.sitesOf k).all (fun n =>
    let v := s.site n
    let live := s.siteSt n == tACTIVE || s.siteSt n == tPARKED
    (!live || v.stopped || s.preason n == 3) && v.decisions.isEmpty && v.ended.isEmpty)

/-- DRAINING to STOPPED. A site still parked with OVERFLOW has its passed segments reported first (R208). -/
def State.drainDone (s : State) (k : Nat) : State :=
  if s.drained k then
    let overs := (s.liveSites k).filter (fun n => s.preason n == 3 && (s.site n).seg.isSome)
    if overs.isEmpty then s.toStopped k
    else overs.foldl (fun (s : State) n =>
      let t := (s.site n).tnext
      let s := s.skipSegments n k (s.stream k).items.length t true
      s.setSite n { s.site n with stopped := true, cur := (s.stream k).items.length }) s
  else s

/-- Class H and class G stop a stream at once (R215): segments void and closed, sites to ASSIGNED, WHY CLASS_H. -/
def State.stopForClassH (s : State) (k : Nat) : State :=
  if s.strBusy k then
    let s := if s.strSt k = sARMED then s else (s.liveSites k).foldl (fun (s : State) n =>
      let s := (s.voidSeg n).endGap n
      s.closeSeg n s.ps) s
    let s := if s.strSt k = sRUNNING ∨ s.strSt k = sHOLDING then s.drain k 7 else s
    (s.setFld (pSTREAM k) STREAM_STAT 19 16 7).toStopped k
  else s

end Sys2Proof.Machine
end

