-- ==== Sys2Proof/Machine/TimeOps.lean ====
section
/-!
DEFINITION. The timing clock's happenings and the analog settings: Bell, epoch, start events, TRG lines, PLL, load
strobes, span sequences, converters, tone and rails (R203, R204, R222 to R224, R239 to R251, R256 to R285).
-/
namespace Sys2Proof.Machine

/-- The time base at an edge to come. -/
def State.baseAtEdge (s : State) (e : Nat) : Nat := s.baseAt (e * 625)

/-- The first edge, not before the present one, at which the time base is at or after `b`. -/
def State.edgeOfBase (s : State) (b : Nat) : Nat := s.time.edge + (b - s.time.base + 624) / 625

/-- The first edge after the present one at which the time base is a multiple of `n` cycles; none where it never is
(R273, R276). -/
def State.gridEdge (s : State) (n : Nat) : Option Nat :=
  if s.time.base % 625 = 0 ∧ n ≠ 0 then some (s.time.edge + (n - s.time.base / 625 % n)) else none

/-! ### Start events (R203, R204) -/

/-- Is the run-ahead of a stream full, or does it hold every vector up to a HALT, so that PRIMED becomes 1 (R203)? It is
full where it has no room for a vector more (R195, R196; log entry 26). -/
def State.primeReady (s : State) (k : Nat) : Bool :=
  let v := s.stream k
  s.strSt k == sARMED && (v.exp.ended || v.room 0 == 0)

/-- PRIMED sets; streams armed together with START = NOW start when the last of them is PRIMED (R203, R204). -/
def State.prime (s : State) (k : Nat) : State :=
  if s.primeReady k ∧ !s.bitR (pSTREAM k) STREAM_STAT 20 then (s.setBit (pSTREAM k) STREAM_STAT 20 true).startNow else s

/-- The start event takes effect (Table 7.3): RUNNING, and the marked sites' first cycles are due 64 cycles later, or
DRAINING where every marked site has been hedged (Table 7.7); or MISSED_START. -/
def State.start (s : State) (k : Nat) : State :=
  let v := s.stream k
  match v.startAt with
  | none => s
  | some (e, primed) =>
    let s := s.toEdge e
    if s.strSt k ≠ sARMED then s.setStream k { v with startAt := none }
    else if primed then
      let s := (s.setStream k { v with startAt := none }).setStrSt k sRUNNING
      (bitsOf 64 v.marked).foldl (fun (s : State) n =>
        if s.siteSt n = tASSIGNED ∧ s.siteStream n = k then s.setSite n { s.site n with tnext := (e + 64) * 625 } else s) s
        |>.checkNoSite k
    else ((s.setStream k { v with startAt := none }).setBit (pSTREAM k) STREAM_FLAG 22 true).raiseN (pSTREAM k) 0x062

/-- A marked site's first cycle begins: ACTIVE, OCTTM_TSTART (Table 7.6, R227). -/
def State.firstCycle (s : State) (n : Nat) : State :=
  let k := s.siteStream n
  let v := s.site n
  if s.siteSt n = tASSIGNED ∧ nbit (s.stream k).marked n ∧ (s.strSt k = sRUNNING ∨ s.strSt k = sHOLDING ∨ s.strSt k = sDRAINING)
      ∧ !v.begun then
    let s := (s.toPs v.tnext).setSiteSt n tACTIVE
    let s := (s.octetsOf n).foldl (fun (s : State) o => s.setWide (pOCTTM o) OCTTM_TSTART0 3 (s.siteTime v.tnext)) s
    s.setSite n { v with begun := true }
  else s

/-! ### The PLL (R222 to R224) -/

/-- The comparison of the time-base counter with its duplicate, made while it runs: PG_INJ of page TBASE makes it fail,
class H with source TBASE_CMP (R252). -/
def State.compareTime (s : State) : State :=
  if s.bitR pTBASE PG_INJ 0 ∧ s.locked then
    (s.setBit pTBASE PG_INJ 0 false).raise { cls := .h, code := 0x073, page := pTBASE, inj := true }
  else s

/-- The PLL locks: the time base starts at 0 from the first reference edge (R241). -/
def State.lock (s : State) : State :=
  let s := s.toEdge (refEdge (s.time.edge + 1))
  let s := { s with time := { s.time with base := 0, bells := [], lastHigh := none, gen := none, send := none } }
  (((s.setBit pTBASE TBASE_STAT 23 true).setBit pTBASE TBASE_STAT 22 true).setBit pTBASE TBASE_STAT 21 false).compareTime

/-! ### The Bell (R239 to R244) -/

/-- TBASE_CFG.BELLO. -/
def State.bello (s : State) : Nat := s.fldR pTBASE TBASE_CFG 23 22

/-- Is a generated pulse pending or in progress (R244, TBASE_STAT.GENBUSY)? -/
def State.genBusy (s : State) : Bool :=
  match s.time.gen with
  | some g => decide (s.time.edge < g.rise + 16 * g.width)
  | none => false

/-- BELLO is held low from the present edge (R224, R244): pulses not yet risen do not come, one in progress ends. -/
def State.belloLow (s : State) : State :=
  let e := s.time.edge
  let cut (p : GenPulse) : GenPulse := if decide (e < p.rise + 16 * p.width) && p.cut.isNone then { p with cut := some e } else p
  { s with time := { s.time with gen := none, bello := (s.time.bello.filter (fun p => decide (p.rise ≤ e))).map cut } }

/-- A pulse of `w` high samples on BELL, B0 at the next reference edge (R239, R244). -/
def State.bellPulse (s : State) (w : Nat) : State :=
  if !s.locked ∨ w = 0 then s
  else
    let b0 := refEdge (s.time.edge + 1)
    let close : Bool := match s.time.lastHigh with
      | some l => decide (b0 ≤ l + 128)
      | none => false
    let kindBell := w = 1 ∨ w = 2
    let kindEpoch := 4 ≤ w ∧ w ≤ 6
    let s := s.toEdge (b0 + 16 * w)
    let s := { s with time := { s.time with
      lastHigh := some (b0 + 16 * (w - 1))
      bello := if s.bello = 1 then s.time.bello ++ [{ rise := b0 + 32, width := w, risen := true : GenPulse }] else s.time.bello } }
    if close ∨ !(kindBell ∨ kindEpoch) then
      (s.incFld pTBASE TBASE_BELLCNT 7 0).raiseN pTBASE 0x072
    else
      let s := if kindEpoch then s.incFld pTBASE TBASE_BELLCNT 15 8 else s
      { s with time := { s.time with bells := s.time.bells ++ [{ b0 := b0, epoch := decide kindEpoch : Bell }] } }

/-- The oldest sampled pulse registers, 128 cycles after B0 (R240 to R242, R251). The step ends past that edge, so that an
unlock at the same edge has come before it, and the Bell is not registered (Table 8.6). -/
def State.registerBell (s : State) : State :=
  match s.time.bells with
  | [] => s
  | b :: bs =>
    let s := s.toEdge (b.b0 + 129)
    let s := { s with time := { s.time with bells := bs } }
    let e := b.b0 + 128
    if !b.epoch then
      let s := (s.incFld pTBASE TBASE_BELLCNT 23 16).setWide pTBASE TBASE_BELLT0 3 (s.baseAtEdge e)
      let s := s.fire 164 (e * 625)
      (List.range 4).foldl (fun (s : State) k => if s.startMode k = 0 then s.startEvent k e else s) s
    else if s.bitR pTBASE TBASE_CFG 21 then
      let v := s.wideR pTBASE TBASE_EPOCH0 3 % 2 ^ 64
      let s := { s with time := { s.time with base := (v + 625 * (s.time.edge - e)) % 2 ^ 64 } }
      let s := ((s.setBit pTBASE TBASE_CFG 21 false).setBit pTBASE TBASE_STAT 21 true).setWide pTBASE TBASE_BELLT0 3 v
      let s := if s.time.send.isSome then
          ({ s with time := { s.time with send := none } }.setBit pSKEW SKEW_STAT 21 true)
        else s
      s.fire 165 (e * 625)
    else s

/-- TBASE_CMD accepted: a pulse of `w` periods at the first reference edge at least 1 µs after the command enters the
timing domain, which is now (R244, R458). -/
def State.genPulse (s : State) (w : Nat) : State :=
  { s with time := { s.time with gen := some { rise := refEdge (s.time.edge + 1600), width := w } } }

/-- TBASE_CFG after it is stored: where BELLO no longer carries what it did, its pulses end (R244). -/
def State.belloConfig (s0 s : State) : State := if s0.bello = s.bello then s else s.belloLow

/-- The generated pulse rises (R244). -/
def State.genRise (s : State) : State :=
  match s.time.gen with
  | some g =>
    if g.risen ∨ s.bello ≠ 2 ∨ !s.locked then s
    else
      let s := s.toEdge g.rise
      { s with time := { s.time with gen := some { g with risen := true }, bello := s.time.bello ++ [{ g with risen := true }] } }
  | none => s

/-! ### TRG lines and skew (R246 to R250) -/

/-- Accepted SKEW_CMD: 1 SEND, 2 LISTEN on a line (R247, R248). -/
def State.skewCommand (s : State) (act line : Nat) : State :=
  if act = 1 then { s with time := { s.time with send := some ⟨line, s.wideR pSKEW SKEW_AT0 3 % 2 ^ 64⟩ } }
  else { s with time := { s.time with listen := some line } }

/-- The SEND edge of a pending SEND: 8 cycles before the ball time; the pulse is 10 ns high (R224, R247, R250). -/
def State.sendEdge (s : State) : State :=
  match s.time.send with
  | none => s
  | some r =>
    if !s.locked then s
    else
    let ball := s.edgeOfBase r.time
    let s := s.toEdge (ball - 8)
    let t : Int := (s.baseAtEdge ball : Int) + s.skew
    let s : State := { s with time := { s.time with send := none, trgOut := s.time.trgOut ++ [⟨r.line, t, 10000⟩] } }
    (s.setWide pSKEW SKEW_TX0 3 (unsigned 64 t)).setBit pSKEW SKEW_STAT 23 true

/-- A pending SEND is cancelled (Table 8.6, SKEW_TRG). -/
def State.cancelSend (s : State) : State :=
  if s.time.send.isSome then
    ({ s with time := { s.time with send := none } }.setBit pSKEW SKEW_STAT 21 true)
  else s

/-- A rising edge arrives at a TRG ball at time `t` of the timing clock in ps (R248, R250). -/
def State.trgReceive (s : State) (line t : Nat) : State :=
  if !s.locked ∨ nbit (s.fldR pSKEW SKEW_TRG 3 0) line then s
  else
    let t := max t s.ps
    if s.time.trgLast.any (fun x => x.1 == line && decide (t < x.2 + 5000)) then s
    else
      let s : State := s.toPs t
      let tag := unsigned 64 ((s.baseAt t : Int) - s.skew)
      let s : State := { s with time := { s.time with trgLast := (line, t) :: s.time.trgLast.filter (fun x => x.1 != line) } }
      let s : State := if s.time.listen = some line then
          ({ s with time := { s.time with listen := none } }.setWide pSKEW SKEW_RX0 3 tag).setBit pSKEW SKEW_STAT 22 true
        else s
      s.fire (160 + line) (((t + 624) / 625 + 4) * 625) (some tag)

/-! ### Level tables and load strobes (R256 to R264) -/

/-- Does the word break R258, in the staged table as it stands? LEGACY is span 4 of a pin voltage. -/
def State.levelBad (s : State) (o idx : Nat) (new : Word) : Bool :=
  let lane := 16 * (idx / 16)
  let w := idx % 16
  let word_ (j : Nat) : Word := if j = w then new else s.tab (pOCTPE o) 0 (lane + j)
  if w = 14 ∨ w = 15 then new != 0
  else if w = 13 ∧ fld new 23 12 ≠ 0 then true
  else (List.range 12).any (fun k =>
    let sp := spanOf (word_ 12) (word_ 13) k
    decide (spansOf k ≤ sp) || (sp == 4 && fld (word_ k) 7 0 != 0))

/-- The span sequences a strobe starts on a lane: the levels whose span changes. -/
def spanChanges (a0 a1 b0 b1 : Word) : List Nat := (List.range 12).filter (fun k => spanOf a0 a1 k != spanOf b0 b1 k)

/-- The staged tone settings as they would take effect (R277). -/
def State.stagedTone (s : State) (o : Nat) : Tone :=
  { en := s.bitR (pOCTPE o) OCTPE_TONECFG 23, lane := s.fldR (pOCTPE o) OCTPE_TONECFG 22 20
    tdiv := s.fldR (pOCTPE o) OCTPE_TONECFG 15 0, amp := s.fldR (pOCTPE o) OCTPE_TONEAMP 15 0
    ftw := s.wideR (pOCTPE o) OCTPE_TONEFTW0 2, poff := s.fldR (pOCTPE o) OCTPE_TONEPH 11 0 }

/-- Step 3 of a span sequence moves its levels to the codes given (Table 9.4). -/
def SpanSeq.aim (q : SpanSeq) (code : Nat → Nat) : SpanSeq :=
  { q with levels := q.levels.map (fun l => { l with target := some (code l.level) }) }

/-- A load strobe reaches one octet at edge `e` (R260 to R263, R277, R284): a level whose span changes starts its span
sequence; one in step 3 of its sequence moves to the new code (Table 9.4). -/
def State.strobeOctet (s : State) (o e : Nat) : State :=
  let p := pOCTPE o
  let s := if s.bitR p PG_INJ 0 then
      (s.setBit p PG_INJ 0 false).raise { cls := .d, code := 0x080, page := p, unit := .octet o, inj := true }
    else s
  let v := s.oct o
  let held (i : Nat) : Bool := v.pmu.any (fun x => x.1 == i)
  let isLate (idx : Nat) : Bool := held (idx / 16) && (8 ≤ idx % 16 && (idx % 16 ≤ 11 || idx % 16 == 13))
  let seqs := (List.range 8).filterMap (fun i =>
    let ls := (spanChanges (s.tab p 1 (16 * i + 12)) (s.tab p 1 (16 * i + 13)) (s.tab p 0 (16 * i + 12)) (s.tab p 0 (16 * i + 13))).filter
      (fun k => k < 8 || !held i)
    if ls.isEmpty ∨ v.seqs.any (fun q => q.lane == i) then none
    else some ({ lane := i, strobe := e, step := 1, levels := ls.map (fun k =>
      { level := k, span := (s.activeLevel o i k).1, code := (s.activeLevel o i k).2 }) } : SpanSeq))
  let running := v.seqs.map (fun q => if q.step = 3 then q.aim (fun k => (s.tab p 0 (16 * q.lane + k)).toNat) else q)
  let late := ((List.range 128).filter isLate).map (fun i => (i, s.tab p 0 i))
  let s1 := ((List.range 128).filter (fun i => !isLate i)).foldl (fun (t : State) i => t.setTab p 1 i (s.tab p 0 i)) s
  let tn := s.stagedTone o
  let old := v.tone
  let same := tn.en = old.en ∧ tn.lane = old.lane ∧ tn.tdiv = old.tdiv ∧ tn.amp = old.amp ∧ tn.ftw = old.ftw ∧ tn.poff = old.poff
  let s1 := s1.setOct o { v with
    seqs := running ++ seqs
    late := if late.isEmpty then v.late else late ++ v.late.filter (fun x => !(late.any (fun y => y.1 == x.1)))
    tone := if same then old else { tn with p := 0, since := e + 4 } }
  (seqs.foldl (fun (t : State) q => t.setBit p OCTPE_STAT (16 + q.lane) true) s1).gleanReview

/-- A load strobe of group `g` at edge `e` (R259, R260). -/
def State.loadStrobe (s : State) (g e : Nat) : State :=
  let s := ((List.range 64).filter (fun o => s.fldR (pOCTPE o) OCTPE_CFG 23 21 == g)).foldl (fun (s : State) o => s.strobeOctet o e) s
  s.fire (170 + g) (e * 625)

/-- The next step of a lane's span sequence, or its end at S + 8,004 cycles (R263); step 3 moves each level to the code
that is active as it begins (Table 9.4). -/
def State.spanStep (s : State) (o lane : Nat) : State :=
  let v := s.oct o
  match v.seqs.find? (fun q => q.lane == lane) with
  | none => s
  | some q =>
    let at1 := q.strobe + 4 + (if q.step = 1 then 3200 else if q.step = 2 then 4800 else 8000)
    let s := s.toEdge at1
    let others := v.seqs.filter (fun x => x.lane != lane)
    if q.step = 3 then (s.setOct o { v with seqs := others }).setBit (pOCTPE o) OCTPE_STAT (16 + lane) false
    else
      let q := { q with step := q.step + 1 }
      let q := if q.step = 3 then q.aim (fun k => (s.tab (pOCTPE o) 1 (16 * lane + k)).toNat) else q
      s.setOct o { v with seqs := others ++ [q] }

/-- An MSE operation gives up a lane's PMU: the levels that waited take effect (R261, R262). -/
def State.releasePmu (s : State) (o lane : Nat) : State :=
  let v := s.oct o
  let mine := v.late.filter (fun x => x.1 / 16 == lane)
  let s := mine.foldl (fun (s : State) x => s.setTab (pOCTPE o) 1 x.1 x.2) s
  let s := s.setOct o { v with pmu := v.pmu.filter (fun x => x.1 != lane), late := v.late.filter (fun x => x.1 / 16 != lane) }
  if s.pmuForces o lane then s else s.endLimit o lane

/-- The code that reaches the DAC of level `k` of a lane: its active code with the correction of its gain (R377). -/
def State.dacNow (s : State) (o lane k : Nat) : Nat :=
  let (span, code) := s.activeLevel o lane k
  dacCode (s.calW o (64 * lane + levelCorrWord k span)) code

/-! ### Converters, tone, PMU (R270 to R278) -/

/-- Is the ADC held by the MSE or acquisition, or has it a conversion pending? -/
def State.adcBusy (s : State) (o a : Nat) : Bool := (s.oct o).adc.getD a 0 != 0 || nbit (s.oct o).conv a

/-- OCTPE_CMD.CONV accepted (R275): conversions are pending, and their result bits clear. -/
def State.convert (s : State) (o mask : Nat) : State :=
  let v := s.oct o
  let s := (s.setOct o { v with conv := v.conv ||| mask }).gleanYield o mask
  s.setFld (pOCTPE o) OCTPE_STAT 7 0 (s.fldR (pOCTPE o) OCTPE_STAT 7 0 - (s.fldR (pOCTPE o) OCTPE_STAT 7 0 &&& mask))

/-- OCTPE_CMD.CONV leaves the measurement stile at edge `e` (R273, R275, R458): each named ADC samples at its next grid
edge, and its result is offered DIV cycles later and the stile's 2. -/
def State.convStart (s : State) (o mask e : Nat) : State :=
  let div := s.fldR (pOCTPE o) OCTPE_ADCRATE 20 0
  match (s.toEdge e).gridEdge div with
  | none => s
  | some g => s.setOct o { s.oct o with convDue := (s.oct o).convDue ++ (bitsOf 8 mask).map (fun a => (a, g + div + 2)) }

/-- A host conversion's result leaves the measurement stile (R273, R275). -/
def State.convResult (s : State) (o a : Nat) (code : Word) : State :=
  match (s.oct o).convDue.find? (fun x => x.1 == a) with
  | none => s
  | some x =>
    let s := s.toEdge x.2
    let v := s.oct o
    let s := s.setOct o { v with conv := setNbit v.conv a false, convDue := v.convDue.erase x }
    (s.setReg (pOCTPE o) (OCTPE_ADCRES0 + a) code).setBit (pOCTPE o) OCTPE_STAT a true

/-- Is the set-point within 0.30 V to 5.50 V (R279)? -/
def setPointOk (span code : Nat) : Bool :=
  decide (300000 * (2 ^ 24 : Int) ≤ pinVolt span code) && decide (pinVolt span code ≤ 5500000 * (2 ^ 24 : Int))

/-- The voltage that a lane's PMU forces without the tone, times 2^24 and in microvolts: the active FV, or the code that
the operation holding it has set (R262, R269). -/
def State.pmuVolt (s : State) (o lane : Nat) : Int :=
  let (span, code) := s.activeLevel o lane 8
  match (s.oct o).pmu.find? (fun x => x.1 == lane) with
  | some x => forceVolt 1 (s.op x.2).pval
  | none => forceVolt span code

/-- The next sample of an octet's tone source (R276 to R278); a table read that fails its parity check raises LVL_PAR
(R284). -/
def State.toneSample (s : State) (o : Nat) (parityOk : Bool) : State :=
  let v := s.oct o
  let tn := v.tone
  if !tn.en then s
  else match (if s.time.edge < tn.since then s.toEdge (tn.since - 1) else s).gridEdge tn.tdiv with
  | none => s
  | some e =>
    let s := s.toEdge e
    let p := pOCTPE o
    let s := if s.bitR p PG_INJ 1 then
        (s.setBit p PG_INJ 1 false).raise { cls := .d, code := 0x080, page := p, unit := .octet o, inj := true }
      else if parityOk then s else s.raiseD p 0x080 (.octet o)
    let w := s.tab p 2 ((tn.p / 2 ^ 36 + tn.poff) % 4096)
    let s := s.setOct o { v with tone := { tn with p := (tn.p + tn.ftw) % 2 ^ 48, out := w } }
    if (s.pmuOf o tn.lane).1 = 4 then
      -- the tone, times 2^24 and in microvolts: 3.75 V x AMP / 2^16 x D / 2^23
      let x := s.pmuVolt o tn.lane + 3750000 * (tn.amp : Int) * signed 24 w.toNat * 2 ^ 24 / 2 ^ 39
      let y := max ((-1500000) * 2 ^ 24) (min x (6000000 * 2 ^ 24))
      let s := s.setOct o { s.oct o with tone := { (s.oct o).tone with force := y } }
      if x = y then s else s.setBit p OCTPE_FLAG 15 true
    else s

/-- The low and the high clamp of a lane's PMU, times 2^24 and in microvolts: those of the descriptor of the operation that
holds it, else the active CLL and CLH (R262, R290, Table 10.2). -/
def State.clamps (s : State) (o lane : Nat) : Int × Int :=
  match (s.oct o).pmu.find? (fun x => x.1 == lane) with
  | some x =>
    let w := s.tab pMSE 0 (8 * x.2 + 3)
    let volt (c : Nat) : Int := (-1000000) * 2 ^ 24 + 6500000 * 2 ^ 12 * (c : Int)
    (volt (fld w 11 0), volt (fld w 23 12))
  | none => (s.levelNow o lane 10, s.levelNow o lane 11)

/-- The current range of a lane's PMU (R262, R269). -/
def State.pmuRange (s : State) (o lane : Nat) : Nat :=
  match (s.oct o).pmu.find? (fun x => x.1 == lane) with
  | some x => (s.op x.2).prng
  | none => s.fldR (pOCTPE o) (OCTPE_PIN0 + lane) 20 18

/-- At which limit a lane's PMU limits, where its load would take it to `x` without one: 0 none, 1 the low one, 2 the high
one (R270). In FI `x` is the pin's voltage in microvolts, against the clamps; in FV its current in picoamperes, against
110 % of the range, of which 5 % are tolerance: in between, a free value decides (log entry 58). -/
def State.limitAt (s : State) (o lane : Nat) (x : Int) : Nat × State :=
  let mode := (s.pmuOf o lane).1
  if !s.pmuForces o lane then (0, s)
  else if mode = 2 then
    let (lo, hi) := s.clamps o lane
    (if x * 2 ^ 24 < lo then 1 else if hi < x * 2 ^ 24 then 2 else 0, s)
  else
    let full := fullScale (s.pmuRange o lane)
    let side := if x < 0 then 1 else 2
    if 1000 * (x.natAbs : Int) < 1045 * full then (0, s)
    else if 1155 * full < 1000 * (x.natAbs : Int) then (side, s)
    else
      let (v, s) := s.takeFree
      (if v % 2 = 0 then 0 else side, s)

/-- The PMU of a lane starts or ends limiting, as its load `x` has it (R270); a run in progress of the operation that holds
it notes the limit (Table 10.3). -/
def State.pmuClamp (s : State) (o lane : Nat) (x : Int) : State :=
  let (side, s) := s.limitAt o lane x
  if side = 0 then s.endLimit o lane
  else
    let s := s.setOct o { s.oct o with lim := (s.oct o).lim.set lane side }
    let s := (s.setBit (pOCTPE o) OCTPE_STAT (8 + lane) true).setBit (pOCTPE o) OCTPE_FLAG (16 + lane) true
    match (s.oct o).pmu.find? (fun y => y.1 == lane) with
    | some y => if (s.op y.2).running then s.setOp y.2 { s.op y.2 with lim := (s.op y.2).lim ||| side } else s
    | none => s

/-! ### The stiles into the timing domain (R20, R22) -/

/-- The capture edge of an entry that enters stile `st` now: entries leave a stile in their order, so that none is
captured before the one ahead of it (R20). -/
def State.stileCapture (s : State) (st : Nat) : Nat × State :=
  let ahead := (s.stile.filter (fun c => c.op.stile == st)).foldl (fun a c => max a (c.capture.getD 0)) 0
  let (e, s) := s.captureEdge
  (max e ahead, s)

/-- Does a stile have room for an entry (Table 1.2)? -/
def State.stileRoom (s : State) (st : Nat) : Bool :=
  decide ((s.stile.filter (fun c => c.op.stile == st)).length < stileDepth st)

/-! ### Rails (R279, R280) -/

/-- Is the rail regulating? Not while the supplies hold every RAILCTL at its off level (R49). -/
def State.railReg (s : State) (o : Nat) : Bool :=
  !s.pinsOff && s.fldR (pOCTPE o) OCTPE_RAILCFG 23 22 == 1 && s.bitR (pOCTPE o) OCTPE_RAILCFG 8

/-- A set-point in microvolts (R279). -/
def State.setPoint (s : State) (o : Nat) : Int :=
  pinVolt (s.fldR (pOCTPE o) OCTPE_RAILCFG 21 19) (s.reg (pOCTPE o) OCTPE_RAILSET).toNat / 2 ^ 24

/-- RAILSTAT.INREG: does RAILSNS, as last seen, lie within 2 % of RAILSET (R280)? -/
def State.inReg (s : State) (o : Nat) : Bool := decide (50 * ((s.oct o).sns - s.setPoint o).natAbs ≤ (s.setPoint o).natAbs)

/-- A set-point ramp starts from `v` microvolts (R280). -/
def State.startRamp (s : State) (o : Nat) (v : Int) : State :=
  if s.railReg o then (s.setOct o { s.oct o with ramp := some v }).setBit (pOCTPE o) OCTPE_RAILSTAT 22 true else s

/-- RAILCTL goes to the off level and ON clears (R280, R356). -/
def State.railOff (s : State) (o : Nat) : State :=
  let s := s.setBit (pOCTPE o) OCTPE_RAILCFG 8 false
  (s.setOct o { s.oct o with ramp := none }).setBit (pOCTPE o) OCTPE_RAILSTAT 22 false

/-- The ramp has ended, with `sns` microvolts at RAILSNS (R280). -/
def State.rampEnd (s : State) (o : Nat) (sns : Int) : State :=
  if (s.oct o).ramp.isSome then
    (s.setOct o { s.oct o with ramp := none, sns := sns }).setBit (pOCTPE o) OCTPE_RAILSTAT 22 false
  else s

end Sys2Proof.Machine
end

