-- ==== Sys2Proof/Machine/MseOps.lean ====
section
/-!
DEFINITION. The measurement engine: descriptors, dispatch, micro-words, sample runs, results and endings (R286 to
R309).
-/
namespace Sys2Proof.Machine

/-! ### Descriptors (R288) -/

/-- Word `w` of a tag's descriptor (Table 10.2). -/
def State.desc (s : State) (t w : Nat) : Word := s.tab pMSE 0 (8 * t + w)

def State.recipe (s : State) (t : Nat) : Nat := fld (s.desc t 0) 23 18
def State.irng (s : State) (t : Nat) : Nat := fld (s.desc t 0) 17 15

/-- Does the recipe hold no PMU (R290)? -/
def noPmu (r : Nat) : Bool := r == 0x06 || r == 0x0A

/-- Pattern words of scratch an operation writes (R295). -/
def scratchExtent (recipe p2 nm1 : Nat) : Nat := if recipe = 0x07 then 2 * p2 else if recipe = 0x09 then nm1 + 1 else 0

/-- The check of a descriptor at its submission (R289); `d` gives its words as they stand after the write. -/
def State.checkDesc (s : State) (d : Nat → Word) : Bool :=
  let r := fld (d 0) 23 18
  let p2 := fld (d 5) 23 16
  let ext := scratchExtent r p2 (fld (d 5) 15 0)
  decide (1 ≤ r) && decide (r ≤ 10) && decide (fld (d 0) 17 15 ≤ 4)
    && decide (fld (d 3) 11 0 < fld (d 3) 23 12)
    && fld (d 0) 11 0 == 0 && fld (d 4) 7 0 == 0
    && (r == 0x04 || r == 0x07 || r == 0x08 || r == 0x09 || (d 2 == 0 && p2 == 0))
    && (r != 0x07 || (decide (2 ≤ p2) && decide (p2 ≤ 255)))
    && (r != 0x08 || (decide (1 ≤ p2) && decide (p2 ≤ 255)))
    && (ext == 0 || (s.regionEn 13 && decide ((d 2).toNat + ext ≤ 4 * s.regionSize 13)))

/-- The lane of a tag is fenced, or its octet's site is HEDGED or RETIRED, or the run state forbids it (R289). -/
def State.descState (s : State) (t : Nat) : Bool :=
  nbit s.mse.fenced (tagLane t)
    || (match s.siteOf (tagOct t) with
        | some n => s.siteSt n == tHEDGED || s.siteSt n == tRETIRED
        | none => false)
    || !(s.run.st == .ready || s.run.st == .run || s.run.st == .recovery || s.run.st == .test)

/-- The check of a write of a descriptor word (R289): BUSY, then at word 7 STATE before RANGE (log entry 58). -/
def State.checkDescWord (s : State) (idx : Nat) (w : Word) : Option Err :=
  let t := idx / 8
  if (s.op t).st ≠ .free then some .busy
  else if idx % 8 ≠ 7 then none
  else if s.descState t then some .state
  else if s.checkDesc (fun j => if j = 7 then w else s.desc t j) then none else some .range

/-- An accepted write of a descriptor word; word 7 submits the operation (R289). -/
def State.putDesc (s : State) (idx : Nat) (w : Word) : State :=
  let s := s.setTab pMSE 0 idx w
  if idx % 8 = 7 then
    { s.setOp (idx / 8) { st := .queued, order := s.mse.submitted } with mse := { s.mse with submitted := s.mse.submitted + 1 } }
  else s

/-! ### Resources (R290, R309) -/

/-- An operation gives up its ADC, which acquisition may hold by now (R275). -/
def State.releaseAdc (s : State) (t : Nat) : State :=
  let v := s.oct (tagOct t)
  let s := s.setOp t { s.op t with holdsAdc := false }
  if v.adc.getD (tagPin t) 0 = 1 then s.setOct (tagOct t) { v with adc := v.adc.set (tagPin t) 0 } else s

/-- Give up what an operation holds: its PMU under R262, its ADC, the tone source. -/
def State.releaseAll (s : State) (t : Nat) : State :=
  let p := s.op t
  let s := if p.holdsPmu then s.releasePmu (tagOct t) (tagPin t) else s
  if p.holdsAdc then s.releaseAdc t else s

/-- A lane that has no RUNNING context, or is fenced, flips to the new bank; when every lane has flipped, ACT flips and
PEND clears (R309). -/
def State.flipLanes (s : State) : State :=
  if s.mse.pend then
    let new := 1 - s.mse.act
    let busy (k : Nat) : Bool := s.ops.any (fun e => tagLane e.1 == k && e.2.st == .running)
    let lb := (List.range 8).foldl (fun a k => if busy k ∧ !nbit s.mse.fenced k then a else setNbit a k (new == 1)) s.mse.laneBank
    if (List.range 8).all (fun k => nbit lb k == (new == 1)) then
      { s with mse := { s.mse with laneBank := lb, act := new, pend := false } }
    else { s with mse := { s.mse with laneBank := lb } }
  else s

/-- The Reeve writes a patch into the inactive bank and writes SWITCH (R446, Table 16.9). How many accesses that takes,
which PG_SEQ counts, is a free value (R77, log entry 5). -/
def State.writePatch (s : State) (ws : List Word) : State :=
  let b := 1 - s.mse.act
  let s := ((s.setTabs pUCODE b 0 (ws.take 128)).setTabs pUCODE (2 + b) 0 ((ws.drop 128).take 160)).setTabs pUCODE (4 + b) 0
    ((ws.drop 288).take 16)
  let s := (s.setReg pUCODE (UCODE_MEN0 + b) (ws.getD 304 0 &&& 0xFFFF)).setReg pUCODE (UCODE_PID0 + b) (ws.getD 305 0)
  let (v, s) := s.takeFree
  let s := s.inc pUCODE PG_SEQ v
  { s with mse := { s.mse with pend := true } }.flipLanes

/-- Lanes flip (R309); a patch that waited for PEND to clear is written then (R446). -/
def State.flipBanks (s : State) : State :=
  let s := s.flipLanes
  if s.upd.patchWait ∧ !s.mse.pend then
    let s := { s with upd := { s.upd with patchWait := false, staged := [] } }.setFld pUPD UPD_STAT 23 22 0
    s.writePatch (((s.fmap.patch.getD s.fmap.patchB.toNat none).getD []).drop 16)
  else s

/-! ### Endings (R298 to R301) -/

/-- The result record of an operation (Table 10.3). -/
def resultWords (t recipe : Nat) (p : Op) : List Word :=
  let good := p.status = 0
  [word (at_ 12 t + at_ 6 recipe),
   word (at_ 20 p.status + at_ 18 (if good then p.judge else 0) + at_ 17 p.clamp.toNat + at_ 16 p.adcsat.toNat +
     at_ 15 p.delayed.toNat)]
    ++ unwide 2 (if good then unsigned 48 p.val0 else 0) ++ unwide 2 (if good then unsigned 48 p.val1 else 0)
    ++ [word (at_ 23 p.site.isSome.toNat + at_ 16 (p.site.getD 0) + p.calseq % 65536)] ++ unwide 3 p.tend

/-- An operation ends with a status: its record is written, the slot is DONE, its resources are free (R298, R301). -/
def State.endOp (s : State) (t status : Nat) : State :=
  let p := s.op t
  if p.st = .queued ∨ p.st = .running then
    let s := s.releaseAll t
    let p := { p with st := .done, status := status, tend := if status = 0 ∧ p.tend ≠ 0 then p.tend else s.time.base
                      wait := none, running := false, holdsPmu := false, holdsAdc := false, holdsTone := false }
    let ws := resultWords t (s.recipe t) p
    let s := (s.setTabs pMSE 1 (10 * t) ws).setOp t p
    let s : State := { s with recs := s.recs ++ [{ kind := 0, unit := t, words := ws : Rec }] }
    (s.inc pMSE MSE_CNT).flipBanks
  else s

/-- End every QUEUED and RUNNING operation whose tag passes a test. -/
def State.endOps (s : State) (status : Nat) (f : Nat → Bool) : State :=
  (s.ops.map Prod.fst).foldl (fun (s : State) t => if f t then s.endOp t status else s) s

/-- Release a DONE slot (R298). -/
def State.freeOp (s : State) (t : Nat) : State :=
  if (s.op t).st = .done then
    { s.setOp t {} with recs := s.recs.filter (fun r => !(r.kind == 0 && r.unit == t)) }
  else s

/-- End an operation and raise its class N fault (Table 10.5). -/
def State.endOpN (s : State) (t status code : Nat) (forced : Option (Nat × Nat) := none) : State :=
  (s.endOp t status).raise { cls := .n, code := code, page := pMSE, detail := tagLane t, fbit := forced }

/-- Fence a lane (R302): its operations end with LANE_FENCED. -/
def State.fenceLane (s : State) (k : Nat) : State :=
  let s : State := { s with mse := { s.mse with fenced := setNbit s.mse.fenced k true } }
  (s.endOps 8 (fun t => tagLane t == k)).flipBanks

/-! ### Dispatch (R290, R291) -/

/-- Are the resources of an operation free? -/
def State.resFree (s : State) (t : Nat) : Bool :=
  let o := tagOct t
  let v := s.oct o
  let r := s.recipe t
  (noPmu r || !v.pmu.any (fun x => x.1 == tagPin t)) && !s.adcBusy o (tagPin t)
    && (r != 0x09 || !s.ops.any (fun e => tagOct e.1 == o && e.2.holdsTone))

/-- The operation a lane dispatches: the oldest QUEUED one whose resources are free, in the order of submission within
its home channel. -/
def State.nextOp (s : State) (k : Nat) : Option Nat :=
  let q := (s.ops.filter (fun e => tagLane e.1 == k && e.2.st == .queued)).filter (fun e =>
    !s.ops.any (fun f => tagChan f.1 == tagChan e.1 && f.2.st == .queued && f.2.order < e.2.order) && s.resFree e.1)
  (q.foldl (fun (a : Option (Nat × Op)) e =>
    match a with
    | some b => if e.2.order < b.2.order then some e else a
    | none => some e) none).map Prod.fst

/-- Does a lane dispatch: not fenced, not throttled, not waiting for a patch switch, and the device running? -/
def State.laneOn (s : State) (k : Nat) : Bool :=
  !nbit s.mse.fenced k && !s.bitR pTHERM THERM_STAT 23 && (!s.mse.pend || nbit s.mse.laneBank k != (s.mse.act == 1))
    && (s.run.st == .ready || s.run.st == .run || s.run.st == .recovery || s.run.st == .test)

/-- The correction words of the converter and of the measurement paths of a tag's home channel (R296, Table 14.4): ADC, PMUI0
to PMUI4, PMUV, RAILS, TONE. -/
def State.calOf (s : State) (t : Nat) : List Word :=
  let o := tagOct t
  s.calW o (512 + tagPin t) :: (List.range 6).map (fun i => s.calW o (64 * tagPin t + 32 + i)) ++ [s.calW o 520, s.calW o 521]

/-- Dispatch an operation (R290): it holds its resources and starts at the entry word of its recipe. -/
def State.dispatch (s : State) (k : Nat) : State :=
  if s.laneOn k then
    match s.nextOp k with
    | none => s
    | some t =>
      let o := tagOct t
      let r := s.recipe t
      let v := s.oct o
      let p := s.op t
      let s := (s.setOct o { v with adc := v.adc.set (tagPin t) 1
                                    pmu := if noPmu r then v.pmu else v.pmu ++ [(tagPin t, t)] }).gleanYield o (2 ^ tagPin t)
      let s := s.setOp t { p with st := .running, upc := r, holdsPmu := !noPmu r, holdsAdc := true, holdsTone := r == 0x09
                                  site := s.siteOf o, calseq := s.calSeq, cal := s.calOf t, prng := s.irng t }
      if r = 0x09 ∧ !(s.oct o).tone.en then s.endOp t 0xA else s
  else s

/-! ### Micro-words (R304 to R307) -/

/-- The bank a lane runs under. -/
def State.laneBank (s : State) (k : Nat) : Nat := (nbit s.mse.laneBank k).toNat

/-- Where a fetch is made from: an enabled match register redirects it (R307). -/
def State.matchAddr (s : State) (b a : Nat) : Nat :=
  match (List.range 16).find? (fun m => s.bitR pUCODE (UCODE_MEN0 + b) m && fld (s.tab pUCODE (4 + b) m) 23 12 == a) with
  | some m => fld (s.tab pUCODE (4 + b) m) 11 0
  | none => a

/-- The micro-word at an address under a bank. -/
def State.microWord (s : State) (b a : Nat) : Word :=
  if a < 0xF80 then Config.microRom a else s.tab pUCODE b (a - 0xF80)

/-- The nano-word at an address under a bank (R306). -/
def State.nanoWord (s : State) (b a : Nat) : Nat :=
  if a = 0 then 0 else if a < 0x1E0 then Config.nanoRom a % 2 ^ 120 else s.wideT pUCODE (2 + b) (5 * (a - 0x1E0)) 5

/-- A field of a nano-word. -/
def nf (n hi lo : Nat) : Nat := n / 2 ^ lo % 2 ^ (hi + 1 - lo)

/-- Does the nano-word hold a reserved value or a non-zero reserved bit (R306)? -/
def nanoBad (n : Nat) : Bool :=
  decide (6 ≤ nf n 119 117) || nf n 116 114 == 6 || nf n 113 112 == 3 || decide (5 ≤ nf n 111 109) || nf n 108 107 == 3
    || nf n 95 94 == 3 || decide (6 ≤ nf n 93 91) || decide (9 ≤ nf n 71 68) || decide (8 ≤ nf n 45 42) || nf n 41 40 == 3
    || decide (5 ≤ nf n 23 21) || decide (2 ≤ nf n 20 18)
    || nf n 106 96 != 0 || nf n 89 72 != 0 || nf n 58 48 != 0 || nf n 39 24 != 0 || nf n 17 0 != 0

/-- Work register `i` as a number. -/
def Op.wn (p : Op) (i : Nat) : Int := signed 48 (p.w.getD i 0)

/-- Put a number into work register `i`. -/
def Op.setW (p : Op) (i : Nat) (x : Int) : Op := { p with w := p.w.set i (unsigned 48 x) }

/-- Is what the operation measures a current: its home PMU in FV or FV_TONE (Table 9.8)? -/
def Op.isCurrent (p : Op) : Bool := p.ain == 0 && (p.pmode == 1 || p.pmode == 4)

/-- A code converted to nV or fA (R296, Table 9.8): 8.0 V / 2^23 or 1.25 x IFS / 2^23 a code, with the corrections of
the converter and of the PMU path in effect at dispatch; a difference of codes takes their gains alone. -/
def Op.convert (p : Op) (diff : Bool) (code : Int) : Int :=
  let pick (i : Nat) : Word := p.cal.getD i 0 &&& (if diff then 0xFFF else 0xFFFFFF)
  let conv := pick 0
  let path : Word := if p.ain = 0 then pick (1 + (if p.isCurrent then p.prng else 5))
    else if p.ain = 2 then pick 7 else if p.ain = 5 then pick 8 else 0
  let c := if conv = 0 ∧ path = 0 then code else Config.corrected conv path code
  if p.isCurrent then roundDiv (c * (1250 * fullScale p.prng)) (2 ^ 23) else roundDiv (c * 8000000000) (2 ^ 23)

/-- The judgement of a value in fA or nV (R297): 1 PASS, 2 FAIL_LO, 3 FAIL_HI. -/
def State.judgeVal (s : State) (t : Nat) (current : Bool) (v : Int) : Nat :=
  let u : Int := if current then 1000 * 10 ^ s.irng t else 1000
  if v < signed 24 (s.desc t 6).toNat * u then 2
  else if signed 24 (s.desc t 7).toNat * u < v then 3 else 1

/-- The ALU of a nano-word (Table 10.8). A result that the spec does not state is a free value: a sum or difference
outside 48 bits, the absolute value of the least number, a mean of no samples. -/
def State.microAlu (s : State) (t n : Nat) (p : Op) : Op × State :=
  let f := nf n 71 68
  let a := p.wn (nf n 64 62)
  let b := p.wn (nf n 61 59)
  let d := nf n 67 65
  let put (x : Int) (s : State) : Op × State :=
    if fitsSigned 48 x then ({ p.setW d x with alu := x }, s)
    else
      let (v, s) := s.takeFree
      ({ p.setW d (signed 48 v) with alu := signed 48 v }, s)
  if f = 1 then put a s
  else if f = 2 then put (a + b) s
  else if f = 3 then put (a - b) s
  else if f = 4 then (if b ≤ 0 then put (2 ^ 60) s else put (roundDiv a b.toNat) s)
  else if f = 5 then put (p.convert false a) s
  else if f = 6 then ({ p with judged := s.judgeVal t p.isCurrent a }, s)
  else if f = 7 then put (if a < 0 then -a else a) s
  else if f = 8 then ({ p with w := [0, 0, 0, 0] ++ p.w.drop 4 }, s)
  else (p, s)

/-- Write pattern words of region SCRATCH; false where an access fails (R294). -/
def State.scratch (s : State) (off : Nat) (ws : List Word) : Bool × State :=
  (List.range ws.length).foldl (fun (a : Bool × State) i =>
    let (g, s) := a.2.writeRegion 13 (off + i) (ws.getD i 0)
    (a.1 && g, s)) (true, s)

/-- What a nano-word makes of the PMU (R262, R271, R306): the context, and the status it ends with, if it does. The null
nano-word keeps the range, although its PRNG field reads 0. -/
def State.microPmu (s : State) (t n : Nat) (p : Op) : Op × Option Nat :=
  let pm := nf n 119 117
  let mode := if pm = 0 then p.pmode else if pm = 5 then 0 else pm
  let rg := nf n 116 114
  let range := if n = 0 ∨ rg = 7 then p.prng else if rg = 5 then s.irng t else rg
  let pc := nf n 113 112
  let con := if pc = 0 then p.pcon else pc == 1
  let forcing (m : Nat) : Bool := m == 1 || m == 2 || m == 4
  let bad := (p.pcon || con) && (((p.pmode == 1 || p.pmode == 4) && mode == 2) || (p.pmode == 2 && (mode == 1 || mode == 4))
    || (forcing p.pmode && mode == 3) || (p.pmode == 3 && forcing mode))
  let pv := nf n 111 109
  let val := if pv = 1 then (s.desc t 1).toNat else if pv = 2 then (s.desc t 2).toNat
    else if pv = 3 then p.w.getD (nf n 64 62) 0 % 2 ^ 24 else p.pval
  let q := { p with pmode := mode, prng := range, pcon := con, pval := val }
  if bad then (p, some 5)
  else if pc = 1 ∧ !s.bitR (pOCTPE (tagOct t)) (OCTPE_PIN0 + tagPin t) 12 then (p, some 9)
  else (q, none)

/-- Are the recipe's quantities currents (Table 10.4)? -/
def recipeCurrent (r : Nat) : Bool := r == 0x01 || r == 0x04 || r == 0x09

/-- What a recipe of the ROM has set by the time it issues its run number `i` (Table 10.4): the PMU's mode and code, and the
input. -/
def State.recipeRun (s : State) (t i : Nat) (p : Op) : Op :=
  let r := s.recipe t
  let p0 := (s.desc t 1).toNat
  let mode := if r = 0x01 ∨ r = 0x04 ∨ r = 0x08 then 1 else if r = 0x02 ∨ r = 0x05 then 2 else if r = 0x09 then 4 else 3
  let val := if r = 0x03 ∨ r = 0x07 ∨ r = 0x08 then p.pval else if r = 0x04 ∧ i ≠ 0 then (s.desc t 2).toNat else p0
  if noPmu r then { p with ain := if r = 0x06 then 2 else 3 + i }
  else { p with pmode := mode, pval := val, prng := s.irng t, pcon := true, ain := 0 }

/-- Does a nano-word change the PMU, so that the settle timer counts from its force edge (R293)? The null nano-word is
no action (R306). -/
def nanoForces (n : Nat) : Bool :=
  n != 0 && (nf n 119 117 != 0 || nf n 116 114 != 7 || nf n 113 112 != 0 || nf n 111 109 != 0)

/-- Does a nano-word send an entry toward the ADCs and PMUs: a PMU change, a run, or a timer that counts from its edge? -/
def nanoSends (n : Nat) : Bool := nanoForces n || nf n 47 46 != 0 || nf n 95 94 == 1

/-- The action of a nano-word (Table 10.8) with immediate `imm`: the context after it, and the status with which the
operation ends, if it does. A PMU change leaves the measurement stile 2 cycles after its capture edge (Table 1.2): the
force edge F, from which the settle timer counts (R293). A recipe that comes wholly from ROM has set what Table 10.4 says
when it issues a run, and what it writes to scratch is that table's (log entry 58). -/
def State.nanoAct (s : State) (t n imm : Nat) (p : Op) : Op × Option Nat × State :=
  match s.microPmu t n p with
  | (p, some e) => (p, some e, s)
  | (p, none) =>
    let top := nf n 47 46
    let settle := fld (s.desc t 4) 23 8
    let us := if top = 1 then imm else if top = 2 then settle else settle + imm
    let (cap, s) := if nanoSends n then s.stileCapture (4 + tagOct t) else (0, s)
    let p := if top = 0 then p else { p with timer := some (cap + 2 + 1600 * us) }
    let tone := nf n 108 107
    let p := if tone = 1 then { p with holdsTone := true } else if tone = 2 then { p with holdsTone := false } else p
    let aop := nf n 95 94
    let issues := aop = 1 ∧ p.holdsAdc
    let p := if issues then
        { p with running := true, runDone := false, trigAt := none, runAt := cap + 2, ain := nf n 93 91
                 scr := nf n 90 90 == 1 && !p.rom, lim := p.lim ||| (s.oct (tagOct t)).lim.getD (tagPin t) 0 }
      else p
    let p := if issues ∧ p.rom then s.recipeRun t p.runs.length p else p
    let (p, s) : Op × State := if aop = 2 ∧ p.holdsAdc then ({ p with holdsAdc := false }, s.releaseAdc t) else (p, s)
    let (p, s) := s.microAlu t n p
    let lcop := nf n 41 40
    let p := if lcop = 1 then { p with lc := imm } else if lcop = 2 then { p with lc := fld (s.desc t 5) 23 16 } else p
    let rop := nf n 23 21
    let src := p.wn (nf n 64 62)
    let p := if rop = 1 then { p with val0 := src } else if rop = 2 then { p with val1 := src }
      else if rop = 3 then { p with judge := p.judged } else p
    let (good, s) := if rop = 4 ∧ !p.rom then s.scratch (p.w.getD 7 0) (unwide 2 (unsigned 48 src)) else (true, s)
    let s := if nf n 20 18 = 1 then s.fire (152 + tagLane t) s.ps else s
    let shut := issues && p.rom && !noPmu (s.recipe t) && !s.bitR (pOCTPE (tagOct t)) (OCTPE_PIN0 + tagPin t) 12
    (p, if shut then some 9 else if good then none else some 6, s)

/-- Does the condition a context waits for hold (Table 10.7)? -/
def State.ready (s : State) (p : Op) : Bool :=
  match p.wait with
  | none => true
  | some 0 => (match p.timer with
      | some e => decide (e ≤ s.time.edge)
      | none => true)
  | some 1 => p.runDone
  | some 2 => p.trig
  | some _ => true

/-- Does the condition of a BR hold (Table 10.8)? The home comparator's band comes with the step: 0 low, 2 high. -/
def condHolds (c band : Nat) (p : Op) : Bool :=
  if c = 0 then true else if c = 1 then p.alu == 0 else if c = 2 then decide (p.alu < 0) else if c = 3 then p.clamp
  else if c = 4 then band == 0 else if c = 5 then band == 2 else if c = 6 then p.lc == 0 else decide (2 ≤ p.judged)

/-- The context that a lane executes next (R292): the one it executes, until that waits or ends; then the next ready one in
the rotation, which goes by rising tags (DEDUCED, log entry 58). -/
def State.nextCtx (s : State) (k : Nat) : Option Nat :=
  let last := s.mse.turn.getD k 0
  let cs := (s.ops.filter (fun e => tagLane e.1 == k && e.2.st == .running && s.ready e.2)).map Prod.fst
  if cs.contains last && (s.op last).wait.isNone then some last
  else match cs.find? (fun t => decide (last < t)) with
    | some t => some t
    | none => cs.head?

/-- Table 10.4 at the END of a recipe that came wholly from ROM: VAL0 and VAL1 by its runs, or by the bands that RAMP_SEARCH
met; none where its runs do not give them. The forced voltage of a stopping step that there is not is a free value (log
entry 58). -/
def State.recipeVals (s : State) (t : Nat) (p : Op) : Option (Int × Int) × State :=
  let r := s.recipe t
  let steps := (List.zip p.runs (p.runs.drop 1)).map (fun x => x.2.mean - x.1.mean)
  if r = 0x08 then
    match p.bands with
    | [] => (none, s)
    | b :: bs =>
      match bs.findIdx? (fun x => x.2 != b.2) with
      | some i => (some (roundDiv (forceVolt 1 (bs.getD i b).1 * 1000) (2 ^ 24), ((i + 1 : Nat) : Int)), s)
      | none =>
        let (v, s) := s.takeFree
        (some (signed 48 v, -1), s)
  else match p.runs with
    | [] => (none, s)
    | x :: xs =>
      (if r = 0x04 ∨ r = 0x0A then (match xs with
        | y :: _ => some (x.mean, y.mean)
        | [] => none)
      else if r = 0x07 then (match steps with
        | d :: ds => some (ds.foldl min d, ds.foldl max d)
        | [] => none)
      else if r = 0x09 then some (x.mean, ((s.desc t 2).toNat : Int))
      else some (x.mean, x.spread), s)

/-- JUDGE of such an operation (R297, Table 10.4): by the descriptor's JUDGE, the failure of VAL0 first; in CONT a clamp
judges, whatever JUDGE is. The judgement of a VAL1 that is no voltage or current, and that of a run that met both clamps,
are free values (log entry 58). -/
def State.recipeJudge (s : State) (t : Nat) (p : Op) (v0 v1 : Int) : Nat × State :=
  let r := s.recipe t
  let f := fld (s.desc t 0) 14 13
  let (v, s) := s.takeFree
  let j0 := s.judgeVal t (recipeCurrent r) v0
  let j1 := if r = 0x08 ∨ r = 0x09 then 1 + v % 3 else s.judgeVal t (recipeCurrent r) v1
  if r = 0x05 ∧ p.lim ≠ 0 then (if p.lim = 1 then 2 else if p.lim = 2 then 3 else 2 + v % 2, s)
  else (if f = 0 then 0 else if f = 1 ∨ (f = 3 ∧ j0 ≠ 1) then j0 else j1, s)

/-- END (R301): a recipe that came wholly from ROM reports what Table 10.4 states, a patched one what it has set. -/
def State.finishOp (s : State) (t : Nat) (p : Op) : State :=
  if p.rom then
    match s.recipeVals t p with
    | (some (v0, v1), s) =>
      let (j, s) := s.recipeJudge t p v0 v1
      (s.setOp t { p with val0 := v0, val1 := v1, judge := j }).endOp t 0
    | (none, s) => (s.setOp t p).endOp t 0
  else (s.setOp t p).endOp t 0

/-- The home comparator reads the voltage at the ball (R266), for a BR whose condition asks for its band: the band, and the
context, which notes the band that each forced code met. -/
def State.readBand (s : State) (t : Nat) (volt : Int) (p : Op) : Nat × Op × State :=
  let c := tagChan t
  let b := s.bandOf c (s.chan c).band volt
  (b, { p with bands := p.bands.filter (fun x => x.1 != p.pval) ++ [(p.pval, b)] }, s.setChan c { s.chan c with band := b })

/-- One micro-word of a context, where its sequencing operation is `seq` and the lane has come to it (R292, R304 to R307):
fetch with its parity check, the nano-word's action, the next fetch. While the measurement stile is full, a word that
sends an entry through it waits (Table 1.2). -/
def State.micro (s : State) (t seq : Nat) (env : MicroEnv) : State :=
  let p := s.op t
  let k := tagLane t
  if p.st ≠ .running ∨ s.nextCtx k ≠ some t then s
  else
    let b := s.laneBank k
    let a := s.matchAddr b p.upc
    let w := s.microWord b a
    let inj := s.bitR pMSE PG_INJ k
    let bad := inj || !env.parityOk
    let s0 := s
    let s : State := { s with mse := { s.mse with turn := s.mse.turn.set k t } }
    let s : State := if inj then s.setBit pMSE PG_INJ k false else s
    if bad then
      s.raise { cls := .d, code := 0x090, page := pMSE, detail := k, unit := .lane k, inj := inj }
    else if s.mse.forceStack then
      ({ s with mse := { s.mse with forceStack := false } }).endOpN t 4 0x091 (some (pMSE, 8))
    else if s.mse.forceInvalid then
      ({ s with mse := { s.mse with forceInvalid := false } }).endOpN t 5 0x092 (some (pMSE, 9))
    else if fld w 14 12 ≠ seq then s0
    else
      let n := s.nanoWord b (fld w 23 15)
      let arg := fld w 11 0
      let p := { p with wait := none, rom := p.rom && a == p.upc && decide (a < 0xF80) && decide (fld w 23 15 < 0x1E0) }
      let asks := seq = 3 ∧ (nf n 45 42 = 4 ∨ nf n 45 42 = 5)
      if nanoBad n then s.endOpN t 5 0x092
      else if nanoSends n ∧ !s.stileRoom (4 + tagOct t) then s
      else
        match s.nanoAct t n (if seq = 0 then arg else 0) p with
        | (_, some 5, s) => s.endOpN t 5 0x092
        | (p, some e, s) => (s.setOp t p).endOp t e
        | (p, none, s) =>
          let next := (a + 1) % 4096
          let (band, p, s) := if asks then s.readBand t env.volt p else (1, p, s)
          let go (p : Op) (pc : Nat) : State := s.setOp t { p with upc := pc }
          if seq = 0 then go p next
          else if seq = 1 then
            if 8 ≤ p.stack.length then (s.setOp t p).endOpN t 4 0x091 else go { p with stack := next :: p.stack } arg
          else if seq = 2 then
            match p.stack with
            | [] => (s.setOp t p).endOpN t 4 0x091
            | r :: rs => go { p with stack := rs } r
          else if seq = 3 then go p (if condHolds (nf n 45 42) band p then arg else next)
          else if seq = 4 then
            let lc := (p.lc + 2 ^ 24 - 1) % 2 ^ 24
            go { p with lc := lc } (if lc = 0 then next else arg)
          else if seq = 5 then go { p with wait := some (fld w 11 10), trig := false } next
          else if seq = 6 then s.finishOp t p
          else go p (arg % 64)

/-! ### Timers, runs, triggers (R293, R296, R305) -/

/-- The settle timer of a context has expired (R293); the contexts and runs that wait for it see its edge. -/
def State.timerExpiry (s : State) (t : Nat) : State :=
  match (s.op t).timer with
  | some e => s.toEdge e
  | none => s

/-- An activation at edge `e` of a lane's MSE trigger consumer: contexts that wait for it, and runs under EVT, which take the
first one after their issue (R293, log entry 58). -/
def State.mseTrigger (s : State) (k e : Nat) : State :=
  s.ops.foldl (fun (s : State) x =>
    if tagLane x.1 = k ∧ x.2.st = .running then
      s.setOp x.1 { x.2 with trig := x.2.trig || x.2.wait == some 2
                             trigAt := if x.2.running ∧ x.2.trigAt.isNone then some e else x.2.trigAt }
    else s) s

/-- The time base from which the run of an operation may sample (R293): its timer has expired, its request is at the ADC, and
under EVT the trigger has come; none where it is not known yet. -/
def State.runFrom (s : State) (t : Nat) : Option Nat :=
  let p := s.op t
  let evt := bit (s.desc t 0) 12
  if !p.running ∨ (evt ∧ p.trigAt.isNone) then none
  else some (s.baseAtEdge (max (max (p.timer.getD 0) p.runAt) (if evt then p.trigAt.getD 0 else 0)))

/-- The grid edge that the run of an operation asks for, and the one at which it starts, on the time base (R273, R293): at an
edge at which acquisition holds the ADC the run waits until the ADC is free, which has no end yet where none is given. -/
def State.runStart (s : State) (t : Nat) : Option (Nat × Option Nat) :=
  let o := tagOct t
  let v := s.oct o
  (s.runFrom t).map (fun b =>
    let g := ceilTo (s.gridStep o) b
    let (lo, hi) := v.span.getD (tagPin t) (0, 0)
    if v.adc.getD (tagPin t) 0 = 2 then (g, if lo ≤ g then none else some g)
    else (g, some (if lo ≤ g ∧ g < hi then ceilTo (s.gridStep o) hi else g)))

/-- ADCTMO in picoseconds (R310). -/
def State.adcLimit (s : State) : Nat := s.fldR pMSE MSE_CFG 23 16 * 100000000

/-- What a recipe of the ROM writes to scratch when a run ends (Table 10.4): DAC_STEP its mean, TONE_CAPTURE its samples; where,
and what. -/
def State.recipeScratch (s : State) (t : Nat) (p : Op) (mean : Int) (samples : List Word) : Nat × List Word :=
  let r := s.recipe t
  let off := (s.desc t 2).toNat
  if p.rom ∧ r = 0x07 then (off + 2 * p.runs.length, unwide 2 (unsigned 48 mean))
  else if p.rom ∧ r = 0x09 then (off, samples)
  else if p.scr then (p.w.getD 7 0, samples)
  else (0, [])

/-- A sample run has ended (R293, R296, R305): its last result leaves the measurement stile DIV and 2 cycles after its last
grid edge (R273), and its samples are in W0 to W3, with SCR in scratch. A run whose wait for the ADC exceeded ADCTMO ends the
operation. -/
def State.runEnd (s : State) (t : Nat) (samples : List Word) : State :=
  let p := s.op t
  let n := fld (s.desc t 5) 15 0 + 1
  if p.st ≠ .running ∨ samples.length ≠ n then s
  else match s.runStart t with
  | some (want, some g) =>
    let step := s.gridStep (tagOct t)
    if s.adcLimit ≠ 0 ∧ s.adcLimit < g - want then s.endOpN t 7 0x093
    else
      let tend := g + (n - 1) * step
      let s := s.toEdge (s.edgeAt (tend + step) + 2)
      let xs := samples.map (fun w => signed 24 w.toNat)
      let lo := xs.foldl min (2 ^ 23 - 1)
      let hi := xs.foldl max (-(2 ^ 23))
      let sum := xs.foldl (· + ·) 0
      let mean := p.convert false (roundDiv sum n)
      let (off, out) := s.recipeScratch t p mean samples
      let p := (((p.setW 0 sum).setW 1 lo).setW 2 hi).setW 3 n
      let p := if p.scr then p.setW 7 ((off + n : Nat) : Int) else p
      let p := { p with running := false, runDone := true, tend := tend, clamp := p.clamp || p.lim != 0
                        runs := p.runs ++ [⟨mean, p.convert true (hi - lo)⟩]
                        adcsat := p.adcsat || samples.any (fun w => w == 0x7FFFFF || w == 0x800000), delayed := p.delayed || g != want }
      let (good, s) := s.scratch off out
      let s := s.setOp t p
      if good then s else s.endOp t 6
  | _ => s

/-- The ADC of a run has not come free within ADCTMO of the grid edge it asked for (R293). -/
def State.adcTimeout (s : State) (t : Nat) : State :=
  match (if (s.op t).st = .running ∧ s.adcLimit ≠ 0 then s.runStart t else none) with
  | some (want, none) => (s.toEdge (s.edgeAt (want + s.adcLimit))).endOpN t 7 0x093
  | _ => s

/-! ### Commands of the pages MSE and UCODE -/

/-- TSEL 2: 12 slots a word (R310). -/
def State.slotWord (s : State) (j : Nat) : Word :=
  word ((List.range 12).foldl (fun a i =>
    a + (match (s.op (12 * j + i)).st with | .free => 0 | .queued => 1 | .running => 2 | .done => 3) * 4 ^ i) 0)

/-- Slots in a state. -/
def State.slotsIn (s : State) (st : SlotSt) : Nat := (s.ops.filter (fun e => e.2.st == st)).length

/-- The check of a write to a table of a patch bank (R307, R308). -/
def State.checkPatch (s : State) (ini b : Nat) : Option Err :=
  if s.fielded ∧ ini < 3 then some .auth
  else if b = s.mse.act ∨ s.mse.pend ∨ !(List.range 8).all (fun k => nbit s.mse.laneBank k == (s.mse.act == 1)) then some .state
  else none

/-- Would the enable bits enable two registers with equal MATCH (R307)? -/
def State.menBad (s : State) (b en : Nat) : Bool :=
  let ms := (bitsOf 16 en).map (fun m => fld (s.tab pUCODE (4 + b) m) 23 12)
  ms.any (fun x => decide (1 < (ms.filter (· == x)).length))

/-- SWITCH accepted (R309). -/
def State.switchBanks (s : State) : State := ({ s with mse := { s.mse with pend := true } }).flipBanks

end Sys2Proof.Machine
end

