-- ==== Sys2Proof/Machine/GuardOps.lean ====
section
/-!
DEFINITION. Run states, guard monitors, temperature, and the Watchhouse: faults latched, merged and acted upon, hedges,
the safe state, fault records (R78, R79, R348 to R375).
-/
namespace Sys2Proof.Machine

/-! ### Run states (R76, R78, R79) -/

/-- Drop the stored words of every register at an offset: they read their Reset column again. -/
def State.dropRegs (s : State) (offs : List Nat) : State := { s with regs := s.regs.keep (fun k => !offs.contains (k % 256)) }

/-- Close every page's lock (R76). -/
def State.closeLocks (s : State) : State := s.dropRegs [PG_LOCK]

/-- Clear TMODE, PG_FORCE and PG_INJ on every page without acting (R79). -/
def State.clearTest (s : State) : State :=
  let s := s.dropRegs [PG_FORCE, PG_INJ]
  let s := { s with mse := { s.mse with forceStack := false, forceInvalid := false }
                    watch := { s.watch with raised := s.watch.raised.filter (fun r => r.fbit.isNone) } }
  { s with regs := s.regs.mapVals regDefault (fun k w => if k % 256 = PG_CTL then w &&& 0xCFFFFF else w) }

/-- Change the run state (Table 3.3): entering RUN closes every lock, leaving TEST clears the test settings. -/
def State.setRun (s : State) (st : RunState) : State :=
  if s.run.st = st then s
  else
    let s := if s.run.st = .test then s.clearTest else s
    let s := if st = .run then s.closeLocks else s
    { s with run := { s.run with st := st, prev := s.run.st } }

/-- READY and RUN follow the streams (Table 3.3). -/
def State.followStreams (s : State) : State :=
  if s.run.st = .ready ∧ s.anyBusy then s.setRun .run
  else if s.run.st = .run ∧ !s.anyBusy then s.setRun .ready
  else s

/-! ### Hedges and the safe state (R356, R357) -/

/-- Isolate a channel (R283): its driver places no further edges, and its PMU, disconnected, limits no longer (R270). -/
def State.isolate (s : State) (c : Nat) : State :=
  (s.setChan c { s.chan c with edges := [], drv := 2 }).endLimit (c / 8) (c % 8)

/-- The safe state (R223, R357): every channel isolated, every rail off, every tone stopped. -/
def State.safeState (s : State) : State :=
  let s := { s with run := { s.run with safe := true } }.isolatePins.gleanStop
  (List.range 64).foldl (fun (s : State) o =>
    let s := s.railOff o
    s.setOct o { s.oct o with tone := { (s.oct o).tone with en := false } }) s

/-- Lock is lost (R222, R223), with no rising edge of REFCLK for 3 periods where `noRef`. BELLO goes low and no TRG line
is driven (R224); a pending SEND is dropped with the time base it names (DESIGN CHOICE, log entry 49). -/
def State.unlock (s : State) (noRef : Bool) : State :=
  let s := if noRef then s.setBit pTBASE TBASE_STAT 22 false else s
  if s.locked then
    let s := ((s.setBit pTBASE TBASE_STAT 23 false).setBit pTBASE TBASE_STAT 21 false).safeState.belloLow
    let s := { s with time := { s.time with bells := [], send := none, lastHigh := none } }
    if s.run.st = .cold then s
    else if s.run.st = .run then s.raise { cls := .g, code := 0x071, page := pTBASE }
    else s.raiseH pTBASE 0x070
  else s

/-- May the site be hedged (Table 7.6)? -/
def State.canHedge (s : State) (n : Nat) : Bool := s.siteSt n == tASSIGNED || s.siteSt n == tACTIVE || s.siteSt n == tPARKED

/-- The hedge of a site (R356, steps 1 to 4), and its consequences for the stream from the edge at which the change enters
the timing domain (R207, R215, Table 7.3); the pending reads of its octets are cancelled (Table 5.3). -/
def State.hedge (s : State) (n : Nat) : State :=
  let s := s.setBit (pSITE n) PG_CTL 22 false
  if s.canHedge n then
    let k := s.siteStream n
    let os := s.octetsOf n
    let (e, s) := s.captureEdge
    let tb := s.baseAtEdge e
    let s := (os.flatMap (fun o => (List.range 8).map (8 * o + ·))).foldl State.isolate s
    let s := os.foldl State.railOff s
    let live := s.siteSt n == tACTIVE || s.siteSt n == tPARKED
    let s : State := if live then (s.endGap n).voidSeg n else s
    let s := os.foldl (fun (s : State) u => s.endUnit u tb 6) s
    let s : State := if live then s.closeSeg n (e * 625) else s
    let s := (s.setBit (pSTREAM k) (STREAM_MASK0 + n / 24) (n % 24) false).journal s 4 (pSTREAM k) 0 [STREAM_MASK0 + n / 24]
    let s := ((s.setSiteSt n tHEDGED).setFld (pSITE n) SITE_STAT 20 19 0).setSite n { s.site n with stopped := true, waitAt := none }
    let s := s.endOps 2 (fun t => os.contains (tagOct t))
    let s := match s.glean.borrow with
      | some (.chan c ..) => if os.contains (c / 8) then s.gleanStop else s
      | _ => s
    let s : State := { s with banks := s.banks.mapVals (unitDefault {}) (fun _ b =>
      { b with waiting := b.waiting.filter (fun r => !(r.cls == 1 && os.contains r.who)) }) }
    let s := (s.inc pWATCH WATCH_HEDGES)
    let s := { s with watch := { s.watch with confirm := s.watch.confirm ++ [n] } }
    let s := if s.strSt k = sIDLE ∨ s.strSt k = sSTOPPED then s.retire k else s
    (if live then s.checkRelease k (e * 625) else s).checkNoSite k
  else s

/-- Class H and class G: every stream stops, every operation, window and borrowing ends, the safe state applies
(R215, R301, R357, R362, Table 11.4). -/
def State.stopAllWork (s : State) : State :=
  let (e, s) := s.captureEdge
  let tb := s.baseAtEdge e
  let s := (List.range 4).foldl State.stopForClassH s
  let s := (s.endOps 3 (fun _ => true)).safeState
  let s := (List.range 68).foldl (fun (s : State) u => s.endUnit u tb 7) s
  { s with glean := { s.glean with borrow := none } }.setBit pGLEAN GLEAN_STAT 22 false

/-- Enter HALTED (Tables 3.3, 13.5). -/
def State.halt (s : State) : State :=
  let s := s.stopAllWork
  if s.run.st = .cold ∨ s.run.st = .dead then s
  else
    let s : State := if s.run.st = .start then { s with run := { s.run with inStart := true } } else s
    s.setRun .halted

/-- Enter DEAD (Tables 3.3, 13.5); the latch cell is set (R367). -/
def State.die (s : State) : State :=
  let s := s.stopAllWork
  let s := { s with pins := { s.pins with gLatch := true } }
  if s.run.st = .cold then s else s.setRun .dead

/-! ### Fault records (R133, R369) -/

/-- Has place `i` of the ring a fenced bank? -/
def State.keepFails (s : State) (i : Nat) : Bool :=
  (List.range 6).any (fun j => match s.regionWord 14 ((6 * i + j) / 4) with
    | some (b, _) => (s.bank b).fenced
    | none => true)

/-- Remove the first record that passes a test: the record and the others; none where no record does. -/
def dropFirst (f : Rec → Bool) : List Rec → Option (Rec × List Rec)
  | [] => none
  | r :: rs => if f r then some (r, rs) else (dropFirst f rs).map (fun x => (x.1, r :: x.2))

/-- The ring's place for the next record: the first free one from the record's number on (log entry 54). -/
def State.ringFreePlace (s : State) : Option Nat :=
  let used := s.recs.filterMap (fun x => if x.kind = 3 then some x.place else none)
  let n := (s.reg pWATCH WATCH_NREC).toNat
  (List.range (used.length + 1)).findSome? (fun i => if used.contains ((n + i) % 1024) then none else some ((n + i) % 1024))

/-- Does a fault record fail the check of its delivery: its own check bits, or the ring's words, which a fenced bank does
not deliver (R133, R369)? -/
def State.recFails (s : State) (r : Rec) : Bool :=
  r.bad || s.keepFails r.place || (List.range 6).any (fun j =>
    match s.regionWord 14 ((6 * r.place + j) / 4) with
    | some (b, row) => s.cell b row ((6 * r.place + j) % 4) != r.words.getD j 0
    | none => true)

/-- Put a fault record at a place of the ring, after the records `rs` (R133, R369): a write that a fenced bank fails is
counted in WATCH_LOST. -/
def State.ringAt (s : State) (rs : List Rec) (i : Nat) (r : Rec) : State :=
  match s.writeRegionRun 14 (6 * i) r.words with
  | (true, t) => { t.inc pWATCH WATCH_NREC with recs := rs ++ [{ r with place := i }] }
  | (false, _) => s.inc pWATCH WATCH_LOST

/-- Write a fault record into the ring (R369). -/
def State.ringRecord (s : State) (r : Rec) : State :=
  let lost (s : State) : State := if r.unit = 1 then s.inc pWATCH WATCH_NDROP else s.inc pWATCH WATCH_LOST
  let isN (x : Rec) : Bool := x.kind == 3 && x.unit == 1
  if (s.recs.filter (fun x => x.kind == 3)).length < 1024 then
    match s.ringFreePlace with
    | some i => s.ringAt s.recs i r
    | none => lost s
  else if r.unit = 1 then lost s
  else match dropFirst (fun x => isN x && x.sent.isNone) s.recs with
  | some (x, rs) => s.ringAt rs x.place r
  | none =>
    match dropFirst isN s.recs with
    | some (x, rs) => s.ringAt rs x.place r
    | none => lost s

/-- A new fault record: into the ring, or into the Watchhouse's buffer of 16 before region KEEP is enabled (R133). PG_INJ
of page WATCH inverts its check bits (R375). -/
def State.faultRecord (s : State) (cls : FClass) (ws : List Word) : State :=
  let bad := s.bitR pWATCH PG_INJ 0
  let s := if bad then s.setBit pWATCH PG_INJ 0 false else s
  let r : Rec := { kind := 3, unit := cls.code, words := ws, bad := bad }
  if s.regionEn 14 then s.ringRecord r
  else if s.watch.buffer.length < 16 then { s with watch := { s.watch with buffer := s.watch.buffer ++ [r] } }
  else if cls = .n then s.inc pWATCH WATCH_NDROP else s.inc pWATCH WATCH_LOST

/-! ### Latching (R362 to R366) -/

/-- Bit of WATCH_STAT that latches a class; its OVF bit is four below. -/
def latchBit : FClass → Nat
  | .g => 23 | .h => 22 | .d => 21 | .n => 20

/-- A fault whose unit is an octet names the site that holds the octet (R362). -/
def State.faultUnit (s : State) (u : FUnit) : FUnit :=
  match u with
  | .octet o => (match s.siteOf o with
      | some n => .site n
      | none => .octet o)
  | u => u

/-- The forced bit of PG_FORCE clears (R74). -/
def State.forceDone (s : State) (f : Option (Nat × Nat)) : State :=
  match f with
  | some (p, b) => s.setBit p PG_FORCE b false
  | none => s

/-- The pages whose PG_FLT holds a fault: its own, and the site's for a class D fault of a site (R356, step 5). -/
def Raised.pages (r : Raised) : List Nat :=
  match r.cls, r.unit with
  | .d, .site n => if r.page = pSITE n then [r.page] else [r.page, pSITE n]
  | _, _ => [r.page]

/-- Latch a page's PG_FLT, or set its OVF (R364). -/
def State.latchPage (s : State) (r : Raised) (p : Nat) : State :=
  if s.fldR p PG_FLT 23 21 = 0 then s.setReg p PG_FLT (word (at_ 21 r.cls.code + r.code % 4096))
  else s.setBit p PG_FLT 20 true

/-- Latch the class in WATCH_STAT, or set its OVF. -/
def State.latchClass (s : State) (c : FClass) : State :=
  if s.bitR pWATCH WATCH_STAT (latchBit c) then s.setBit pWATCH WATCH_STAT (latchBit c - 4) true
  else s.setBit pWATCH WATCH_STAT (latchBit c) true

/-- The words of a fault record (Table 13.6); `t` is TIME, and the run state is that after the action. -/
def State.faultWords (s : State) (r : Raised) (first : Bool) (t : Nat) : List Word :=
  [word (at_ 21 r.cls.code + at_ 20 first.toNat + at_ 19 r.fbit.isSome.toNat + at_ 18 r.inj.toNat + r.code % 4096),
   word (at_ 12 r.page + r.detail % 4096)] ++ unwide 3 t ++ [word (at_ 20 s.run.st.code + s.watch.seq % 65536)]

/-- The action of a class on the whole device. -/
def State.classAct (s : State) (c : FClass) : State :=
  match c with
  | .h => s.halt
  | .g => s.die
  | _ => s

/-- A fault merges into the one being handled (R365): MERGED; a graver one raises the first's class, and that class's
action follows. Answers the first fault as it then stands. -/
def State.mergeFault (s : State) (h r : Raised) : Raised × State :=
  let s := (s.setBit pWATCH WATCH_STAT 15 true).forceDone r.fbit
  let s := h.pages.foldl (fun (s : State) p => s.setBit p PG_FLT 19 true) s
  if h.cls.code < r.cls.code then
    let s := h.pages.foldl (fun (s : State) p => s.setFld p PG_FLT 23 21 r.cls.code) s
    let first := !s.bitR pWATCH WATCH_STAT (latchBit r.cls)
    let s := (s.latchClass r.cls).classAct r.cls
    let h := { h with cls := r.cls }
    let s := if first then s.setTabs pWATCH 0 (6 * (r.cls.code - 1)) (s.faultWords h true s.time.base) else s
    (h, s)
  else (h, s)

/-- Faults that wait while a class H or G is handled merge into it (R365). -/
def State.mergeWaiting (s : State) (h : Raised) : State :=
  let rs := s.watch.raised
  (rs.foldl (fun (a : Raised × State) r => a.2.mergeFault a.1 r) (h, { s with watch := { s.watch with raised := [] } })).2

/-- A class D fault counts toward DLIM in its second of the time base (R366). -/
def State.countD (s : State) (t : Nat) : State :=
  let dlim := s.fldR pWATCH WATCH_CFG 22 16
  let sec := t / 10 ^ 12
  let w := s.watch
  let n := if w.dSecond = sec then w.dCount + 1 else 1
  let was := w.dSecond == sec && w.dRaised
  let now := dlim != 0 && decide (dlim < n)
  let s : State := { s with watch := { w with dCount := n, dSecond := sec, dRaised := was || now } }
  if now ∧ !was then s.raiseH pWATCH 0x023 else s

/-- The action of a class D fault on its unit (R362): a site's hedge is ordered, a lane is fenced; banks, sensors and
streams have been acted on where the fault arose. -/
def State.unitAct (s : State) (r : Raised) : State :=
  match r.unit with
  | .site n =>
    if s.canHedge n then
      { s with watch := { s.watch with orders := s.watch.orders ++ [n], handling := s.watch.handling ++ [r] } }
    else s.setBit (pSITE n) PG_CTL 22 false
  | .lane k => s.fenceLane k
  | _ => s

/-- The oldest raised fault reaches the Watchhouse: it merges into one being handled, or is latched and acted upon and
makes a fault record (R362 to R366, R369, R370). -/
def State.latchFault (s : State) : State :=
  match s.watch.raised with
  | [] => s
  | r :: rest =>
    let s : State := { s with watch := { s.watch with raised := rest } }
    let r : Raised := { r with unit := s.faultUnit r.unit, cls := if r.cls = .g ∧ r.fbit.isSome then .h else r.cls }
    match s.watch.handling.find? (fun h => h.unit == r.unit && r.unit != .none) with
    | some h =>
      let (h', s) := s.mergeFault h r
      { s with watch := { s.watch with handling := s.watch.handling.map (fun x => if x = h then h' else x) } }
    | none =>
      let first := !s.bitR pWATCH WATCH_STAT (latchBit r.cls)
      let (e, s) := s.captureEdge
      let t := s.baseAtEdge e
      let s := s.latchClass r.cls
      let s := r.pages.foldl (fun (s : State) p => s.latchPage r p) s
      let s : State := match r.cls with
        | .n => s.fire 179 s.ps
        | .d => ((s.fire 180 s.ps).unitAct r).countD t
        | .h => (s.fire 181 s.ps).halt
        | .g => s.die
      let ws := s.faultWords r first t
      let s : State := if first then s.setTabs pWATCH 0 (6 * (r.cls.code - 1)) ws else s
      let s := (s.faultRecord r.cls ws).forceDone r.fbit
      let s : State := { s with watch := { s.watch with seq := (s.watch.seq + 1) % 65536 } }
      if r.cls = .h ∨ r.cls = .g then s.mergeWaiting r else s

/-- The hedge order of a site is carried out (R355, R356); its fault is no longer being handled (R365). -/
def State.doHedge (s : State) (n : Nat) : State :=
  if s.watch.orders.contains n then
    let s : State := { s with watch := { s.watch with orders := s.watch.orders.filter (· != n)
                                                      handling := s.watch.handling.filter (fun h => h.unit != .site n) } }
    s.hedge n
  else s

/-- The confirmation of a hedge (R356). -/
def State.confirmHedge (s : State) (n : Nat) (good : Bool) : State :=
  if s.watch.confirm.contains n then
    let s : State := { s with watch := { s.watch with confirm := s.watch.confirm.filter (· != n) } }
    if good then s else s.raiseH pWATCH 0x022
  else s

/-- The Watchhouse takes the request of a WATCH consumer (R371). -/
def State.watchRequest (s : State) (k : Nat) : State :=
  if s.green.watch.contains k then
    let s : State := { s with green := { s.green with watch := s.green.watch.filter (· != k) } }
    let c := fld (s.tab pWATCH 1 (4 * k)) 23 22
    if c = 1 then s.raiseN pWATCH 0x021 k
    else if c = 2 then
      ((List.range 64).filter (fun n => s.canHedge n && bit (s.tab pWATCH 1 (4 * k + 1 + n / 24)) (n % 24))).foldl
        (fun (s : State) n => s.raiseD pWATCH 0x021 (.site n) k) s
    else if c = 3 then s.raiseH pWATCH 0x021 k
    else s
  else s

/-- Clear a page's PG_FLT of class N or D; false where it holds class H or G (R367). -/
def State.clearFlt (s : State) (p : Nat) : State := if s.fldR p PG_FLT 23 21 ≤ 2 then s.setReg p PG_FLT 0 else s

/-- A class H latch, its first-source record, and the PG_FLT of class H on every page clear (R367). -/
def State.clearH (s : State) : State :=
  let s := (s.setBit pWATCH WATCH_STAT 22 false).setTabs pWATCH 0 12 [0, 0, 0, 0, 0, 0]
  { s with regs := s.regs.keep (fun k => !(k % 256 == PG_FLT && fld (s.regs.get regDefault k) 23 21 == 3)) }

/-- FLT_N is driven low (R368). -/
def State.fltLow (s : State) : Bool :=
  s.run.st != .cold && (s.run.st == .dead || s.bitR pWATCH WATCH_STAT 23 || s.bitR pWATCH WATCH_STAT 22
    || (s.bitR pWATCH WATCH_STAT 21 && s.bitR pWATCH WATCH_CFG 23))

/-! ### Guard monitors (R348 to R354) -/

/-- The first monitor of a site on its fault side (R351). -/
def State.inband (s : State) (n : Nat) : Option Nat :=
  (monsOf (s.octetsOf n)).find? (fun m => s.monAction m != 0 && (s.mon m).fault)

/-- The fault of a trip (R352): side 0 low, 1 high, 2 the limiting condition. -/
def State.tripFault (s : State) (m side : Nat) (f : Option (Nat × Nat)) : State :=
  if 576 ≤ m then s.raise { cls := .h, code := 0x018 + side % 2, page := pGUARD, detail := m, fbit := f }
  else match s.siteOf (monOct m) with
  | none => s.raise { cls := .n, code := 0x01A, page := pGUARD, detail := m, fbit := f }
  | some n =>
    let code := if m < 64 then 0x010 + side % 2 else 0x012 + side
    let s := s.fire n s.ps
    if s.canHedge n then
      if s.monAction m = 2 then s.raise { cls := .d, code := code, page := pSITE n, detail := m, unit := .site n, fbit := f }
      else s.raise { cls := .n, code := code, page := pSITE n, detail := m, fbit := f }
    else s.forceDone f

/-- A trip: TRIPS counts, and its fault is raised (R352). -/
def State.trip (s : State) (m side : Nat) (f : Option (Nat × Nat) := none) : State :=
  (s.setMon m { s.mon m with trips := satAdd 0xFFFF (s.mon m).trips 1 }).tripFault m side f

/-- The fault GUARD_CHK or GUARD_PAR of a monitor (R353, R354): on its site, or class H for a chip-supply monitor. -/
def State.guardFault (s : State) (m code : Nat) (f : Option (Nat × Nat)) (inj : Bool) : State :=
  if 576 ≤ m then s.raise { cls := .h, code := code, page := pGUARD, detail := m, fbit := f, inj := inj }
  else match s.siteOf (monOct m) with
  | some n => s.raise { cls := .d, code := code, page := pSITE n, detail := m, unit := .site n, fbit := f, inj := inj }
  | none => s.raise { cls := .d, code := code, page := pGUARD, detail := m, fbit := f, inj := inj }

/-- Is the PMU that a pin-clamp monitor watches limiting: OCTPE_STAT.CLAMP of its lane (R270, R350)? -/
def State.limiting (s : State) (m : Nat) : Bool := s.bitR (pOCTPE ((m - 64) / 8)) OCTPE_STAT (8 + (m - 64) % 8)

/-- Is a value beyond a monitor's limits (R350)? -/
def State.isBeyond (s : State) (m : Nat) (x : Int) : Bool :=
  decide (x < signed 24 (s.monW m 0).toNat) || decide (signed 24 (s.monW m 1).toNat < x)

/-- Class of a sample (R350): 0 good, 1 in band, 2 beyond. -/
def State.classify (s : State) (m : Nat) (x : Int) : Nat :=
  let lo := signed 24 (s.monW m 0).toNat
  let hi := signed 24 (s.monW m 1).toNat
  let hys : Int := (s.monW m 2).toNat
  if s.isBeyond m x ∨ (64 ≤ m ∧ m < 576 ∧ bit (s.monW m 3) 18 ∧ s.limiting m) then 2
  else if lo + hys ≤ x ∧ x ≤ hi - hys then 0 else 1

/-- VPE_HI and VPE_LO as a chip-supply monitor finds them: outside Table 2.8, every channel is isolated and every RAILCTL
at its off level for as long as that lasts (R49). -/
def State.vpeSample (s : State) (m : Nat) (x : Int) : State :=
  if 586 ≤ m ∧ m < 590 then
    let out := decide (x < (supplyLimits m).1) || decide ((supplyLimits m).2 < x)
    let rest := s.pins.vpeOut.filter (· != m)
    let s := { s with pins := { s.pins with vpeOut := if out then m :: rest else rest } }
    if out then s.isolatePins else s
  else s

/-- What a sample shows of the pins beside its classification: the supplies of R49, and the voltage at RAILSNS (R280). -/
def State.monInput (s : State) (m : Nat) (x : Int) : State :=
  if m < 64 then s.setOct m { s.oct m with sns := x } else s.vpeSample m x

/-- A monitor takes a sample (R350, R352). Where the entry it reads fails its parity check, the sample is not judged
(R354). -/
def State.monSample (s : State) (m : Nat) (x : Int) (parityOk : Bool) : State :=
  if s.monAction m = 0 ∨ 592 ≤ m then s
  else if s.bitR pGUARD PG_INJ 0 then ((s.setBit pGUARD PG_INJ 0 false).monInput m x).guardFault m 0x016 none true
  else if !parityOk then (s.monInput m x).guardFault m 0x016 none false
  else
    let s := s.monInput m x
    let c := s.classify m x
    let v := s.mon m
    if v.fault then s.setMon m { v with last := c, fault := c != 0, beyond := 0 }
    else if c = 2 then
      let n := v.beyond + 1
      if fld (s.monW m 3) 21 19 < n then
        let side := if x < signed 24 (s.monW m 0).toNat then 0 else if signed 24 (s.monW m 1).toNat < x then 1 else 2
        (s.setMon m { v with last := c, fault := true, beyond := 0 }).trip m side
      else s.setMon m { v with last := c, beyond := n }
    else s.setMon m { v with last := c, beyond := 0 }

/-- A monitor checks itself (R353): the conversions of the two known levels must read beyond, and with the inputs of its
comparators exchanged each gives the complement. Two failures in a row raise GUARD_CHK. -/
def State.monCheck (s : State) (m : Nat) (above below : Int) (swap : Bool) : State :=
  if s.monAction m = 0 ∨ 592 ≤ m then s
  else
    let v := s.mon m
    if s.isBeyond m above ∧ s.isBeyond m below ∧ swap then s.setMon m { v with chkFail := false, chkRun := 0 }
    else if v.chkRun = 1 then (s.setMon m { v with chkFail := true, chkRun := 0 }).guardFault m 0x015 none false
    else s.setMon m { v with chkFail := true, chkRun := 1 }

/-- The check of a write of a guard limit word (R354). -/
def State.checkLimit (s : State) (idx : Nat) (new : Word) : Option Err :=
  let m := idx / 4
  if 576 ≤ m then some .roWrite
  else
    let w (j : Nat) : Word := if idx % 4 = j then new else s.monW m j
    let lo := signed 24 (w 0).toNat
    let hi := signed 24 (w 1).toNat
    if hi ≤ lo ∨ hi - lo ≤ 2 * ((w 2).toNat : Int) ∨ fld (w 3) 23 22 = 3 ∨ fld (w 3) 17 0 ≠ 0 ∨ (m < 64 ∧ bit (w 3) 18) then some .range
    else none

/-- An accepted write of a guard limit word: enabling puts the monitor on its fault side (R351). -/
def State.putLimit (s : State) (idx : Nat) (new : Word) : State :=
  let m := idx / 4
  let was := s.monAction m
  let s := s.setTab pGUARD 0 idx new
  if was = 0 ∧ s.monAction m ≠ 0 then s.setMon m { s.mon m with fault := true, beyond := 0 } else s

/-! ### Temperature (R358 to R361) -/

/-- The neighbours of a sensor in the 4 x 4 grid. -/
def neighbours (k : Nat) : List Nat :=
  (if 4 ≤ k then [k - 4] else []) ++ (if k < 12 then [k + 4] else []) ++ (if k % 4 = 0 then [] else [k - 1])
    ++ (if k % 4 = 3 then [] else [k + 1])

/-- Valid sensors. -/
def State.validSensors (s : State) : List Nat := (List.range 16).filter (fun k => (s.sensor k).valid)

/-- The hottest valid sensor and its reading (THERM_HOT). -/
def State.hottest (s : State) : Option (Nat × Int) :=
  s.validSensors.foldl (fun (a : Option (Nat × Int)) k =>
    match a with
    | some (j, t) => if t < (s.sensor k).t then some (k, (s.sensor k).t) else some (j, t)
    | none => some (k, (s.sensor k).t)) none

/-- A sensor is marked invalid (R359, R366). -/
def State.sensorBad (s : State) (k : Nat) (f : Option (Nat × Nat) := none) : State :=
  let v := s.sensor k
  let few := s.validSensors.length
  let s := (s.setSensor k { v with valid := false, met := 0 }).raise
    { cls := .d, code := 0x034, page := pTHERM, detail := k, unit := .sensor k, fbit := f }
  if v.valid ∧ few ≤ 8 then s.raiseH pTHERM 0x035 else s

/-- Has a valid sensor met threshold `j` on its last two readings? -/
def State.thermMet (s : State) (j : Nat) : Bool := s.validSensors.any (fun k => nbit (s.sensor k).met (4 + j))

/-- Throttling begins (Table 13.3). -/
def State.throttle (s : State) (f : Option (Nat × Nat) := none) : State :=
  ((s.setBit pTHERM THERM_STAT 23 true).fire 182 s.ps).raise { cls := .n, code := 0x031, page := pTHERM, fbit := f }

/-- The sensor that compensates a reference buffer (R361). -/
def compSensor (b : Nat) : Nat := [0, 1, 2, 3, 3, 7, 11, 15, 15, 14, 13, 12, 12, 8, 4, 0].getD b 0

/-- Steps between two sensors of the grid. -/
def sensorDist (j k : Nat) : Nat := (max (j / 4) (k / 4) - min (j / 4) (k / 4)) + (max (j % 4) (k % 4) - min (j % 4) (k % 4))

/-- The valid sensor nearest to sensor `k`, itself first, the lowest number among equally near ones (R361, DEDUCED, log
entry 60). -/
def State.nearestValid (s : State) (k : Nat) : Option Nat :=
  s.validSensors.foldl (fun (a : Option Nat) j =>
    match a with
    | some i => if sensorDist j k < sensorDist i k then some j else some i
    | none => some j) none

/-- Each reference buffer follows the reading of its sensor, by at most 10 µV (R361). -/
def State.compensate (s : State) : State :=
  (List.range 16).foldl (fun (s : State) b =>
    match s.nearestValid (compSensor b) with
    | some k => s.setComp b (s.comp b + max (-10) (min 10 (Config.compAt b (s.sensor k).t - s.comp b)))
    | none => s) s

/-- One reading of every sensor, with the sensors whose parity check fails (R358 to R361). -/
def State.readSensors (s : State) (temps : List Int) (bad : List Nat) : State :=
  let inj := s.bitR pTHERM PG_INJ 0
  let s := if inj then s.setBit pTHERM PG_INJ 0 false else s
  let before := s
  let warn : Int := 64 * (s.fldR pTHERM THERM_CFG 23 16 : Int)
  let t (k : Nat) : Int := temps.getD k 0
  let valid (k : Nat) : Bool := (before.sensor k).valid
  let susp (k : Nat) : Bool :=
    let ns := (neighbours k).filter valid
    inj || bad.contains k || (!ns.isEmpty && ns.all (fun j => decide (512 < t k - t j) || decide (512 < t j - t k)))
  let s := (List.range 16).foldl (fun (s : State) k =>
    let v := s.sensor k
    let hot := (decide (warn ≤ t k)).toNat + 2 * (decide (6720 ≤ t k)).toNat + 4 * (decide (7680 ≤ t k)).toNat +
      8 * (decide (8640 ≤ t k)).toNat
    s.setSensor k { v with t := t k, suspect := susp k, dcnt := if susp k then min 3 (v.dcnt + 1) else 0
                           met := if v.valid then hot + 16 * (hot &&& (v.met % 16)) else 0 }) s
  let s := (List.range 16).foldl (fun (s : State) k =>
    if valid k ∧ (s.sensor k).dcnt = 3 then s.sensorBad k else s) s
  let alone := (List.range 16).filter (fun k => (s.sensor k).valid && !(neighbours k).any (fun j => (s.sensor j).valid))
  let s := alone.foldl (fun (s : State) k => s.sensorBad k) s
  let rose (j : Nat) : Bool := s.thermMet j && !before.thermMet j
  let s0 := s
  let s := s.setBit pTHERM THERM_STAT 22 (s0.thermMet 0)
  let s := if rose 0 then s.raiseN pTHERM 0x030 else s
  let s := if s.bitR pTHERM THERM_STAT 23 then
      (match s.hottest with
       | some (_, h) => if h < 6400 then s.setBit pTHERM THERM_STAT 23 false else s
       | none => s)
    else if s0.thermMet 1 then s.throttle else s
  let s := if rose 2 then s.raiseH pTHERM 0x032 else s
  (if rose 3 then s.raise { cls := .g, code := 0x033, page := pTHERM } else s).compensate

/-- Return a sensor to service (R359, R374). -/
def State.revalidate (s : State) (k : Nat) : State :=
  s.setSensor k { s.sensor k with valid := true, suspect := false, dcnt := 0, met := 0 }

end Sys2Proof.Machine
end

