-- ==== Sys2Proof/Machine/GreenFx.lean ====
section
/-!
DEFINITION. Control of streams and sites by EXEC and by the Green, delivery of events and what activations do, delay
lines, the loop check (R169, R171, R198 to R204, R213 to R215, R336 to R346, R458).
-/
namespace Sys2Proof.Machine

/-! ### Streams (R198 to R204, R214) -/

/-- A stream goes to IDLE or STOPPED at once with nothing running: ARMED streams and those at rest. -/
def State.restStream (s : State) (k st : Nat) : State :=
  let v := s.stream k
  let s := s.setStrSt k st
  let s := if st = sIDLE then s.setBit (pSTREAM k) STREAM_STAT 20 false else s
  (s.setStream k
    { v with exp := { v.exp with ended := true }, alts := [], startAt := none, marked := 0, hostReq := none, greenReq := none
             failReq := none, stopAt := none, hold := none, resume := none, stopNext := false }).retire k |>.startNow

/-- STOP with NOW = 1 takes effect at time `t` of the timing clock (R214): ARMED to IDLE, RUNNING or HOLDING to DRAINING. -/
def State.stopNow (s : State) (k t : Nat) : State :=
  let st := s.strSt k
  if st = sARMED then s.restStream k sIDLE
  else if st = sRUNNING ∨ st = sHOLDING then s.stopAll k 2 t
  else s

/-- STOP with NOW = 0 takes effect (R214): ARMED to IDLE, else the leader's next boundary acts as a HALT. -/
def State.stopNext (s : State) (k : Nat) : State :=
  let st := s.strSt k
  if st = sARMED then s.restStream k sIDLE
  else if st = sRUNNING ∨ st = sHOLDING then s.setStream k { s.stream k with stopNext := true }
  else s

/-- HEDGE_REQ of an initiator on a stream page leaves the command stile at time `t` (R214): class D HOST, and the stream
stops. -/
def State.hedgeStream (s : State) (k ini t : Nat) : State :=
  let st := s.strSt k
  let s : State :=
    if st = sRUNNING ∨ st = sHOLDING then s.stopAll k 9 t
    else if st = sDRAINING then s
    else (s.restStream k sSTOPPED).setFld (pSTREAM k) STREAM_STAT 19 16 9
  (s.setBit (pSTREAM k) PG_CTL 22 false).raiseD (pSTREAM k) 0x020 (.stream k) ini

/-- A HOST jump request at time `t` (R169, R171): one that is pending keeps the earlier time. -/
def State.hostJump (s : State) (k t : Nat) : State :=
  let v := s.stream k
  let st := s.strSt k
  if sARMED ≤ st ∧ st ≤ sHOLDING then
    s.setStream k { v with hostReq := match v.hostReq with | some u => some (min u t) | none => some t }
  else s

/-- A GREEN jump request at time `t` (R169, R171). -/
def State.greenJump (s : State) (k t : Nat) : State :=
  let v := s.stream k
  let st := s.strSt k
  if sARMED ≤ st ∧ st ≤ sHOLDING then
    s.setStream k { v with greenReq := match v.greenReq with | some u => some (min u t) | none => some t }
  else s

/-- A load strobe of a group at an edge, whatever asks for it: one transfer at one edge (R261). The edge of a group's
last strobe is kept under key 64 + group, plus one. -/
def State.strobeOnce (s : State) (g e : Nat) : State :=
  if s.green.last.get (unitDefault 0) (64 + g) = e + 1 then s
  else ({ s with green := { s.green with last := s.green.last.put (unitDefault 0) (64 + g) (e + 1) } }).loadStrobe g e

/-- Put a command into its stile, or leave it waiting in the fabric while the stile is full (R20, R458, Table 1.2). -/
def State.toStile (s : State) (op : StileOp) : State :=
  if s.stileRoom op.stile then
    let (e, s) := s.stileCapture op.stile
    { s with stile := s.stile ++ [⟨op, some e, s.fresh⟩] }
  else { s with stile := s.stile ++ [⟨op, none, s.fresh + 1⟩], fresh := s.fresh + 1 }

/-- A place in stile `st` is free: the command that has waited longest for it enters (Table 1.2). -/
def State.stileRefill (s : State) (st : Nat) : State :=
  match s.stile.find? (fun c => c.op.stile == st && c.capture.isNone) with
  | none => s
  | some c =>
    let (e, s) := s.stileCapture st
    { s with stile := s.stile.replace c { c with capture := some e } }

/-- The command that leaves the stiles next: the one captured first, the longest in its stile among several. -/
def State.stileFirst (s : State) : Option (StileCmd × Nat) :=
  s.stile.foldl (fun a c => match a, c.capture with
    | some (_, e), some f => if f < e then some (c, f) else a
    | none, some f => some (c, f)
    | _, none => a) none

/-- The next command leaves its stile and takes effect, 2 cycles after its capture edge (R458, Table 1.2). -/
def State.stileExit (s : State) : State :=
  match s.stileFirst with
  | none => s
  | some (c, cap) =>
    let e := cap + 2
    let s := (({ s with stile := s.stile.erase c } : State).toEdge e).stileRefill c.op.stile
    match c.op with
    | .jump k => s.hostJump k (e * 625)
    | .stop k now => if now then s.stopNow k (e * 625) else s.stopNext k
    | .hedge k ini => s.hedgeStream k ini (e * 625)
    | .load _ g => s.strobeOnce g e
    | .conv o mask => s.convStart o mask e

/-- The oldest LOAD of a group in the stiles takes effect, or a strobe from elsewhere at the next edge (R259, R260). -/
def State.loadExit (s : State) (g : Nat) : State :=
  let loads := s.stile.filter (fun c => (match c.op with
    | .load _ h => h == g
    | _ => false) && c.capture.isSome)
  match loads with
  | [] => (s.toEdge (s.time.edge + 1)).strobeOnce g (s.time.edge + 1)
  | c :: _ =>
    let e := c.capture.getD 0 + 2
    ((({ s with stile := s.stile.erase c } : State).toEdge e).stileRefill c.op.stile).strobeOnce g e

/-- A read of the level tables by the DACs of octets of a group fails its parity check: LVL_PAR (R284). -/
def State.levelParity (s : State) (g : Nat) (bad : List Oct) : State :=
  (bad.filter (fun o : Oct => s.fldR (pOCTPE o.val) OCTPE_CFG 23 21 == g)).foldl
    (fun (s : State) (o : Oct) => s.raiseD (pOCTPE o.val) 0x080 (.octet o.val)) s

/-- A write of staged levels or tone settings leaves its register stile at the present edge (Table 9.4, log entry 50):
load strobes of edges up to it have come first. -/
def State.dueLoads (s : State) : State :=
  (s.stile.filter (fun c => (match c.op with
    | .load _ _ => true
    | _ => false) && (match c.capture with
    | some e => decide (e + 2 ≤ s.time.edge)
    | none => false))).foldl (fun (s : State) c => match c.op with
      | .load _ g => s.loadExit g
      | _ => s) s

/-- Do the regions of a stream meet R135? -/
def State.regionsOk (s : State) (k : Nat) : Bool :=
  s.regionEn k && decide (21846 * s.width k ≤ s.regionSize k) && s.regionEn (4 + k) && decide (1024 ≤ s.regionSize (4 + k))
    && s.regionEn (8 + k) && decide (5462 ≤ s.regionSize (8 + k))

/-- Does the site ring fit: inside the enabled region CAPTURE, over no ring of a unit that is not IDLE (R200)? -/
def State.siteRingOk (s : State) : Bool :=
  let base := s.ringBase 128
  let size := s.ringSize 128
  size == 0 || (s.regionEn 12 && decide (base + size ≤ s.regionSize 12)
    && !(List.range 68).any (fun u => s.acqSt u != 0 && overlap base size (s.ringBase u) (s.ringSize u)))

/-- The sites of a stream's mask. -/
def State.maskSites (s : State) (k : Nat) : List Nat := bitsOf 64 (s.wideR (pSTREAM k) STREAM_MASK0 3)

/-- Do the sites of the mask let the stream be armed (R200): some site, each ASSIGNED to it with WIDTH octets? -/
def State.sitesOk (s : State) (k : Nat) : Bool :=
  !(s.maskSites k).isEmpty && (s.maskSites k).all (fun n => s.siteSt n == tASSIGNED && s.siteStream n == k && (s.site n).noct == s.width k)

/-- Arm one stream (R200, R203, R351): fresh expansion from ENTRY with every pin's previous code DZ, code 2 (R157), its
sites marked or left with INBAND, the cycle counters and start times of its octets cleared (R227). WHY, the flags, HALT and
ERRA stay (Table 7.4, R218). -/
def State.arm (s : State) (k mode entry : Nat) : State :=
  let p := pSTREAM k
  let ms := s.maskSites k
  let good := ms.filter (fun n => (s.inband n).isNone)
  let bad := ms.filter (fun n => (s.inband n).isSome)
  let dz : List Nat := List.replicate (8 * s.width k) 2
  let s := s.setStream k { exp := { pc := entry, tsets := List.replicate (s.width k) 0, raw := dz, res := dz }, gen := s.fresh
                           marked := good.foldl (fun a n => setNbit a n true) 0 }
  let s := s.setReg p STREAM_STAT (word (at_ 21 sARMED + at_ 16 (s.fldR p STREAM_STAT 19 16) + at_ 14 mode))
  let s := (s.setWide p STREAM_HPOS0 2 0).setReg p STREAM_SEG 0
  let s := s.setReg pSLIP (SLIP_MAXA + k) 0
  let s := ms.foldl (fun (s : State) n =>
    let v := s.site n
    let s := s.setSite n { noct := v.noct, segNum := v.segNum, ended := v.ended, decisions := v.decisions, pendGap := v.pendGap }
    let s := ((s.setFld (pSITE n) SITE_STAT 20 17 0).setReg (pSITE n) SITE_FLAG 0).setWide (pSITE n) SITE_POS0 2 0
    (s.setReg (pSITE n) SITE_FAILS 0).setReg (pSITE n) SITE_IDLES 0) s
  let s := ((s.sitesOf k).flatMap s.octetsOf).foldl (fun (s : State) o =>
    (s.setWide (pOCTTM o) OCTTM_CYC0 2 0).setWide (pOCTTM o) OCTTM_TSTART0 3 0) s
  let s := bad.foldl (fun (s : State) n =>
    let m := (s.inband n).getD 0
    (s.setBit (pSITE n) SITE_STAT 18 true).raiseN (pSITE n) 0x017 (m + (if (s.mon m).last = 2 then 2048 else 0))) s
  (s.setRefill k { s.rfl_ k with resident := [], wanted := [], fetching := none }).gleanReview

/-- EXEC RESET of one stream (R200). -/
def State.resetStream (s : State) (k : Nat) : State :=
  let p := pSTREAM k
  let s := (s.restStream k sIDLE).setStream k {}
  let s := ((s.setFld p STREAM_STAT 19 16 0).setReg p STREAM_HALT 0).setWide p STREAM_ERRA0 2 0
  let s := (s.setWide p STREAM_HPOS0 2 0).setReg p STREAM_SEG 0
  (s.sitesOf k).foldl (fun (s : State) n =>
    (s.setSite n { s.site n with pos := 0, top := 0 }).setWide (pSITE n) SITE_POS0 2 0) s

/-- EXEC RELEASE (R201, R356): the site returns to ASSIGNED, its channels to their settings; its monitors start on
their fault side (R351). -/
def State.releaseSite (s : State) (n : Nat) : State :=
  (s.setSite n { noct := (s.site n).noct, pendGap := (s.site n).pendGap }).toAssigned n

/-! ### Delivery (R336 to R341) -/

/-- The action edge of an event (R336, R339): for a clocked channel 2 cycles after the producer's edge or the exit from
its event-in stile; for a direct one from its arrival at the consumer in ps of the timing clock. -/
def GEvent.action (e : GEvent) (arr : Nat) : Nat :=
  let watch := 44 ≤ e.cons ∧ e.cons ≤ 51
  if e.clocked then
    (if e.timing then e.fired / 625 else e.exit) + 2 + (if watch then 1 else 0)
  else
    let a := min (max arr e.fired) (e.fired + 4000)
    if watch then (a + 624) / 625 else (a + 624) / 625 + 2

/-- The tag of an activation, on the time base (R336). -/
def State.eventTag (s : State) (e : GEvent) (arr act : Nat) : Nat :=
  if e.clocked then s.baseAtEdge act
  else if e.timing then e.tag.getD (s.baseAt e.fired)
  else s.baseAt (min (max arr e.fired) (e.fired + 4000))

/-- Is the consumer busy at an edge (Table 12.2)? -/
def State.consBusy (s : State) (c e : Nat) : Bool :=
  if 44 ≤ c ∧ c ≤ 51 then s.green.watch.contains (c - 44)
  else if 52 ≤ c ∧ c ≤ 59 then decide (32 ≤ (s.recs.filter (fun r => r.kind == 2 && r.unit == c - 52)).length)
  else decide (e < s.green.busyTo.get (unitDefault 0) c)

/-- A time of the time base as ps of the timing clock, from the present. -/
def State.clockOf (s : State) (tag : Nat) : Nat := ((s.ps : Int) + (tag : Int) - (s.time.base : Int)).toNat

/-- Units with a GREEN trigger of consumer `g`: the open trigger, or the close mode. -/
def State.greenUnits (s : State) (g : Nat) (opening : Bool) : List Nat :=
  (List.range 68).filter (fun u =>
    fld (s.acqW u 0) 12 11 == g && (if opening then s.acqF u 21 19 == 1 else s.acqF u 18 17 == 2))

/-- An event record (Table 12.6). -/
def State.eventRecord (s : State) (n tag : Nat) (coin : Bool) : State :=
  let q := s.green.seq.get (unitDefault 0) n
  let ws := word (at_ 21 n + at_ 20 coin.toNat + at_ 19 (nbit s.green.ovr n).toNat + q % 65536) :: unwide 3 tag
  { s with recs := s.recs ++ [{ kind := 2, unit := n, words := ws : Rec }]
           green := { s.green with seq := s.green.seq.put (unitDefault 0) n ((q + 1) % 65536), ovr := setNbit s.green.ovr n false } }

/-- What a delivered activation of consumer `c` at edge `e` with tag `tag` does (Table 12.2). -/
def State.activate (s : State) (c e tag : Nat) (coin : Bool) : State :=
  let busy (s : State) (to_ : Nat) : State :=
    { s with green := { s.green with busyTo := s.green.busyTo.put (unitDefault 0) c (to_ + 1) } }
  if c < 4 then (if s.startMode c = 1 then s.startEvent c e else s)
  else if c < 8 then s.greenJump (c - 4) (s.clockOf tag)
  else if c < 12 then s.stopNow (c - 8) (e * 625)
  else if c < 20 then s.strobeOnce (c - 12) e
  else if c < 28 then s.mseTrigger (c - 20) e
  else if c < 32 then (s.greenUnits (c - 28) true).foldl (fun (s : State) u => s.openTrigger u tag) s
  else if c < 36 then
    (s.greenUnits (c - 32) false).foldl (fun (s : State) u =>
      s.closeTrigger u tag 2) s
  else if c < 40 then
    let u := 64 + (c - 36)
    let s := busy s (e + 1)
    if s.acqSt u = 1 ∨ s.acqSt u = 2 then s.setAcq u { s.acq u with stile := (s.acq u).stile ++ [{ tag := tag, vals := [], offered := e + 2 : Sample }] } else s
  else if c < 44 then
    let s := busy s (e + 24)
    if nbit (s.fldR pSKEW SKEW_TRG 3 0) (c - 40) ∧ s.locked then
      { s with time := { s.time with trgOut := s.time.trgOut ++
          [{ line := c - 40, rise := (s.baseAtEdge (e + 8) : Int) + s.skew, high := 10000 }] } }
    else s
  else if c < 52 then { s with green := { s.green with watch := s.green.watch ++ [c - 44] } }
  else if c < 60 then s.eventRecord (c - 52) tag coin
  else
    let d := (s.reg pGREEN (GREEN_DLY0 + (c - 60))).toNat
    busy ({ s with green := { s.green with dly := s.green.dly.put (unitDefault 0) (c - 60) (e + d + 1) } }) (e + d)

/-- Set a flag of a consumer's status (Table 12.8). -/
def State.consFlag (s : State) (c b : Nat) : State := s.setTab pGREEN 2 c (putBit (s.tab pGREEN 2 c) b true)

/-- The oldest event in flight reaches its consumer, with those of the same consumer and action edge (R336 to R341). -/
def State.deliver (s : State) (arr : Nat) : State :=
  match s.green.flight with
  | [] => s
  | e :: es =>
    let a := e.action arr
    let same (x : GEvent) : Bool := x.cons == e.cons && x.action arr == a
    let mates := es.filter same
    let s : State := { s with green := { s.green with flight := es.filter (fun x => !same x) } }
    let s := s.toEdge a
    let tag := (mates.map (fun x => s.eventTag x arr a)).foldl min (s.eventTag e arr a)
    let c := e.cons
    let again := s.green.last.get (unitDefault 0) c == a + 1
    let watch := 44 ≤ c ∧ c ≤ 51
    let coin := !mates.isEmpty || again || (decide watch && s.consBusy c a)
    let s := if coin then s.consFlag c 22 else s
    if again ∨ (watch ∧ s.consBusy c a) then s
    else if s.consBusy c a then
      let s := s.consFlag c 23
      if 52 ≤ c ∧ c ≤ 59 then { s with green := { s.green with ovr := setNbit s.green.ovr (c - 52) true } } else s
    else
      let s : State := { s with green := { s.green with last := s.green.last.put (unitDefault 0) c (a + 1) } }
      let w := s.tab pGREEN 2 c
      (s.setTab pGREEN 2 c (putFld w 15 0 (fld w 15 0 + 1))).activate c a tag coin

/-- A delay line fires (R344). -/
def State.fireDelay (s : State) (n : Nat) : State :=
  match s.green.dly.get (unitDefault 0) n with
  | 0 => s
  | e + 1 =>
    let s := ({ s with green := { s.green with dly := s.green.dly.put (unitDefault 0) n 0 } }).toEdge e
    s.fire (166 + n) (e * 625)

/-! ### Configuration (R342, R343) -/

/-- The producers an activation of a consumer can cause (Table 12.4). -/
def links (c : Nat) : List Nat :=
  if c < 4 then [132 + c] else if c < 8 then [132 + (c - 4)] else if c < 12 then [148 + (c - 8)]
  else if c < 20 then [170 + (c - 12)] else if c < 28 then [152 + (c - 20)]
  else if c < 36 then (List.range 68).map (64 + ·)
  else if c < 40 then [128 + (c - 36)]
  else if c < 44 then []
  else if c < 52 then [179, 180, 181]
  else if c < 60 then [] else [166 + (c - 60)]

/-- Drop, `n` times over, every channel that no other left one follows. -/
def kernelOf (follows : Nat → Nat → Bool) : Nat → List Nat → List Nat
  | 0, cs => cs
  | n + 1, cs => kernelOf follows n (cs.filter (fun a => cs.any (follows a)))

/-- Do the enabled direct channels close a loop (R343)? -/
def State.greenLoop (s : State) : Bool :=
  let cs := (List.range 128).filter (fun c => bit (s.tab pGREEN 1 c) 23 && !bit (s.tab pGREEN 1 c) 22)
  let follows (a b : Nat) : Bool :=
    (links (fld (s.tab pGREEN 1 a) 21 16)).any (fun p => bit (s.tab pGREEN 0 (8 * b + p / 24)) (p % 24))
  !(kernelOf follows cs.length cs).isEmpty

/-- The check of a write to the matrix or the channel table (R342, R343). -/
def State.checkGreen (s : State) (tsel idx : Nat) (w : Word) : Option Err :=
  if tsel = 1 ∧ fld w 15 0 ≠ 0 then some .range
  else if (s.setTab pGREEN tsel idx w).greenLoop then some .loop
  else none

/-- GREEN_LOOP records the channel of a word rejected with LOOP. -/
def State.noteLoop (s : State) (tsel idx : Nat) : State :=
  s.setReg pGREEN GREEN_LOOP (word (at_ 23 1 + (if tsel = 0 then idx / 8 else idx)))

/-- The parity check of the Green's tables (R347). -/
def State.greenParity (s : State) (good : Bool) : State :=
  if s.bitR pGREEN PG_INJ 0 then
    (s.setBit pGREEN PG_INJ 0 false).raise { cls := .h, code := 0x0B0, page := pGREEN, inj := true }
  else if good then s else { s with green := { s.green with bad := s.green.bad + 1 } }.raiseH pGREEN 0x0B0

end Sys2Proof.Machine
end

