-- ==== Sys2Proof/Machine/AcqFx.lean ====
section
/-!
DEFINITION. Capture units at work: arming, opening and closing windows, samples and their reductions, change entries,
gap records, spilling (R313 to R334).
-/
namespace Sys2Proof.Machine

/-! ### Configuration (R317, R333, R334) -/

/-- The check of a write of configuration word `i` (R333, R334). -/
def State.checkAcqWord (s : State) (u i : Nat) (w : Word) : Option Err :=
  if s.acqSt u = 1 ∨ s.acqSt u = 2 then some .state
  else if i = 0 ∧ ((u < 64 ∧ fld w 23 22 = 3) ∨ 5 ≤ fld w 21 19 ∨ fld w 16 15 = 3) then some .range
  else if i = 7 ∧ 0x7FFFFF < w.toNat then some .range
  else if i = 11 ∧ fld w 23 16 ≠ 0 then some .range
  else none

/-- LEN of a unit. -/
def State.acqLen (s : State) (u : Nat) : Nat := wide [s.acqW u 4, s.acqW u 5]

/-- Are the configuration fields of a unit an invalid combination (R317)? -/
def State.acqBad (s : State) (u : Nat) : Bool :=
  let src := s.acqF u 23 22
  let otrig := s.acqF u 21 19
  let cmode := s.acqF u 18 17
  let mask := s.acqF u 7 0
  ((src == 1 || src == 2) && mask == 0)
    || (otrig == 3 && (src != 1 || !nbit mask (s.acqF u 10 8)))
    || (otrig == 4 && fld (s.acqW u 1) 23 12 != 1)
    || s.acqLen u == 0 || (cmode == 0 && decide (16777215 < s.acqLen u))
    || (decide (64 ≤ u) && (src != 3 || otrig == 2 || otrig == 3 || cmode == 3))

/-- Does a unit's ring lie inside the enabled region CAPTURE, over no other ring in use (R317)? -/
def State.acqRingOk (s : State) (u : Nat) : Bool :=
  let base := s.ringBase u
  let size := s.ringSize u
  decide (64 ≤ size) && s.regionEn 12 && decide (base + size ≤ s.regionSize 12)
    && !(List.range 68).any (fun v => v != u && s.acqSt v != 0 && overlap base size (s.ringBase v) (s.ringSize v))
    && !overlap base size (s.ringBase 128) (s.ringSize 128)

/-- The check of ARM (R317). -/
def State.checkAcqArm (s : State) (u : Nat) : Option Err :=
  let st := s.acqSt u
  if !(s.run.st = .ready ∨ s.run.st = .run ∨ s.run.st = .recovery ∨ s.run.st = .test) ∨ st = 1 ∨ st = 2 then some .state
  else if s.acqBad u ∨ !s.acqRingOk u then some .range
  else if u < 64 ∧ (s.acqF u 23 22 = 0 ∨ s.acqF u 23 22 = 2 ∨ s.acqF u 21 19 = 2 ∨ s.acqF u 18 17 = 3) ∧ (s.siteOf u).isNone then
    some .noSite
  else none

/-! ### Arming, opening, closing (R313, R316 to R319) -/

/-- The sample edge, on the time base, of a host conversion that an ADC has pending (R273, R275). -/
def State.convAt (s : State) (o a : Nat) : Option Nat :=
  let step := s.gridStep o
  if nbit (s.oct o).conv a then
    match (s.oct o).convDue.find? (fun x => x.1 == a) with
    | some x => some (s.baseAtEdge (x.2 - 2) - step)
    | none =>
      (s.stile.find? (fun c => match c.op with
        | .conv p m => p == o && nbit m a
        | _ => false)).map (fun c => ceilTo step (s.baseAtEdge (c.capture.getD s.time.edge + 2) + 1))
  else none

/-- Is ADC `a` of an octet another requester's at grid edge `g`: a run of the MSE that began before it and has not ended, or
a host conversion (R275)? Then the first grid edge after it; a run that has not begun by then gives way (R293, log entry
58). -/
def State.adcTaken (s : State) (o g a : Nat) : Option Nat :=
  let step := s.gridStep o
  let run := s.ops.findSome? (fun e =>
    if tagOct e.1 = o ∧ tagPin e.1 = a ∧ e.2.running then
      (match s.runStart e.1 with
       | some (_, some st) =>
         let last := st + fld (s.desc e.1 5) 15 0 * step
         if st < g ∧ g ≤ last then some (last + step) else none
       | _ => none)
    else none)
  match run with
  | some x => some x
  | none => (s.convAt o a).bind (fun x => if g ≤ x then some (x + step) else none)

/-- The first grid edge from `g` on, on the time base, at which all ADCs of a mask are free (R313). -/
def State.adcClaim (s : State) (o m : Nat) : Nat → Nat → Nat
  | 0, g => g
  | n + 1, g =>
    match (bitsOf 8 m).filterMap (s.adcTaken o g) with
    | [] => g
    | x :: xs => s.adcClaim o m n (xs.foldl max x)

/-- An ADC-source unit takes its ADCs from the first grid edge at or after `t` of the time base at which all of them are
free (R275, R313). A hold that follows another with no free edge between them continues it. -/
def State.acqHold (s : State) (u t : Nat) : State :=
  let v := s.acq u
  if s.acqF u 23 22 = 1 ∧ u < 64 ∧ !v.heldAdc then
    let o := s.oct u
    let m := s.acqF u 7 0
    let step := s.gridStep u
    let want := ceilTo step t
    let g := s.adcClaim u m 16 want
    let s := s.gleanYield u m
    (s.setOct u { o with
      adc := (List.range 8).map (fun a => if nbit m a then 2 else o.adc.getD a 0)
      span := (List.range 8).map (fun a =>
        let x := o.span.getD a (0, 0)
        if !nbit m a then x else if x.1 < x.2 ∧ g ≤ ceilTo step x.2 then (x.1, g) else (g, g)) }).setAcq u
      { v with heldAdc := true, wanted := want, holdFrom := g, lastGrid := none, level := none }
  else s

/-- ARM (R316, R317): the command enters the timing domain 2 cycles after its capture edge (R458, log entry 47). -/
def State.armUnit (s : State) (u : Nat) : State :=
  let (e, s) := s.captureEdge
  let s := s.toEdge (e + 2)
  let t := s.baseAtEdge (e + 2)
  let otrig := s.acqF u 21 19
  let openat := wide [s.acqW u 9, s.acqW u 10, s.acqW u 11] % 2 ^ 64
  let late := otrig == 4 && decide (openat < t)
  let v := s.acq u
  let opens := if otrig = 0 then [t] else if otrig = 4 then [if late then t else openat] else []
  let s := s.setAcq u { opens := opens, late := late, pend := v.pend, wr := v.wr, topen := t }
  let s := if late then s.acqFlag u 19 else s
  let s := (s.setAcqW u 14 (putFld (s.acqW u 14) 21 10 0)).setAcqSt u 1
  let s := if s.acqF u 23 22 = 2 then s.gleanTdc u else s
  if otrig = 3 then s.acqHold u t else s

/-- The open trigger that the next window takes: the first at or after the previous TCLOSE. -/
def AcqUnit.nextOpen (v : AcqUnit) (immediate : Bool) : Option Nat :=
  if immediate ∧ v.prevClose.isSome then v.prevClose
  else v.opens.find? (fun t => decide (v.prevClose.getD 0 ≤ t))

/-- The first of some times that passes a test. -/
def firstOf (f : Nat → Bool) (ts : List Nat) : Option Nat :=
  match ts.filter f with
  | [] => none
  | t :: r => some (r.foldl min t)

/-- Open the window due in an ARMED unit (R318, R319): producer ACQ fires. -/
def State.openWindow (s : State) (u : Nat) : State :=
  let v := s.acq u
  match (if s.acqSt u = 1 then v.nextOpen (s.acqF u 21 19 == 0) else none) with
  | none => s
  | some t =>
    let topen := t + (s.acqW u 3).toNat
    let n := (s.acqChans u).length
    let s := s.setAcq u { v with
      opens := v.opens.filter (fun x => decide (t < x)), topen := topen
      closes := v.closes.filter (fun x => decide (topen ≤ x))
      tclose := match s.acqF u 18 17 with
        | 1 => some (topen + s.acqLen u, 1)
        | 2 => (firstOf (fun x => decide (topen ≤ x)) v.closes).map (·, 2)
        | 3 => (firstOf (fun x => decide (topen < x)) v.closes).map (·, 3)
        | _ => none
      n := 0, reds := List.replicate n {}, site := if u < 64 then s.siteOf u else none, calseq := s.calSeq
      sat := false, held := false, gap := false, void := false, retrig := false, glitch := false, adcsat := false, bands := none }
    let s := (s.setAcqSt u 2).fire (64 + u) s.ps
    s.acqHold u ((topen : Int) + s.skew).toNat

/-- Close the open window, where its TCLOSE is known (R318). -/
def State.closeDue (s : State) (u : Nat) : State :=
  match (s.acq u).tclose with
  | some (t, code) => if s.acqSt u = 2 then s.closeWindow u t code (s.afterWindow u) else s
  | none => s

/-! ### Level triggers (R320) -/

/-- round (a * b / c), ties up. -/
def roundTie (a b c : Nat) : Nat := (2 * a * b + c) / (2 * c)

/-- The crossing time of a pair of samples, if the pair crosses the level in a direction that SLOPE selects. -/
def crossing (slope : Nat) (l : Int) (tk : Nat) (xk : Int) (t1 : Nat) (x1 : Int) : Option Nat :=
  let up := decide (xk < l) && decide (l ≤ x1)
  let down := decide (l < xk) && decide (x1 ≤ l)
  if (up ∧ slope ≠ 1) ∨ (down ∧ slope ≠ 0) then some (tk + roundTie (t1 - tk) (l - xk).natAbs (x1 - xk).natAbs) else none

/-- A sample of the level ADC while ARMED (R320). -/
def State.levelSample (s : State) (u tag : Nat) (x : Int) : State :=
  let v := s.acq u
  let l := signed 24 (s.acqW u 6).toNat
  let hys : Int := (s.acqW u 7).toNat
  let slope := s.acqF u 16 15
  let rearm := v.rearm || (slope != 1 && decide (x ≤ l - hys)) || (slope != 0 && decide (l + hys ≤ x))
  let hit : Option Nat := match v.level with
    | some (tk, xk) => if v.rearm then crossing slope l tk xk tag x else none
    | none => none
  match hit with
  | some tc => s.setAcq u { v with opens := v.opens ++ [tc], rearm := false, level := some (tag, x) }
  | none => s.setAcq u { v with rearm := rearm, level := if s.acqSt u = 1 then some (tag, x) else none }

/-! ### Reductions (R321) -/

/-- One ADC code into its reductions; `n` is its index in the window. -/
def Red.adc (r : Red) (n : Nat) (l hys x : Int) : Red :=
  let up := r.armUp || (match r.last with | some y => decide (y ≤ l - hys) | none => false)
  let down := r.armDown || (match r.last with | some y => decide (l + hys ≤ y) | none => false)
  let crossUp := match r.last with | some y => decide (y < l) && decide (l ≤ x) | none => false
  let crossDown := match r.last with | some y => decide (l < y) && decide (x ≤ l) | none => false
  { r with
      sum := r.sum + x, sumsq := r.sumsq + (x * x).toNat
      mn := if n = 0 then x else min r.mn x, imin := if n = 0 ∨ x < r.mn then n else r.imin
      mx := if n = 0 then x else max r.mx x, imax := if n = 0 ∨ r.mx < x then n else r.imax
      a := r.a + (crossUp && up).toNat + (crossDown && down).toNat
      armUp := up && !crossUp, armDown := down && !crossDown, last := some x }

/-- One band into a STROBE lane's counts. -/
def Red.band (r : Red) (b : Nat) : Red :=
  if b = 0 then { r with a := r.a + 1 } else if b = 1 then { r with b := r.b + 1 } else if b = 2 then { r with c := r.c + 1 } else r

/-- An interval into PMIN and PMAX; `first` on the first interval. -/
def Red.interval (r : Red) (first : Bool) (d : Nat) : Red :=
  { r with mn := if first then (d : Int) else min r.mn d, mx := if first then (d : Int) else max r.mx d }

/-- A lane's change in one slot (R315): its tag, band before and after, and whether it changed more than once. Answers
whether an interval saturated. -/
def Red.edge (r : Red) (tag before after : Nat) (glitch : Bool) : Red × Bool :=
  let r := if glitch then { r with c := r.c + 1 } else r
  if before < after then
    match r.prev with
    | some p =>
      let d := tag - p
      ({ (r.interval (r.a == 1) (min d 0xFFFFFF)) with a := r.a + 1, prev := some tag }, decide (0xFFFFFF < d))
    | none => ({ r with a := r.a + 1, prev := some tag }, false)
  else if after < before then ({ r with b := r.b + 1 }, false)
  else (r, false)

/-! ### Change entries (R322) -/

/-- Put one entry into the open change block, closing it as R322 states. -/
def State.addEntry (s : State) (u ch tag val : Nat) : State :=
  let far : Bool := match (s.acq u).chg.getLast? with
    | some (_, t, _) => decide (t + 2097151 < tag)
    | none => false
  let shut (s : State) : State := match s.closeBlock u with
    | (true, s) => s
    | (false, s) => s.abortUnit u
  let s := if far then shut s else s
  if s.acqSt u ≠ 2 then s
  else
    let v := s.acq u
    let s := s.setAcq u { v with chg := v.chg ++ [(ch, tag, val)] }
    if 255 ≤ (s.acq u).chg.length then shut s else s

/-! ### Samples (R312, R313, R318, R319) -/

/-- An EDGES value: lane in [2:0], band after in [4:3], GLITCH in [5], band before in [7:6], and from bit 8 the ps from
the sample's tag to the tag of the lane's first change. -/
def edgeVal (v : Nat) : Nat × Nat × Bool × Nat × Nat := (v % 8, v / 8 % 4, v / 32 % 2 == 1, v / 64 % 4, v / 256)

/-- The value of a lane's changes in a slot, as `edgeVal` reads it. -/
def edgeCode (lane after : Nat) (glitch : Bool) (before dt : Nat) : Nat :=
  lane + 8 * after + 32 * glitch.toNat + 64 * before + 256 * dt

/-- Reductions and change entries of a sample that lies in the window. -/
def State.reduce (s : State) (u tag : Nat) (vals : List Nat) : State :=
  let v := s.acq u
  let chg := bit (s.acqW u 0) 14
  match s.acqF u 23 22 with
  | 0 =>
    let b := vals.headD 0
    let s := s.setAcq u { v with reds := (List.zip v.reds (List.range 8)).map (fun x => x.1.band (b / 4 ^ x.2 % 4)), bands := some b }
    if chg ∧ v.bands ≠ some b then s.addEntry u 0 tag b else s
  | 1 =>
    let l := signed 24 (s.acqW u 6).toNat
    let hys : Int := (s.acqW u 7).toNat
    let codes := vals.map (fun x => signed 24 x)
    let dband : Int := (s.acqW u 8).toNat
    let entry (r : Red) (x : Int) : Bool := chg && (match r.entry with
      | some y => decide (dband < x - y) || decide (dband < y - x)
      | none => true)
    let prs := List.zip v.reds codes
    let reds := prs.map (fun p => { p.1.adc v.n l hys p.2 with entry := if entry p.1 p.2 then some p.2 else p.1.entry })
    let full := vals.any (fun x => x == 0x7FFFFF || x == 0x800000)
    let s := s.setAcq u { v with reds := reds, adcsat := v.adcsat || full }
    let s := if full then s.acqFlag u 18 else s
    (List.zip (s.acqChans u) prs).foldl (fun (s : State) x =>
      if entry x.2.1 x.2.2 then s.addEntry u x.1 tag (unsigned 24 x.2.2) else s) s
  | 2 =>
    vals.foldl (fun (s : State) val =>
      let (lane, after, glitch, before, dt) := edgeVal val
      let v := s.acq u
      if nbit (s.acqF u 7 0) lane then
        let (r, sat) := (v.reds.getD lane {}).edge (tag + dt) before after glitch
        let s := s.setAcq u { v with reds := v.reds.set lane r, sat := v.sat || sat, glitch := v.glitch || glitch }
        let s := if sat then s.acqFlag u 20 else s
        let s := if glitch then s.acqFlag u 21 else s
        if chg then s.addEntry u lane (tag + dt) (after + 4 * glitch.toNat) else s
      else s) s
  | _ =>
    let r := v.reds.headD {}
    let s : State :=
      if v.n = 0 then s.setAcq u { v with tfirst := tag, tlast := tag, reds := [{}] }
      else s.setAcq u { v with tlast := tag, reds := [r.interval (v.n == 1) (tag - v.tlast)] }
    if chg then s.addEntry u 0 tag 0 else s

/-- Count a sample of the window; COUNT and FULL close it (Table 11.4). -/
def State.countSample (s : State) (u tag : Nat) : State :=
  let v := s.acq u
  let n := v.n + 1
  let s := s.setAcq u { v with n := n }
  if n = 16777215 then s.setAcq u { s.acq u with tclose := some (tag + 1, 4) }
  else if s.acqF u 18 17 = 0 ∧ n = s.acqLen u then s.setClose u (tag + 1) 0
  else s

/-- Open and close what is due before a sample of tag `tag` is judged (R319). -/
def State.windowsDue (s : State) (u tag : Nat) : Nat → State
  | 0 => s
  | n + 1 =>
    let v := s.acq u
    if s.acqSt u = 2 then
      (match v.tclose with
       | some (t, _) => if t ≤ tag then (s.closeDue u).windowsDue u tag n else s
       | none => s)
    else if s.acqSt u = 1 then
      (match v.nextOpen (s.acqF u 21 19 == 0) with
       | some t => if t + (s.acqW u 3).toNat ≤ tag then (s.openWindow u).windowsDue u tag n else s
       | none => s)
    else s

/-- DISARM (Table 11.2): the command enters the timing domain 2 cycles after its capture edge (R458, log entry 47). -/
def State.disarm (s : State) (u : Nat) : State :=
  let (e, s) := s.captureEdge
  let s := s.toEdge (e + 2)
  let t := s.baseAtEdge (e + 2)
  let s := s.windowsDue u t 8
  if s.acqSt u = 2 then s.closeWindow u t 5 0 else (s.acqRelease u t).setAcqSt u 0

/-- One sample of a unit is judged (R318 to R322). -/
def State.judgeSample (s : State) (u tag : Nat) (vals : List Nat) : State :=
  let s : State :=
    if s.acqF u 21 19 = 3 ∧ (s.acqSt u = 1 ∨ s.acqSt u = 2) then
      let i := ((List.range (s.acqF u 10 8)).filter (fun a => nbit (s.acqF u 7 0) a)).length
      s.levelSample u tag (signed 24 (vals.getD i 0))
    else s
  let s := s.windowsDue u tag 8
  if s.acqSt u = 2 ∧ (s.acq u).topen ≤ tag then
    let s := s.reduce u tag vals
    if s.acqSt u = 2 then s.countSample u tag else s
  else s

/-- The ADCs of a unit sample at the next grid edge of its hold, whose results leave the measurement stile DIV and 2 cycles
later (R273, R313); the edges missed before the first one become a gap. -/
def State.adcSample (s : State) (u : Nat) (codes : List Word) : State :=
  let s := if (s.acq u).heldAdc then s else s.openWindow u
  let v := s.acq u
  if !v.heldAdc ∨ codes.length ≠ (s.acqChans u).length then s
  else
    let step := s.gridStep u
    let g := match v.lastGrid with
      | some l => max (l + step) v.holdFrom
      | none => v.holdFrom
    let s := (s.settleHold u g).toEdge (s.edgeAt (g + step) + 2)
    (s.setAcq u { s.acq u with lastGrid := some g }).judgeSample u (s.gridTag g) (codes.map (·.toNat))

/-- The TDC tag of a change at a lane (R314): te + round (625 f / fcal) - d - skew_ofs, ties to the later ps. A count of 0 for
one cycle gives no quotient, and the term is a free value (log entry 59). -/
def State.tdcTag (s : State) (u : Nat) (e : EdgeIn) : Nat × State :=
  let fcal := fld (s.calW u (64 * e.lane + 5)) 9 0
  let d := signed 24 (s.calW u (64 * e.lane + 6)).toNat
  let (v, s) := if fcal = 0 then s.takeFree else (0, s)
  let fine := if fcal = 0 then v else (1250 * e.fine + fcal) / (2 * fcal)
  (unsigned 64 ((s.baseAtEdge e.edge : Int) + fine - d - s.skew), s)

/-- The changes of one lane in a slot, in time order (R315): the tag of the first, the band before and after, and whether
there were several; none where the band did not change. -/
def State.laneSlot (s : State) (u : Nat) (lane : Nat) (es : List EdgeIn) : Option (Nat × Nat × Nat × Bool) × State :=
  let c := 8 * u + lane
  let b0 := (s.chan c).band
  let (b, hits) := es.foldl (fun (a : Nat × List EdgeIn) e =>
    let n := s.bandOf c a.1 e.volt
    (n, if n = a.1 then a.2 else a.2 ++ [e])) (b0, [])
  match hits with
  | [] => (none, s)
  | e :: r =>
    let (tag, s) := s.tdcTag u e
    (some (tag, b0, b, !r.isEmpty), s.setChan c { s.chan c with band := b })

/-- Put an entry at its place among rising tags. -/
def byTag (x : Nat × Nat × Nat × Nat × Bool) : List (Nat × Nat × Nat × Nat × Bool) → List (Nat × Nat × Nat × Nat × Bool)
  | [] => [x]
  | y :: ys => if x.1 < y.1 then x :: y :: ys else y :: byTag x ys

/-- The changes of the lanes in MASK within one slot of 1,250 ps form one entry, which the capture stile offers 2 cycles after
the slot (R315, Table 1.2). The slot is that of the first change; its tag is the earliest of its lanes' (log entry 59). -/
def State.edgeSample (s : State) (u : Nat) (edges : List EdgeIn) : State :=
  match edges with
  | [] => s
  | e :: _ =>
    let slot := s.baseAtEdge e.edge / 1250
    let mine := edges.filter (fun x => s.baseAtEdge x.edge / 1250 == slot)
    let r := (bitsOf 8 (s.acqF u 7 0)).foldl (fun (a : List (Nat × Nat × Nat × Nat × Bool) × State) i =>
      match a.2.laneSlot u i (mine.filter (fun x => x.lane == i)) with
      | (some (tag, x), s) => (byTag (tag, i, x) a.1, s)
      | (none, s) => (a.1, s)) ([], s)
    match r.1 with
    | [] => r.2
    | x :: xs =>
      (r.2.toEdge (r.2.edgeAt (1250 * (slot + 1)) + 2)).judgeSample u x.1 ((x :: xs).map (fun y => edgeCode y.2.1 y.2.2.2.1 y.2.2.2.2 y.2.2.1 (y.1 - x.1)))

/-- CAPTURE_SAMPLE: STROBE and EVENTS samples come from the capture stile, ADC and EDGES samples from the converters and
comparators (Table 11.1). -/
def State.captureSample (s : State) (u : Nat) (inp : CapIn) : State :=
  let src := s.acqF u 23 22
  if 68 ≤ u then s
  else if src = 0 ∨ src = 3 then
    match (s.acq u).stile with
    | [] => s
    | x :: xs => ((s.toEdge x.offered).setAcq u { s.acq u with stile := xs }).judgeSample u x.tag x.vals
  else if s.acqSt u ≠ 1 ∧ s.acqSt u ≠ 2 then s
  else if src = 1 then s.adcSample u inp.codes
  else s.edgeSample u inp.edges

/-! ### Gap records and spilling (R324, R326) -/

/-- Write the pending gap record of a unit, or of site `u - 128`, when its ring has room. -/
def State.writeGap (s : State) (u : Nat) : State :=
  if u < 68 then
    match (s.acq u).pend with
    | none => s
    | some g =>
      if s.ringFree u < 11 then s
      else
        let s := s.setAcq u { s.acq u with pend := none }
        if s.ringFails u 11 then s.unitBankFail u g.tstart else s.ringPut u u (g.words u none)
  else
    let n := u - 128
    match (s.site n).pendGap with
    | none => s
    | some g =>
      if n < 64 ∧ 11 ≤ s.ringFree 128 then
        let s := s.setSite n { s.site n with pendGap := none }
        if s.ringFails 128 11 then s.siteGap n { cause := 4, tstart := g.tstart, lenps := 0, count := 1 }
        else s.ringPut 128 u (g.words 127 (some n))
      else s

/-- Length of the external capture area, and pattern words of it in use. -/
def State.xlen (s : State) : Nat := s.wideR pACQG ACQG_XLEN0 2
def State.xused (s : State) : Nat :=
  ((s.recs.filter (fun r => r.kind == 1 && r.spilled)).map (fun r => r.words.length)).foldl (· + ·) 0

/-- Mark the first record of a ring as spilled. -/
def markSpilled (r : Nat) : List Rec → List Rec
  | [] => []
  | x :: xs => if inRing r x then { x with spilled := true } :: xs else x :: markSpilled r xs

/-- The first tag of a record of types 1 to 3 (Tables 11.8 and 11.9). -/
def firstTag (ws : List Word) : Nat :=
  let i := match fld (ws.headD 0) 23 20 with
    | 1 => 3
    | 2 => 2
    | _ => 1
  wide ((ws.drop i).take 3)

/-- A record of acquisition is lost as it is read from its ring (R329): its unit goes to DONE with a BANK gap; a site's segment
record counts in SEGDROP, and its gap record in a BANK gap. -/
def State.loseRec (s : State) (x : Rec) : State :=
  let s : State := { s with recs := s.recs.erase x }
  let ws := x.words
  if x.unit < 68 then s.unitBankFail x.unit (firstTag ws)
  else if ws.length = 8 then
    let segid := fld (ws.getD 0 0) 15 0
    s.siteGap (x.unit - 128) { cause := 5, tstart := wide ((ws.drop 5).take 3), lenps := 0, count := 1, aux0 := (ws.getD 2 0).toNat
                               aux1 := (ws.getD 1 0).toNat, aux2 := segid, aux3 := segid }
  else s.siteGap (x.unit - 128) { cause := 4, tstart := firstTag ws, lenps := 0, count := 1 }

/-- A record is read for delivery: one of a ring from its bank, where it may be lost (R325, R329). -/
def State.drainRec (s : State) (x : Rec) : State :=
  if x.kind = 1 ∧ !x.spilled then
    (match s.ringRead x with
     | (true, s) => s
     | (false, s) => s.loseRec x)
  else s

/-- Copy the oldest record of a ring to the external area and free its space (R326). -/
def State.spill (s : State) (r : Nat) : State :=
  let thr := s.fldR pACQG ACQG_CFG 23 20
  match s.recs.find? (inRing r) with
  | none => s
  | some x =>
    if thr = 0 ∨ s.xlen = 0 ∨ 16 * s.ringUsed r ≤ thr * 4 * s.ringSize r then s
    else if s.xlen < s.xused + x.words.length then
      if s.bitR pACQG ACQG_STAT 23 then s else (s.setBit pACQG ACQG_STAT 23 true).raiseN pACQG 0x0A1
    else
      match s.ringRead x with
      | (false, s) => s.loseRec x
      | (true, s) =>
        let base := s.wideR pACQG ACQG_XBASE0 2
        let s := (List.range x.words.length).foldl (fun (s : State) i =>
          { s with dram := s.dram.put zeroDefault (base + (s.extWr + i) % s.xlen) (x.words.getD i 0) }) s
        { s with recs := markSpilled r s.recs, extWr := (s.extWr + x.words.length) % s.xlen }

/-- Space of the external area has come free: it is no longer full (R326). -/
def State.notFull (s : State) : State := if s.xused < s.xlen then s.setBit pACQG ACQG_STAT 23 false else s

/-- The check of a write that gives XLEN its value (R334). -/
def State.checkXlen (s : State) (base len : Nat) : Option Err :=
  if (List.range 68).any (fun u => s.acqSt u == 1 || s.acqSt u == 2) ∨ s.xused ≠ 0 then some .state
  else if len = 0 then none
  else if base % 32 ≠ 0 ∨ len % 32 ≠ 0 ∨ len < 2048 ∨ s.dramSize < base + len
      ∨ (List.range 4).any (fun k => overlap base len (s.imageBase k) (s.imageLen k)) then some .range
  else none

end Sys2Proof.Machine
end

