-- ==== Sys2Proof/Machine/GleanFx.lean ====
section
/-!
DEFINITION. The gleaner's tasks: borrowing, measured targets, full calibration, TDR, host corrections (R376 to R394).
-/
namespace Sys2Proof.Machine

/-- Lies a measured value within the limit of its word (R390)? -/
def measGood (w : Nat) (v : Word) : Bool :=
  let j := w % 64
  if w < 512 then
    if j ≤ 3 ∨ j = 6 then decide (-1000 ≤ signed 24 v.toNat) && decide (signed 24 v.toNat ≤ 1000)
    else if j = 4 then decide (v.toNat ≤ 20000)
    else if j = 5 then decide (v.toNat < 1024)
    else true
  else true

/-- Is the word a correction that a calibration measures: not CARD, and LEG only where told (R376, R380, R392)? -/
def measWord (legg : Bool) (w : Nat) : Bool :=
  let j := w % 64
  if w < 512 then decide (j ≤ 3) || j == 5 || j == 6 || (decide (8 ≤ j) && decide (j ≤ 37)) || (legg && decide (40 ≤ j) && decide (j ≤ 47))
  else decide (w ≤ 522)

/-- The channel a word belongs to, if it is a channel word. -/
def measChan (o w : Nat) : Option Nat := if w < 512 then some (8 * o + w / 64) else none

/-- Set or clear a channel's CALBAD (R390). -/
def State.setBad (s : State) (c : Nat) (b : Bool) : State :=
  let bad := s.glean.bad.filter (· != c)
  { s with glean := { s.glean with bad := if b then (bad.filter (· < c)) ++ c :: bad.filter (c < ·) else bad } }

/-- Put a target word, remembering what stood before for as long as an application point may ask for it (R382, R387). -/
def State.setTarget (s : State) (o w : Nat) (v : Word) : State :=
  let idx := 576 * o + w
  let old := s.calT o w
  let s := s.setTab pGLEAN 1 idx v
  let from_ : Nat := match s.siteOf o with
    | some n => (s.site n).tcyc
    | none => s.ps
  { s with glean := { s.glean with recent := { idx := idx, old := old, time := s.ps : Retarget } ::
                                             s.glean.recent.filter (fun r => r.idx != idx || decide (from_ < r.time)) } }

/-- The time and temperature of a channel's measurement (TMEAS, TEMP of Table 14.4). -/
def State.stampChan (s : State) (c : Nat) : State :=
  let t := unwide 3 s.time.base
  let temp := word (unsigned 16 ((s.hottest.map Prod.snd).getD 0))
  let b := 64 * (c % 8) + 48
  (List.range 4).foldl (fun (s : State) i => s.setTarget (c / 8) (b + i) (if i < 3 then t.getD i 0 else temp)) s

/-- One measurement becomes a target, or sets CALBAD (R382, R390). -/
def State.measure (s : State) (legg : Bool) (m : Meas) : State :=
  if 64 ≤ m.oct ∨ !measWord legg m.word then s
  else if m.ok ∧ measGood m.word m.val then
    let s := s.setTarget m.oct m.word m.val
    match measChan m.oct m.word with
    | some c => s.stampChan c
    | none => s
  else match measChan m.oct m.word with
  | some c => s.setBad c true
  | none => s

/-! ### Borrowing (R383 to R386) -/

/-- The words of an octet record that a task on lane `i` measures; those of the LEGACY span where told (Table 14.1, R392). -/
def taskWord (legg : Bool) (task : GleanTask) (i w : Nat) : Bool :=
  let j := w % 64
  let mine := decide (w < 512 ∧ w / 64 = i)
  match task with
  | .edges => mine && decide (j ≤ 3)
  | .tdc => mine && (j == 5 || j == 6)
  | .levels => mine && (decide (8 ≤ j ∧ j ≤ 31) || (legg && decide (40 ≤ j ∧ j ≤ 47)))
  | .pmu => mine && decide (32 ≤ j ∧ j ≤ 37)
  | .adc => decide (512 ≤ w ∧ w ≤ 519) || w == 522
  | .rail => w == 520
  | .tone => w == 521

/-- Vectors that a site commits next in any case, up to the next boundary or ENDM, how many of them, from the first, carry X
on pin `p`, and how long those take by the period `per` of their sets (R159, R383). -/
def aheadX (per : List Nat → Nat) (p : Nat) : List Item → Nat × Nat × Nat
  | [] => (0, 0, 0)
  | i :: is =>
    let (n, x, d) := aheadX per p is
    match i with
    | .vec _ m codes tsets .. => if codes.getD p cX = cX then (m + n, m + x, m * per tsets + d) else (m + n, 0, 0)
    | .boundary _ none => (0, 0, 0)
    | .matchEnd .. => (0, 0, 0)
    | _ => (n, x, d)

/-- Vectors of a site in its read buffers and its pattern stile, at most (R140, Table 1.2). -/
abbrev bufferedVectors : Nat := 192 + 64

/-- The X window that lies ahead of an ACTIVE site on a channel (R159, R383): its vectors that the buffers hold with the 8
vectors after them, and how long they take in ps. -/
def State.xWindow (s : State) (c : Nat) : Nat × Nat :=
  match s.siteOf (c / 8) with
  | none => (0, 0)
  | some n =>
    if s.siteSt n ≠ tACTIVE then (0, 0)
    else
      let v := s.site n
      let os := s.octetsOf n
      let per (ts : List Nat) : Nat := s.setPeriod (os.headD 0) (ts.headD 0)
      let (a, x, d) := aheadX per (8 * os.idxOf (c / 8) + c % 8) ((s.stream (s.siteStream n)).items.drop v.cur)
      let w := min (x - v.off) (min (a - v.off) bufferedVectors - 8)
      (w, d * w / x)

/-- May the task run in the X window ahead (Table 14.1, R383): the window less its first 4 and last 4 cycles takes the
task's `len` cycles, and level tasks need 2 µs? -/
def State.fitsWindow (s : State) (c : Nat) (task : GleanTask) (len : Nat) : Bool :=
  let (w, d) := s.xWindow c
  (task == .edges || task == .tdc || (task == .levels && decide (2 * 10 ^ 6 ≤ d)))
    && decide (s.fldR pGLEAN GLEAN_CFG 15 8 ≤ w) && decide (len + 8 ≤ w)

/-- Are the elements that a task uses free of other users: its ADC, and no EDGES unit armed where it uses the TDC (R384,
R386)? -/
def State.gleanFree (s : State) (c : Nat) (task : GleanTask) : Bool :=
  let o := c / 8
  (!taskAdc task || !s.adcBusy o (c % 8))
    && (task != .tdc || !(s.acqF o 23 22 == 2 && (s.acqSt o == 1 || s.acqSt o == 2)))

/-- May the gleaner start a borrowing at all (R386)? -/
def State.gleanMay (s : State) : Bool :=
  s.glean.borrow.isNone && s.bitR pGLEAN GLEAN_CFG 23 && !s.bitR pTHERM THERM_STAT 23
    && (s.run.st == .ready || s.run.st == .run || s.run.st == .test)

/-- The gleaner borrows a channel for a task of `len` cycles, where it may (R383 to R386). -/
def State.startBorrow (s : State) (c : Nat) (task : GleanTask) (len : Nat) : State :=
  let take (left : Option Nat) : State := { s with glean := { s.glean with borrow := some (.chan c task left) } }
  if !s.gleanMay || !s.gleanFree c task then s
  else if s.gleanOpen c task then take none
  else if s.fitsWindow c task len then take (some (len + 4))
  else s

/-- The octets of a list of measurements. -/
def measOcts (ms : List Meas) : List Nat := (List.range 64).filter (fun o => ms.any (fun m => m.oct == o))

/-- A gleaning task completes (R382, R388): its measurements become targets, which octets that run no segment take. -/
def State.gleanDone (s : State) (ms : List Meas) : State :=
  match s.glean.borrow with
  | some (.chan c task _) =>
    let legg := s.bitR pGLEAN GLEAN_CFG 22
    let ms := ms.filter (fun m => m.oct == c / 8 && taskWord legg task (c % 8) m.word)
    let s : State := { s with glean := { s.glean with borrow := none } }
    let s := (ms.foldl (State.measure · legg) s).inc pGLEAN GLEAN_BORROW
    (measOcts ms).foldl State.takeTargets s
  | _ => s

/-! ### Full calibration, TDR, host corrections (R379 to R381, R392, R394) -/

/-- A full calibration starts (R380): every channel is isolated. -/
def State.startFull (s : State) : State :=
  let s := s.gleanStop.isolatePins
  { (s.setBit pGLEAN GLEAN_STAT 22 true) with glean := { s.glean with borrow := some .full } }

/-- A full calibration of some octets gives its results (R379, R380): targets and active words alike. -/
def State.fullResult (s : State) (ms : List Meas) : State :=
  let chans := (List.range 512).filter (fun c => ms.any (fun m => measChan m.oct m.word == some c))
  let s := chans.foldl (fun (s : State) c =>
    if ms.any (fun m => measChan m.oct m.word == some c && !(m.ok && measGood m.word m.val)) then s else s.setBad c false) s
  let s := (ms.foldl (State.measure · false) s).nextSeq
  let s := (measOcts ms).foldl (fun (s : State) o => s.calSet o 1 (s.calT o)) s
  s.setFld pGLEAN GLEAN_STAT 19 18 1

/-- What a full calibration of some octets measures: the measurements `ms`, and free values for the words of which they
say nothing (R380, log entry 5). -/
def State.fullMeas (s : State) (os : List Nat) (ms : List Meas) (good : Nat → Bool) : List Meas :=
  os.flatMap (fun o => (calWords.filter (measWord false)).map (fun w =>
    (ms.find? (fun m => m.oct == o && m.word == w)).getD
      { oct := o, word := w, val := word (Config.free (s.fresh + 576 * o + w)), ok := good o }))

/-- A full calibration ends (R380). -/
def State.endFull (s : State) (ms : List Meas) : State :=
  if s.bitR pGLEAN GLEAN_STAT 22 then
    let all := s.fullMeas (List.range 64) ms (fun _ => true)
    let s := ({ s with fresh := s.fresh + 36864 }.fullResult all).setBit pGLEAN GLEAN_STAT 22 false
    { s with glean := { s.glean with borrow := none } }
  else s

/-- SOURCE of an octet's record. -/
def State.calSource (s : State) (o : Nat) : Nat := fld (s.tab pGLEAN 0 (576 * o + 573)) 23 22

/-- Give a correction word of a channel a value, active and target alike, under a new sequence number (R381, R394). -/
def State.putCorr (s : State) (o w : Nat) (v : Word) : State :=
  let s := (s.setTarget o w v).nextSeq
  (s.setTab pGLEAN 0 (576 * o + w) v).calStamp o (s.calSource o)

/-- TDR of an octet (R381): CARD is half the round trip, rounded to the nearest ps. -/
def State.tdr (s : State) (o : Nat) (rtt : List Nat) : State :=
  (List.range 8).foldl (fun (s : State) i =>
    match rtt[i]? with
    | none => s
    | some r => if 40000 < r then s.setBad (8 * o + i) true
      else
        let w := 64 * i + 4
        ((s.putCorr o w (word ((r + 1) / 2))).journal s 4 pGLEAN 1 [576 * o + w, 576 * o + 573]).calNote o) s

/-- May the host write a word of TSEL 0 of page GLEAN at all: CARD and LEG only (R394)? -/
def hostCorr (idx : Nat) : Bool :=
  let w := idx % 576
  decide (w < 512) && (w % 64 == 4 || (decide (40 ≤ w % 64) && decide (w % 64 ≤ 47)))

/-- The check of a write of TSEL 0 (R380, R394). -/
def State.checkCorr (s : State) (idx : Nat) (v : Word) : Option Err :=
  if !hostCorr idx then some .roWrite
  else if s.bitR pGLEAN GLEAN_STAT 22 then some .busy
  else if s.octBusy (idx / 576) then some .state
  else if idx % 576 % 64 = 4 ∧ 20000 < v.toNat then some .range
  else none

/-- The CRC-32C of words 0 to 573 of an octet's record (R391). -/
def State.recordCrc (s : State) (tsel o : Nat) : Nat :=
  crc32c ((List.range 574).flatMap (fun w => wordBytes (s.tab pGLEAN tsel (576 * o + w))))

/-- TMEAS of a channel (Table 14.4). -/
def State.calTime (s : State) (c : Nat) : Nat :=
  wide ((List.range 3).map (fun i => s.calW (c / 8) (64 * (c % 8) + 48 + i)))

/-- AGE of a channel: seconds since TMEAS (Table 14.5); a free value where TMEAS, taken before the last start of the time
base, lies beyond the present (log entry 61). -/
def State.calAge (s : State) (c : Nat) : Nat :=
  if s.calTime c ≤ s.time.base then min 4095 ((s.time.base - s.calTime c) / 10 ^ 12) else Config.free s.fresh % 4096

/-- Does some active word of a channel differ from its target (PENDING)? -/
def State.calPending (s : State) (c : Nat) : Bool :=
  (List.range 52).any (fun j => let w := 64 * (c % 8) + j; s.calW (c / 8) w != s.calT (c / 8) w)

/-- STALE of a channel (R389): outside both conditions of that rule. -/
def State.calStale (s : State) (c : Nat) : Bool :=
  let temp := signed 16 (s.calW (c / 8) (64 * (c % 8) + 51)).toNat
  let now : Int := (s.hottest.map Prod.snd).getD 0
  let since (t d : Nat) : Bool := decide (t ≤ s.time.base) && decide (s.time.base - t ≤ d * 10 ^ 12)
  let near (d : Int) : Bool := decide (now - temp ≤ d * 64) && decide (temp - now ≤ d * 64)
  let loaded := match s.glean.loads.get (unitDefault none) (c / 8) with
    | some t => since t 86400
    | none => false
  !((since (s.calTime c) 60 && near 5 && !s.calPending c) || ((since (s.calTime c) 86400 || loaded) && near 15))

/-- A status word of a channel (Table 14.5). -/
def State.chanStatus (s : State) (c : Nat) : Word :=
  word (at_ 23 (s.glean.bad.contains c).toNat + at_ 22 (s.calStale c).toNat + at_ 21 (s.calPending c).toNat + s.calAge c)

/-- The checks of GLEAN_CMD (R380, R381, R391). -/
def State.checkGleanCmd (s : State) (w : Word) : Option Err :=
  let act := fld w 23 22
  if fld w 15 0 ≠ 0 ∨ act = 0 ∨ (act ≠ 3 ∧ fld w 21 16 ≠ 0) then some .range
  else if act = 2 then
    if !(s.run.st = .ready ∨ s.run.st = .run ∨ s.run.st = .test) then some .state
    else if s.bitR pGLEAN GLEAN_STAT 20 ∨ s.bitR pGLEAN GLEAN_STAT 22 then some .busy else none
  else if s.run.st ≠ .test then some .state
  else if act = 1 ∧ (List.range 64).any (fun o => s.bitR (pOCTPE o) OCTPE_RAILCFG 8) then some .state
  else if s.bitR pGLEAN GLEAN_STAT 22 then some .busy
  else none

end Sys2Proof.Machine
end

