-- ==== Sys2Proof/Machine/Crypto.lean ====
section
/-!
DEFINITION. The check of signed images (R442, R445): SHA-256 (FIPS 180-4) and ECDSA verification on P-256 (FIPS 186-4),
and the CRC-8 of the Gate port (R428).
-/
namespace Sys2Proof.Machine

/-! ### SHA-256 -/

/-- The 64 round constants, as one number of 64 words of 32 bits, the first most significant. -/
def shaK : Nat :=
  0x428a2f9871374491b5c0fbcfe9b5dba53956c25b59f111f1923f82a4ab1c5ed5d807aa9812835b01243185be550c7dc372be5d7480deb1fe9bdc06a7c19bf174e49b69c1efbe47860fc19dc6240ca1cc2de92c6f4a7484aa5cb0a9dc76f988da983e5152a831c66db00327c8bf597fc7c6e00bf3d5a7914706ca63511429296727b70a852e1b21384d2c6dfc53380d13650a7354766a0abb81c2c92e92722c85a2bfe8a1a81a664bc24b8b70c76c51a3d192e819d6990624f40e3585106aa07019a4c1161e376c082748774c34b0bcb5391c0cb34ed8aa4a5b9cca4f682e6ff3748f82ee78a5636f84c878148cc7020890befffaa4506cebbef9a3f7c67178f2

/-- Round constant `i`. -/
def shaRound (i : Nat) : BitVec 32 := BitVec.ofNat 32 (shaK / 2 ^ (32 * (63 - i)))

def rotr (x : BitVec 32) (n : Nat) : BitVec 32 := x.rotateRight n

/-- The message schedule: the 16 words of a block and the 48 that follow from them; the latest word first. -/
def shaSchedule : Nat → List (BitVec 32) → List (BitVec 32)
  | 0, ws => ws
  | n + 1, ws =>
    let w (i : Nat) : BitVec 32 := ws.getD (i - 1) 0
    let s0 := rotr (w 15) 7 ^^^ rotr (w 15) 18 ^^^ (w 15 >>> 3)
    let s1 := rotr (w 2) 17 ^^^ rotr (w 2) 19 ^^^ (w 2 >>> 10)
    shaSchedule n ((w 16 + s0 + w 7 + s1) :: ws)

/-- The eight working variables of the compression. -/
structure ShaVars where
  a : BitVec 32
  b : BitVec 32
  c : BitVec 32
  d : BitVec 32
  e : BitVec 32
  f : BitVec 32
  g : BitVec 32
  h : BitVec 32
  deriving DecidableEq, Repr

/-- One round. -/
def shaStep (v : ShaVars) (i : Nat) (w : BitVec 32) : ShaVars :=
  let s1 := rotr v.e 6 ^^^ rotr v.e 11 ^^^ rotr v.e 25
  let ch := (v.e &&& v.f) ^^^ (~~~v.e &&& v.g)
  let t1 := v.h + s1 + ch + shaRound i + w
  let s0 := rotr v.a 2 ^^^ rotr v.a 13 ^^^ rotr v.a 22
  let maj := (v.a &&& v.b) ^^^ (v.a &&& v.c) ^^^ (v.b &&& v.c)
  ⟨t1 + s0 + maj, v.a, v.b, v.c, v.d + t1, v.e, v.f, v.g⟩

/-- Compress one block of 16 words into the hash. -/
def shaBlock (h : ShaVars) (block : List (BitVec 32)) : ShaVars :=
  let ws := (shaSchedule 48 block.reverse).reverse
  let v := (List.zip (List.range 64) ws).foldl (fun v x => shaStep v x.1 x.2) h
  ⟨h.a + v.a, h.b + v.b, h.c + v.c, h.d + v.d, h.e + v.e, h.f + v.f, h.g + v.g, h.h + v.h⟩

/-- Bytes as 32-bit words, big-endian. -/
def words32 : List Byte → List (BitVec 32)
  | a :: b :: c :: d :: r => BitVec.ofNat 32 (beNat [a, b, c, d]) :: words32 r
  | _ => []

/-- Compress all blocks; `n` bounds their number. -/
def shaBlocks : Nat → ShaVars → List (BitVec 32) → ShaVars
  | 0, h, _ => h
  | n + 1, h, ws => if ws.isEmpty then h else shaBlocks n (shaBlock h (ws.take 16)) (ws.drop 16)

/-- SHA-256 of a byte string, as a number. -/
def sha256 (bs : List Byte) : Nat :=
  let pad := (119 - bs.length % 64) % 64
  let ws := words32 (bs ++ [0x80] ++ List.replicate pad 0 ++ beBytes 8 (8 * bs.length))
  let h0 : ShaVars := ⟨0x6a09e667, 0xbb67ae85, 0x3c6ef372, 0xa54ff53a, 0x510e527f, 0x9b05688c, 0x1f83d9ab, 0x5be0cd19⟩
  let h := shaBlocks ws.length h0 ws
  [h.a, h.b, h.c, h.d, h.e, h.f, h.g, h.h].foldl (fun a x => a * 2 ^ 32 + x.toNat) 0

/-! ### ECDSA on P-256 -/

def p256P : Nat := 0xffffffff00000001000000000000000000000000ffffffffffffffffffffffff
def p256N : Nat := 0xffffffff00000000ffffffffffffffffbce6faada7179e84f3b9cac2fc632551
def p256B : Nat := 0x5ac635d8aa3a93e7b3ebbd55769886bc651d06b0cc53b0f63bce3c3e27d2604b
def p256G : Nat × Nat :=
  (0x6b17d1f2e12c4247f8bce6e563a440f277037d812deb33a0f4a13945d898c296,
   0x4fe342e2fe1a7f9b8ee7eb4a7c0f9e162bce33576b315ececbb6406837bf51f5)

/-- x^k modulo m, by the bits of k from the least significant; `n` bounds their number. -/
def powMod (m : Nat) : Nat → Nat → Nat → Nat
  | 0, _, _ => 1
  | n + 1, x, k => if k = 0 then 1 else
      let r := powMod m n (x * x % m) (k / 2)
      if k % 2 = 1 then r * x % m else r

/-- The inverse modulo a prime, by Fermat. -/
def invMod (m x : Nat) : Nat := powMod m 256 (x % m) (m - 2)

/-- Addition of two points of the curve; none is the point at infinity. -/
def ptAdd (a b : Option (Nat × Nat)) : Option (Nat × Nat) :=
  match a, b with
  | none, b => b
  | a, none => a
  | some (x1, y1), some (x2, y2) =>
    if x1 = x2 ∧ (y1 + y2) % p256P = 0 then none
    else
      let l := if x1 = x2 then 3 * (x1 * x1 + p256P - 1) % p256P * invMod p256P (2 * y1) % p256P
        else (y2 + p256P - y1) * invMod p256P (x2 + p256P - x1) % p256P
      let x3 := (l * l + 2 * p256P - x1 - x2) % p256P
      some (x3, (l * (x1 + p256P - x3) + p256P - y1) % p256P)

/-- Multiple of a point, by the bits of `k`; `n` bounds their number. -/
def ptMul : Nat → Nat → Option (Nat × Nat) → Option (Nat × Nat)
  | 0, _, _ => none
  | n + 1, k, p => if k = 0 then none else
      let r := ptMul n (k / 2) (ptAdd p p)
      if k % 2 = 1 then ptAdd r p else r

/-- Does a point lie on the curve? -/
def onCurve (x y : Nat) : Bool :=
  decide (x < p256P) && decide (y < p256P) && y * y % p256P == (x * x % p256P * x + (p256P - 3) * x + p256B) % p256P

/-- ECDSA verification of a digest. -/
def ecdsaOk (digest x y r s : Nat) : Bool :=
  onCurve x y && decide (1 ≤ r) && decide (r < p256N) && decide (1 ≤ s) && decide (s < p256N) &&
    (let w := invMod p256N s
     match ptAdd (ptMul 256 (digest * w % p256N) (some p256G)) (ptMul 256 (r * w % p256N) (some (x, y))) with
     | some (x1, _) => x1 % p256N == r
     | none => false)

/-! ### CRC-8 -/

/-- CRC-8 of the Gate port: polynomial 0x2F, initial value and final XOR 0xFF, no reflection (R428). -/
def crc8 (bs : List Byte) : Nat :=
  bs.foldl (fun c b => (List.range 8).foldl (fun x _ => if 128 ≤ x then (2 * x % 256) ^^^ 0x2F else 2 * x) (c ^^^ b.toNat)) 0xFF ^^^ 0xFF

end Sys2Proof.Machine
end

