-- ==== Sys2Proof/Machine/ReeveFx.lean ====
section
/-!
DEFINITION. The Reeve's services: its RAM and watchdog, the serial master and the flash window, the Chest, the
lifecycle, signed images and settings (R417 to R426, R433 to R448).
-/
namespace Sys2Proof.Machine

/-! ### Serial master and flash window (R423 to R426) -/

/-- SERM_GPIO_IN: an output reads its driven level, an input the board's. -/
def State.gpioIn (s : State) : Nat :=
  let oe := (s.reg pSERM SERM_GPIO_OE).toNat
  (((s.reg pSERM SERM_GPIO_OUT).toNat &&& oe) ||| (s.pins.gpioIn &&& (0xFFFF ^^^ oe))) % 65536

/-- The GPIO bits that belong to the flash window (R424). -/
def State.windowPins (s : State) : Nat :=
  2 ^ s.fldR pSERM SERM_CFG 23 20 ||| (if s.fldR pSERM SERM_CFG 19 18 = 0 then 0 else 0xC000)

/-- Does every GPIO in SERM_SELMASK read high (R425)? -/
def State.selectsHigh (s : State) : Bool :=
  let m := (s.reg pSERM SERM_SELMASK).toNat
  (m &&& s.gpioIn) == m

/-- Byte of the flash. -/
def State.flashByte (s : State) (a : Nat) : Byte := s.flash.get flashDefault a

/-- Write bytes of the flash. -/
def State.setFlash (s : State) (a : Nat) (bs : List Byte) : State :=
  { s with flash := s.flash.putList flashDefault a bs }

/-- The command of a window operation in a mode of the flash, with 4-byte addresses or 3-byte ones (Table 16.3). -/
def flashOpcode (mode : Nat) (four : Bool) : FlashOp → Byte
  | .read .. => if mode = 0 then (if four then 0x0C else 0x0B) else if mode = 1 then (if four then 0x6C else 0x6B)
      else if four then 0xEC else 0xEB
  | .program .. => if mode = 0 then (if four then 0x12 else 0x02) else if four then 0x34 else 0x32
  | .erase _ big => if big then (if four then 0xDC else 0xD8) else if four then 0x21 else 0x20

/-- What the window sends to the flash for an operation: a read by itself; a program or an erase after a write enable, and
then a read of the status (R426, Table 16.3; log entry 63). -/
def State.flashFrames (s : State) (op : FlashOp) : List (List Byte) :=
  let four := s.bitR pSERM SERM_CFG 17
  let adr := if four then beBytes 4 op.addr else beBytes 3 (op.addr % 2 ^ 24)
  let f := flashOpcode (s.fldR pSERM SERM_CFG 19 18) four op :: adr
  match op with
  | .read .. => [f]
  | .program _ ds => [[0x06], f ++ ds, [0x05]]
  | .erase .. => [[0x06], f, [0x05]]

/-- A window operation is carried out (R426): a program clears bits and is read back; an erase sets its block. Where the
flash fails, the bytes named hold a free value (log entry 5), and SERM_FWERR counts the failure. -/
def State.doWindow (s : State) (op : FlashOp) (good : Bool) : State :=
  match op with
  | .read a n => s.ok (bytesWords ((List.range (3 * n)).map (fun i => s.flashByte (a + i))))
  | .program a ds =>
    if good then
      let back := (List.range ds.length).map (fun i => s.flashByte (a + i) &&& ds.getD i 0)
      let s := s.setFlash a back
      if back = ds then s.ok else (s.inc pSERM SERM_FWERR).err .state
    else
      let (v, s) := s.takeFree
      let s := s.setFlash a ((List.range ds.length).map (fun i => s.flashByte (a + i) &&& BitVec.ofNat 8 (v / 256 ^ i)))
      (s.inc pSERM SERM_FWERR).err .state
  | .erase a big =>
    let n := if big then 65536 else 4096
    let b := floorTo n a
    if good then { s with flash := s.flash.keep (fun k => k < b || b + n ≤ k) }.ok
    else
      let (v, s) := s.takeFree
      let s := s.setFlash b ((List.range n).map (fun i => s.flashByte (b + i) ||| BitVec.ofNat 8 (v / 256 ^ i)))
      (s.inc pSERM SERM_FWERR).err .state

/-- The waiting window operation starts if nothing keeps it (R425). -/
def State.windowTry (s : State) : State :=
  match s.reeve.winWait with
  | some (op, good) =>
    if !s.bitR pSERM SERM_STAT 23 ∧ s.selectsHigh then
      ({ s with reeve := { s.reeve with winWait := none, sent := s.flashFrames op } }.setBit pSERM SERM_STAT 22 false).doWindow op
        good
    else s
  | none => s

/-- A window operation is requested (R425): it waits for a host transfer's end and for the selects. -/
def State.windowRequest (s : State) (op : FlashOp) (good : Bool) : State :=
  match s.reeve.winWait with
  | some _ => s
  | none => ({ s with reeve := { s.reeve with winWait := some (op, good) } }.setBit pSERM SERM_STAT 22 true).windowTry

/-- A select stayed low for 10 ms while the window waits: the device drives the selects high, sets SELFORCE and starts
the operation (R425). -/
def State.selForce (s : State) : State :=
  match s.reeve.winWait with
  | some _ =>
    if !s.selectsHigh ∧ !s.bitR pSERM SERM_STAT 23 then
      let m := (s.reg pSERM SERM_SELMASK).toNat &&& (0xFFFF ^^^ s.gpioIn)
      let s := s.setReg pSERM SERM_GPIO_OUT (word ((s.reg pSERM SERM_GPIO_OUT).toNat ||| m))
      let s := s.setReg pSERM SERM_GPIO_OE (word ((s.reg pSERM SERM_GPIO_OE).toNat ||| m))
      (s.setBit pSERM SERM_STAT 19 true).windowTry
    else s
  | none => s

/-- A host transfer starts (R423). -/
def State.sermGo (s : State) : State := s.setBit pSERM SERM_STAT 23 true

/-- A host transfer ends: WIDTH bits of TX have gone out on SM_DO, most significant first, and as many are captured, the
upper bits of RX zero (R423). -/
def State.sermDone (s : State) (sdi : Nat) : State :=
  if s.bitR pSERM SERM_STAT 23 then
    let w := s.fldR pSERM SERM_XCFG 21 16
    let out := (List.range w).map (fun i => nbit (s.wideR pSERM SERM_TX0 2) (w - 1 - i))
    let s := { s with reeve := { s.reeve with sdo := out } }.setWide pSERM SERM_RX0 2 (sdi % 2 ^ w)
    ((s.setBit pSERM SERM_STAT 23 false).setBit pSERM SERM_STAT 21 true).windowTry
  else s

/-- SM_RDY was not high within 1 ms of a GO with RDY = 1 (R423). -/
def State.sermTimeout (s : State) : State :=
  if s.bitR pSERM SERM_STAT 23 ∧ s.bitR pSERM SERM_XCFG 7 then
    let s := (s.setBit pSERM SERM_STAT 23 false).setBit pSERM SERM_STAT 20 true
    (s.raiseN pSERM 0x0D4).windowTry
  else s

/-- The check of GO (R425). -/
def State.checkGo (s : State) : Option Err :=
  if s.bitR pSERM SERM_STAT 22 ∨ s.bitR pSERM SERM_STAT 23 then some .busy else none

/-! ### The Chest (R437 to R441) -/

/-- Is sealing disabled: every EPOCH fuse blown (R441)? -/
def State.sealX (s : State) : Bool := decide (64 ≤ s.fuses.epoch)

/-- Is a key of `State.tabs` a word of the Chest's data (t = 0) or attributes (t = 1)? -/
def chestKey (t k : Nat) : Bool := decide (tkey pCHEST t 0 ≤ k) && decide (k < tkey pCHEST (t + 1) 0)

/-- The Chest's words as a sealed image holds them. -/
def State.chestWords (s : State) (t : Nat) : Store Word := s.tabs.keep (chestKey t)

/-- Empty the Chest and its attributes (R439). -/
def State.clearChest (s : State) : State := { s with tabs := s.tabs.keep (fun k => !chestKey 0 k && !chestKey 1 k) }

/-- Is an image bound to the current EPOCH, so that it authenticates (R438)? -/
def State.authentic (s : State) (i : Option Sealed) : Bool :=
  match i with
  | some x => x.epoch == s.fuses.epoch
  | none => false

/-- The newest valid image: 0 image A, 1 image B. -/
def State.newestImage (s : State) : Option Nat :=
  let a := s.authentic s.chest.imgA
  let b := s.authentic s.chest.imgB
  let oa := match s.chest.imgA with
    | some x => x.order
    | none => 0
  let ob := match s.chest.imgB with
    | some x => x.order
    | none => 0
  if a ∧ b then (if oa < ob then some 1 else some 0) else if a then some 0 else if b then some 1 else none

/-- A seal (R438, R441): the image goes to the area that does not hold the newest valid one. -/
def State.chestSeal (s : State) (good : Bool) : State :=
  if good then
    let img : Sealed := { epoch := s.fuses.epoch, order := s.chest.order + 1, data := s.chestWords 0, attrs := s.chestWords 1 }
    let c : Chest := { s.chest with order := s.chest.order + 1 }
    let c : Chest := if s.newestImage = some 0 then { c with imgB := some img } else { c with imgA := some img }
    { s with chest := c }.setBit pCHEST CHEST_STAT 22 false
  else (s.inc pSERM SERM_FWERR).raiseN pCHEST 0x0D8

/-- May the Chest be sealed: sealing not disabled by EPOCH or by SCRAPPED, and no wipe in progress (R433, R441)? -/
def State.canSeal (s : State) : Bool := !s.sealX && s.fuses.life != 4 && !s.bitR pCHEST CHEST_STAT 23

/-- The seal that follows 1 s after the last Chest write (R438). -/
def State.autoSeal (s : State) (good : Bool) : State :=
  if s.run.st ≠ .cold ∧ s.bitR pCHEST CHEST_STAT 22 ∧ s.canSeal ∧
      10 ^ 12 ≤ (s.time.base + 2 ^ 64 - s.chest.touched) % 2 ^ 64 then s.chestSeal good
  else s

/-- A wipe (R439, R441): one EPOCH fuse blows if one is left, the Chest clears, and WIPING is 1 until it completes. -/
def State.wipe (s : State) (cause : Nat) : State :=
  let x := s.sealX
  let s : State := { s with fuses := { s.fuses with epoch := min 64 (s.fuses.epoch + 1) } }.clearChest
  let s := (s.setBit pCHEST CHEST_STAT 23 true).setBit pCHEST CHEST_STAT 22 false
  let s := (s.inc pCHEST CHEST_WIPES).setReg pCHEST CHEST_LAST (word (at_ 20 cause))
  if s.sealX ∧ !x then s.raiseN pCHEST 0x0D8 else s

/-- The wipe is complete, and the Reeve has erased both images (R439). -/
def State.wipeDone (s : State) : State :=
  if s.bitR pCHEST CHEST_STAT 23 then
    { s.setBit pCHEST CHEST_STAT 23 false with chest := { s.chest with imgA := none, imgB := none } }
  else s

/-- A tamper (R440). -/
def State.tamper (s : State) (cause : Nat) : State :=
  (s.wipe cause).raise { cls := .g, code := 0x0D0, page := pCHEST, detail := cause }

/-- Restore the newest image that authenticates (R438); the Chest starts wiped where none does. -/
def State.chestRestore (s : State) (good : Bool) : State :=
  let img := match s.newestImage with
    | some 0 => s.chest.imgA
    | some _ => s.chest.imgB
    | none => none
  match img with
  | some x =>
    if good then
      let put (m : Store Word) (e : Nat × Word) : Store Word := m.put tabDefault e.1 e.2
      { s with tabs := x.attrs.foldl put (x.data.foldl put s.clearChest.tabs) }.setBit pCHEST CHEST_STAT 21 true
    else s.clearChest
  | none => s.clearChest

/-- The check of a read of a Chest word by initiator `ini` (R437, R439, Table 16.7). -/
def State.checkChestRead (s : State) (ini tsel idx : Nat) : Option Err :=
  if s.bitR pCHEST CHEST_STAT 23 then some .wiping
  else if tsel = 0 ∧ ini < 3 then
    if s.fuses.life = 4 then some .state
    else if s.fuses.life = 3 ∨ !bit (s.tab pCHEST 1 (idx / 256)) 23 then some .auth
    else none
  else none

/-- The check of a write of a Chest word (R437, R439). -/
def State.checkChestWrite (s : State) (tsel idx : Nat) (w : Word) : Option Err :=
  if s.bitR pCHEST CHEST_STAT 23 then some .wiping
  else if tsel = 0 then (if bit (s.tab pCHEST 1 (idx / 256)) 22 then some .locked else none)
  else
    let old := s.tab pCHEST 1 idx
    if (bit w 23 && !bit old 23) ∨ (bit old 22 && !bit w 22) then some .state else none

/-- A Chest word is written: DIRTY sets, and the second to the seal starts (R438). -/
def State.putChest (s : State) (tsel idx : Nat) (w : Word) : State :=
  let s := s.setTab pCHEST tsel idx (if tsel = 0 then w else w &&& 0xC00000)
  { s.setBit pCHEST CHEST_STAT 22 true with chest := { s.chest with touched := s.time.base } }

/-- The check of CHEST_CMD (R439, R441, R453). -/
def State.checkChestCmd (s : State) (w : Word) : Option Err :=
  if s.bitR pCHEST CHEST_STAT 23 then some .wiping
  else if s.run.st ≠ .ready ∧ s.run.st ≠ .run ∧ s.run.st ≠ .recovery ∧ s.run.st ≠ .test then some .state
  else if 3 ≤ w.toNat then some .range
  else if bit w 1 ∧ !s.canSeal then some .state
  else none

/-! ### Lifecycle (R433 to R436) -/

/-- Is a change of the lifecycle state permitted (R434)? -/
def lifeStep (a b : Nat) : Bool :=
  (a == 0 && (b == 1 || b == 2)) || (a == 1 && b == 2) || (a == 2 && b == 3) || (a != 4 && b == 4)

/-- The check of LIFE_CMD beyond its lock (R434, R435, R454). -/
def State.checkLifeCmd (s : State) (w : Word) : Option Err :=
  let act := fld w 23 20
  if s.run.st ≠ .test then some .state
  else if s.reeve.change.isSome then some .busy
  else if act = 2 ∧ (s.fuses.life ≠ 1 ∨ s.fuses.mkeySet) then some .state
  else if fld w 16 0 ≠ 0 then some .range
  else if act = 1 then (if lifeStep s.fuses.life (fld w 19 17) then none else some .range)
  else if act = 2 then (if fld w 19 17 = 0 then none else some .range)
  else some .range

/-- LIFE_CMD accepted: ADVANCE wipes the Chest and programs the fuses; PROG_MKEY fuses the maker key hash. -/
def State.lifeCmd (s : State) (w : Word) : State :=
  if fld w 23 20 = 1 then
    let s := s.wipe 5
    { s with reeve := { s.reeve with change := some (fld w 19 17) } }
  else
    { s with fuses := { s.fuses with mkeySet := true, mkey := (List.range 11).map (fun i => s.reg pLIFE (LIFE_MKEY0 + i)) } }

/-- The lifecycle change ends (R434): the new state applies; a failed check of the fuses raises class G. -/
def State.lifeDone (s : State) (good : Bool) : State :=
  match s.reeve.change with
  | some t =>
    let s : State := { s with reeve := { s.reeve with change := none }, fuses := { s.fuses with life := t } }
    if good then s
    else { s with fuses := { s.fuses with ok := false } }.raise { cls := .g, code := 0x0C2, page := pID }
  | none => s

/-! ### Images and updates (R442 to R446) -/

/-- The words of an image the services can hold: its header, payload and trailer. -/
def imgWord (img : List Word) (i : Nat) : Word := img.getD i 0

/-- Words of one area of a kind: 1 FIRMWARE, 2 PATCH, 3 CALIB; three bytes to one word (Table 16.2, R426). -/
def areaWords (kind : Nat) : Nat :=
  if kind = 1 then 1048576 / 3 else if kind = 2 then 65536 / 3 else if kind = 3 then 131072 / 3 else 0

/-- The PLEN that a kind allows (Table 16.9). -/
def plenOk (kind plen : Nat) : Bool :=
  if kind = 1 then decide (plen ≤ 349440) else if kind = 2 then plen == 306 else plen == 36864

/-- The 64 bytes that 22 trailer words from `i` hold, and the two bytes after them. -/
def trailerBytes (img : List Word) (i : Nat) : List Byte := ((List.range 22).map (fun j => imgWord img (i + j))).flatMap wordBytes

/-- End the update in progress with a result (R444, R445): the staged area is discarded. -/
def State.endUpdate (s : State) (result : Nat) : State :=
  let s := (s.setFld pUPD UPD_STAT 23 22 0).setFld pUPD UPD_STAT 17 14 result
  { s with upd := { s.upd with staged := [] } }

/-- The update in progress is aborted by the device, if one is (R449); a committed patch that waits stays committed. -/
def State.abortUpdate (s : State) : State :=
  if s.fldR pUPD UPD_STAT 23 22 = 1 ∨ s.fldR pUPD UPD_STAT 23 22 = 2 then s.endUpdate 6 else s

/-- Source of the first class H fault (R367, R444). -/
def State.firstH (s : State) : Nat := fld (s.tab pWATCH 0 12) 11 0

/-- BEGIN (R444). -/
def State.updBegin (s : State) (ini kind total : Nat) : Except Err State :=
  if s.fldR pUPD UPD_STAT 23 22 ≠ 0 then .error .busy
  else if s.fuses.life = 4 ∨ (s.run.st = .halted ∧ (s.firstH ≠ 0x0D5 ∨ kind ≠ 1)) ∨
      (s.run.st ≠ .ready ∧ s.run.st ≠ .run ∧ s.run.st ≠ .test ∧ s.run.st ≠ .halted) then .error .state
  else if total < 61 ∨ areaWords kind < total then .error .range
  else
    let s := s.setReg pUPD UPD_STAT (word (at_ 22 1 + at_ 18 kind + at_ 12 ini))
    let s := (s.setWide pUPD UPD_TOTAL0 2 total).setWide pUPD UPD_RECV0 2 0
    .ok { s with upd := { s.upd with staged := [], last := s.time.base } }

/-- Is an update RECEIVING and the initiator its OWNER (R444)? In SCRAPPED no image is accepted (Table 16.7). -/
def State.updMine (s : State) (ini : Nat) : Bool := s.fuses.life != 4 && s.fldR pUPD UPD_STAT 23 22 == 1 && s.fldR pUPD UPD_STAT 13 12 == ini

/-- DATA (R444, R445): `good` says whether the flash programs the words. -/
def State.updData (s : State) (ini offset : Nat) (data : List Word) (good : Bool) : Except Err State × State :=
  if !s.updMine ini then (.error .state, s)
  else if offset ≠ s.wideR pUPD UPD_RECV0 2 ∨ s.wideR pUPD UPD_TOTAL0 2 < offset + data.length then (.error .range, s)
  else if good then
    let t := s.setWide pUPD UPD_RECV0 2 (offset + data.length)
    let t : State := { t with upd := { t.upd with staged := t.upd.staged ++ data, last := t.time.base } }
    (.ok t, t)
  else (.error .state, (s.inc pSERM SERM_FWERR).endUpdate 5)

/-- The checks of an image under R445 before its flash operations: the RESULT, 1 where all pass. -/
def State.verifyImage (s : State) (kind total : Nat) (img : List Word) (inj : Bool) : Nat :=
  let w0 := imgWord img 0
  let plen := wide [imgWord img 3, imgWord img 4]
  let svn := fld w0 5 0
  let key := fld (imgWord img 8) 23 22
  let pub := trailerBytes img (16 + plen)
  let sig := trailerBytes img (38 + plen)
  let formatOk := fld w0 23 20 == kind && fld w0 19 16 == 1 && fld w0 15 6 == 0 && (kind != 3 || svn == 0)
    && plenOk kind plen && plen + 60 == total
    && (kind == 3 || [5, 6, 7].all (fun i => imgWord img i == 0)) && fld (imgWord img 8) 21 0 == 0
    && (List.range 7).all (fun i => imgWord img (9 + i) == 0)
    && (pub.drop 64).all (· == 0) && (sig.drop 64).all (· == 0)
  let unsigned := pub.all (· == 0) && sig.all (· == 0)
  let digest := sha256 ((img.take (16 + plen)).flatMap wordBytes)
  let sigOk := !inj && ecdsaOk digest (beNat (pub.take 32)) (beNat ((pub.drop 32).take 32))
    (beNat (sig.take 32)) (beNat ((sig.drop 32).take 32))
  let keyHash := sha256 (pub.take 64)
  let keyOk := (key == 0 && keyHash == Config.vendorKeyHash)
    || (key == 1 && kind == 3 && s.fuses.mkeySet && keyHash == wide s.fuses.mkey)
  let authOk := if s.fuses.life = 0 then !inj && (unsigned || sigOk) else decide (s.fuses.life ≤ 3) && keyOk && sigOk
  let uniqOk := kind != 3 || wide [imgWord img 5, imgWord img 6, imgWord img 7] == s.fuses.uniq
  if !formatOk then 2 else if !authOk ∨ !uniqOk then 3 else if kind ≠ 3 ∧ svn < s.fuses.svn then 4 else 1

/-- Make an image the active one of its kind: it is in the inactive area, and the boot header changes (R422). -/
def State.commitImage (s : State) (kind : Nat) (img : List Word) : State :=
  let m := s.fmap
  if kind = 1 then { s with fmap := { m with fw := m.fw.set (!m.fwB).toNat (some img), fwB := !m.fwB, seq := m.seq + 1 } }
  else if kind = 2 then
    let s := s.setWide pUPD UPD_PVER0 2 (wide [imgWord img 1, imgWord img 2])
    { s with fmap := { m with patch := m.patch.set (!m.patchB).toNat (some img), patchB := !m.patchB, seq := m.seq + 1 } }
  else
    let cal := (List.range 36864).foldl (fun c i => Store.put zeroDefault c i (imgWord img (16 + i))) []
    { s with fmap := { m with cal := m.cal.set (!m.calB).toNat (some (s.fuses.uniq, cal)), calB := !m.calB, seq := m.seq + 1 } }

/-- FINISH (R444 to R446): the status, the RESULT and the state. A committed patch is written at once, or waits for PEND. -/
def State.updFinish (s : State) (ini : Nat) (good : Bool) : Except Err Nat × State :=
  let kind := s.fldR pUPD UPD_STAT 21 18
  let total := s.wideR pUPD UPD_TOTAL0 2
  if !s.updMine ini then (.error .state, s)
  else if s.wideR pUPD UPD_RECV0 2 ≠ total then (.error .range, s)
  else
    let img := s.upd.staged
    let inj := s.bitR pUPD PG_INJ 0
    let s := s.setBit pUPD PG_INJ 0 false
    let r := s.verifyImage kind total img inj
    if r ≠ 1 then
      let s := s.endUpdate r
      if r = 2 then (.error .range, s)
      else (.error .auth, s.raise { cls := .n, code := 0x0D7, page := pUPD, inj := inj })
    else if !good then (.error .state, (s.inc pSERM SERM_FWERR).endUpdate 5)
    else
      let svn := fld (imgWord img 0) 5 0
      let s : State := if kind ≠ 3 ∧ s.fuses.svn < svn then { s with fuses := { s.fuses with svn := svn } } else s
      let s := (s.commitImage kind img).endUpdate 1
      if kind = 2 ∧ (s.run.st = .ready ∨ s.run.st = .run ∨ s.run.st = .test) then
        let s := s.setFld pUPD UPD_STAT 23 22 3
        (.ok 1, { s with upd := { s.upd with patchWait := true } }.flipBanks)
      else (.ok 1, s)

/-- The check of UPDATE ABORT and UPD_CMD.ABORT: IDLE refuses with STATE, COMMITTING with BUSY (R455). -/
def State.checkAbort (s : State) : Option Err :=
  if s.fldR pUPD UPD_STAT 23 22 = 0 then some .state
  else if s.fldR pUPD UPD_STAT 23 22 = 3 then some .busy
  else none

/-- LIFE_SVN and the words of UPDATE STATUS (Table 16.10). -/
def State.updStatus (s : State) : List Word :=
  [s.reg pUPD UPD_STAT, s.reg pUPD UPD_RECV0, s.reg pUPD UPD_RECV1, word s.fuses.svn]

/-- An update that has received no DATA for 60 s ends (R444). -/
def State.updIdle (s : State) : State :=
  if s.fldR pUPD UPD_STAT 23 22 = 1 ∧ 60 * 10 ^ 12 ≤ (s.time.base + 2 ^ 64 - s.upd.last) % 2 ^ 64 then s.endUpdate 6 else s

/-! ### Settings (R447, R448) -/

/-- May the settings be saved in the present run state? -/
def State.canSave (s : State) : Bool := s.run.st == .ready || s.run.st == .run || s.run.st == .test

/-- Save the settings block (R448). -/
def State.saveSettings (s : State) : State :=
  { s with fmap := { s.fmap with settings := some [s.reg pSERM SERM_CFG &&& 0xFDFE00, s.reg pSERM SERM_SELMASK,
                                                    s.reg pGATE GATE_CFG] } }

/-- Load the settings block, where one is valid (R448); SFDP of the flash names 4-byte addressing (R421, R426). -/
def State.loadSettings (s : State) : State :=
  let s := match s.fmap.settings with
    | some ws => ((s.setReg pSERM SERM_CFG (ws.getD 0 0)).setReg pSERM SERM_SELMASK (ws.getD 1 0)).setReg pGATE GATE_CFG (ws.getD 2 0)
    | none => s
  s.setBit pSERM SERM_CFG 17 true

/-! ### The processor (R417 to R419) -/

/-- A RAM error (R418); PG_INJ turns the next read into a corrected or an uncorrectable one (R450). -/
def State.reeveRam (s : State) (ue : Bool) : State :=
  let two := s.bitR pREEVE PG_INJ 1
  let one := s.bitR pREEVE PG_INJ 0
  let bad := two || (ue && !one)
  let s := if two then s.setBit pREEVE PG_INJ 1 false else if one then s.setBit pREEVE PG_INJ 0 false else s
  if bad then
    let s := s.setFld pREEVE REEVE_RAMERR 11 0 (satAdd 4095 (s.fldR pREEVE REEVE_RAMERR 11 0) 1)
    (s.raise { cls := .h, code := 0x0D2, page := pREEVE, inj := two }).abortUpdate
  else
    let n := s.fldR pREEVE REEVE_RAMERR 23 12
    let s := s.setFld pREEVE REEVE_RAMERR 23 12 (satAdd 4095 n 1)
    if n = 15 then s.raise { cls := .n, code := 0x0D3, page := pREEVE, inj := one } else s

/-- The firmware fails to serve its watchdog for 100 ms (R419). -/
def State.reeveWdog (s : State) : State :=
  if s.bitR pREEVE REEVE_STAT 23 then
    let s := ((s.raiseH pREEVE 0x0D1).setBit pREEVE REEVE_STAT 23 false).abortUpdate
    { s with reeve := { s.reeve with reload := true } }
  else s

/-- The firmware of the active area runs (R417, R450): RUN, FWAREA and its VERSION. -/
def State.runFirmware (s : State) : State :=
  let s := s.setReg pREEVE REEVE_STAT (word (at_ 23 1 + at_ 21 s.fmap.fwB.toNat))
  match s.fmap.fw.getD s.fmap.fwB.toNat none with
  | some img => { s with reeve := { s.reeve with fwver := wide [imgWord img 1, imgWord img 2] } }
  | none => { s with reeve := { s.reeve with fwver := Config.fwVersion s.fmap.fwB % 2 ^ 48 } }

/-- The boot ROM has reloaded the firmware from the active area (R419); a reload that does not verify goes on (log entry
24). -/
def State.reloadDone (s : State) (good : Bool) : State :=
  if s.reeve.reload ∧ good then { s.runFirmware with reeve := { s.runFirmware.reeve with reload := false } } else s

end Sys2Proof.Machine
end

