-- ==== Sys2Proof/Machine/Reads.lean ====
section
/-!
DEFINITION. What a read of a register or of a table word returns: the stored word, or the words that follow from the
rest of the state (R64, R66 to R74 and the page sections of every chapter).
-/
namespace Sys2Proof.Machine

/-! ### The header (R74, R457) -/

/-- The start step at whose end the pages of a kind come up (Table 15.9). -/
def upStep : Kind → Nat
  | .id => 1 | .top => 1 | .watch => 1 | .gate => 1 | .life => 1
  | .store => 2 | .confl => 2
  | .guard => 3
  | .dram => 4 | .refill => 4 | .stream => 4 | .slip => 4 | .tbase => 4 | .skew => 4 | .octtm => 4 | .octpe => 4
  | .acqg => 4 | .octacq => 4 | .green => 4 | .site => 4
  | .therm => 5
  | .mse => 6 | .ucode => 6 | .reeve => 6 | .serm => 6 | .chest => 6 | .update => 6
  | .daybook => 7
  | .glean => 8
  | .link => 9 | .abt => 9 | .ptp => 9

/-- PG_STAT.BUSY: the block runs something for which it may answer BUSY (log entry 12). -/
def State.blockBusy (s : State) (k : Kind) (page : Nat) : Bool :=
  match k with
  | .serm => s.bitR pSERM SERM_STAT 23 || s.bitR pSERM SERM_STAT 22
  | .daybook => s.day.compacting || s.day.mode == .formatting
  | .chest => s.bitR pCHEST CHEST_STAT 23
  | .life => s.reeve.change.isSome
  | .update => s.fldR pUPD UPD_STAT 23 22 != 0
  | .glean => s.bitR pGLEAN GLEAN_STAT 22 || s.bitR pGLEAN GLEAN_STAT 20
  | .ucode => s.mse.pend
  | .octpe => (s.oct (instOf page)).conv != 0 || (s.oct (instOf page)).adc.any (· != 0)
  | _ => false

/-- Is a unit of the page hedged or fenced (R34, R74): the site; a bank; a lane; a sensor; the stream, stopped by a class
D fault or HEDGE_REQ until it is reset or armed again; the octet, by the hedge of its site (log entry 48)? -/
def State.unitHedged (s : State) (k : Kind) (n : Nat) : Bool :=
  let site (n : Nat) : Bool := s.siteSt n == tHEDGED || s.siteSt n == tRETIRED
  match k with
  | .site => site n
  | .octpe => (s.siteOf n).any site
  | .octtm => (s.siteOf n).any site
  | .stream => s.strSt n == sSTOPPED && [3, 4, 5, 6, 9].contains (s.fldR (pSTREAM n) STREAM_STAT 19 16)
  | .store => s.banks.any (fun e => e.2.fenced)
  | .mse => s.mse.fenced != 0
  | .therm => decide (s.validSensors.length < 16)
  | _ => false

/-- PG_STAT. -/
def State.pgStat (s : State) (k : Kind) (page : Nat) : Word :=
  let hedged := s.unitHedged k (instOf page)
  word (at_ 23 (nbit s.run.up (upStep k)).toNat + at_ 22 hedged.toNat + at_ 21 (s.fldR page PG_FLT 23 21 != 0).toNat +
    at_ 20 (s.blockBusy k page).toNat)

/-! ### Words that follow from the rest of the state -/

/-- Bits of a word replaced where `m` is set. -/
def mix (w : Word) (m v : Word) : Word := (w &&& ~~~ m) ||| (v &&& m)

/-- TOP_STATE (R456). -/
def State.topState (s : State) : Word :=
  word (at_ 20 s.run.st.code + at_ 16 s.run.prev.code + at_ 12 s.run.step + s.run.warm.toNat)

/-- Commands accepted on a port and not yet replied to (R109, R124). -/
def State.inFlight (s : State) (port : Nat) : Nat :=
  (s.abt.sources.flatMap (fun x => x.spaces.flatMap (fun sp =>
    ((sp.held ++ sp.exec ++ sp.ready).filter (fun f => f.port == port)).map AbtFrame.count))).foldl (· + ·) 0

/-- Sources known on a port (R124). In redundant use a source is one pair on both ports together, and counts on both
(R105, log entry 57). -/
def State.sourcesOn (s : State) (port : Nat) : Nat :=
  (s.abt.sources.filter (fun x => x.port == port || x.port == 2)).length

/-- Banks fenced. -/
def State.nFenced (s : State) : Nat := (s.banks.filter (fun e => e.2.fenced)).length

/-- NSOFT: the soft repairs made in step 2 (R150). What the field shows of more than 255 is a free value (log entry 51). -/
def softCount (n : Nat) : Nat := if n < 256 then n else Config.free n % 256

/-- STORE_STAT (R150). -/
def State.storeStat (s : State) : Word :=
  if nbit s.run.up 2 then
    word (at_ 16 (128 - s.nFenced) + at_ 8 s.nFenced + softCount ((s.banks.map (fun e => e.2.soft)).foldl (· + ·) 0))
  else 0

/-- A bank status entry (Table 5.5). -/
def State.bankWord (s : State) (b : Nat) : Word :=
  let v := s.bank b
  let used := match s.fuses.spares.find? (fun e => e.1 == b) with
    | some e => e.2
    | none => 0
  word (at_ 23 v.fenced.toNat + at_ 22 v.bistFail.toNat + at_ 19 used + at_ 16 v.soft + at_ 8 v.ce + v.ue)

/-- A refill entry's words 4 to 7 (Table 5.6). -/
def State.refillWord (s : State) (k w : Nat) : Word :=
  if w = 4 then word (at_ 16 (min 255 (s.residentAhead k)) + at_ 8 (min 255 (s.ring k)))
  else if w = 5 then word (s.rfl_ k).wins
  else if w = 6 then word (s.rfl_ k).empty
  else 0

/-- A live slip entry (Table 7.12). -/
def State.slipWord (s : State) (n : Nat) : Word :=
  let st := s.siteSt n
  word (at_ 23 (st == tACTIVE || st == tPARKED).toNat + at_ 21 (s.siteStream n) + s.slip n)

/-- The set that applies to a site's next pattern vector in column `c` (OCTTM_CUR.PEND). -/
def State.pendSet (s : State) (n c cur : Nat) : Nat :=
  let st := s.stream (s.siteStream n)
  let next := (st.items.drop (s.site n).cur).findSome? (fun i => match i with
    | .vec _ _ _ tsets _ sw => some ((bodySets (s.site n).loopSets sw tsets).getD c 0)
    | _ => none)
  match next with
  | some t => t
  | none => st.exp.tsw.getD c cur

/-- OCTTM_CUR (R254). -/
def State.octtmCur (s : State) (o : Nat) : Word :=
  match s.siteOf o with
  | none => 0
  | some n =>
    let st := s.siteSt n
    let live := st == tACTIVE || st == tPARKED
    let c := (s.octetsOf n).idxOf o
    let t := (s.site n).tsets.getD c 0
    word (at_ 16 n + at_ 15 live.toNat + at_ 10 t + at_ 5 (if live then s.pendSet n c t else t))

/-- A consumer status entry (Table 12.8). -/
def State.consWord (s : State) (c : Nat) : Word := putBit (s.tab pGREEN 2 c) 21 (s.consBusy c s.time.edge)

/-- GREEN_STAT (R347). -/
def State.greenStat (s : State) : Word :=
  let st := (List.range 64).map (s.tab pGREEN 2)
  word (at_ 23 (st.any (fun w => bit w 23)).toNat + at_ 22 (st.any (fun w => bit w 22)).toNat +
    at_ 14 (((List.range 128).filter (fun c => bit (s.tab pGREEN 1 c) 23)).length))

/-- Is a monitor on its fault side, ACTION 0 excluded (R351)? -/
def State.monFault (s : State) (m : Nat) : Bool := s.monAction m != 0 && (s.mon m).fault

/-- A monitor status entry (Table 13.10). -/
def State.monWord (s : State) (m : Nat) : Word :=
  let v := s.mon m
  word (at_ 23 (s.monFault m).toNat + at_ 22 (v.last == 1).toNat + at_ 21 v.chkFail.toNat + v.trips)

/-- GUARD_STAT (R373). -/
def State.guardStat (s : State) : Word :=
  let ms := List.range 592
  word (at_ 14 (ms.filter s.monFault).length + at_ 4 (ms.filter (fun m => (s.mon m).last == 1)).length)

/-- A sensor entry (R374). -/
def State.sensorWord (s : State) (k : Nat) : Word :=
  let v := s.sensor k
  word (at_ 23 v.valid.toNat + at_ 22 v.suspect.toNat + at_ 16 v.dcnt + unsigned 16 v.t)

/-- THERM_HOT (R374). -/
def State.thermHot (s : State) : Word :=
  match s.hottest with
  | some (k, t) => word (at_ 20 k + unsigned 16 t)
  | none => 0

/-- THERM_VALID (R374). -/
def State.thermValid (s : State) : Nat := s.validSensors.foldl (fun a k => a + 2 ^ k) 0

/-- DB_STAT (R416). -/
def State.dbStat (s : State) : Word :=
  let mode := match s.day.mode with
    | .none => 0 | .on => 1 | .formatting => 2 | .failed => 3
  word (at_ 22 mode + at_ 21 s.day.compacting.toNat + at_ 20 s.day.full.toNat + at_ 13 (min 100 s.day.fill) +
    at_ 8 s.day.group.length)

/-- CHEST_STAT (R453). -/
def State.chestStat (s : State) : Word :=
  mix (s.reg pCHEST CHEST_STAT) 0x1FE000 (word (at_ 20 s.sealX.toNat + at_ 13 s.fuses.epoch))

/-- GLEAN_STAT (R394). -/
def State.gleanStat (s : State) : Word :=
  let b := match s.glean.borrow with
    | some (.chan ..) => true
    | _ => false
  mix (s.reg pGLEAN GLEAN_STAT) 0x8003FF (word (at_ 23 b.toNat + s.glean.bad.length))

/-- GLEAN_AGE: the largest AGE of any channel with CHEN = 1 (R394). -/
def State.gleanAge (s : State) : Nat :=
  (List.range 512).foldl (fun a c => if s.bitR (pOCTPE (c / 8)) (OCTPE_PIN0 + c % 8) 12 then max a (s.calAge c) else a) 0

/-- A subscription entry (Table 4.7). -/
def State.slotEntry (s : State) (i w : Nat) : Word :=
  let v := s.slot i
  if w = 0 then word (at_ 23 v.isOpen.toNat + at_ 22 v.stall.toNat + at_ 18 v.kind + v.dport)
  else if w = 1 then word v.dip
  else if w = 2 then word (at_ 16 (v.dip / 2 ^ 24) + v.next)
  else word (at_ 16 v.window + v.oldest)

/-- Does PTP follow a master: UNCALIBRATED or SLAVE (R122)? -/
def State.ptpSlave (s : State) : Bool := s.fldR pPTP PTP_STAT 23 20 == 8 || s.fldR pPTP PTP_STAT 23 20 == 9

/-- PTP_OFS at time `t` of the time base: advanced by PTP_RATE, in units of 0.01 ppb, since its last update while the
device follows a master (R120, log entry 13); it stands where that has brought it once the device follows none (R122; DESIGN
CHOICE, log entry 18). -/
def State.ptpAhead (s : State) (t : Nat) : Int :=
  let o := signed 72 (s.wideR pPTP PTP_OFS0 3)
  if s.ptpSlave then o + signed 24 (s.reg pPTP PTP_RATE).toNat * ((t : Int) - (s.ptp.at_ : Int)) / 10 ^ 11 else o

/-- A word of page ID: the fuses, loaded in step 1 (R81). -/
def State.idWord (s : State) (off : Nat) : Word :=
  if off = ID_LOT0 then s.fuses.lot0
  else if off = ID_LOT1 then s.fuses.lot1 &&& 0xFFF000
  else if off = ID_WAFER then word (s.fuses.wafer % 256)
  else if off = ID_DIEXY then word (at_ 12 (s.fuses.x % 4096) + s.fuses.y % 4096)
  else if off = ID_SITE then word (s.fuses.tsite % 256)
  else if ID_UNIQ0 ≤ off ∧ off ≤ ID_UNIQ2 then word (s.fuses.uniq % 2 ^ 64 / 2 ^ (24 * (off - ID_UNIQ0)))
  else if off = ID_FUSE then word (at_ 23 s.fuses.ok.toNat)
  else s.reg pID off

/-! ### Registers -/

/-- What initiator `ini` reads at an offset of a page of kind `k`. -/
def State.readBlock (s : State) (ini page : Nat) (k : Kind) (off : Nat) : Word :=
  let w := s.reg page off
  let n := instOf page
  match k with
  | .id => s.idWord off
  | .top =>
    if off = TOP_STATE then s.topState
    else if off = TOP_CHIPNO then mix w 0x3FF000 (word (at_ 12 (s.pins.strap % 1024)))
    else if off = TOP_WHO then word ini else w
  | .abt =>
    if off = ABT_INFL then word (at_ 9 (s.inFlight 1) + s.inFlight 0)
    else if off = ABT_SRC then word (at_ 4 (s.sourcesOn 1) + s.sourcesOn 0) else w
  | .store => if off = STORE_STAT then s.storeStat else w
  | .tbase =>
    if TBASE_NOW0 ≤ off ∧ off ≤ TBASE_NOW2 then word (s.time.base / 2 ^ (24 * (off - TBASE_NOW0)))
    else if off = TBASE_STAT then putBit w 20 s.genBusy else w
  | .skew => if off = SKEW_STAT then putBit (putBit w 20 s.time.send.isSome) 19 s.time.listen.isSome else w
  | .mse =>
    if off = MSE_STAT then word (at_ 16 s.mse.fenced)
    else if off = MSE_QCNT then word (at_ 12 (s.slotsIn .queued) + s.slotsIn .running)
    else if off = MSE_DCNT then word (at_ 12 (s.slotsIn .done)) else w
  | .ucode =>
    if off = UCODE_STAT then word (at_ 23 s.mse.act + at_ 22 s.mse.pend.toNat + at_ 14 s.mse.laneBank + at_ 13 s.mse.romOk.toNat)
    else w
  | .acqg =>
    if ACQG_XUSED0 ≤ off ∧ off < ACQG_XUSED0 + 2 then word (s.xused / 2 ^ (24 * (off - ACQG_XUSED0))) else w
  | .green => if off = GREEN_STAT then s.greenStat else w
  | .guard => if off = GUARD_STAT then s.guardStat else w
  | .therm =>
    if off = THERM_STAT then mix w 0x1F0000 (word (at_ 16 s.validSensors.length))
    else if off = THERM_HOT then s.thermHot
    else if off = THERM_VALID then word s.thermValid
    else if off = THERM_COMP then word (unsigned 24 (s.comp 0)) else w
  | .watch => if off = WATCH_STAT then putBit (putBit w 14 (!s.watch.handling.isEmpty)) 13 s.fltLow else w
  | .glean => if off = GLEAN_STAT then s.gleanStat else if off = GLEAN_AGE then word s.gleanAge else w
  | .reeve =>
    if REEVE_FWVER0 ≤ off ∧ off < REEVE_FWVER0 + 2 then word (s.reeve.fwver / 2 ^ (24 * (off - REEVE_FWVER0)))
    else if off = REEVE_UTIL then word (at_ 16 (if s.bitR pREEVE REEVE_STAT 23 then Config.free s.fresh % 101 else 0) + at_ 8 (min 32 s.day.queue.length)) else w
  | .serm => if off = SERM_GPIO_IN then word s.gpioIn else w
  | .daybook =>
    if off = DB_STAT then s.dbStat
    else if DB_LASTREC0 ≤ off ∧ off < DB_LASTREC0 + 2 then word (s.day.lastRec / 2 ^ (24 * (off - DB_LASTREC0)))
    else if DB_SEALED0 ≤ off ∧ off < DB_SEALED0 + 2 then word (s.day.sealedRec / 2 ^ (24 * (off - DB_SEALED0)))
    else if DB_LASTW0 ≤ off ∧ off < DB_LASTW0 + 2 then word (s.day.lastW / 2 ^ (24 * (off - DB_LASTW0)))
    else if off = DB_REPLAY then word (at_ 12 (min 4095 s.day.torn) + min 4095 s.day.skip)
    else if off = DB_GROUPS then word s.day.groups else w
  | .chest => if off = CHEST_STAT then s.chestStat else w
  | .life =>
    if off = LIFE_STATE then word (at_ 21 s.fuses.life + at_ 20 s.fuses.mkeySet.toNat + at_ 19 s.reeve.change.isSome.toNat)
    else if off = LIFE_CMD then 0
    else if off = LIFE_SVN then word s.fuses.svn
    else if s.fuses.mkeySet then s.fuses.mkey.getD (off - LIFE_MKEY0) 0 else w
  | .update =>
    if off = UPD_AREAS then word (at_ 23 s.fmap.fwB.toNat + at_ 22 s.fmap.patchB.toNat + at_ 21 s.fmap.calB.toNat) else w
  | .octpe =>
    if off = OCTPE_FLAG then putBit w 14 (s.oct n).tone.en
    else if off = OCTPE_RAILSTAT then putBit (putBit (putBit w 23 (s.railReg n)) 21 (s.inReg n)) 20 (!s.railReg n) else w
  | .octtm => if off = OCTTM_CUR then s.octtmCur n else w
  | .octacq =>
    if off = ACQ_STAT then putBit (putBit w 9 (s.acq n).heldAdc) 8 (s.acq n).pend.isSome
    else if off = ACQ_RUSED then word ((s.ringUsed n + 3) / 4) else w
  | .site =>
    if off = SITE_SLIP then word (s.slip n) else if off = SITE_SUBPTR then word (s.site n).subptr else w
  | .link => w
  | .ptp =>
    if PTP_OFS0 ≤ off ∧ off ≤ PTP_OFS2 then word (unsigned 72 (s.ptpAhead s.time.base) / 2 ^ (24 * (off - PTP_OFS0))) else w
  | .gate => w
  | .dram => w
  | .refill => w
  | .confl => w
  | .stream => w
  | .slip => w

/-- The TBL_ADDR of an initiator at a page (R71). -/
def State.tblAddrOf (s : State) (ini page : Nat) : Word := s.tblAddr.get zeroDefault (ini * 4096 + page)

/-- The live word that initiator `ini` reads at an offset of a page of kind `k` (R63, R74); TBL_DATA is read through the
table window. -/
def State.readReg (s : State) (ini page : Nat) (k : Kind) (off : Nat) : Word :=
  if off = PG_ID then word (at_ 12 (typeOf page) + instOf page)
  else if off = PG_VER then word (at_ 16 1 + lastOff k)
  else if off = PG_STAT then s.pgStat k page
  else if off < 0x0A then s.reg page off
  else if off < 0x0D then
    if hasTables k then
      if off = TBL_ADDR then s.tblAddrOf ini page
      else if off = TBL_LAST then word ((tableLast k (fld (s.tblAddrOf ini page) 23 20)).getD 0)
      else 0
    else 0
  else match regInfo k off with
    | none => 0
    | some r => if r.rw ||| r.lk ||| r.w1c ||| r.w1s ||| r.ro = 0 then 0 else s.readBlock ini page k off

/-! ### Tables -/

/-- The live word of a table. -/
def State.readTab (s : State) (page : Nat) (k : Kind) (tsel idx : Nat) : Word :=
  let w := s.tab page tsel idx
  match k with
  | .abt => s.slotEntry (idx / 4) (idx % 4)
  | .store => if tsel = 1 then s.bankWord idx else w
  | .refill => if idx % 8 < 4 then w else s.refillWord (idx / 8) (idx % 8)
  | .slip => if tsel = 0 then s.slipWord idx else w
  | .mse =>
    if tsel = 1 then (if (s.op (idx / 10)).st = .done then w else 0)
    else if tsel = 2 then s.slotWord idx else w
  | .ucode =>
    if tsel = 6 then Config.microRom idx
    else if tsel = 7 then word (Config.nanoRom (idx / 5) / 2 ^ (24 * (idx % 5))) else w
  | .acqg =>
    if idx % 16 = 14 then putBit (putBit w 9 (s.acq (64 + idx / 16)).heldAdc) 8 (s.acq (64 + idx / 16)).pend.isSome
    else if idx % 16 = 15 then word ((s.ringUsed (64 + idx / 16) + 3) / 4) else w
  | .green => if tsel = 2 then s.consWord idx else w
  | .guard => if tsel = 1 then s.monWord idx else w
  | .therm => s.sensorWord idx
  | .glean =>
    if tsel = 2 then s.chanStatus idx
    else if idx % 576 = 574 then word (s.recordCrc tsel (idx / 576))
    else if idx % 576 = 575 then word (s.recordCrc tsel (idx / 576) / 2 ^ 24) else w
  | _ => w

/-- The wide group that a table word belongs to: its lowest index and how many words it has (R3, R69). -/
def tableWide (k : Kind) (tsel idx : Nat) : Nat × Nat :=
  match k with
  | .refill => if idx % 8 < 4 then (idx / 2 * 2, 2) else (idx, 1)
  | .ucode => if tsel = 2 ∨ tsel = 3 then (idx / 5 * 5, 5) else (idx, 1)
  | .mse =>
    if tsel = 1 then
      let b := idx / 10 * 10
      let j := idx % 10
      if j = 2 ∨ j = 3 then (b + 2, 2) else if j = 4 ∨ j = 5 then (b + 4, 2) else if 7 ≤ j then (b + 7, 3) else (idx, 1)
    else (idx, 1)
  | .acqg =>
    let b := idx / 16 * 16
    let j := idx % 16
    if j = 4 ∨ j = 5 then (b + 4, 2) else if 9 ≤ j ∧ j ≤ 11 then (b + 9, 3) else (idx, 1)
  | .watch =>
    if tsel = 0 then (if 2 ≤ idx % 6 ∧ idx % 6 ≤ 4 then (idx / 6 * 6 + 2, 3) else (idx, 1))
    else (if idx % 4 = 0 then (idx, 1) else (idx / 4 * 4 + 1, 3))
  | .glean =>
    if tsel = 2 then (idx, 1)
    else
      let b := idx / 576 * 576
      let j := idx % 576
      if j < 512 then (if 48 ≤ j % 64 ∧ j % 64 ≤ 50 then (b + j / 64 * 64 + 48, 3) else (idx, 1))
      else if j = 523 ∨ j = 524 then (b + 523, 2) else if 574 ≤ j then (b + 574, 2) else (idx, 1)
  | _ => (idx, 1)

end Sys2Proof.Machine
end

