-- ==== Sys2Proof/Machine/Checks.lean ====
section
/-!
DEFINITION. The checks a write to a register or table word must pass beyond address, lock and access type, page by page
(the page sections of every chapter).
-/
namespace Sys2Proof.Machine

/-- A write of one word as it reaches a register: the word after it in the RW and LK fields, the bits written, and which
bits the write covers. `ws` are the words of the wide group as they will stand, where `commit` says that the group takes
its value with this word (R69); a single register is a group of one. -/
structure Put where
  w : Word
  act : Word
  mask : Word
  ws : List Word
  commit : Bool
  deriving DecidableEq, Repr

/-- The value of the group. -/
def Put.val (p : Put) : Nat := wide p.ws

/-- Refuse with `e` where a condition holds. -/
def refuse (c : Bool) (e : Err) : Option Err := if c then some e else none

/-- The first refusal of a list. -/
def firstErr : List (Option Err) → Option Err
  | [] => none
  | some e :: _ => some e
  | none :: r => firstErr r

/-- A command word whose bits from `n` up must be zero. -/
def highBits (w : Word) (n : Nat) : Option Err := refuse (decide (2 ^ n ≤ w.toNat)) .range

/-! ### Header (R74 to R76) -/

/-- Is the lock of a page open, and owned by the initiator (R76)? -/
def State.lockMine (s : State) (page ini : Nat) : Bool := s.bitR page PG_LOCK 0 && s.fldR page PG_LOCK 3 2 == ini

/-- The checks of PG_CTL, PG_FORCE, PG_INJ and PG_LOCK. -/
def State.checkHeader (s : State) (ini page off : Nat) (p : Put) : Option Err :=
  if off = PG_CTL then
    if fld p.act 21 20 ≠ 0 then
      firstErr [refuse (s.fuses.life == 3) .auth, refuse (s.run.st != .test) .state]
    else none
  else if off = PG_FORCE then refuse (s.run.st != .start && s.run.st != .test && s.run.st != .recovery) .state
  else if off = PG_INJ then refuse (s.run.st == .dead) .state
  else if off = PG_LOCK then
    if p.act = 0x5A5A5A then
      firstErr [refuse (s.run.st != .start && s.run.st != .ready && s.run.st != .recovery && s.run.st != .test) .state,
                refuse (s.bitR page PG_LOCK 0 && !s.lockMine page ini) .locked]
    else if p.act = 0 then refuse (s.bitR page PG_LOCK 0 && !s.lockMine page ini) .locked
    else some .range
  else none

/-! ### Run-state commands (R78, R408, R456) -/

/-- The condition of Table 15.5 for the first class H source. -/
def State.recoverable (s : State) : Bool :=
  let c := s.firstH
  let supply := (List.range 16).all (fun i => !(s.mon (576 + i)).fault)
  if c = 0x018 ∨ c = 0x019 then supply
  else if c = 0x022 ∨ c = 0x023 then true
  else if c = 0x0C1 then !tapIsolates s.pins.tap
  else if c = 0x032 then (match s.hottest with
    | some (_, t) => decide (t < 6720)
    | none => false)
  else if c = 0x035 then decide (8 ≤ s.validSensors.length)
  else if c = 0x054 then !s.bitR pDRAM DRAM_STAT 17
  else if c = 0x0C0 then s.pins.pwrwarnN
  else if c = 0x033 ∨ c = 0x071 ∨ c = 0x0C2 ∨ c = 0x0D0 then fld (s.tab pWATCH 0 12) 19 19 == 1
  else false

/-- The firmware failed in both areas, so that only a cold start leaves HALTED (R446). -/
def State.romOnly (s : State) : Bool := s.bitR pREEVE REEVE_STAT 22

/-- The check of TOP_CMD. -/
def State.checkTopCmd (s : State) (w : Word) : Option Err :=
  match w.toNat with
  | 1 => refuse (!(s.run.st == .halted || s.run.st == .ready) || s.romOnly) .state
  | 2 => refuse (s.run.st != .halted || s.run.inStart || s.romOnly || !s.recoverable) .state
  | 3 => refuse (s.run.st != .ready) .state
  | 4 => refuse (s.run.st != .test) .state
  | _ => some .range

/-! ### Registers -/

/-- Is an IPv4 address multicast, broadcast or zero (R123)? -/
def badIp (ip : Nat) : Bool := ip == 0 || ip == 0xFFFFFFFF || decide (0xE0000000 ≤ ip && ip < 0xF0000000)

/-- Is an ADC input code one of Table 9.8 (R272)? -/
def adcInput (c : Nat) : Bool := decide (c ≤ 0x14)

/-- The input that ADC `k` has in the two ADCSEL words. -/
def adcSel (w : Word) (k : Nat) : Nat := fld w (23 - 6 * (k % 4)) (18 - 6 * (k % 4))

/-- Is any ADC of an octet held or has a conversion pending? -/
def State.anyAdcBusy (s : State) (o : Nat) : Bool := (List.range 8).any (s.adcBusy o)

/-- Does the octet belong to a site that may switch its rail on (R280)? -/
def State.railAllowed (s : State) (o : Nat) : Bool :=
  match s.siteOf o with
  | some n => s.canHedge n
  | none => false

/-- The check of OCTPE_PIN (R271, R285). -/
def State.checkPin (s : State) (o i : Nat) (w : Word) : Option Err :=
  let old := s.reg (pOCTPE o) (OCTPE_PIN0 + i)
  let a := fld old 23 21
  let b := fld w 23 21
  let force (m : Nat) : Bool := m == 1 || m == 2 || m == 4
  let cross := (decide (a = 1 ∧ b = 2) || decide (a = 2 ∧ b = 1)) || (force a && b == 3) || (a == 3 && force b)
    || decide (a = 4 ∧ b = 2) || decide (a = 2 ∧ b = 4)
  firstErr [refuse (s.octBusy o) .state, refuse ((s.oct o).pmu.any (fun x => x.1 == i)) .busy,
    refuse (cross && (bit old 17 || bit w 17)) .state,
    refuse (decide (5 ≤ b) || decide (5 ≤ fld w 20 18)) .range]

/-- The check of OCTPE_RAILCFG (R279, R280): MODE and SPAN change only while ON is 0. -/
def State.checkRailCfg (s : State) (o : Nat) (p : Put) : Option Err :=
  let old := s.reg (pOCTPE o) OCTPE_RAILCFG
  firstErr [refuse (bit old 8 && fld old 23 19 != fld p.w 23 19) .state,
    refuse (bit p.act 8 && !s.railAllowed o) .state,
    refuse (fld p.w 23 22 == 3 || fld p.w 16 9 == 0 || decide (4 < fld p.w 21 19) ||
      (decide (fld old 21 19 ≠ fld p.w 21 19) && !setPointOk (fld p.w 21 19) (s.reg (pOCTPE o) OCTPE_RAILSET).toNat)) .range]

/-- The check of SITE_CFG (R202). -/
def State.checkSiteCfg (s : State) (n : Nat) (p : Put) : Option Err :=
  let k := fld p.w 22 21
  let idle := s.strSt k == sIDLE || s.strSt k == sSTOPPED
  let cols := (List.range (s.width k)).map (s.column n)
  if s.siteSt n ≠ tFREE then
    let now := s.siteStream n
    firstErr [refuse (decide (k ≠ now) || bit p.act 23) .state,
      refuse (!bit p.w 23 && (s.siteSt n != tASSIGNED || !(s.strSt now == sIDLE || s.strSt now == sSTOPPED))) .state]
  else if bit p.w 23 then
    firstErr [refuse (!idle) .state, refuse (!decide cols.Nodup || cols.any (fun o => (s.siteOf o).isSome)) .range]
  else none

/-- The check of ACQG_GCMD (R334). -/
def State.checkGcmd (s : State) (w : Word) : Option Err :=
  let act := fld w 23 22
  let u := 64 + fld w 1 0
  if act = 0 ∨ act = 3 ∨ fld w 21 2 ≠ 0 then some .range
  else if act = 1 then s.checkAcqArm u
  else refuse (s.acqSt u == 0 || s.acqSt u == 3) .state

/-- The check of ACQ_CMD (R333). -/
def State.checkAcqCmd (s : State) (u : Nat) (w : Word) : Option Err :=
  if 3 ≤ w.toNat then some .range
  else if bit w 0 then s.checkAcqArm u
  else if bit w 1 then refuse (s.acqSt u == 0 || s.acqSt u == 3) .state
  else none

/-- The check of OCTPE_CMD (R275, R285). -/
def State.checkOctpeCmd (s : State) (o : Nat) (w : Word) : Option Err :=
  let m := fld w 23 16
  if fld w 15 2 ≠ 0 then some .range
  else if bit w 1 then firstErr [refuse (m == 0) .range, refuse ((List.range 8).any (fun k => nbit m k && s.adcBusy o k)) .busy]
  else none

/-- The check of SKEW_CMD (R247, R248, R253). -/
def State.checkSkewCmd (s : State) (w : Word) : Option Err :=
  let act := fld w 23 22
  let drive := s.bitR pSKEW SKEW_TRG (fld w 21 20)
  if act = 0 ∨ act = 3 ∨ fld w 19 0 ≠ 0 then some .range
  else if act = 1 then
    firstErr [refuse (!drive) .state,
      refuse (decide (s.wideR pSKEW SKEW_AT0 3 < s.time.base + 10 ^ 6)) .range]
  else refuse drive .state

/-- The check of TBASE_CMD (R244, R252). -/
def State.checkTbaseCmd (s : State) (w : Word) : Option Err :=
  if 3 ≤ w.toNat then some .range
  else if w = 0 then none
  else refuse (s.bello != 2 || s.genBusy) .state

/-- The check of the word that gives DB_SIZE its value (R403, R414, R421). -/
def State.checkDbSize (s : State) (size : Nat) : Option Err :=
  let base := s.wideR pDAY DB_BASE0 2
  firstErr [refuse (s.run.st != .ready && s.run.st != .test) .state,
    refuse (s.day.compacting || s.day.mode == .formatting) .busy,
    refuse (base % 65536 != 0 || size % 65536 != 0 || decide (size < 2 ^ 25) || decide (base < 0x1000000) ||
      decide (2 ^ 32 ≤ base) || decide (Config.flashSize < base + size)) .range]

/-- The check of an accepted-type write to a register of a page (R63, R74 to R76 and the page sections). -/
def State.checkReg (s : State) (ini page : Nat) (k : Kind) (off : Nat) (p : Put) : Option Err :=
  let w := p.w
  let n := instOf page
  let top := refuse (p.commit && decide (2 ^ 64 ≤ p.val)) .range
  if off < 0x0A then s.checkHeader ini page off p
  else match k with
  | .id => none
  | .top => if off = TOP_CMD then s.checkTopCmd w else none
  | .link =>
    if off = LINK_CFG then refuse (decide (2 ≤ fld w 23 22) || (bit w 21 && fld w 23 22 == 0)) .range
    else if off = LINK_MAC1 then refuse (p.commit && nbit p.val 40) .range
    else if off = LINK_IP1 then refuse (p.commit && badIp (p.val % 2 ^ 32)) .range
    else if off = LINK_IPOPT then refuse (fld w 23 16 == 0) .range
    else if off = LINK_CMD then highBits w 2 else none
  | .abt =>
    if off = ABT_CFG then
      refuse (decide (2 ≤ fld w 23 22) || fld w 21 14 == 0 || fld w 13 6 == 0 || fld w 5 2 == 0) .range
    else if off = ABT_PORT then refuse (fld w 15 0 == 319 || fld w 15 0 == 320) .range
    else if off = ABT_MCBASE0 then refuse (fld w 3 0 != 0) .range
    else if off = ABT_MCBASE1 then
      refuse (p.commit && (p.val % 16 != 0 || decide (p.val / 2 ^ 24 % 256 < 224) || decide (239 < p.val / 2 ^ 24 % 256))) .range
    else if off = ABT_CMD then highBits w 2 else none
  | .ptp =>
    if off = PTP_CFG then
      firstErr [refuse (s.bitR pPTP PTP_CFG 23 && bit p.mask 21) .state,
        refuse (decide (127 < fld w 19 12)) .range]
    else if off = PTP_CFG2 then
      refuse (decide (signed 4 (fld w 7 4) < -4) || decide (1 < signed 4 (fld w 7 4)) || decide (4 < fld w 3 0)) .range
    else if PTP_OFS0 ≤ off ∧ off ≤ PTP_OFS2 then refuse s.ptpSlave .state
    else none
  | .store =>
    if off = STORE_CFG then refuse (fld w 23 16 == 0) .range
    else if off = STORE_CMD then
      firstErr [highBits w 2,
        refuse (bit w 1 && s.run.st != .ready && s.run.st != .recovery && s.run.st != .test) .state,
        refuse (bit w 1 && !(s.bank (s.fldR pSTORE STORE_INJSEL 6 0)).fenced) .range]
    else none
  | .dram =>
    if off = DRAM_CFG then refuse (fld w 23 22 == 3) .range
    else if off = DRAM_CMD then
      firstErr [highBits w 2, refuse (bit w 1 && s.run.st != .ready && s.run.st != .test) .state]
    else none
  | .refill => if off = REFILL_CMD then highBits w 1 else none
  | .confl => if off = CONFL_CMD then highBits w 2 else none
  | .stream =>
    let idle := s.strSt n == sIDLE || s.strSt n == sSTOPPED
    if off = STREAM_CFG then
      firstErr [refuse (!idle) .state, refuse (decide (fld w 19 13 < 8) || decide (64 < fld w 19 13)) .range]
    else if STREAM_MASK0 ≤ off ∧ off ≤ STREAM_MASK2 then firstErr [refuse (!idle) .state, top]
    else if off = STREAM_CMD then highBits w 1 else none
  | .slip =>
    if off = SLIP_CFG then refuse (fld w 16 0 == 0 || decide (65536 < fld w 16 0)) .range
    else if off = SLIP_CMD then highBits w 2 else none
  | .site =>
    if off = SITE_CFG then s.checkSiteCfg n p
    else if off = SITE_OCT0 ∨ off = SITE_OCT1 then refuse (s.siteSt n != tFREE) .state
    else none
  | .tbase =>
    if off = TBASE_CFG then
      firstErr [refuse (bit p.act 21 && s.anyBusy) .state, refuse (fld w 23 22 == 3) .range]
    else if off = TBASE_CMD then s.checkTbaseCmd w
    else if TBASE_EPOCH0 ≤ off ∧ off ≤ TBASE_EPOCH2 then top
    else none
  | .skew =>
    if off = SKEW_OFS then
      firstErr [refuse s.anyBusy .state, refuse (decide (signed 24 w.toNat < -20000) || decide (20000 < signed 24 w.toNat)) .range]
    else if off = SKEW_CMD then s.checkSkewCmd w
    else if SKEW_AT0 ≤ off ∧ off ≤ SKEW_AT2 then top
    else none
  | .mse =>
    if off = MSE_ACK then
      firstErr [refuse (decide (3072 ≤ w.toNat)) .range, refuse ((s.op w.toNat).st != .done) .state]
    else if off = MSE_ABORT then
      firstErr [refuse (decide (3072 ≤ w.toNat)) .range,
        refuse ((s.op w.toNat).st != .queued && (s.op w.toNat).st != .running) .state]
    else if off = MSE_CMD then highBits w 1 else none
  | .ucode =>
    if off = UCODE_CMD then firstErr [highBits w 1, refuse (bit w 0 && s.mse.pend) .busy]
    else if off = UCODE_MEN0 ∨ off = UCODE_MEN1 then
      firstErr [s.checkPatch ini (off - UCODE_MEN0), refuse (s.menBad (off - UCODE_MEN0) (fld w 15 0)) .range]
    else if off = UCODE_PID0 ∨ off = UCODE_PID1 then s.checkPatch ini (off - UCODE_PID0)
    else none
  | .acqg =>
    if off = ACQG_XBASE0 ∨ off = ACQG_XBASE1 ∨ off = ACQG_XLEN0 then s.checkXlen 0 0
    else if off = ACQG_XLEN1 then s.checkXlen (s.wideR pACQG ACQG_XBASE0 2) (if p.commit then p.val else 0)
    else if off = ACQG_SRBASE ∨ off = ACQG_SRSIZE then refuse (s.anyBusy || decide (s.ringUsed 128 ≠ 0)) .state
    else if off = ACQG_GCMD then s.checkGcmd w
    else if off = ACQG_CMD then highBits w 1 else none
  | .green =>
    if off = GREEN_SW then highBits w 8
    else if GREEN_DLY0 ≤ off ∧ off ≤ GREEN_DLY3 then refuse (w == 0) .range
    else if off = GREEN_CMD then highBits w 2 else none
  | .guard =>
    if off = GUARD_TICKR ∨ off = GUARD_TICKP then refuse (fld w 12 0 == 0 || decide (5000 < fld w 12 0)) .range
    else if off = GUARD_CHK then refuse (fld w 23 16 == 0) .range
    else if off = GUARD_SEL then refuse (decide (591 < fld w 9 0)) .range
    else if off = GUARD_CMD then highBits w 1 else none
  | .therm =>
    if off = THERM_CFG then refuse (decide (104 < fld w 23 16)) .range
    else if off = THERM_CMD then refuse (fld p.act 19 1 != 0) .range
    else none
  | .watch =>
    if off = WATCH_CLEAR then
      firstErr [highBits w 12, refuse (kindOf w.toNat).isNone .range, refuse (decide (3 ≤ s.fldR w.toNat PG_FLT 23 21)) .state]
    else if off = WATCH_CMD then refuse (decide (2 ≤ p.act.toNat)) .range
    else none
  | .glean =>
    if off = GLEAN_CFG then refuse (decide (fld w 15 8 < 64)) .range
    else if off = GLEAN_CMD then s.checkGleanCmd w else none
  | .reeve =>
    if off = REEVE_CMD then firstErr [refuse (decide (3 ≤ w.toNat)) .range, refuse (bit w 1 && !s.canSave) .state]
    else none
  | .serm =>
    if off = SERM_CFG then
      refuse (fld w 19 18 == 3 || decide (fld w 16 9 < 2) || (decide (14 ≤ fld w 23 20) && fld w 19 18 != 0)) .range
    else if off = SERM_XCFG then
      refuse (decide (fld w 21 16 < 4) || decide (32 < fld w 21 16) || decide (fld w 15 8 < 2)) .range
    else if off = SERM_TX1 then refuse (p.commit && decide (2 ^ 32 ≤ p.val)) .range
    else if off = SERM_CMD then
      firstErr [refuse (decide (3 ≤ w.toNat)) .range, if bit w 0 then s.checkGo else none]
    else none
  | .gate => if off = GATE_CMD then refuse (decide (2 ≤ p.act.toNat)) .range else none
  | .daybook =>
    if off = DB_SIZE1 then (if p.commit then s.checkDbSize p.val else none)
    else if off = DB_CMD then
      firstErr [refuse (decide (3 ≤ w.toNat)) .range, refuse (bit w 1 && s.day.compacting) .busy,
        refuse (w != 0 && s.day.mode != .on) .state]
    else none
  | .chest => if off = CHEST_CMD then s.checkChestCmd w else none
  | .life =>
    if off = LIFE_CMD then s.checkLifeCmd p.act
    else if LIFE_MKEY0 ≤ off ∧ off ≤ LIFE_MKEY10 then
      firstErr [refuse s.fuses.mkeySet .state, refuse (off == LIFE_MKEY10 && fld w 23 16 != 0) .range]
    else none
  | .update =>
    if off = UPD_CMD then firstErr [highBits w 1, if bit w 0 then s.checkAbort else none] else none
  | .octpe =>
    if off = OCTPE_CFG then refuse (s.octBusy n) .state
    else if off = OCTPE_CMD then s.checkOctpeCmd n w
    else if off = OCTPE_ADCSEL0 ∨ off = OCTPE_ADCSEL1 then
      let b := 4 * (off - OCTPE_ADCSEL0)
      let old := s.reg page off
      firstErr [refuse ((List.range 4).any (fun j => adcSel w j != adcSel old j && s.adcBusy n (b + j))) .busy,
        refuse ((List.range 4).any (fun j => !adcInput (adcSel w j))) .range]
    else if off = OCTPE_ADCRATE then
      firstErr [refuse (s.anyAdcBusy n) .busy, refuse (decide (fld w 20 0 < 1600) || decide (1600000 < fld w 20 0)) .range]
    else if OCTPE_PIN0 ≤ off ∧ off ≤ OCTPE_PIN7 then s.checkPin n (off - OCTPE_PIN0) w
    else if off = OCTPE_RAILCFG then s.checkRailCfg n p
    else if off = OCTPE_RAILSET then refuse (!setPointOk (s.fldR page OCTPE_RAILCFG 21 19) w.toNat) .range
    else if off = OCTPE_TONECFG then refuse (decide (fld w 15 0 < 64)) .range
    else none
  | .octtm => none
  | .octacq =>
    if off < ACQ_STAT then
      s.checkAcqWord n (off - ACQ_CFG) (if p.commit then w else 0)
    else if off = ACQ_CMD then s.checkAcqCmd n w else none

/-! ### Tables -/

/-- The check of a timing-set word (R229, R230). -/
def State.checkTset (s : State) (o idx : Nat) (new : Word) : Option Err :=
  let b := 64 * (idx / 64)
  let j := idx % 64
  let g (i : Nat) : Word := if i = j then new else s.tab (pOCTTM o) 0 (b + i)
  let period := (g 0).toNat
  let edge (i e : Nat) : Nat :=
    (bit (g (if i < 4 then 2 else 3)) (6 * (i % 4) + e)).toNat * 2 ^ 24 + (g (4 + 6 * i + e)).toNat
  firstErr [refuse (s.octBusy o) .state,
    refuse (decide (period < 1250) || (decide (52 ≤ j) && new != 0) ||
      (List.range 8).any (fun i => (List.range 6).any (fun e => decide (2 * period ≤ edge i e)) ||
        (bit (g 1) (3 * i + 2) && decide (edge i 5 ≤ edge i 4)))) .range]

/-- The check of a staged level word (R258, R264). -/
def State.checkLevel (s : State) (o idx : Nat) (new : Word) : Option Err :=
  let span := idx % 16 == 12 || idx % 16 == 13
  let seq := (s.oct o).seqs.any (fun q => q.lane == idx / 16)
  firstErr [refuse (span && new != s.tab (pOCTPE o) 0 idx && s.octBusy o) .state,
    refuse (span && seq) .busy, refuse (s.levelBad o idx new) .range]

/-- The check of a write to a word of a table; `ws` and `commit` as for a register. -/
def State.checkTab (s : State) (ini page : Nat) (k : Kind) (tsel idx : Nat) (p : Put) : Option Err :=
  let w := p.w
  let n := instOf page
  match k with
  | .store => if tsel = 0 then s.checkRegion idx w else some .roWrite
  | .refill =>
    let st := s.strSt (idx / 8)
    if 4 ≤ idx % 8 then some .roWrite
    else firstErr [refuse (st != sIDLE && st != sSTOPPED) .state,
      if idx % 8 = 3 ∧ p.commit then s.checkImage (idx / 8) (s.imageBase (idx / 8)) p.val else none]
  | .mse => if tsel = 0 then s.checkDescWord idx w else some .roWrite
  | .ucode =>
    if 6 ≤ tsel then some .roWrite
    else firstErr [s.checkPatch ini (tsel % 2),
      refuse (decide (4 ≤ tsel) && (decide (0xF7F < fld w 23 12) || decide (fld w 11 0 < 0xF80))) .range]
  | .acqg =>
    if 14 ≤ idx % 16 then some .roWrite
    else s.checkAcqWord (64 + idx / 16) (idx % 16) (if p.commit then w else 0)
  | .green => if tsel = 2 then none else s.checkGreen tsel idx w
  | .guard => if tsel = 0 then s.checkLimit idx w else some .roWrite
  | .watch =>
    if tsel = 0 then some .roWrite
    else if idx % 4 = 0 then refuse (fld w 21 0 != 0) .range
    else refuse (p.commit && decide (2 ^ 64 ≤ p.val)) .range
  | .glean => if tsel = 0 then s.checkCorr idx w else some .roWrite
  | .chest => s.checkChestWrite tsel idx w
  | .octpe =>
    if tsel = 0 then s.checkLevel n idx w
    else if tsel = 2 then refuse (s.oct n).tone.en .state
    else some .roWrite
  | .octtm => s.checkTset n idx w
  | .site => refuse (s.siteSt n == tACTIVE || s.siteSt n == tPARKED || s.siteSt n == tHEDGED) .state
  | _ => some .roWrite

/-- Is a table word of access type LK (R76)? -/
def tabLocked (k : Kind) (tsel idx : Nat) : Bool :=
  match k with
  | .store => tsel == 0
  | .glean => tsel == 0 && hostCorr idx
  | _ => false

end Sys2Proof.Machine
end

