-- ==== Sys2Proof/Machine/Start.lean ====
section
/-!
DEFINITION. Starting, recovering and losing power: the resets, the steps of a cold and of a warm start, Daybook replay
and roll-back, calibration load, links coming up, recovery (R48 to R54, R395 to R412, R457).
-/
namespace Sys2Proof.Machine

/-! ### Resets (R48) -/

/-- Everything but what flash and fuses hold returns to its state at power-on (R48): the pins, the fuses, the flash and
what its services keep there, the programmed part of the Daybook, the sealed Chest images. The test access port keeps
its current instruction: R48 does not say that it is reset (DESIGN CHOICE, log entry 46). -/
def State.coldReset (s : State) : State :=
  { State.reset with
    pending := s.pending, reply := s.reply, fresh := s.fresh, pins := s.pins, fuses := s.fuses, env := s.env, tx := s.tx,
    flash := s.flash, fmap := s.fmap, time := { edge := s.time.edge },
    chest := { imgA := s.chest.imgA, imgB := s.chest.imgB, order := s.chest.order },
    day := { log := s.day.log, area := s.day.area } }

/-- PORST_N low has reset the device (R48, R49). -/
def State.porst (s : State) : State := { s.coldReset with pins := { s.pins with porstN := false } }

/-! ### Links (R87, R91, R123) -/

/-- LINK_MAC of a port. -/
def State.macOf (s : State) (p : Nat) : Nat := s.wideR (pLINK p) LINK_MAC0 2

/-- A port comes up (R91): its status, and one gratuitous ARP. -/
def State.linkUp (s : State) (p : Nat) : State :=
  let kr := s.fldR (pLINK p) LINK_CFG 23 22 == 1
  let st := at_ 23 1 + at_ 22 1 + at_ 21 (kr && s.bitR (pLINK p) LINK_CFG 20).toNat + at_ 20 (s.bitR (pLINK p) LINK_CFG 21).toNat
  (s.setReg (pLINK p) LINK_STAT (word st)).send p (.arp (s.ipOf p) (s.macOf p))

/-- A port is not up: LINKDOWN (R87); a local fault and a remote fault that it meets show in LINK_STAT (R123). -/
def State.linkDown (s : State) (p : Nat) (lfault rfault : Bool := false) : State :=
  (s.setReg (pLINK p) LINK_STAT (word (at_ 18 rfault.toNat + at_ 17 lfault.toNat))).raiseN (pLINK p) 0x040

/-! ### Effects of configuration that a start restores -/

/-- Put the state that follows from restored configuration where it belongs: the chip number and addresses in effect
(R80, R90), assigned sites (R202), PTP enabled or not, with PTPLOST where LOCKED is lost by it (R119, R122), monitors on their fault side (R351). -/
def State.settle (s : State) : State :=
  let s : State := { s with abt := { s.abt with chip := s.fldR pTOP TOP_CHIPNO 9 0, settles := []
                                                ipA := s.wideR (pLINK 0) LINK_IP0 2 % 2 ^ 32
                                                ipB := s.wideR (pLINK 1) LINK_IP0 2 % 2 ^ 32 } }
  let s := (List.range 64).foldl (fun (s : State) n =>
    let on := s.bitR (pSITE n) SITE_CFG 23
    if on ∧ s.siteSt n = tFREE then s.assign n
    else if !on ∧ s.siteSt n = tASSIGNED then s.unassign n else s) s
  let en := s.bitR pPTP PTP_CFG 23
  let locked := s.bitR pPTP PTP_STAT 19
  let s := if en ∧ s.fldR pPTP PTP_STAT 23 20 = 3 then s.setFld pPTP PTP_STAT 23 20 4
    else if !en then (if locked then s.raiseN pPTP 0x043 else s).setReg pPTP PTP_STAT 0x300000 else s
  s.monsToFault (List.range 592)

/-! ### Replay (R405) -/

/-- The check of one replayed word, without those of lock and run state (R405). -/
def State.replayCheck (s : State) (page place idx : Nat) (w : Word) : Option Err :=
  match kindOf page with
  | none => some .badAddr
  | some k =>
    let g := if place = 0 then (match regInfo k idx with
        | some r => (r.base, r.n)
        | none => (idx, 1)) else tableWide k (place - 1) idx
    let ws := (List.range g.2).map (fun j => if g.1 + j = idx then w else s.placeWord page place (g.1 + j))
    let p : Put := { w := w, act := w, mask := 0xFFFFFF, ws := ws, commit := idx == g.1 + g.2 - 1 }
    match (if place = 0 then s.checkReg 0 page k idx p else s.checkTab 0 page k (place - 1) idx p) with
    | some .state => none
    | some .locked => none
    | some .roWrite => if place = 0 then some .roWrite else none
    | e => e

/-- The words of a record with their places. -/
def DayRec.cells (r : DayRec) : List (Nat × Nat × Nat × Word) :=
  let place := if r.typ = 0x01 then 0 else if r.typ = 0x03 then r.count else r.tsel + 1
  (List.range r.new.length).map (fun i => (r.page, place, r.index + i, r.new.getD i 0))

/-- Apply one whole write word by word; none where the device rejects a word of it. -/
def State.replayCells (s : State) : List (Nat × Nat × Nat × Word) → Option State
  | [] => some s
  | (page, place, idx, w) :: r =>
    match s.replayCheck page place idx w with
    | some _ => none
    | none => (s.applyWord page place idx w).replayCells r

/-- Replay one write: skipped where it is rejected (R405). -/
def State.replayWrite (s : State) (w : List DayRec) : State :=
  match s.replayCells (w.flatMap DayRec.cells) with
  | some t => t
  | none => { s with day := { s.day with skip := s.day.skip + 1 } }

/-- What replay reads in the log: the checkpoint's records, the whole writes of sealed groups, and where it stopped. -/
def State.scanLog (s : State) : List DayRec × Nat × Scan :=
  let (ck, n) := newestCkpt s.day.log
  let gone := (s.day.log.filter (fun r => r.typ == 0x11 && !r.torn)).map DayRec.rseq
  (ck, n, s.day.log.foldl scanRec { next := n + 1, sealedTo := n, gone := gone })

/-- Step 7 of a cold start (R405). Records of page GLEAN wait for step 8 (R396). -/
def State.replay (s : State) : State :=
  match s.day.area with
  | none => { s with run := { s.run with replayed := true } }
  | some (base, size) =>
    let s := (s.setWide pDAY DB_BASE0 2 base).setWide pDAY DB_SIZE0 2 size
    let (ck, _, sc) := s.scanLog
    let speed := s.reg pDRAM DRAM_CFG
    let s := (ck.filter (fun r => r.page != pGLEAN)).foldl (fun (s : State) r => s.applyRec r false) s
    let ws := wholeWrites sc.applied
    let s := (ws.filter (fun w => w.all (fun r => r.page != pGLEAN))).foldl State.replayWrite s
    let last := s.day.log.foldl (fun a r => if r.typ ≤ 2 then max a r.rseq else a) sc.sealedTo
    let ab : List DayRec := match sc.cur with
      | [] => []
      | r :: _ => [{ typ := 0x11, rseq := r.rseq, time := s.time.base, count := sc.cur.length }]
    let d : Daybook := { s.day with mode := .on, log := s.day.log ++ ab, lastRec := last, sealedRec := sc.sealedTo,
                                    lastW := lastDurable s.day.log sc.sealedTo, torn := sc.torn, abandoned := last }
    let s : State := { s with day := d, run := { s.run with replayed := true } }
    let s : State := if sc.torn ≠ 0 then s.raiseN pDAY 0x0E0 else s
    let s := if s.day.skip ≠ 0 then s.raiseN pDAY 0x0E1 else s
    if s.reg pDRAM DRAM_CFG ≠ speed then (match s.env with
      | some e => s.trainDram e.dram
      | none => s)
    else s

/-! ### Calibration load (R379, R391, R396) -/

/-- Put an octet's corrections from the calibration image, and its targets with them. -/
def State.calFromImage (s : State) (img : Store Word) (o : Nat) : State :=
  let ws := (List.range 574).map (fun w => img.get zeroDefault (576 * o + w))
  let ws := ws.set 573 (putFld (ws.getD 573 0) 23 22 2)
  let s := ((s.setTabs pGLEAN 0 (576 * o) ws).setTabs pGLEAN 1 (576 * o) ws).setFld pGLEAN GLEAN_STAT 19 18 2
  { s with glean := { s.glean with loads := s.glean.loads.put (unitDefault none) o (some s.time.base) } }

/-- A full calibration of some octets at a start: what it measures is not known beforehand (free values, log entry 5). -/
def State.calMeasure (s : State) (e : StartEnv) (os : List Nat) : State :=
  if os.isEmpty then s
  else
    { s with fresh := s.fresh + 36864 }.fullResult (s.fullMeas os [] (fun o => !e.fullBad.contains o))

/-- The calibration image of the active area, where it is this device's. -/
def State.calImage (s : State) : Option (Store Word) :=
  match s.fmap.cal.getD s.fmap.calB.toNat none with
  | some (u, m) => if u = s.fuses.uniq then some m else none
  | none => none

/-- Octets take their corrections from the image or from a full calibration (R379). -/
def State.calCold (s : State) (e : StartEnv) (os : List Nat) (imageOk : Nat → Bool) : State :=
  match s.calImage with
  | some img =>
    let s := (os.filter imageOk).foldl (fun (s : State) o => s.calFromImage img o) s
    s.calMeasure e (os.filter (fun o => !imageOk o))
  | none => s.calMeasure e os

/-- Apply a Daybook record of page GLEAN in step 8 (R396): where its number is above the octet record's DBREC, and only
CARD and LEG where the octet has just been calibrated in full. -/
def State.calRecord (s : State) (num : Nat) (r : DayRec) : State :=
  r.cells.foldl (fun (s : State) c =>
    let (page, place, idx, w) := c
    if place = 1 then
      let o := idx / 576
      let j := idx % 576
      let take := decide (s.wideT pGLEAN 0 (576 * o + 523) 2 < num) && (s.calSource o != 1 || (j < 512 && hostCorr idx))
      if take then
        let s := s.applyWord page place idx w
        let s := if j < 523 then s.setTab pGLEAN 1 idx w else s
        s
      else s
    else s.applyWord page place idx w) s

/-- PG_INJ of page GLEAN fails the next CRC check of a record, that of the first octet that a start checks (R394). -/
def State.calInject (s : State) : Bool × State :=
  (s.bitR pGLEAN PG_INJ 0, s.setBit pGLEAN PG_INJ 0 false)

/-- Step 8 of a cold start. -/
def State.calLoad (s : State) (e : StartEnv) : State :=
  let (inj, s) := s.calInject
  let s := s.calCold e (List.range 64) (fun o => e.flashOk && e.calOk.contains o && !(inj && o == 0))
  if s.day.mode = .on then
    let (ck, n, sc) := s.scanLog
    let s := (ck.filter (fun r => r.page == pGLEAN)).foldl (fun (s : State) r => s.calRecord n r) s
    let rs := ((wholeWrites sc.applied).filter (fun w => w.all (fun r => r.page == pGLEAN))).flatMap id
    let s := rs.foldl (fun (s : State) r => s.calRecord r.rseq r) s
    let os := rs.flatMap (fun r => if r.typ = 0x02 then [r.index / 576] else [])
    os.foldl (fun (s : State) o =>
      let top := (rs.filter (fun r => r.typ == 0x02 && r.index / 576 == o)).foldl (fun a r => max a r.rseq) 0
      if s.wideT pGLEAN 0 (576 * o + 523) 2 < top then s.setTabs pGLEAN 0 (576 * o + 523) (unwide 2 top) else s) s
  else s

/-- Does a retained record of an octet lie in a fenced bank of region KEEP, so that it fails its CRC check (R133)? -/
def State.calFenced (s : State) (o : Nat) : Bool :=
  (List.range 144).any (fun i => match s.regionWord 14 (1536 + 144 * o + i) with
    | some x => (s.bank x.1).fenced
    | none => true)

/-- Step 8 of a warm start: a retained record that fails its check falls back to the cold rule. -/
def State.calRetained (s : State) (e : StartEnv) : State :=
  let (inj, s) := s.calInject
  let bad := (List.range 64).filter (fun o => !e.calOk.contains o || s.calFenced o || (inj && o == 0))
  if bad.isEmpty then s
  else
    let f := s.fresh
    { s with fresh := s.fresh + 64 }.calCold e bad (fun o => e.flashOk && Config.free (f + o) % 2 == 0)

/-! ### The steps -/

/-- Latch every raised fault; `n` bounds how many (a start waits for the Watchhouse after each of its steps). -/
def State.latchAll : Nat → State → State
  | 0, s => s
  | n + 1, s => if s.watch.raised.isEmpty then s else State.latchAll n s.latchFault

/-- Region KEEP opens, and the records that waited for it go to the ring (R133). -/
def State.openKeep (s : State) : State :=
  let s := s.setupKeep
  if s.regionEn 14 then s.watch.buffer.foldl State.ringRecord { s with watch := { s.watch with buffer := [] } }
  else s

/-- Column spares of a bank that fuses use. -/
def State.fusedSpares (s : State) (b : Nat) : Nat :=
  match s.fuses.spares.find? (fun x => x.1 == b) with
  | some x => min 4 x.2
  | none => 0

/-- Columns of a bank that newly fail BIST. -/
def badColumns (e : StartEnv) (b : Nat) : Nat :=
  match e.badBanks.find? (fun x => x.1 == b) with
  | some x => x.2
  | none => 0

/-- Step 2 (R129, R133): repairs, fenced banks, every word zero, region KEEP, and the records that waited for it. -/
def State.bist (s : State) (e : StartEnv) : State :=
  let s := { s with bankMem := [] }
  let dead := (List.range 128).filter (fun b => decide (4 < s.fusedSpares b + badColumns e b))
  let s := (List.range 128).foldl (fun (s : State) b =>
    if badColumns e b = 0 then s
    else if dead.contains b then s.setBank b { s.bank b with fenced := true, bistFail := true }
    else s.setBank b { s.bank b with soft := badColumns e b }) s
  let s := dead.foldl (fun (s : State) b =>
    if dead.length = 128 ∧ b = 127 then s.raiseH pSTORE 0x052 b else s.raiseD pSTORE 0x052 (.bank b) b) s
  (s.latchAll 1000).openKeep

/-- Step 4 (R222, R142): the PLL locks and the external memory trains. A warm start puts the memory into self-refresh
before the relock (R146). -/
def State.clockStep (s : State) (e : StartEnv) : State :=
  let s : State := if s.run.warm then s.setBit pDRAM DRAM_STAT 18 true else s
  if e.pll then s.lock.trainDram e.dram else s.raiseH pTBASE 0x070

/-- The active and the other firmware area at the start of step 6 (R446). -/
def State.bootFirmware (s : State) (e : StartEnv) : State :=
  if e.fwOk ∨ e.fwOtherOk then
    let m := s.fmap
    let s : State := if e.fwOk then s else { s with fmap := { m with fwB := !m.fwB, seq := m.seq + 1 } }.raiseN pUPD 0x0D5
    s.runFirmware
  else (s.setReg pREEVE REEVE_STAT 0x400000).raiseH pUPD 0x0D5

/-- The microcode ROM's checksum (R309, R311). -/
def State.romCheck (s : State) (e : StartEnv) : State :=
  let s := { s.setReg pUCODE UCODE_ROMSUM e.romSum with mse := { s.mse with romOk := e.romOk } }
  if e.romOk then s else s.raiseH pUCODE 0x094

/-- The patch of the active area goes into bank 0, which is active (R309, R446). -/
def State.loadPatch (s : State) (e : StartEnv) : State :=
  match s.fmap.patch.getD s.fmap.patchB.toNat none with
  | none => s
  | some img =>
    if e.patchOk ∧ e.flashOk then
      let ws := img.drop 16
      let s := ((s.setTabs pUCODE 0 0 (ws.take 128)).setTabs pUCODE 2 0 ((ws.drop 128).take 160)).setTabs pUCODE 4 0
        ((ws.drop 288).take 16)
      let s := (s.setReg pUCODE UCODE_MEN0 (ws.getD 304 0 &&& 0xFFFF)).setReg pUCODE UCODE_PID0 (ws.getD 305 0)
      s.setWide pUPD UPD_PVER0 2 (wide [imgWord img 1, imgWord img 2])
    else s.raiseN pUPD 0x0D6

/-- Step 6 of a cold start. -/
def State.firmwareStep (s : State) (e : StartEnv) : State :=
  let s := s.bootFirmware e
  if s.romOnly then s
  else
    let s := (s.romCheck e).loadPatch e
    let s := if e.flashOk then s.loadSettings else s
    s.chestRestore (e.chestOk && e.flashOk)

/-- Step 9 of a cold start: both ports are configured (R395). -/
def State.linkStep (s : State) (e : StartEnv) : State :=
  let s := if e.linkA then s.linkUp 0 else s.linkDown 0
  if e.linkB then s.linkUp 1 else s.linkDown 1

/-- The work of a step of a cold start (Table 15.1). -/
def State.coldWork (s : State) (e : StartEnv) (n : Nat) : State :=
  match n with
  | 1 => if s.fuses.ok then s else s.raise { cls := .g, code := 0x0C2, page := pID }
  | 2 => s.bist e
  | 4 => s.clockStep e
  | 5 => e.temps.foldl (fun (s : State) t => s.readSensors t []) s
  | 6 => s.firmwareStep e
  | 7 => (if e.flashOk then s.replay else { s with run := { s.run with replayed := true } }).settle
  | 8 => s.calLoad e
  | 9 => s.linkStep e
  | _ => s

/-- Step 6 of a warm start: the ROM checksum, and the lanes whose stores pass their check are unfenced (R410); whether
one passes is a free value (log entry 5). -/
def State.romStep (s : State) (e : StartEnv) : State :=
  let s := s.romCheck e
  let (v, s) := s.takeFree
  { s with mse := { s.mse with fenced := s.mse.fenced &&& (v % 256) } }

/-- The clearing that follows GREEN_PAR (R408): one entry of the channel table or one row of the matrix for each error,
which one is a free value (log entry 5). -/
def State.greenClear (s : State) : State :=
  let one (s : State) : State :=
    let (v, s) := s.takeFree
    let c := v / 2 % 128
    if v % 2 = 0 then (s.setTab pGREEN 1 c 0).journal s 4 pGREEN 2 [c]
    else (s.setTabs pGREEN 0 (8 * c) [0, 0, 0, 0, 0, 0, 0, 0]).journal s 4 pGREEN 1 ((List.range 8).map (8 * c + ·))
  let s := (List.range s.green.bad).foldl (fun (s : State) _ => one s) s
  { s with green := { s.green with bad := 0 } }

/-- Step 7 of a warm start (R398, R406, R407, R408). -/
def State.rollStep (s : State) (e : StartEnv) (undo : Bool) : State :=
  if s.run.replayed then
    let s := s.dayRollback
    let s := if undo then s.dayUndoTest else s
    s.greenClear.settle
  else s.coldWork e 7

/-- The work of a step of a warm start (Table 15.2). -/
def State.warmWork (s : State) (e : StartEnv) (undo replayed : Bool) (n : Nat) : State :=
  match n with
  | 4 => s.clockStep e
  | 5 => e.temps.foldl (fun (s : State) t => s.readSensors t []) s
  | 6 => s.romStep e
  | 7 => s.rollStep e undo
  | 8 => if replayed then s.calRetained e else s.calLoad e
  | _ => s

/-- Note that step `n` has completed or has begun anew (R457). -/
def State.setUp (s : State) (n : Nat) (b : Bool) : State := { s with run := { s.run with up := setNbit s.run.up n b } }

/-- Run steps in order, until one raises class H or G, or PWRWARN_N interrupts (R54, R395). -/
def State.runSteps (work : State → Nat → State) (warnAt : Option Nat) : List Nat → State → State
  | [], s => s
  | n :: ns, s =>
    let s := if s.run.warm ∧ n = 9 then s else s.setUp n false
    let s := (work { s with run := { s.run with step := n } } n).latchAll 1000
    if s.run.st ≠ .start then s
    else
      let s := s.setUp n true
      if n = 1 ∧ s.pins.gLatch then s.die
      else if warnAt = some n then { s with run := { s.run with waiting := true }, pins := { s.pins with pwrwarnN := false } }
      else s.runSteps work warnAt ns

/-- The last step has completed: READY (Table 3.3); the class H latches clear at the end of a warm start (R367). -/
def State.startDone (s : State) : State :=
  if s.run.st = .start ∧ !s.run.waiting then
    let s := if s.run.warm then s.clearH else s
    { s with run := { s.run with safe := false, inStart := false } }.setRun .ready
  else s

/-- A cold start from its first step, with the straps as last sampled (R54, R80, R84, R90, R395). -/
def State.coldStart (s : State) (e : StartEnv) : State :=
  let s := s.coldReset
  let id := s.pins.strap % 1024
  let s := { s with env := some e }.setFld pTOP TOP_CHIPNO 9 0 id
  let s := (List.range 2).foldl (fun (s : State) p =>
    (s.setReg (pLINK p) LINK_MAC0 (word (1024 * p + id))).setReg (pLINK p) LINK_IP0
      (word (at_ 16 254 + at_ 8 (1 + 4 * p + id / 256) + id % 256))) s
  let s := (s.settle.setRun .start).setBit pTBASE TBASE_STAT 22 e.ref
  let s := s.runSteps (fun s n => s.coldWork e n) e.warnAt [1, 2, 3, 4, 5, 6, 7, 8, 9]
  let s := if s.run.st = .halted ∧ s.romOnly then
      (({ s with run := { s.run with step := 9 } }.linkStep e).setUp 9 true).latchAll 1000
    else s
  s.startDone

/-! ### Warm start (R397) -/

/-- What a warm start takes to its reset value before its first step (R64, R74, R76, R79, R218, R285, R332, R347, R351,
R373, Tables 7.3 and 7.6, R310). -/
def State.warmReset (s : State) : State :=
  let s := s.clearTest.closeLocks.dropRegs [PG_SEQ]
  let s := (s.endOps 3 (fun _ => true)).gleanStop
  let drop (k : Nat) : Bool := decide (pSTREAM 0 ≤ k / 256 ∧ k / 256 ≤ pSTREAM 3) &&
    (decide (STREAM_STAT ≤ k % 256 ∧ k % 256 < STREAM_MASK0) || decide (STREAM_HPOS0 ≤ k % 256))
  let s : State := { s with rot := [], streams := [], refill := [], sites := s.sites.mapVals (unitDefault {}) (fun _ v => { noct := v.noct, pendGap := v.pendGap }), regs := s.regs.keep (fun k => !drop k)
                            chans := s.chans.mapVals (unitDefault {}) (fun _ c => { c with edges := [] }) }
  let s := (List.range 64).foldl (fun (s : State) n =>
    let st := s.siteSt n
    let s := s.setFld (pSITE n) SITE_STAT 20 17 0
    if st = tFREE then s else if st = tHEDGED ∨ st = tRETIRED then s.setSiteSt n tRETIRED else s.setSiteSt n tASSIGNED) s
  let s := (List.range 64).foldl (fun (s : State) o => s.railOff o) s
  let s := (List.range 68).foldl (fun (s : State) u =>
    let s := s.acqRelease u s.time.base
    (s.setAcq u { wr := (s.acq u).wr, pend := (s.acq u).pend }).setAcqSt u 0) s
  let s := { s with tabs := s.tabs.keep (fun k => !decide (tkey pGREEN 2 0 ≤ k ∧ k < tkey pGREEN 3 0))
                    green := { seq := s.green.seq, ovr := s.green.ovr, bad := s.green.bad }
                    glean := { s.glean with borrow := none } }
  let s := s.setBit pGLEAN GLEAN_STAT 22 false
  let s : State := { s with mons := s.mons.mapVals monDefault (fun _ v => { v with trips := 0 }) }
  s.monsToFault (List.range 592)

/-- A warm start; `undo`: LEAVE_TEST caused it (R397, R407). -/
def State.warmStart (s : State) (e : StartEnv) (undo : Bool) : State :=
  let s := s.setRun .start
  let s := { s with env := some e, run := { s.run with warm := true, waiting := false } }.warmReset
  let s := s.setBit pTBASE TBASE_STAT 22 e.ref
  let replayed := s.run.replayed
  let steps := if s.locked then [5, 6, 7, 8, 9] else [4, 5, 6, 7, 8, 9]
  (s.runSteps (fun s n => s.warmWork e undo replayed n) e.warnAt steps).startDone

/-! ### Recovery and tests (R407 to R409) -/

/-- TOP_CMD RECOVER accepted: the open group is sealed (R401). -/
def State.recover (s : State) : State := s.dayClose.setRun .recovery

/-- The steps of R409. -/
def State.recovered (s : State) : State :=
  if s.run.st = .recovery then
    let s := (s.dayDrain 0).clearH
    { s with run := { s.run with safe := false, inStart := false } }.setRun .ready
  else s

/-- TOP_CMD ENTER_TEST accepted (R401, R407). -/
def State.enterTest (s : State) : State :=
  let s := s.dayClose
  { s with day := { s.day with testFrom := s.day.lastRec } }.setRun .test

/-! ### Pins (R48, R51, R52, R54) -/

/-- PWRWARN_N is recognised (R52, R54, R412): class H is latched and the safe state entered, then the queue and the SEAL of the open group are programmed, all
where the 4 ms suffice, else as many records as a free value says (log entry 5). An update ends ABORTED (R449). -/
def State.powerWarn (s : State) (done : Bool) : State :=
  let s := { s with pins := { s.pins with pwrwarnN := false } }
  match s.run.st with
  | .cold => s
  | .dead => s
  | .start => { s with run := { s.run with waiting := true } }
  | _ =>
    let s := ((s.raiseH pTOP 0x0C0).latchAll 1000).abortUpdate
    if s.day.active then
      let s := s.dayClose
      if done then s.dayDrain 0
      else
        let (v, s) := s.takeFree
        s.dayDrain (1 + v % 32)
    else s

/-- PWRWARN_N rises (R54, R395): a start that waited, or a cold start that has not begun, begins from step 1. -/
def State.warnRise (s : State) (e : StartEnv) : State :=
  let s := { s with pins := { s.pins with pwrwarnN := true } }
  if s.run.st = .start ∧ s.run.waiting then s.coldStart e
  else if s.run.st = .cold ∧ s.pins.porstN then s.coldStart e
  else s

/-- PORST_N rises (R46, R48, R54): the straps are sampled, and the cold start begins unless PWRWARN_N is low. -/
def State.porstRise (s : State) (e : StartEnv) : State :=
  if s.pins.porstN then s
  else
    let s := { s with pins := { s.pins with porstN := true, strap := s.pins.cid % 1024 } }
    if s.pins.pwrwarnN then s.coldStart e else s

end Sys2Proof.Machine
end

