-- ==== Sys2Proof/Machine/Effects.lean ====
section
/-!
DEFINITION. What an accepted write does: the word it stores under the access types of Table 0.2, and the actions of the
page sections of every chapter; the sources that PG_FORCE raises (R75, R370).
-/
namespace Sys2Proof.Machine

/-- What the device's surroundings answer to an action that a write starts. Where a command does not say, the answer is
a free value (log entry 5), or for a start what the last start met (log entry 11). -/
structure Hint where
  good : Option Bool := none
  sns : Option Int := none
  nums : List Nat := []
  start : Option StartEnv := none
  dram : Option DramEnv := none
  deriving DecidableEq, Repr

/-- The answer to a yes or no question. -/
def State.askBool (s : State) (h : Hint) : Bool × State :=
  match h.good with
  | some b => (b, s)
  | none =>
    let (v, s) := s.takeFree
    (v % 2 == 0, s)

/-- The `i`-th number of an answer. -/
def State.askNum (s : State) (h : Hint) (i : Nat) : Nat × State :=
  match h.nums[i]? with
  | some n => (n, s)
  | none => s.takeFree

/-- What a memory training meets: the memory that the last start found, at a rate that is a free value. -/
def State.askDram (s : State) (h : Hint) : DramEnv × State :=
  match h.dram with
  | some d => (d, s)
  | none =>
    let (a, s) := s.takeFree
    let (b, s) := s.takeFree
    let rate (v : Nat) : Option Nat := if v % 4 = 3 then none else some (v % 4)
    match s.env with
    | some e => ({ e.dram with best0 := rate a, best1 := rate b }, s)
    | none => ({ fitted0 := false, fitted1 := false, dens0 := 0, dens1 := 0, ranks0 := 0, ranks1 := 0, best0 := none, best1 := none }, s)

/-- What a start meets that no command describes: the same as the last one. -/
def State.askStart (s : State) (h : Hint) : StartEnv :=
  match h.start with
  | some e => e
  | none => s.env.getD
      { badBanks := [], pll := false, temps := [], romOk := false, romSum := 0, fwOk := false, fwOtherOk := false,
        patchOk := false, flashOk := false, calOk := [], fullBad := [], chestOk := false, linkA := false, linkB := false,
        warnAt := none
        dram := { fitted0 := false, fitted1 := false, dens0 := 0, dens1 := 0, ranks0 := 0, ranks1 := 0, best0 := none, best1 := none } }

/-! ### Forced sources (R75, R370) -/

/-- Mark the faults that an operation raised as forced through bit `b` of PG_FORCE of a page; where it raised none, the
bit clears at once. -/
def State.forced (s : State) (page b : Nat) (t : State) : State :=
  let n := s.watch.raised.length
  if t.watch.raised.length = n then t.setBit page PG_FORCE b false
  else { t with watch := { t.watch with
    raised := t.watch.raised.take n ++ (t.watch.raised.drop n).map (fun r => { r with fbit := some (page, b) }) } }

/-- A forced class D source of a stream stops it as the real one does where it runs (R212, R215). -/
def State.forceStream (s : State) (k code why : Nat) : State :=
  let st := s.strSt k
  let s := if st = sRUNNING ∨ st = sHOLDING then (s.voidAll k).stopAll k why s.ps else s
  s.raiseD (pSTREAM k) code (.stream k)

/-- The source that bit `b` of PG_FORCE of a page raises. -/
def State.forceSource (s : State) (page : Nat) (k : Kind) (b : Nat) : State :=
  let n := instOf page
  match k with
  | .link => s.raiseN page (0x040 + b)
  | .abt => s.raiseN page 0x042
  | .ptp => s.raiseN page 0x043
  | .store =>
    let c := s.fldR pSTORE STORE_INJSEL 6 0
    if b = 0 then s.raiseN page 0x050 c
    else (s.setBank c { s.bank c with fenced := true }).raiseD page 0x051 (.bank c) c
  | .dram => if b = 0 then s.forceStream 0 0x055 6 else s.raiseN page 0x054
  | .stream => if b = 0 then s.forceStream n 0x060 3 else if b = 1 then s.forceStream n 0x061 4 else s.raiseN page 0x062
  | .slip => s.raiseN page 0x063
  | .tbase => if b = 0 then s.raiseH page 0x070 else s.raiseN page 0x072
  | .skew => s.raiseN pTBASE 0x072
  | .octtm => s.raiseD page 0x074 (.octet n)
  | .octpe => s.raiseD page 0x080 (.octet n)
  | .mse => s.raiseD page 0x090 (.lane b) b
  | .octacq => s.raiseN page 0x0A0
  | .acqg => if b = 0 then s.raiseN page 0x0A1 else s.raiseN page 0x0A0
  | .green => s.raiseH page 0x0B0
  | .guard =>
    let m := s.fldR pGUARD GUARD_SEL 9 0
    if b = 0 then s.trip m 1 else if b = 1 then s.guardFault m 0x015 none false else s.trip m 0
  | .therm =>
    if b = 0 then s.throttle else if b = 1 then s.raiseH page 0x032
    else if b = 2 then s.raise { cls := .g, code := 0x033, page := page }
    else s.sensorBad (b - 8)
  | .watch => s.raiseH page (0x022 + b)
  | .reeve => if b = 2 then s.raiseN page 0x0D3 else s.raiseH page (0x0D1 + b)
  | .serm => s.raiseN page 0x0D4
  | .daybook => s.raiseN page (if b = 0 then 0x0E3 else 0x0E2)
  | .chest =>
    let (v, s) := s.takeFree
    s.tamper (1 + v % 4)
  | .update => s.raiseN page (if b = 0 then 0x0D7 else if b = 1 then 0x0D6 else 0x0D5)
  | .site =>
    if s.siteSt n = tACTIVE ∨ (s.siteSt n = tPARKED ∧ s.preason n ≠ 3) then s.setSite n { s.site n with overDue := true } else s
  | .id => s
  | .top => s
  | .refill => s
  | .confl => s
  | .ucode => s
  | .glean => s
  | .gate => s
  | .life => s

/-- Force bit `b` of a page, whose PG_FORCE bit has been set. STACK and UC_INVALID wait for the next fetch (R310). -/
def State.forceBit (s : State) (page : Nat) (k : Kind) (b : Nat) : State :=
  if k = .mse ∧ b = 8 then { s with mse := { s.mse with forceStack := true } }
  else if k = .mse ∧ b = 9 then { s with mse := { s.mse with forceInvalid := true } }
  else s.forced page b (s.forceSource page k b)

/-- An accepted write of PG_FORCE (R74, R75): a bit that is still 1 raises nothing further. -/
def State.force (s : State) (page : Nat) (k : Kind) (bits : Word) : State :=
  let new := bits &&& forceMask k &&& ~~~ s.reg page PG_FORCE
  (bitsOf 24 new.toNat).foldl (fun (s : State) b => (s.setBit page PG_FORCE b true).forceBit page k b) s

/-! ### Header (R74, R76) -/

/-- HEDGE_REQ (R74, R214, R371): on page SITE class D HOST with its hedge order, on page STREAM the command stile. -/
def State.hedgeReq (s : State) (ini page : Nat) (k : Kind) : State :=
  if s.bitR page PG_CTL 22 then s
  else
    let s := s.setBit page PG_CTL 22 true
    if k = .stream then s.toStile (.hedge (instOf page) ini) else s.raiseD page 0x020 (.site (instOf page)) ini

/-- Open or close a lock (R76). -/
def State.lockKey (s : State) (ini page : Nat) (key : Word) : State :=
  if key = 0 then s.setReg page PG_LOCK 0
  else if s.bitR page PG_LOCK 0 then s
  else s.setReg page PG_LOCK (word (at_ 2 ini + 1))

/-- PG_ERR: OVF is cleared by a 1, CLR clears CODE, INIT and OFFSET (R74). -/
def State.pgErrWrite (s : State) (page : Nat) (w : Word) : State :=
  let s := if bit w 13 then s.setBit page PG_ERR 13 false else s
  if bit w 12 then s.setReg page PG_ERR (s.reg page PG_ERR &&& 0x002000) else s

/-- An accepted write to a header register. -/
def State.putHeader (s : State) (ini page : Nat) (k : Kind) (off : Nat) (p : Put) : State :=
  if off = PG_CTL then
    let s := s.setReg page PG_CTL (mix (s.reg page PG_CTL) (0xB00000 &&& p.mask) p.w)
    if bit p.act 22 ∧ hedgeable k then s.hedgeReq ini page k else s
  else if off = PG_ERR then s.pgErrWrite page p.act
  else if off = PG_FORCE then s.force page k p.act
  else if off = PG_INJ then
    let s := s.setReg page PG_INJ (s.reg page PG_INJ ||| (p.act &&& injMask k))
    if k = .tbase then s.compareTime else s
  else if off = PG_LOCK then s.lockKey ini page p.act
  else s

/-! ### Storing (R7, R69) -/

/-- Store an accepted write of a register: RW and LK fields take the word, W1C bits clear (R7); a wide group takes its
value with its highest word (R69), of which alone some bits may be reserved. A register without such fields stores nothing. -/
def State.storeReg (s : State) (page : Nat) (r : RegInfo) (p : Put) : State :=
  let m := r.rw ||| r.lk
  if m ||| r.w1c = 0 then s
  else if r.n = 1 then
    s.setReg page r.off ((mix (s.reg page r.off) (m &&& p.mask) p.w) &&& ~~~ (p.act &&& r.w1c))
  else if p.commit then
    (List.range r.n).foldl (fun (s : State) i =>
      s.setReg page (r.base + i) (mix (s.reg page (r.base + i)) (if i + 1 = r.n then m else 0xFFFFFF) (p.ws.getD i 0))) s
  else s

/-! ### Actions of the pages -/

/-- Retest of the bank in STORE_INJSEL (R130). -/
def State.retest (s : State) (pass : Bool) : State :=
  let b := s.fldR pSTORE STORE_INJSEL 6 0
  if pass then (s.clearBank b).setBank b { s.bank b with fenced := false, bistFail := false }
  else (s.setBank b { s.bank b with fenced := true, bistFail := true }).raiseD pSTORE 0x052 (.bank b) b

/-- STORE_CMD.CLRCNT: CE and UE of every bank. -/
def State.clearBankCounts (s : State) : State :=
  (List.range 128).foldl (fun (s : State) b => s.setBank b { s.bank b with ce := 0, ue := 0 }) s

/-- DRAM_CMD.RETRAIN (R142, R146): content is kept where inline ECC does not change. -/
def State.retrainDram (s : State) (d : DramEnv) : State :=
  let was := s.bitR pDRAM DRAM_STAT 19
  let s := s.trainDram d
  if s.bitR pDRAM DRAM_STAT 19 = was then s else { s with dram := [] }

/-- REFILL_CMD.CLRCNT. -/
def State.clearRefill (s : State) : State :=
  (List.range 4).foldl (fun (s : State) k => s.setRefill k { s.rfl_ k with wins := 0, empty := 0 }) s

/-- CONFL_CMD.SNAPALL: every live counter into TSEL 1. -/
def State.conflSnap (s : State) : State := (List.range 128).foldl (fun (s : State) i => s.setTab pCONFL 1 i (s.tab pCONFL 0 i)) s

/-- CONFL_CMD.CLEAR. -/
def State.conflClear (s : State) : State :=
  ((List.range 128).foldl (fun (s : State) i => s.setTab pCONFL 0 i 0) s).setReg pCONFL CONFL_STAT 0

/-- CONFL_CMD: the copy is made before the clear (R153). -/
def State.conflCmd (s : State) (w : Word) : State :=
  let s := if bit w 1 then s.conflSnap else s
  if bit w 0 then s.conflClear else s

/-- SLIP_CMD (R219). -/
def State.slipSnap (s : State) : State := (List.range 64).foldl (fun (t : State) n => t.setTab pSLIP 1 n (s.slipWord n)) s

def State.slipCmd (s : State) (w : Word) : State :=
  let s := if bit w 1 then s.slipSnap else s
  if bit w 0 then s.clearRegs pSLIP [SLIP_MAXA, SLIP_MAXB, SLIP_MAXC, SLIP_MAXD] else s

/-- SITE_CFG after it is stored (R202, R351). -/
def State.assignSite (s0 s : State) (n : Nat) : State :=
  let on := s.bitR (pSITE n) SITE_CFG 23
  if s0.siteSt n = tFREE ∧ on then
    s.assign n
  else if s0.siteSt n = tASSIGNED ∧ !on then s.unassign n
  else s

/-- LINK_CMD.RETRAIN (R87, R123): the link restarts, and block lock is lost meanwhile (log entry 14). -/
def State.retrainLink (s : State) (p : Nat) (trained : Bool) : State :=
  let s := if s.bitR (pLINK p) LINK_STAT 22 then s.linkDown p else s
  if trained then s.linkUp p else s

/-- The counters of page LINK or ABT. -/
abbrev counters18 : List Nat := [0x18, 0x19, 0x1A, 0x1B, 0x1C, 0x1D]

/-- A chip number, an address or FORGET takes effect (R80, R90, R124). A LINK_IP that changes is announced (R91). -/
def State.settleAbt (s : State) (x : Settle) : State :=
  match x with
  | .chip n => { s with abt := { s.abt with chip := n } }
  | .ip p a =>
    if a = s.ipOf p then s
    else
      let s : State := { s with abt := (if p = 0 then { s.abt with ipA := a } else { s.abt with ipB := a }) }
      s.send p (.arp a (s.macOf p))
  | .forget => { s with abt := { s.abt with sources := [], fences := [] } }

/-- A write's effect waits for the reply to it; the Reeve has none, and its writes take effect at once. -/
def State.afterReply (s : State) (ini : Nat) (x : Settle) : State :=
  if ini = 3 then s.settleAbt x else { s with abt := { s.abt with settles := s.abt.settles ++ [(ini, x)] } }

/-- The reply to writes of some initiators has been sent: what waited for it takes effect, in order. -/
def State.replied (s : State) (f : Nat → Bool) : State :=
  let xs := s.abt.settles.filter (fun x => f x.1)
  xs.foldl (fun (s : State) x => s.settleAbt x.2)
    { s with abt := { s.abt with settles := s.abt.settles.filter (fun x => !f x.1) } }

/-- PTP_OFS keeps what it has reached when the port stops following a master (R120, log entry 18). -/
def State.ptpFreeze (s : State) : State :=
  if s.ptpSlave then
    { s.setWide pPTP PTP_OFS0 3 (unsigned 72 (s.ptpAhead s.time.base)) with ptp := { s.ptp with at_ := s.time.base } }
  else s

/-- PTP_CFG after it is stored: enabled, the port listens; disabled, LOCKED is lost (R119, R122). -/
def State.ptpConfig (s0 s : State) : State :=
  let was := s0.bitR pPTP PTP_CFG 23
  let on := s.bitR pPTP PTP_CFG 23
  if on ∧ !was then s.setFld pPTP PTP_STAT 23 20 4
  else if !on ∧ was then
    let locked := s.bitR pPTP PTP_STAT 19
    let s := s.ptpFreeze
    let s : State := { s.setReg pPTP PTP_STAT 0x300000 with ptp := { seqSync := s.ptp.seqSync, seqAnn := s.ptp.seqAnn } }
    if locked then s.raiseN pPTP 0x043 else s
  else s

/-- OCTPE_PIN after it is stored: a channel that becomes isolated places no further edges (R283), a driver that the PMU
holds goes to HIZ (R265), and a PMU that no longer forces limits no longer (R270). -/
def State.pinConfig (s : State) (o i : Nat) : State :=
  let s := if s.driverHeld (8 * o + i) then s.isolate (8 * o + i) else s
  if s.pmuForces o i then s else s.endLimit o i

/-- OCTPE_RAILCFG after it is stored (R280). -/
def State.railConfig (s0 s : State) (h : Hint) (o : Nat) : State :=
  let was := s0.bitR (pOCTPE o) OCTPE_RAILCFG 8
  let on := s.bitR (pOCTPE o) OCTPE_RAILCFG 8
  if on ∧ !was then
    let (v, s) : Int × State := match h.sns with
      | some v => (v, s)
      | none =>
        let (v, s) := s.takeFree
        (v, s)
    (s.setOct o { s.oct o with sns := v }).startRamp o v
  else if !on ∧ was then s.railOff o else s

/-- OCTPE_RAILSET after it is stored (R280): the ramp starts where the set-point stands; while a ramp is under way, that
is a free value. -/
def State.railTarget (s0 s : State) (o : Nat) : State :=
  if s.railReg o then
    if (s.oct o).ramp.isSome then
      let (v, s) := s.takeFree
      s.startRamp o (v : Int)
    else s.startRamp o (s0.setPoint o)
  else s

/-- OCTPE_CMD (R259, R275). -/
def State.octpeCmd (s : State) (o : Nat) (w : Word) : State :=
  let s := if bit w 0 then s.toStile (.load o (s.fldR (pOCTPE o) OCTPE_CFG 23 21)) else s
  if bit w 1 then (s.convert o (fld w 23 16)).toStile (.conv o (fld w 23 16)) else s

/-- SKEW_TRG after it is stored: a line that is no longer driven loses its SEND (R253). -/
def State.trgConfig (s : State) : State :=
  match s.time.send with
  | some r => if s.bitR pSKEW SKEW_TRG r.line then s else s.cancelSend
  | none => s

/-- GREEN_SW (Table 12.1): each 1 fires its producer, which is clockless. -/
def State.greenSwitch (s : State) (w : Word) : State := (bitsOf 8 w.toNat).foldl (fun (s : State) n => s.fire (184 + n) s.ps) s

/-- GREEN_CMD (R347). -/
def State.greenCmd (s : State) (w : Word) : State :=
  let keep : Word := (if bit w 1 then 0x20FFFF else 0xE0FFFF) &&& (if bit w 0 then 0xFF0000 else 0xFFFFFF)
  (List.range 64).foldl (fun (s : State) c => s.setTab pGREEN 2 c (s.tab pGREEN 2 c &&& keep)) s

/-- GUARD_CMD.CLRCNT. -/
def State.clearTrips (s : State) : State :=
  { s with mons := s.mons.mapVals monDefault (fun _ v => { v with trips := 0 }) }

/-- WATCH_STAT: releasing a latch releases its first-source record (R364, R375). -/
def State.watchStat (s : State) (w : Word) : State :=
  let s := if bit w 21 then s.setTabs pWATCH 0 6 [0, 0, 0, 0, 0, 0] else s
  if bit w 20 then s.setTabs pWATCH 0 0 [0, 0, 0, 0, 0, 0] else s

/-- WATCH_CMD.CLRCNT. -/
def State.clearWatch (s : State) : State := s.clearRegs pWATCH [WATCH_NREC, WATCH_NDROP, WATCH_LOST, WATCH_HEDGES]

/-- GLEAN_CMD (R380, R381, R391). -/
def State.gleanCmd (s : State) (h : Hint) (w : Word) : State :=
  let act := fld w 23 22
  if act = 1 then s.startFull
  else if act = 2 then s.setBit pGLEAN GLEAN_STAT 20 true
  else
    let (rtt, s) := (List.range 8).foldl (fun (a : List Nat × State) i =>
      let (v, s) := a.2.askNum h i
      (a.1 ++ [v], s)) ([], s)
    s.tdr (fld w 21 16) rtt

/-- SERM_GPIO_OE and SERM_GPIO_OUT ignore the window's pins (R424); then the window looks again (R425). -/
def State.gpioWrite (s0 s : State) (off : Nat) : State :=
  let m := word s.windowPins
  (s.setReg pSERM off (mix (s.reg pSERM off) m (s0.reg pSERM off))).windowTry

/-- A new Daybook area is being formatted (R403). -/
def State.formatArea (s : State) : State :=
  { s with day := { s.day with mode := .formatting, newArea := some (s.wideR pDAY DB_BASE0 2, s.wideR pDAY DB_SIZE0 2) } }

/-- DB_CMD (R416). -/
def State.dayCmd (s : State) (w : Word) : State := if bit w 1 then s.dayCompact else if bit w 0 then s.dayClose else s

/-- CHEST_CMD (R438, R439). -/
def State.chestCmd (s : State) (h : Hint) (w : Word) : State :=
  if bit w 0 then s.wipe 6
  else if bit w 1 then
    let (g, s) := s.askBool h
    s.chestSeal g
  else s

/-- TOP_CMD (Table 3.3). -/
def State.topCmd (s : State) (h : Hint) (w : Word) : State :=
  match w.toNat with
  | 1 => s.warmStart (s.askStart h) false
  | 2 => s.recover
  | 3 => s.enterTest
  | 4 => s.warmStart (s.askStart h) true
  | _ => s

/-- ACQG_GCMD (R334). -/
def State.gcmd (s : State) (w : Word) : State :=
  let u := 64 + fld w 1 0
  if fld w 23 22 = 1 then s.armUnit u else s.disarm u

/-- ACQ_CMD (R333). -/
def State.acqCmd (s : State) (u : Nat) (w : Word) : State :=
  if bit w 0 then s.armUnit u else if bit w 1 then s.disarm u else s

/-- What an accepted write of a register of a page's block does beyond what it stores; `s0` is the state before it. -/
def State.actReg (s0 s : State) (h : Hint) (ini page : Nat) (k : Kind) (off : Nat) (p : Put) : State :=
  let w := p.act
  let n := instOf page
  match k with
  | .top => if off = TOP_CMD then s.topCmd h w else if off = TOP_CHIPNO then s.afterReply ini (.chip (s.fldR pTOP TOP_CHIPNO 9 0)) else s
  | .link =>
    if off = LINK_IP1 then (if p.commit then s.afterReply ini (.ip n (p.val % 2 ^ 32)) else s)
    else if off = LINK_CMD then
      let s := if bit w 0 then s.clearRegs page counters18 else s
      if bit w 1 then
        let (g, s) := s.askBool h
        s.retrainLink n g
      else s
    else s
  | .abt =>
    if off = ABT_CMD then
      let s := if bit w 0 then s.clearRegs page counters18 else s
      if bit w 1 then s.afterReply ini .forget else s
    else s
  | .ptp =>
    if off = PTP_CFG then s0.ptpConfig s
    else if off = PTP_OFS2 ∧ p.commit then { s with ptp := { s.ptp with at_ := s.time.base } } else s
  | .store =>
    if off = STORE_CMD then
      let s := if bit w 0 then s.clearBankCounts else s
      if bit w 1 then
        let (g, s) := s.askBool h
        s.retest g
      else s
    else s
  | .dram =>
    if off = DRAM_CMD then
      let s := if bit w 0 then s.clearRegs page [DRAM_LECC, DRAM_IECC_CE, DRAM_IECC_UE, DRAM_RETRY, DRAM_TRACK] else s
      if bit w 1 then
        let (d, s) := s.askDram h
        s.retrainDram d
      else s
    else s
  | .refill => if off = REFILL_CMD ∧ bit w 0 then s.clearRefill else s
  | .confl => if off = CONFL_CMD then s.conflCmd w else s
  | .stream => if off = STREAM_CMD ∧ bit w 0 then s.clearRegs page [STREAM_SQUASH, STREAM_HOLDS, STREAM_LATE] else s
  | .slip => if off = SLIP_CMD then s.slipCmd w else s
  | .site => if off = SITE_CFG then s0.assignSite s n else s
  | .tbase =>
    if off = TBASE_CFG then s0.belloConfig s
    else if off = TBASE_CMD then (if bit w 0 then s.genPulse 1 else if bit w 1 then s.genPulse 5 else s) else s
  | .skew =>
    if off = SKEW_TRG then s.trgConfig
    else if off = SKEW_CMD then s.skewCommand (fld w 23 22) (fld w 21 20) else s
  | .mse =>
    if off = MSE_ACK then s.freeOp w.toNat
    else if off = MSE_ABORT then s.endOp w.toNat 1
    else if off = MSE_CMD ∧ bit w 0 then s.setReg page MSE_CNT 0 else s
  | .ucode => if off = UCODE_CMD ∧ bit w 0 then s.switchBanks else s
  | .acqg =>
    if off = ACQG_XLEN1 then (if p.commit then { s with extWr := 0 } else s)
    else if off = ACQG_SRBASE ∨ off = ACQG_SRSIZE then { s with siteWr := 0 }
    else if off = ACQG_GCMD then s.gcmd w
    else if off = ACQG_CMD ∧ bit w 0 then s.setReg page ACQG_RECS 0 else s
  | .octacq => if off = ACQ_CMD then s.acqCmd n w else s
  | .green => if off = GREEN_SW then s.greenSwitch w else if off = GREEN_CMD then s.greenCmd w else s
  | .guard => if off = GUARD_CMD ∧ bit w 0 then s.clearTrips else s
  | .therm => if off = THERM_CMD ∧ bit w 0 then s.revalidate (fld w 23 20) else s
  | .watch =>
    if off = WATCH_STAT then s.watchStat w
    else if off = WATCH_CLEAR then s.clearFlt w.toNat
    else if off = WATCH_CMD ∧ bit w 0 then s.clearWatch else s
  | .glean => if off = GLEAN_CMD then s.gleanCmd h w else if off = GLEAN_CFG ∧ !bit w 23 then s.gleanStop else s
  | .reeve =>
    if off = REEVE_CMD then
      let s := if bit w 0 then s.setReg page REEVE_RAMERR 0 else s
      if bit w 1 then s.saveSettings else s
    else s
  | .serm =>
    if off = SERM_GPIO_OE ∨ off = SERM_GPIO_OUT then s0.gpioWrite s off
    else if off = SERM_SELMASK ∨ off = SERM_CFG then s.windowTry
    else if off = SERM_CMD then
      let s := if bit w 1 then s.setReg page SERM_FWERR 0 else s
      if bit w 0 then s.sermGo else s
    else s
  | .gate => if off = GATE_CMD ∧ bit w 0 then s.clearRegs page [GATE_FRAMES, GATE_BAD, GATE_DUP, GATE_SKIP] else s
  | .daybook =>
    if off = DB_SIZE1 then (if p.commit then s.formatArea else s)
    else if off = DB_CMD then s.dayCmd w else s
  | .chest => if off = CHEST_CMD then s.chestCmd h w else s
  | .life => if off = LIFE_CMD then (s.setReg page LIFE_CMD 0).lifeCmd w else s
  | .update => if off = UPD_CMD ∧ bit w 0 then s.endUpdate 6 else s
  | .octpe =>
    if off = OCTPE_CMD then s.octpeCmd n w
    else if OCTPE_PIN0 ≤ off ∧ off ≤ OCTPE_PIN7 then (s.pinConfig n (off - OCTPE_PIN0)).gleanReview
    else if off = OCTPE_RAILCFG then (s0.railConfig s h n).gleanReview
    else if off = OCTPE_RAILSET then s0.railTarget s n
    else s
  | .octtm => s
  | .id => s

/-- An accepted write of a register. -/
def State.putReg (s : State) (h : Hint) (ini page : Nat) (k : Kind) (r : RegInfo) (p : Put) : State :=
  if r.off < 0x0A then s.putHeader ini page k r.off p
  else s.actReg (s.storeReg page r p) h ini page k r.off p

/-! ### Tables -/

/-- The bits of a writable table word that the spec assigns; the others read zero (R5). -/
def tabMask (k : Kind) (tsel idx : Nat) : Word :=
  match k with
  | .store => regionMask (idx % 8)
  | .octpe => if tsel = 0 then (if idx % 16 < 13 then 0xFFFFFF else if idx % 16 = 13 then 0x000FFF else 0) else 0xFFFFFF
  | .acqg => (match regInfo .octacq (0x10 + idx % 16) with
      | some r => r.rw
      | none => 0)
  | .green => if tsel = 1 then 0xFF0000 else 0xFFFFFF
  | .guard => if idx % 4 = 3 then (if 64 ≤ idx / 4 ∧ idx / 4 < 576 then 0xFC0000 else 0xF80000) else 0xFFFFFF
  | _ => 0xFFFFFF

/-- An accepted write of a table word. -/
def State.putTab (s : State) (page : Nat) (k : Kind) (tsel idx : Nat) (p : Put) : State :=
  let w := p.w &&& tabMask k tsel idx
  let g := tableWide k tsel idx
  match k with
  | .mse => s.putDesc idx p.w
  | .guard => s.putLimit idx w
  | .glean => s.putCorr (idx / 576) (idx % 576) p.w
  | .chest => s.putChest tsel idx p.w
  | .green => if tsel = 2 then s.setTab page 2 idx (s.tab page 2 idx &&& ~~~ (p.act &&& 0xC00000)) else (s.setTab page tsel idx w).rewire
  | _ =>
    if g.2 = 1 then s.setTab page tsel idx w
    else if p.commit then s.setTabs page tsel g.1 (p.ws.mapIdx (fun i x => x &&& tabMask k tsel (g.1 + i)))
    else s

end Sys2Proof.Machine
end

