-- ==== Sys2Proof/Machine/Fabric.lean ====
section
/-!
DEFINITION. The access fabric: reads and writes of words and bursts by the four initiators, with their checks, snapshots,
table windows, errors, locks, sequence counts and Daybook records (R5 to R10, R62 to R78, R399).
-/
namespace Sys2Proof.Machine

/-! ### Run states and errors -/

/-- The access that a run state permits (Table 3.2, R78). -/
def State.gate_ (s : State) (ini page : Nat) (write : Bool) : Option Err :=
  match s.run.st with
  | .cold => some .state
  | .dead => refuse (write || decide (2 ≤ page)) .state
  | .start => refuse (decide (ini < 2) && !s.run.warm && decide (s.run.step < 9)) .state
  | _ => none

/-- Record a rejected access: PG_ERR of the page (R74), or TOP_BADPG where no page is implemented (R63). -/
def State.noteErr (s : State) (ini page off : Nat) (e : Err) : State :=
  if s.run.st = .cold then s
  else if (kindOf page).isSome then
    let old := s.reg page PG_ERR
    let ovf := bit old 13 || fld old 23 16 != 0
    s.setReg page PG_ERR (word (at_ 16 e.code + at_ 14 ini + at_ 13 ovf.toNat + off % 256))
  else if e = .badAddr then
    if s.bitR pTOP TOP_BADPG 23 then s.setBit pTOP TOP_BADPG 22 true
    else s.setReg pTOP TOP_BADPG (word (at_ 23 1 + at_ 20 ini + page % 4096))
  else s

/-- Reject an access: it changes nothing but what records the rejection (R10). -/
def State.reject (s : State) (ini page off : Nat) (e : Err) : State := (s.noteErr ini page off e).err e

/-- Which of the initiators whose accesses are pending at a page it serves: the first in the order pointer, pointer + 1,
pointer + 2, pointer + 3, modulo 4 (R64). -/
def State.grant (s : State) (page : Nat) (inis : List Nat) : Option Nat :=
  ((List.range 4).map (fun i => (s.rot.get (unitDefault 0) page + i) % 4)).find? inis.contains

/-- The page serves an access of an initiator: its rotation pointer moves past it (R64), and an access to a timing page
has crossed the page's register stile (Table 1.2). -/
def State.serve (s : State) (ini page : Nat) : State :=
  ({ s with rot := s.rot.put (unitDefault 0) page ((ini + 1) % 4) }).enterPage page

/-- The state in which a write that has been let in finds the device: the page has served the initiator, and PG_SEQ has
counted (R64, R77). -/
def State.served (s : State) (ini page : Nat) : State := (s.serve ini page).inc page PG_SEQ

/-! ### Table windows (R71, R72) -/

/-- TSEL, HOLD and INDEX of an initiator's TBL_ADDR. -/
def State.window (s : State) (ini page : Nat) : Nat × Bool × Nat :=
  let a := s.tblAddrOf ini page
  (fld a 23 20, bit a 19, fld a 18 0)

/-- Set an initiator's TBL_ADDR. -/
def State.setTblAddr (s : State) (ini page : Nat) (w : Word) : State :=
  { s with tblAddr := s.tblAddr.put zeroDefault (ini * 4096 + page) w }

/-- INDEX advances unless HOLD is 1 (R72). -/
def State.advanceWindow (s : State) (ini page : Nat) : State :=
  let a := s.tblAddrOf ini page
  if bit a 19 then s else s.setTblAddr ini page (putFld a 18 0 (fld a 18 0 + 1))

/-! ### Reads (R66 to R68) -/

/-- Read a word of a group of `n` words at `base` as initiator `ini`: the lowest word captures all of them, the highest
releases them; `live` gives the words as they stand (R67, R68). -/
def State.snapRead (s : State) (ini page place base n i : Nat) (live : Nat → Word) : Word × State :=
  if n = 2 ∨ n = 3 then
    let mine (x : Snap) : Bool := x.ini == ini && x.page == page && x.place == place && x.base == base
    let rest := s.snaps.filter (fun x => !mine x)
    if i = 0 then
      (live 0, { s with snaps := rest ++ [{ ini := ini, page := page, place := place, base := base,
                                            words := (List.range n).map live : Snap }] })
    else match s.snaps.find? mine with
    | some x => (x.words.getD i 0, if i + 1 = n then { s with snaps := rest } else s)
    | none => (live i, s)
  else (live i, s)

/-- Read a table word (R67, R73). -/
def State.readEntry (s : State) (ini page : Nat) (k : Kind) (tsel idx : Nat) : Except Err (Word × State) :=
  match (if k = .chest then s.checkChestRead ini tsel idx else none) with
  | some e => .error e
  | none =>
    let g := tableWide k tsel idx
    .ok (s.snapRead ini page (tsel + 1) g.1 g.2 (idx - g.1) (fun i => s.readTab page k tsel (g.1 + i)))

/-- Read one word of a page. -/
def State.readWord (s : State) (ini page : Nat) (k : Kind) (off : Nat) : Except Err (Word × State) :=
  if lastOff k < off then .error .badAddr
  else if off = TBL_DATA ∧ hasTables k then
    let (tsel, _, idx) := s.window ini page
    match tableLast k tsel with
    | none => .error .range
    | some last =>
      if last < idx then .error .boundary
      else match s.readEntry ini page k tsel idx with
      | .error e => .error e
      | .ok (w, s) => .ok (w, s.advanceWindow ini page)
  else
    let (base, n) := match regInfo k off with
      | some r => (r.base, r.n)
      | none => (off, 1)
    let (w, t) := s.snapRead ini page 0 base n (off - base) (fun i => s.readReg ini page k (base + i))
    .ok (w, if k = .reeve ∧ off = REEVE_UTIL ∧ s.bitR pREEVE REEVE_STAT 23 then t.takeFree.2 else t)

/-- Read words in order. -/
def readWords (ini page : Nat) (k : Kind) : List Nat → State → Except Err (List Word × State)
  | [], s => .ok ([], s)
  | off :: r, s =>
    match s.readWord ini page k off with
    | .error e => .error e
    | .ok (w, s) =>
      match readWords ini page k r s with
      | .error e => .error e
      | .ok (ws, s) => .ok (w :: ws, s)

/-- The offsets of a burst of `n` words from `off`; a table burst stays at TBL_DATA (R70, R73). On a page without tables,
where 0x0B is a reserved offset (R71), a burst that starts there is an ordinary one (DESIGN CHOICE, log entry 45). -/
def burstOffsets (k : Kind) (off n : Nat) : List Nat :=
  if off = TBL_DATA ∧ hasTables k then List.replicate n off else (List.range n).map (off + ·)

/-- The bound of a burst: BOUNDARY where it would pass the last offset or entry (R70, R73). One word is no burst. -/
def State.burstBound (s : State) (ini page : Nat) (k : Kind) (off n : Nat) : Option Err :=
  if n ≤ 1 then none
  else if off = TBL_DATA ∧ hasTables k then
    let (tsel, hold, idx) := s.window ini page
    match tableLast k tsel with
    | some last => refuse (!hold && decide (last + 1 < idx + n)) .boundary
    | none => some .range
  else refuse (decide (lastOff k + 1 < off + n)) .boundary

/-- A read of `n` words from word address `addr` by an initiator: OK with the words, or the error. -/
def State.readBurst (s : State) (ini addr n : Nat) : State :=
  let page := addr / 256 % 4096
  let off := addr % 256
  match s.gate_ ini page false with
  | some e => s.reject ini page off e
  | none =>
    match kindOf page with
    | none => s.reject ini page off .badAddr
    | some k =>
      let s := s.serve ini page
      (match s.burstBound ini page k off n with
      | some e => s.reject ini page off e
      | none =>
        match readWords ini page k (burstOffsets k off n) s with
        | .error e => s.reject ini page off e
        | .ok (ws, t) => t.ok ws).leavePage page

/-! ### Writes -/

/-- Why a word of a write is rejected, and the table word it named. -/
structure Rej where
  e : Err
  tsel : Nat := 0
  idx : Nat := 0
  deriving DecidableEq, Repr

/-- Journalled words that a write has changed: their place (0 a register, t + 1 table t) and index. -/
abbrev Marks := List (Nat × Nat)

/-- The words of a group as they will stand: this initiator's waiting words, else those in effect, and `w` at `i` (R69). -/
def State.groupWords (s : State) (ini page place base n i : Nat) (w : Word) : List Word :=
  (List.range n).map (fun j =>
    if j = i then w
    else match s.waits.find? (fun x => x.ini == ini && x.page == page && x.place == place && x.off == base + j) with
    | some x => x.val
    | none => s.placeWord page place (base + j))

/-- The word that a masked write leaves its other bits of: a lower word of a wide quantity that this initiator has
written and that still waits stands as written (DESIGN CHOICE, log entry 45); else the word in effect (R69, R102). -/
def State.waitingWord (s : State) (ini page place off : Nat) (last : Bool) (live : Word) : Word :=
  match s.waits.find? (fun x => x.ini == ini && x.page == page && x.place == place && x.off == off) with
  | some x => if last then live else x.val
  | none => live

/-- The waiting words of a group, every initiator's, dropped: the quantity has taken a value (R69). -/
def State.dropGroup (s : State) (page place base n : Nat) : State :=
  { s with waits := s.waits.filter (fun x =>
      !(x.page == page && x.place == place && decide (base ≤ x.off) && decide (x.off < base + n))) }

/-- The waiting words of a group of an initiator, dropped. -/
def State.dropWaits (s : State) (ini page place base n : Nat) : State :=
  { s with waits := s.waits.filter (fun x =>
      !(x.ini == ini && x.page == page && x.place == place && decide (base ≤ x.off) && decide (x.off < base + n))) }

/-- A lower word of a group waits for the highest one (R69). -/
def State.addWait (s : State) (ini page place off : Nat) (w : Word) : State :=
  let s := s.dropWaits ini page place off 1
  { s with waits := s.waits ++ [{ ini := ini, page := page, place := place, off := off, val := w : Waiting }] }

/-- What a write makes of a word: `rwlk` are its stored bits, `acts` its bits that act. -/
def putOf (old rwlk acts mask data : Word) (ws : Word → List Word) (commit : Bool) : Put :=
  let w := ((old &&& rwlk) &&& ~~~ mask) ||| (data &&& mask &&& (rwlk ||| acts))
  { w := w, act := data &&& mask, mask := mask, ws := ws w, commit := commit }

/-- Write a table word: RO_WRITE, LOCKED and the chapter's checks, then its effect (R69, R73, R76). -/
def State.writeEntry (s : State) (ini page : Nat) (k : Kind) (tsel idx : Nat) (mask data : Word) :
    Except Rej (State × Marks) :=
  let g := tableWide k tsel idx
  let i := idx - g.1
  let last := decide (i + 1 = g.2)
  let old := s.waitingWord ini page (tsel + 1) idx last (s.readTab page k tsel idx)
  let p := putOf old 0xFFFFFF 0 mask data (fun w => s.groupWords ini page (tsel + 1) g.1 g.2 i w) last
  if tabLocked k tsel idx ∧ mask ≠ 0 ∧ !s.lockMine page ini then .error ⟨.locked, tsel, idx⟩
  else match s.checkTab ini page k tsel idx p with
  | some e => .error ⟨e, tsel, idx⟩
  | none =>
    let t := s.putTab page k tsel idx p
    if last then .ok (t.dropGroup page (tsel + 1) g.1 g.2, (List.range g.2).map (fun j => (tsel + 1, g.1 + j)))
    else .ok (t.addWait ini page (tsel + 1) idx p.w, [])

/-- Write a register word (R8, R63, R69, R76). -/
def State.writeRegWord (s : State) (h : Hint) (ini page : Nat) (k : Kind) (off : Nat) (mask data : Word) :
    Except Rej (State × Marks) :=
  match regInfo k off with
  | none => .ok (s, [])
  | some r =>
    if r.writable = 0 then .error { e := .roWrite }
    else if mask &&& r.lk ≠ 0 ∧ !s.lockMine page ini then .error { e := .locked }
    else
      let i := off - r.base
      let last := decide (i + 1 = r.n)
      let old := s.waitingWord ini page 0 off last (s.reg page off)
      let p := putOf old (r.rw ||| r.lk) (r.w1c ||| r.w1s ||| r.wo) mask data (fun w => s.groupWords ini page 0 r.base r.n i w) last
      match s.checkReg ini page k off p with
      | some e => .error { e := e }
      | none =>
        let t := s.putReg h ini page k r p
        let m := if mask &&& journalMask k off = 0 then [] else (List.range r.n).map (fun j => (0, r.base + j))
        if last then .ok (if r.n = 1 then t else t.dropGroup page 0 r.base r.n, m)
        else .ok (t.addWait ini page 0 off p.w, [])

/-- Write one word of a page. -/
def State.writeWord (s : State) (h : Hint) (ini page : Nat) (k : Kind) (off : Nat) (mask data : Word) :
    Except Rej (State × Marks) :=
  if lastOff k < off then .error { e := .badAddr }
  else if off = TBL_ADDR ∧ hasTables k then
    let a := mix (s.tblAddrOf ini page) mask data
    match tableLast k (fld a 23 20) with
    | none => .error { e := .range }
    | some last => if last < fld a 18 0 then .error { e := .range } else .ok (s.setTblAddr ini page a, [])
  else if off = TBL_DATA ∧ hasTables k then
    let (tsel, _, idx) := s.window ini page
    match tableLast k tsel with
    | none => .error { e := .range }
    | some last =>
      if last < idx then .error { e := .boundary }
      else match s.writeEntry ini page k tsel idx mask data with
      | .error e => .error e
      | .ok (t, m) => .ok (t.advanceWindow ini page, m)
  else s.writeRegWord h ini page k off mask data

/-- Write words in order; one rejected word rejects all of them (R10, R70). -/
def writeWords (h : Hint) (ini page : Nat) (k : Kind) (mask : Word) : List (Nat × Word) → State → Except Rej (State × Marks)
  | [], s => .ok (s, [])
  | (off, w) :: r, s =>
    match s.writeWord h ini page k off mask w with
    | .error e => .error e
    | .ok (s, m) =>
      match writeWords h ini page k mask r s with
      | .error e => .error e
      | .ok (s, ms) => .ok (s, m ++ ms)

/-- Write consecutive words of a table. -/
def writeEntries (ini page : Nat) (k : Kind) (tsel : Nat) : Nat → List Word → State → Except Rej (State × Marks)
  | _, [], s => .ok (s, [])
  | idx, w :: r, s =>
    match s.writeEntry ini page k tsel idx 0xFFFFFF w with
    | .error e => .error e
    | .ok (s, m) =>
      match writeEntries ini page k tsel (idx + 1) r s with
      | .error e => .error e
      | .ok (s, ms) => .ok (s, m ++ ms)

/-- Word numbers of a place among marks; an octet record's word 573 changes with its corrections (Table 14.4). -/
def marksAt (page place : Nat) (m : Marks) : List Nat :=
  let is := (m.filter (fun x => x.1 == place)).map (·.2)
  if page = pGLEAN ∧ place = 1 then is ++ is.map (fun i => i / 576 * 576 + 573) else is

/-- The places among marks. -/
def placesOf (m : Marks) : List Nat := (m.map (·.1)).eraseDups

/-- Records that a write would make (R400). -/
def recordsOf (page : Nat) (m : Marks) : Nat :=
  ((placesOf m).map (fun pl => (runs6 (journalled page pl (marksAt page pl m))).length)).foldl (· + ·) 0

/-- Journal an accepted write: `s0` is the state before it (R399, R400). -/
def State.journalWrite (s s0 : State) (ini page : Nat) (m : Marks) : State :=
  let s := (placesOf m).foldl (fun (t : State) pl => t.journal s0 ini page pl (marksAt page pl m)) s
  if page = pGLEAN then ((m.filter (fun x => x.1 == 1)).map (fun x => x.2 / 576)).eraseDups.foldl State.calNote s else s

/-- Finish a write whose words have been checked and applied: the Daybook's conditions (R398, R404), PG_SEQ, records. -/
def State.finishWrite (s0 : State) (ini page off : Nat) (r : Except Rej (State × Marks)) : State :=
  match r with
  | .error x => (if x.e = .loop then s0.noteLoop x.tsel x.idx else s0).reject ini page off x.e
  | .ok (t, m) =>
    let n := recordsOf page m
    if n ≠ 0 ∧ s0.run.st = .start ∧ s0.run.warm ∧ s0.run.step ≤ 7 then s0.reject ini page off .state
    else if n ≠ 0 ∧ s0.dayFull n then
      let s := if s0.day.full then s0 else { s0.raiseN pDAY 0x0E2 with day := { s0.day with full := true } }
      s.reject ini page off .limit
    else (t.journalWrite s0 ini page m).ok

/-- The conditions of a write before it reaches a page: run state and page (R63, R78); the page's kind. -/
def State.writeGate (s : State) (ini page : Nat) : Except Err Kind :=
  match s.gate_ ini page true with
  | some e => .error e
  | none =>
    match kindOf page with
    | none => .error .badAddr
    | some k => .ok k

/-- What a write that has reached its page meets there first: the expected PG_SEQ (R77), then its own bound. -/
def State.seqBound (s : State) (page : Nat) (seqchk : Option Word) (bound : Option Err) : Option Err :=
  match seqchk with
  | some q => if q = s.reg page PG_SEQ then bound else some .seq
  | none => bound

/-- Does a write of `n` words from an offset reach staged levels or tone settings of an octet (R256, R277)? -/
def State.writesStaged (s : State) (ini page : Nat) (k : Kind) (off n : Nat) : Bool :=
  k == .octpe &&
    (if off = TBL_DATA then (s.window ini page).1 == 0 else decide (off ≤ OCTPE_TONEPH) && decide (OCTPE_TONECFG < off + n))

/-- A write of staged settings leaves its register stile 3 cycles after its capture edge, after the load strobes of edges
up to that one (Table 9.4, log entry 50). -/
def State.crossStaged (s : State) (staged : Bool) : State :=
  if staged then
    let (e, s) := s.captureEdge
    (s.toEdge (e + 3)).dueLoads
  else s

/-- A write of words from word address `addr`: one access, whole or not at all (R8, R10, R70, R77). -/
def State.writeBurst (s : State) (h : Hint) (ini addr : Nat) (mask : Word) (ws : List Word) (seqchk : Option Word) : State :=
  let page := addr / 256 % 4096
  let off := addr % 256
  match s.writeGate ini page with
  | .error e => s.reject ini page off e
  | .ok k =>
    let s := (s.serve ini page).crossStaged (s.writesStaged ini page k off ws.length)
    (match s.seqBound page seqchk (s.burstBound ini page k off ws.length) with
    | some e => s.reject ini page off e
    | none => s.finishWrite ini page off
        (writeWords h ini page k mask ((burstOffsets k off ws.length).zip ws) (s.inc page PG_SEQ))).leavePage page

/-- A write of one whole word. -/
def State.writeReg (s : State) (h : Hint) (ini page off : Nat) (w : Word) : State :=
  s.writeBurst h ini (page * 256 + off) 0xFFFFFF [w] none

/-- A write of consecutive words of a page. -/
def State.writeRegs (s : State) (h : Hint) (ini page off : Nat) (ws : List Word) : State :=
  s.writeBurst h ini (page * 256 + off) 0xFFFFFF ws none

/-! ### Table transfers that use no TBL_ADDR (R101) -/

/-- The table of a bulk transfer, or why there is none: an absent table is out of RANGE, an end past LAST a BOUNDARY. -/
def tableBound (k : Kind) (tsel idx n : Nat) : Option Err :=
  match tableLast k tsel with
  | none => some .range
  | some last => refuse (decide (last + 1 < idx + n)) .boundary

/-- Read consecutive words of a table. -/
def readEntries (ini page : Nat) (k : Kind) (tsel : Nat) : List Nat → State → Except Err (List Word × State)
  | [], s => .ok ([], s)
  | idx :: r, s =>
    match s.readEntry ini page k tsel idx with
    | .error e => .error e
    | .ok (w, s) =>
      match readEntries ini page k tsel r s with
      | .error e => .error e
      | .ok (ws, s) => .ok (w :: ws, s)

/-- Read `n` words of a table from an index (R73, R101). -/
def State.readTable (s : State) (ini page tsel idx n : Nat) : State :=
  match s.gate_ ini page false with
  | some e => s.reject ini page TBL_DATA e
  | none =>
    match kindOf page with
    | none => s.reject ini page TBL_DATA .badAddr
    | some k =>
      let s := s.serve ini page
      (match tableBound k tsel idx n with
      | some e => s.reject ini page TBL_DATA e
      | none =>
        match readEntries ini page k tsel ((List.range n).map (idx + ·)) s with
        | .error e => s.reject ini page TBL_DATA e
        | .ok (ws, t) => t.ok ws).leavePage page

/-- Write words of a table from an index (R73, R101). -/
def State.writeTable (s : State) (ini page tsel idx : Nat) (ws : List Word) (seqchk : Option Word) : State :=
  match s.writeGate ini page with
  | .error e => s.reject ini page TBL_DATA e
  | .ok k =>
    let s := (s.serve ini page).crossStaged (k == .octpe && tsel == 0)
    (match s.seqBound page seqchk (tableBound k tsel idx ws.length) with
    | some e => s.reject ini page TBL_DATA e
    | none => s.finishWrite ini page TBL_DATA (writeEntries ini page k tsel idx ws (s.inc page PG_SEQ))).leavePage page

end Sys2Proof.Machine
end

