-- ==== Sys2Proof/Machine/HostOps.lean ====
section
/-!
DEFINITION. The commands of ABT as operations, whether a frame brings them or a row names them: bulk transfers, FENCE,
EXEC, SUBSCRIBE, TIME, UPDATE and JOURNAL (R100 to R104, R114 to R117, R147, R200, R402, R415, R443).
-/
namespace Sys2Proof.Machine

/-- The port an initiator of the Host Link uses: B is initiator 1 in split use (R85). -/
def orgPort (o : Org) : Nat := if o.ini.val = 1 then 1 else 0

/-- Does a port use the MTU of 9,000 bytes? -/
def State.jumbo (s : State) (p : Nat) : Bool := s.bitR (pLINK p) LINK_CFG 19

/-- The largest UDP payload of a port (R99). -/
def State.payloadMax (s : State) (p : Nat) : Nat := if s.jumbo p then 8972 else 1472

/-- Words of a bulk transfer or of UPDATE DATA, and records of JOURNAL READ, that a port's MTU allows (R101, R415, R443). -/
def State.bulkMax (s : State) (p : Nat) : Nat := if s.jumbo p then 2976 else 480
def State.journalMax (s : State) (p : Nat) : Nat := if s.jumbo p then 128 else 20

/-- The run state's word on a command that addresses no page (R78, Table 3.2). -/
def State.hostGate (s : State) (ini : Nat) : Option Err :=
  match s.run.st with
  | .cold => some .state
  | .dead => some .state
  | .start => refuse (decide (ini < 2) && !s.run.warm && decide (s.run.step < 9)) .state
  | _ => none

/-! ### READ, WRITE, MWRITE (R70, R100, R102) -/

/-- Reject an access at a word address; a nonzero [23:20] of the address word names no page (R10, R74). -/
def State.rejectAt (s : State) (ini addr : Nat) (e : Err) : State :=
  if 2 ^ 20 ≤ addr then s.err e else s.reject ini (addr / 256 % 4096) (addr % 256) e

/-- Why an access of an address word and a number of words is rejected before it reaches its page: STATE in DEAD, but for a
READ of page ID or TOP (R78), RANGE where [23:20] of the address word is nonzero (log entry 16), LIMIT for more than 256
words (R100). -/
def State.wordsBad (s : State) (addr n : Nat) (write : Bool) : Option Err :=
  firstErr [refuse (s.run.st == .dead && (write || decide (512 ≤ addr))) .state, refuse (decide (2 ^ 20 ≤ addr)) .range,
    refuse (decide (256 < n)) .limit]

/-- READ of `n` words. -/
def State.abtRead (s : State) (ini addr n : Nat) : State :=
  match s.wordsBad addr n false with
  | some e => s.rejectAt ini addr e
  | none => s.readBurst ini addr n

/-- WRITE of the words `ws`. -/
def State.abtWrite (s : State) (ini addr : Nat) (ws : List Word) (seqchk : Option Word) : State :=
  match s.wordsBad addr ws.length true with
  | some e => s.rejectAt ini addr e
  | none => s.writeBurst {} ini addr 0xFFFFFF ws seqchk

/-- MWRITE: the bits of `mask` take those of `data` in one access. -/
def State.abtMwrite (s : State) (ini addr : Nat) (mask data : Word) (seqchk : Option Word) : State :=
  match s.wordsBad addr 1 true with
  | some e => s.rejectAt ini addr e
  | none => s.writeBurst {} ini addr mask [data] seqchk

/-! ### Bulk transfers (R101, R147) -/

/-- The bounds of a transfer in SPACE 1 or 2: an enabled region or the usable capacity (R147). -/
def State.bulkBound (s : State) (d : BulkDesc) : Option Err :=
  if d.space = 1 then
    let g := d.addr / 2 ^ 24 % 16
    refuse (decide (2 ^ 28 ≤ d.addr) || !s.regionEn g || decide (4 * s.regionSize g < d.addr % 2 ^ 24 + d.n)) .range
  else refuse (decide (s.dramSize < d.addr + d.n)) .range

/-- The checks of a descriptor before the transfer (R101): STATE in DEAD (R78), SPACE, the fields that must be zero, N. -/
def State.checkDescriptor (s : State) (port : Nat) (d : BulkDesc) : Option Err :=
  firstErr [refuse (s.run.st == .dead) .state, refuse (decide (2 < d.space)) .range, refuse (d.space != 0 && (d.page != 0 || d.tsel != 0)) .range,
    refuse (d.n == 0) .range, refuse (decide (s.bulkMax port < d.n)) .limit]

/-- Reject a bulk command: in SPACE 0 it is an access of its page (R10, R74). -/
def State.bulkReject (s : State) (ini : Nat) (d : BulkDesc) (e : Err) : State :=
  if d.space = 0 then s.reject ini d.page TBL_DATA e else s.err e

/-- Read `n` pattern words of a region from `p`; none where one of its banks fails (R128). -/
def State.readRegionRun (s : State) (ini g : Nat) : Nat → Nat → Option (List Word) × State
  | _, 0 => (some [], s)
  | p, n + 1 =>
    match s.readRegion 7 ini g p with
    | (none, t) => (none, t)
    | (some w, t) =>
      match t.readRegionRun ini g (p + 1) n with
      | (some ws, u) => (some (w :: ws), u)
      | (none, u) => (none, u)

/-- A failed bank access of the host: STATE, recorded by page STORE at an offset the spec leaves open (R128). -/
def State.bankReject (s : State) (ini : Nat) : State :=
  let (v, s) := s.takeFree
  s.reject ini pSTORE v .state

/-- BULK_READ. -/
def State.bulkRead (s : State) (ini port : Nat) (d : BulkDesc) : State :=
  match s.checkDescriptor port d with
  | some e => s.bulkReject ini d e
  | none =>
    if d.space = 0 then s.readTable ini d.page d.tsel d.addr d.n
    else match firstErr [s.hostGate ini, s.bulkBound d] with
    | some e => s.err e
    | none =>
      if d.space = 1 then
        match s.readRegionRun ini (d.addr / 2 ^ 24 % 16) (d.addr % 2 ^ 24) d.n with
        | (some ws, t) => t.ok ws
        | (none, t) => t.bankReject ini
      else s.dramMet.ok (s.dram.getList zeroDefault d.addr d.n)

/-- May the host write a region (Table 5.1)? -/
def State.mayWriteRegion (s : State) (g : Nat) : Bool :=
  if g < 12 then s.strSt (g % 4) == sIDLE || s.strSt (g % 4) == sSTOPPED else if g < 15 then s.run.st == .test else true

/-- Does a write of external memory overlap the image of a stream that is not at rest (R147)? -/
def State.meetsImage (s : State) (addr n : Nat) : Bool :=
  (List.range 4).any (fun k => s.strBusy k && overlap addr n (s.imageBase k) (s.imageLen k))

/-- BULK_WRITE: SPACE 0 at once, SPACE 1 and 2 posted once accepted (R103). -/
def State.bulkWrite (s : State) (org : Org) (port : Nat) (d : BulkDesc) (ws : List Word) (seqchk : Option Word) : State :=
  match s.checkDescriptor port d with
  | some e => s.bulkReject org.ini d e
  | none =>
    if d.space = 0 then s.writeTable org.ini d.page d.tsel d.addr ws seqchk
    else if seqchk.isSome then s.err .frame
    else match firstErr [s.hostGate org.ini, s.bulkBound d,
        (if d.space = 1 then refuse (!s.mayWriteRegion (d.addr / 2 ^ 24 % 16)) .state
         else refuse (s.meetsImage d.addr d.n) .state)] with
    | some e => s.err e
    | none => { s with abt := { s.abt with posts := s.abt.posts ++ [({ org := org, kind := .bulk d ws } : Post)] } }.ok

/-- Is a posted command a bulk write? -/
def Post.isBulk (p : Post) : Bool :=
  match p.kind with
  | .bulk .. => true
  | .exec .. => false

/-- A posted command of a space has failed: the first since its last FENCE is kept (R103). -/
def State.noteFail (s : State) (o : Org) (e : Err) : State :=
  if s.abt.fails.any (fun f => f.src == o.src && f.grp == o.grp) then s
  else { s with abt := { s.abt with fails := s.abt.fails ++ [({ src := o.src, grp := o.grp, num := o.num, code := e.code } : PostFail)] } }

/-- The oldest posted bulk write completes: its words are written, or it fails with STATE where a bank of it is fenced
(R103, R128). -/
def State.bulkComplete (s : State) : State :=
  match s.abt.posts.find? Post.isBulk with
  | none => s
  | some p =>
    let s : State := { s with abt := { s.abt with posts := s.abt.posts.erase p } }
    match p.kind with
    | .exec .. => s
    | .bulk d ws =>
      if d.space = 1 then
        let g := d.addr / 2 ^ 24 % 16
        let a := d.addr % 2 ^ 24
        let good := (List.range ws.length).all (fun i => (s.writeRegion g (a + i) 0).1)
        if good then (s.writeRegionRun g a ws).2
        else { s.bankReject p.org.ini with reply := s.reply }.noteFail p.org .state
      else { s with dram := s.dram.putList zeroDefault d.addr ws, dramRun := 0 }

/-! ### FENCE (R103, R402) -/

/-- Has a posted command taken full effect (R200)? -/
def State.postDone (s : State) (p : Post) : Bool :=
  match p.kind with
  | .bulk .. => false
  | .exec act strs gen =>
    if act = 1 then (bitsOf 4 strs).all (fun k =>
      s.strSt k != sARMED || (s.stream k).gen != gen || s.bitR (pSTREAM k) STREAM_STAT 20)
    else if act = 2 then !s.stile.any (fun c => match c.op with
      | .jump k => nbit strs k && decide (c.num < gen)
      | _ => false)
    else if act = 3 then (bitsOf 4 strs).all (fun k => s.strSt k == sIDLE || s.strSt k == sSTOPPED)
    else true

/-- Forget the posted commands that have taken full effect. -/
def State.prunePosts (s : State) : State :=
  { s with abt := { s.abt with posts := s.abt.posts.filter (fun p => !s.postDone p) } }

/-- Do the conditions of a FENCE hold? -/
def State.fenceHolds (s : State) (f : FenceWait) : Bool :=
  (!f.wantDone || !s.abt.posts.any (fun p => p.org.src == f.org.src && p.org.grp == f.org.grp && !s.postDone p))
    && (!f.wantSeal || s.day.mode != .on || decide (f.lastRec ≤ s.day.sealedRec))

/-- The answer of a FENCE whose conditions hold: the first failed posted command of its space, or OK. A FENCE that fails
by itself names its own number (log entry 16). -/
def State.fenceAnswer (s : State) (f : FenceWait) : State :=
  let mine (x : PostFail) : Bool := x.src == f.org.src && x.grp == f.org.grp
  let t : State := { s with abt := { s.abt with fails := s.abt.fails.filter (fun x => !mine x) } }.prunePosts
  match s.abt.fails.find? mine with
  | some x => { t with reply := ⟨x.code, [word (x.num % 65536)]⟩ }
  | none =>
    if f.wantSeal ∧ s.day.mode ≠ .on then { t with reply := ⟨Err.state.code, [word (f.org.num % 65536)]⟩ } else t.ok

/-- FENCE: whether it waits, and the state. It seals the open group at once (R402). -/
def State.fence (s : State) (org : Org) (wantDone wantSeal : Bool) : Bool × State :=
  match s.hostGate org.ini with
  | some e => (false, { s with reply := ⟨e.code, [word (org.num % 65536)]⟩ })
  | none =>
    let s := if wantSeal ∧ s.day.mode = .on then s.dayClose else s
    let f : FenceWait := { org := org, wantDone := wantDone, wantSeal := wantSeal, lastRec := s.day.lastRec }
    if s.fenceHolds f then (false, s.fenceAnswer f)
    else (true, { s with abt := { s.abt with fences := s.abt.fences ++ [f] } })

/-! ### EXEC (R200) -/

/-- The state check of an action on its streams or site (R200, check 2; R433 for ARM in SCRAPPED). -/
def State.execState (s : State) (act strs param : Nat) : Option Err :=
  let ks := bitsOf 4 strs
  let rest (k : Nat) : Bool := s.strSt k == sIDLE || s.strSt k == sSTOPPED
  let live (k : Nat) : Bool := decide (sARMED ≤ s.strSt k) && decide (s.strSt k ≤ sHOLDING)
  if act = 1 then refuse (s.fuses.life == 4
      || !(s.run.st == .ready || s.run.st == .run || s.run.st == .test) || !ks.all rest) .state
  else if act = 2 ∨ act = 3 then refuse (!ks.all live) .state
  else if act = 4 then refuse (!ks.all rest) .state
  else refuse (s.siteSt (param % 64) != tRETIRED || s.fldR (pSITE (param % 64)) PG_FLT 23 21 != 0) .state

/-- The parameter check of an action (R200, check 3). -/
def execParam (act param : Nat) : Option Err :=
  if act = 1 then refuse (decide (param / 2 ^ 14 = 3) || decide (param % 2 ^ 14 ≠ 0)) .range
  else if act = 3 then refuse (decide (2 ≤ param)) .range
  else if act = 5 then refuse (decide (64 ≤ param)) .range
  else refuse (decide (param ≠ 0)) .range

/-- The further checks of ARM: regions, site ring, sites, ENTRY (R200). -/
def State.checkArm (s : State) (strs entry : Nat) : Option Err :=
  let ks := bitsOf 4 strs
  firstErr [refuse (!ks.all s.regionsOk) .limit, refuse (!s.siteRingOk) .range, refuse (!ks.all s.sitesOk) .noSite,
    refuse (ks.any (fun k => decide (s.imageLen k ≤ entry))) .range]

/-- Every check of EXEC, in order. -/
def State.checkExec (s : State) (ini act strs param entry : Nat) : Option Err :=
  firstErr [s.hostGate ini, refuse (decide (act = 0) || decide (5 < act)) .range,
    refuse (if act = 5 then strs != 0 else strs == 0) .range, s.execState act strs param, execParam act param,
    (if act = 1 then s.checkArm strs entry else none)]

/-- Post an EXEC. -/
def State.post (s : State) (org : Org) (act strs gen : Nat) : State :=
  { s with abt := { s.abt with posts := s.abt.posts ++ [({ org := org, kind := .exec act strs gen } : Post)] } }

/-- Put the same command of each named stream into its stile. -/
def State.toStiles (s : State) (strs : Nat) (op : Nat → StileOp) : State :=
  (bitsOf 4 strs).foldl (fun (s : State) k => s.toStile (op k)) s

/-- The effect of an accepted EXEC. -/
def State.execDo (s : State) (org : Org) (act strs param entry : Nat) : State :=
  let s := s.prunePosts
  if act = 1 then
    let g := s.fresh
    let s := (bitsOf 4 strs).foldl (fun (s : State) k => s.arm k (param / 2 ^ 14) entry) s
    (s.takeFree.2.followStreams).post org 1 strs g
  else if act = 2 then
    let s := s.toStiles strs .jump
    s.post org 2 strs (s.fresh + 1)
  else if act = 3 then (s.toStiles strs (fun k => .stop k (param % 2 == 1))).post org 3 strs 0
  else if act = 4 then (bitsOf 4 strs).foldl State.resetStream s
  else s.releaseSite (param % 64)

/-- EXEC with its first body word and, for ARM, the two words of ENTRY. -/
def State.execCmd (s : State) (org : Org) (w0 : Word) (ext : List Word) : State :=
  let act := fld w0 23 20
  let strs := fld w0 19 16
  let param := fld w0 15 0
  if ext.length ≠ (if act = 1 then 2 else 0) then s.err .frame
  else match s.checkExec org.ini act strs param (wide ext) with
  | some e => s.err e
  | none => (s.execDo org act strs param (wide ext)).ok

/-! ### SUBSCRIBE and records (R114 to R117) -/

/-- What the filter of a record's kind selects it by (R299, R327, R346, R369): lane, record type, EVREC consumer, class.
Segment records are the only records of the site ring with L = 8. -/
def Rec.select (r : Rec) : Nat :=
  if r.kind = 0 then r.unit / 384
  else if r.kind = 1 then (if 128 ≤ r.unit then (if r.words.length = 8 then 0 else 3) else fld (r.words.getD 0 0) 23 20)
  else if r.kind = 2 then r.unit else r.unit - 1

/-- Does an open slot take a record? No filter, or one of zero, selects all. -/
def Slot.takes (v : Slot) (r : Rec) : Bool :=
  v.isOpen && v.kind == r.kind && (match v.filter with
    | w :: _ => w == 0 || bit w r.select
    | [] => true)

/-- The lowest-numbered open slot that takes a record (R115). -/
def State.slotFor (s : State) (r : Rec) : Option Nat := (List.range 16).find? (fun i => (s.slot i).takes r)

/-- Is a filter one that its kind allows? -/
def filterOk (kind : Nat) (ws : List Word) : Bool :=
  match ws with
  | [w] => if kind = 0 ∨ kind = 2 then fld w 23 8 == 0 else fld w 23 4 == 0
  | _ => true

/-- SUBSCRIBE OPEN of slot `i` (R114): its destination is the source of the frame. -/
def State.openSlot (s : State) (org : Org) (i : Nat) (w0 w1 w2 : Word) (filter : List Word) : State :=
  let kind := fld w0 15 12
  if (s.slot i).isOpen then s.err .state
  else if fld w0 21 20 ≠ 0 ∨ fld w0 11 0 ≠ 0 ∨ fld w1 23 16 ≠ 0 ∨ fld w2 23 8 ≠ 0 ∨ 3 < kind ∨ fld w2 7 0 = 0
      ∨ filterOk kind filter = false then s.err .range
  else
    let x := s.abt.sources.find? (fun x => x.id == org.src)
    (s.setSlot i { isOpen := true, kind := kind, port := orgPort org, dport := fld w1 15 0
                   dip := (x.map (·.ip)).getD 0, macA := x.bind (·.macA), macB := x.bind (·.macB)
                   key := (x.map (·.port)).getD 2, sport := (x.map (·.udp)).getD 0
                   window := fld w2 7 0, filter := filter }).ok

/-- A record of a closed slot's unacknowledged frames becomes unsent (R117). -/
def Rec.unsend (i : Nat) (r : Rec) : Rec :=
  match r.sent with
  | some (j, _) => if i = j then { r with sent := none } else r
  | none => r

/-- SUBSCRIBE CLOSE (R117). A closed slot's entry reads as after reset (log entry 17). -/
def State.closeSlot (s : State) (i : Nat) (w0 : Word) : State :=
  if !(s.slot i).isOpen then s.err .state
  else if fld w0 21 20 ≠ 0 ∨ fld w0 15 0 ≠ 0 then s.err .range
  else { s.setSlot i {} with recs := s.recs.map (Rec.unsend i) }.ok

/-- Release a record whose frame is acknowledged: its producer's space is free (R298, R327, R346). -/
def State.releaseRec (s : State) (r : Rec) : State :=
  if r.kind = 0 then s.freeOp r.unit
  else if r.kind = 1 then ({ s with recs := s.recs.erase r }).notFull
  else { s with recs := s.recs.erase r }

/-- SUBSCRIBE ACK (R116). -/
def State.ackSlot (s : State) (i : Nat) (w0 w1 : Word) : State :=
  let v := s.slot i
  let q := fld w1 15 0
  if !v.isOpen then s.err .state
  else if fld w0 21 20 ≠ 0 ∨ fld w0 15 0 ≠ 0 ∨ fld w1 23 16 ≠ 0 then s.err .range
  else
    let far (x : Nat) : Nat := (x + 65536 - v.oldest) % 65536
    if far q < far v.next then
      let gone := s.recs.filter (fun r => match r.sent with
        | some (j, n) => i == j && decide (far n ≤ far q)
        | none => false)
      let s := gone.foldl State.releaseRec s
      (s.setSlot i { v with oldest := (q + 1) % 65536, sentAt := v.sentAt.drop (far q + 1), stall := false, resends := 0 }).ok
    else (s.setSlot i { v with stall := false, resends := 0 }).ok

/-- SUBSCRIBE with its body words: ACT first, then the slot, then the other fields (R114). -/
def State.subscribe (s : State) (org : Org) (body : List Word) : State :=
  match s.hostGate org.ini with
  | some e => s.err e
  | none =>
    match body with
    | [] => s.err .frame
    | w0 :: r =>
      let i := fld w0 19 16
      match fld w0 23 22, r with
      | 0, [w1, w2] => s.openSlot org i w0 w1 w2 []
      | 0, [w1, w2, w3] => s.openSlot org i w0 w1 w2 [w3]
      | 0, _ => s.err .frame
      | 1, [] => s.closeSlot i w0
      | 1, _ => s.err .frame
      | 2, [w1] => s.ackSlot i w0 w1
      | 2, _ => s.err .frame
      | _, _ => s.err .range

/-! ### Stream frames (R115, R116) -/

/-- Ports that stream frames leave on: both in redundant use, B in split use (R85). -/
def State.streamPorts (s : State) : List Nat := if s.fldR pABT ABT_CFG 23 22 = 1 then [1] else [0, 1]

/-- Records that fit a frame of at most `room` bytes and 255 records, oldest first. -/
def fitRecs : Nat → Nat → List Rec → List Rec
  | 0, _, _ => []
  | _, _, [] => []
  | n + 1, room, r :: rs =>
    let size := 3 * (r.words.length + 1)
    if size ≤ room then r :: fitRecs n (room - size) rs else []

/-- Mark the first `n` records that pass a test as sent in a frame. -/
def markSent (f : Rec → Bool) (tag : Nat × Nat) : Nat → List Rec → List Rec
  | _, [] => []
  | 0, rs => rs
  | n + 1, r :: rs => if f r then { r with sent := some tag } :: markSent f tag n rs else r :: markSent f tag (n + 1) rs

/-- The payload of an ABT frame: its bytes and their CRC-32C (R95). -/
def withCrc (bs : List Byte) : List Byte := bs ++ beBytes 4 (crc32c bs)

/-- Frame number `q` of slot `i` with its records (R94, R115). -/
def State.streamPayload (s : State) (i q : Nat) (rs : List Rec) : List Byte :=
  let v := s.slot i
  withCrc ([0x12, 0x00] ++ beBytes 2 s.abt.chip ++ beBytes 2 q ++ [BitVec.ofNat 8 rs.length, BitVec.ofNat 8 (i * 16 + v.kind)]
    ++ rs.flatMap (fun r => beBytes 3 r.words.length ++ r.words.flatMap wordBytes))

/-- The MAC address a slot's frames go to on a port: in split use the one its source was heard by. -/
def Slot.macOn (v : Slot) (split : Bool) (p : Nat) : Option Nat :=
  if split then (if v.port = 0 then v.macA else v.macB) else if p = 0 then v.macA else v.macB

/-- Send frame `q` of slot `i` on its ports. -/
def State.sendStream (s : State) (i q : Nat) (rs : List Rec) : State :=
  let pl := s.streamPayload i q rs
  let v := s.slot i
  let split := s.fldR pABT ABT_CFG 23 22 == 1
  s.streamPorts.foldl (fun (s : State) p =>
    match v.macOn split p with
    | some m => s.sendUdp p m v.dip v.dport pl
    | none => s) s

/-- Fault records that pass `p` and fail their check when they are read for delivery are discarded and counted (R369). -/
def State.dropFailed (s : State) (p : Rec → Bool) : State :=
  (s.recs.filter (fun r => r.kind == 3 && p r && s.recFails r)).foldl (fun (s : State) r =>
    let s : State := { s with recs := s.recs.erase r }
    if r.unit = 1 then s.inc pWATCH WATCH_NDROP else s.inc pWATCH WATCH_LOST) s

/-- The slot sends its oldest waiting records in one frame (R115): its window allows it, it is not stalled and a port is
up. -/
def State.streamSend (s : State) (i : Nat) : State :=
  let v := s.slot i
  let up := s.streamPorts.any s.portUp
  if v.isOpen ∧ !v.stall ∧ up ∧ (v.next + 65536 - v.oldest) % 65536 < v.window then
    let s := s.dropFailed (fun r => r.sent.isNone && s.slotFor r == some i)
    let room := (s.streamPorts.map s.payloadMax).foldl min 8972 - 12
    let rs := fitRecs 255 room (s.recs.filter (fun r => r.sent.isNone && s.slotFor r == some i))
    let s := rs.foldl State.drainRec s
    match rs.filter (fun r => s.recs.contains r) with
    | [] => s
    | rs =>
      let s := s.sendStream i v.next rs
      let s : State := { s with recs := markSent (fun r => r.sent.isNone && s.slotFor r == some i) (i, v.next) rs.length s.recs }
      s.setSlot i { v with next := (v.next + 1) % 65536, sentAt := v.sentAt ++ [s.time.edge] }
  else s

/-- The oldest frame of the slot has not been acknowledged within SRETX times 100 µs (R116), which is when this happens or
later: every unacknowledged frame is sent again, or after SRETRY resends without progress the slot stalls. -/
def State.streamResend (s : State) (i : Nat) : State :=
  let v := s.slot i
  let n := (v.next + 65536 - v.oldest) % 65536
  if v.isOpen ∧ !v.stall ∧ n ≠ 0 then
    let s := s.toEdge (v.sentAt.headD 0 + 160000 * s.fldR pABT ABT_CFG 13 6)
    if s.fldR pABT ABT_CFG 5 2 ≤ v.resends then (s.setSlot i { v with stall := true }).raiseN pABT 0x042
    else
      let s := s.dropFailed (fun r => r.sent.map Prod.fst == some i)
      let s := (List.range n).foldl (fun (s : State) j =>
        let q := (v.oldest + j) % 65536
        s.sendStream i q (s.recs.filter (fun r => r.sent == some (i, q)))) s
      s.setSlot i { v with resends := v.resends + 1, sentAt := List.replicate n s.time.edge }
  else s

/-! ### TIME (R104) -/

/-- TIME for a request whose start delimiter passed at time `t` of the time base. -/
def State.timeCmd (s : State) (ini t : Nat) : State :=
  match s.hostGate ini with
  | some e => s.err e
  | none =>
    let locked := s.bitR pPTP PTP_STAT 19
    let tai := if locked then unsigned 72 ((t : Int) + s.ptpAhead t) else 0
    s.ok (unwide 3 t ++ unwide 3 tai ++ [word (at_ 20 (s.fldR pPTP PTP_STAT 23 20) + at_ 19 locked.toNat + at_ 18 locked.toNat)])

/-! ### UPDATE (R443 to R448) -/

/-- Answer with what an operation of the update path gives. -/
def State.answer (t : State) (r : Except Err (List Word)) : State :=
  match r with
  | .ok ws => t.ok ws
  | .error e => t.err e

def State.updBeginCmd (s : State) (ini kind total : Nat) : State :=
  match s.hostGate ini, s.updBegin ini kind total with
  | some e, _ => s.err e
  | none, .error e => s.err e
  | none, .ok t => t.ok

/-- DATA: from 1 word to as many as the port's MTU allows. -/
def State.updDataCmd (s : State) (ini port offset : Nat) (data : List Word) (good : Bool) : State :=
  match s.hostGate ini with
  | some e => s.err e
  | none =>
    if data.isEmpty then s.err .frame
    else if s.bulkMax port < data.length then s.err .limit
    else
      let r := s.updData ini offset data good
      match r.1 with
      | .error e => r.2.err e
      | .ok t => t.ok

def State.updFinishCmd (s : State) (ini : Nat) (good : Bool) : State :=
  match s.hostGate ini with
  | some e => s.err e
  | none =>
    let r := s.updFinish ini good
    r.2.answer (r.1.map (fun v => [word (at_ 20 v)]))

def State.updAbortCmd (s : State) (ini : Nat) : State :=
  match firstErr [s.hostGate ini, s.checkAbort] with
  | some e => s.err e
  | none => (s.endUpdate 6).ok

def State.updStatusCmd (s : State) (ini : Nat) : State :=
  match s.hostGate ini with
  | some e => s.err e
  | none => s.ok s.updStatus

def State.updSaveCmd (s : State) (ini : Nat) : State :=
  match firstErr [s.hostGate ini, refuse (!s.canSave) .state] with
  | some e => s.err e
  | none => s.saveSettings.ok

/-- UPDATE with its body words; whether the flash does its part is a free value (log entry 5). -/
def State.updateCmd (s : State) (ini port : Nat) (body : List Word) : State :=
  match body with
  | [] => s.err .frame
  | w0 :: r =>
    let act := fld w0 23 20
    if act = 0 ∨ 6 < act ∨ fld w0 15 0 ≠ 0 ∨ (act ≠ 1 ∧ fld w0 19 16 ≠ 0) then s.err .range
    else match act, r with
    | 1, [a, b] => s.updBeginCmd ini (fld w0 19 16) (wide [a, b])
    | 2, a :: b :: data =>
      let (g, s) := s.askBool {}
      s.updDataCmd ini port (wide [a, b]) data g
    | 3, [] =>
      let (g, s) := s.askBool {}
      s.updFinishCmd ini g
    | 4, [] => s.updAbortCmd ini
    | 5, [] => s.updStatusCmd ini
    | 6, [] => s.updSaveCmd ini
    | _, _ => s.err .frame

/-! ### JOURNAL (R415) -/

def State.journalStat (s : State) (ini : Nat) : State :=
  match s.hostGate ini with
  | some e => s.err e
  | none => s.ok ((List.range 9).map (fun i => s.readReg ini pDAY .daybook (0x14 + i)))

/-- READ of `n` records from number `a`. -/
def State.journalReadCmd (s : State) (ini port a n : Nat) : State :=
  match s.hostGate ini with
  | some e => s.err e
  | none =>
    if s.journalMax port < n then s.err .limit
    else if n = 0 then s.err .range
    else
      let found := (List.range n).filterMap (fun i =>
        (s.day.log ++ s.day.queue).find? (fun r => decide (r.typ ≤ 2) && r.rseq == a + i))
      if found.length = n then s.ok (found.flatMap DayRec.words) else s.err .range

def State.journalCompactCmd (s : State) (ini : Nat) : State :=
  match firstErr [s.hostGate ini, refuse s.day.compacting .busy, refuse (s.day.mode != .on) .state] with
  | some e => s.err e
  | none => s.dayCompact.ok

/-- JOURNAL with its body words. -/
def State.journalCmd (s : State) (ini port : Nat) (body : List Word) : State :=
  match body with
  | [] => s.err .frame
  | w0 :: r =>
    let act := fld w0 23 20
    if fld w0 19 0 ≠ 0 ∨ act = 0 ∨ 3 < act then s.err .range
    else match act, r with
    | 1, [] => s.journalStat ini
    | 2, [a, b, c] => if fld c 23 8 ≠ 0 then s.err .range else s.journalReadCmd ini port (wide [a, b]) (fld c 7 0)
    | 3, [] => s.journalCompactCmd ini
    | _, _ => s.err .frame

end Sys2Proof.Machine
end

