-- ==== Sys2Proof/Machine/AbtOps.lean ====
section
/-!
DEFINITION. Frames of the Host Link: the checks of Ethernet, IPv4 and UDP, ABT request frames with their sequence spaces,
their execution command by command, replies (R83 to R99, R105 to R113).
-/
namespace Sys2Proof.Machine

/-! ### Ethernet, IPv4, UDP (R83, R88, R93) -/

/-- The IPv4 multicast MAC address of an IPv4 group. -/
def groupMac (ip : Nat) : Nat := 0x01005E000000 + ip % 2 ^ 23

/-- 224.0.1.129, the PTP address. -/
abbrev ptpIp : Nat := 0xE0000181

/-- The IPv4 address of ABT group `g` (R112). -/
def State.groupIp (s : State) (g : Nat) : Nat := s.wideR pABT ABT_MCBASE0 2 % 2 ^ 32 + g

/-- The groups joined (ABT_MCJOIN). -/
def State.joined (s : State) : List Nat := bitsOf 16 (s.reg pABT ABT_MCJOIN).toNat

/-- Does the port accept the frame (R83)? -/
def State.macAccepts (s : State) (p : Nat) (f : EthFrame) : Bool :=
  let largest := if s.jumbo p then 9018 else 1518
  decide (64 ≤ f.len) && decide (f.len ≤ largest) && !f.vlan && (f.etherType == 0x0800 || f.etherType == 0x0806)
    && (f.dst == s.macOf p || (f.dst == 2 ^ 48 - 1 && f.etherType == 0x0806)
      || (s.joined.map s.groupIp).any (fun ip => f.dst == groupMac ip) || f.dst == groupMac ptpIp)

/-- Does the device accept the IPv4 packet (R88)? -/
def State.ipAccepts (s : State) (p : Nat) (k : IpPacket) : Bool :=
  k.version == 4 && k.ihl == 5 && k.sumOk && !k.moreFrag && k.fragOff == 0
    && (k.dst == s.ipOf p || k.dst == ptpIp || (s.joined.map s.groupIp).contains k.dst)
    && (k.proto == 1 || k.proto == 17)

/-- The FEC blocks corrected and uncorrectable that a frame brings are counted where FEC is active (R123). -/
def State.countFec (s : State) (p : Nat) (f : EthFrame) : State :=
  if s.bitR (pLINK p) LINK_STAT 20 then (s.inc (pLINK p) LINK_FECC f.fecc).inc (pLINK p) LINK_FECU f.fecu else s

/-- A frame arrives at a port that is up: it is counted as accepted, as one with a bad FCS or as discarded (R83, R88).
A datagram that R93 discards, it discards silently. -/
def State.frameIn (s : State) (p : Nat) (f : EthFrame) : State :=
  if s.bitR (pLINK p) LINK_STAT 22 then
    let inj := s.bitR (pLINK p) PG_INJ 0
    let s := (s.setBit (pLINK p) PG_INJ 0 false).countFec p f
    if (if inj then f.fcsOk else !f.fcsOk) then s.inc (pLINK p) LINK_RXFCS
    else if !s.macAccepts p f then s.inc (pLINK p) LINK_RXDROP
    else match f.ip with
    | some k => if s.ipAccepts p k then s.inc (pLINK p) LINK_RXOK else s.inc (pLINK p) LINK_RXDROP
    | none => if f.etherType = 0x0806 then s.inc (pLINK p) LINK_RXOK else s.inc (pLINK p) LINK_RXDROP
  else s

/-- An ARP request is answered where it names the port's LINK_IP (R91). -/
def State.arpIn (s : State) (p ip srcMac srcIp : Nat) : State :=
  if ip = s.ipOf p then s.send p (.arpReply srcMac srcIp) else s

/-- An ICMP echo request that fits the MTU is answered (R92): 20 bytes of IPv4 and 8 of ICMP beside the data. -/
def State.echoIn (s : State) (p srcMac srcIp ident seqn : Nat) (data : List Byte) : State :=
  if data.length + 28 ≤ (if s.jumbo p then 9000 else 1500) then s.send p (.icmpReply (s.ipHead p srcIp) srcMac ident seqn data)
  else s

/-- A port detects a high bit-error rate (R87). The port stays up, and HI_BER clears when the link next goes down or comes
up (DESIGN CHOICE, log entry 57). -/
def State.hiBer (s : State) (p : Nat) : State := (s.setBit (pLINK p) LINK_STAT 19 true).raiseN (pLINK p) 0x041

/-! ### Reading a request frame (R94 to R97) -/

/-- The header of a request (Table 4.2). -/
structure AbtHead where
  ver : Nat
  typ : Nat
  mc : Bool
  sync : Bool
  low : Nat
  high : Nat
  target : Nat
  seq : Nat
  count : Nat
  fstat : Nat
  deriving DecidableEq, Repr

/-- The header of a payload of at least 12 bytes. -/
def abtHead (b : List Byte) : AbtHead :=
  let g (i : Nat) : Nat := (b.getD i 0).toNat
  let t := g 2 * 256 + g 3
  { ver := g 0 / 16, typ := g 0 % 16, mc := nbit (g 1) 7, sync := nbit (g 1) 6, low := g 1 % 64, high := t / 1024
    target := t % 1024, seq := g 4 * 256 + g 5, count := g 6, fstat := g 7 }

/-- Read `n` commands that fill the bytes exactly; none where a size does not add up or a CFLAGS bit is reserved. -/
def abtCmds : Nat → List Byte → Option (List AbtCmd)
  | 0, [] => some []
  | 0, _ => none
  | n + 1, op :: fl :: a :: b :: r =>
    let len := beNat [a, b]
    if fl.toNat % 128 ≠ 0 ∨ r.length < 3 * len then none
    else (abtCmds n (r.drop (3 * len))).map ({ op := op.toNat, cflags := fl.toNat, words := bytesWords (r.take (3 * len)) } :: ·)
  | _ + 1, _ => none

/-- The commands of a request whose structure is right (R97). The reply-only bits DUP and ERR of a request must be zero (R94;
DESIGN CHOICE, log entry 57). -/
def abtParse (h : AbtHead) (b : List Byte) : Option (List AbtCmd) :=
  if h.ver ≠ 1 ∨ h.typ ≠ 0 ∨ h.low ≠ 0 ∨ h.high ≠ 0 ∨ h.fstat ≠ 0 ∨ h.count = 0 ∨ 64 < h.count then none
  else abtCmds h.count ((b.drop 8).take (b.length - 12))

/-- Is the command's SEQCHK word present (R96)? -/
def AbtCmd.chk (c : AbtCmd) : Bool := decide (128 ≤ c.cflags)

/-- Data words of the reply to a command that succeeds (R99, Table 4.3); none where it returns FRAME by itself (R97). -/
def AbtCmd.shape (c : AbtCmd) : Option Nat :=
  let n := c.words.length
  let q := c.chk.toNat
  let w (i : Nat) : Word := c.words.getD i 0
  let ok (good : Bool) (d : Nat) : Option Nat := if good then some d else none
  if c.chk ∧ c.op ≠ 2 ∧ c.op ≠ 3 ∧ c.op ≠ 5 then none
  else match c.op with
  | 1 => ok (n == 2) (if (w 1).toNat < 256 then (w 1).toNat + 1 else 0)
  | 2 => ok (decide (2 + q ≤ n)) 0
  | 3 => ok (n == 3 + q) 0
  | 4 => ok (n == 4) (fld (w 3) 11 0)
  | 5 => ok (n == 4 + q + fld (w 3) 11 0 && (!c.chk || fld (w 0) 23 20 == 0)) 0
  | 6 => ok (n == 1) 1
  | 7 => ok (n == (if fld (w 0) 23 20 = 1 then 3 else 1)) 0
  | 8 => ok (1 ≤ n && (match fld (w 0) 23 22 with
      | 0 => n == 3 || n == 4
      | 1 => n == 1
      | 2 => n == 2
      | _ => true)) 0
  | 9 => ok (n == 0) 7
  | 10 => (match fld (w 0) 23 20 with
      | 1 => ok (n == 3) 0
      | 2 => ok (decide (4 ≤ n)) 0
      | 3 => ok (n == 1) 1
      | 4 => ok (n == 1) 0
      | 5 => ok (n == 1) 4
      | 6 => ok (n == 1) 0
      | _ => ok (decide (1 ≤ n)) 0)
  | 11 => (match fld (w 0) 23 20 with
      | 1 => ok (n == 1) 9
      | 2 => ok (n == 4) (22 * fld (w 3) 7 0)
      | 3 => ok (n == 1) 0
      | _ => ok (decide (1 ≤ n)) 0)
  | _ => none

/-- Bytes of the reply as R99 sizes it: 12 of the frame, 4 per command, 3 per data word; a FENCE counts its one word (R96). -/
def replySize (cs : List AbtCmd) : Nat :=
  12 + (cs.map (fun c => 4 + 3 * (if c.op = 6 then 1 else c.shape.getD 0))).foldl (· + ·) 0

/-! ### Executing commands (R97, R98, R103) -/

/-- The descriptor of a bulk command (Table 4.4). -/
def bulkDesc (ws : List Word) : BulkDesc :=
  let w (i : Nat) : Word := ws.getD i 0
  { space := fld (w 0) 23 20, page := fld (w 0) 19 8, tsel := fld (w 0) 7 4, addr := wide [w 1, w 2], n := fld (w 3) 11 0 }

/-- Execute one command of a frame as `org` on port `p`; `t` is the time base at the frame's start delimiter. True where
it waits, which only a FENCE does. The answer is in `State.reply`; a FENCE that fails by itself answers its own number
(R96). In DEAD only a READ of page ID or TOP passes, and every other command answers STATE first (R78). -/
def State.runCmd (s : State) (org : Org) (p t : Nat) (c : AbtCmd) : Bool × State :=
  let ws := c.words
  let w (i : Nat) : Word := ws.getD i 0
  let chk := if c.chk then some (w (if c.op = 5 then 4 else 1)) else none
  let q := c.chk.toNat
  let fails (e : Err) : Bool × State := (false, { s with reply := ⟨e.code, if c.op = 6 then [word (org.num % 65536)] else []⟩ })
  if s.run.st = .dead ∧ (c.shape.isNone ∨ c.op < 1 ∨ 5 < c.op) then fails .state
  else if c.shape.isNone then fails .frame
  else match c.op with
  | 1 => (false, s.abtRead org.ini (w 0).toNat ((w 1).toNat + 1))
  | 2 => (false, s.abtWrite org.ini (w 0).toNat (ws.drop (1 + q)) chk)
  | 3 => (false, s.abtMwrite org.ini (w 0).toNat (w (1 + q)) (w (2 + q)) chk)
  | 4 => (false, if s.run.st ≠ .dead ∧ (fld (w 0) 3 0 ≠ 0 ∨ fld (w 3) 23 12 ≠ 0) then s.bulkReject org.ini (bulkDesc ws) .range
      else s.bulkRead org.ini p (bulkDesc ws))
  | 5 => (false, if s.run.st ≠ .dead ∧ (fld (w 0) 3 0 ≠ 0 ∨ fld (w 3) 23 12 ≠ 0) then s.bulkReject org.ini (bulkDesc ws) .range
      else s.bulkWrite org p (bulkDesc ws) (ws.drop (4 + q)) chk)
  | 6 => if fld (w 0) 23 2 ≠ 0 then fails .range
      else s.fence org (bit (w 0) 0) (bit (w 0) 1)
  | 7 => (false, s.execCmd org (w 0) (ws.drop 1))
  | 8 => (false, s.subscribe org ws)
  | 9 => (false, s.timeCmd org.ini t)
  | 10 => (false, s.updateCmd org.ini p ws)
  | _ => (false, s.journalCmd org.ini p ws)

/-- Execute the commands `cs` of a frame in order, as far as a FENCE that waits. What their writes leave to take effect
after their reply waits with the frame (R80, R90, R124). -/
def runFrame (ini src grp : Nat) (t : Nat) : List AbtCmd → AbtFrame → State → AbtFrame × State
  | [], f, s => ({ f with rest := [] }, s)
  | c :: cs, f, s =>
    let org : Org := { ini := Fin.ofNat 4 ini, src := src, grp := grp, num := (f.seq + f.results.length) % 65536 }
    match s.runCmd org f.port t c with
    | (true, s1) => ({ f with rest := c :: cs }, s1)
    | (false, s1) =>
      let n := s.abt.settles.length
      runFrame ini src grp t cs { f with results := f.results ++ [{ op := c.op, status := s1.reply.status, data := s1.reply.data }]
                                         settles := f.settles ++ (s1.abt.settles.drop n).map (·.2) }
        { s1 with abt := { s1.abt with settles := s1.abt.settles.take n } }

/-! ### Sources and spaces (R105 to R109) -/

/-- Change the source with an identity. -/
def State.mapSource (s : State) (id : Nat) (f : Source → Source) : State :=
  { s with abt := { s.abt with sources := s.abt.sources.map (fun x => if x.id = id then f x else x) } }

/-- Change a space of a source. -/
def State.mapSpace (s : State) (id grp : Nat) (f : Space → Space) : State :=
  s.mapSource id (fun x => { x with spaces := x.spaces.map (fun sp => if sp.grp = grp then f sp else sp) })

def State.source (s : State) (id : Nat) : Option Source := s.abt.sources.find? (fun x => x.id == id)

def Source.space (x : Source) (grp : Nat) : Option Space := x.spaces.find? (fun sp => sp.grp == grp)

/-- A frame whose commands have completed or been posted by an edge: N moves past it, its reply is cached and waits to be
sent (R98, R106). -/
def Space.complete (sp : Space) (edge : Nat) (f : AbtFrame) : Space :=
  let f : AbtFrame := { f with edge := edge }
  let n := (f.seq + f.count) % 65536
  let rest := sp.exec.filter (fun x => x.seq != f.seq || x.stale != f.stale)
  if f.stale then { sp with exec := rest, ready := sp.ready ++ [f] }
  else { sp with next := n, exec := rest, ready := sp.ready ++ [f]
                 cache := (sp.cache.filter (fun x => x.seq != f.seq) ++ [f]).filter (fun x => decide ((n + 65536 - x.seq) % 65536 ≤ 256)) }

/-- The initiator of a source's commands: port B is initiator 1 in split use (R64, R85). -/
def Source.ini (x : Source) : Nat := if x.port = 1 then 1 else 0

/-- Execute a frame of a space from where it stands, and file it as completed or as waiting. Its start-of-frame delimiter is
taken to have passed at the timing-clock edge of the command that brought it (R104; DESIGN CHOICE, log entry 57). -/
def State.goFrame (s : State) (id grp : Nat) (f : AbtFrame) : State :=
  let ini := match s.source id with
    | some x => x.ini
    | none => 0
  let (g, s) := runFrame ini id grp (s.baseAt (f.edge * 625)) f.rest { f with rest := [] } s
  if g.rest.isEmpty then s.mapSpace id grp (fun sp => sp.complete s.time.edge g) else s.mapSpace id grp (fun sp =>
    { sp with exec := sp.exec.filter (fun x => x.seq != g.seq || x.stale != g.stale) ++ [g] })

/-- FENCE_COMPLETE: the oldest waiting FENCE whose conditions hold is answered, and its frame goes on. -/
def State.fenceComplete (s : State) : State :=
  match s.abt.fences.find? s.fenceHolds with
  | none => s
  | some w =>
    let s : State := { s with abt := { s.abt with fences := s.abt.fences.erase w } }
    let s := s.fenceAnswer w
    let mine (f : AbtFrame) : Bool := (f.seq + f.results.length) % 65536 == w.org.num
    match (s.source w.org.src).bind (fun x => (x.space w.org.grp).bind (fun sp => sp.exec.find? mine)) with
    | none => s
    | some f =>
      s.goFrame w.org.src w.org.grp { f with rest := f.rest.drop 1
                                             results := f.results ++ [{ op := 6, status := s.reply.status, data := s.reply.data }] }

/-! ### Replies (R85, R86, R94, R98, R113) -/

/-- The payload of the reply to a frame. -/
def State.replyPayload (s : State) (f : AbtFrame) (dup : Bool) (fstat : Nat) : List Byte :=
  let err := fstat != 0 || f.results.any (fun r => r.status != 0)
  withCrc ([0x11, BitVec.ofNat 8 (f.mc.toNat * 128 + dup.toNat * 32 + err.toNat * 16)] ++ beBytes 2 s.abt.chip ++ beBytes 2 f.seq
    ++ [BitVec.ofNat 8 f.results.length, BitVec.ofNat 8 fstat]
    ++ f.results.flatMap (fun r => [BitVec.ofNat 8 r.op, BitVec.ofNat 8 r.status] ++ beBytes 2 r.data.length ++ r.data.flatMap wordBytes))

/-- A reply to a multicast frame that is ready at an edge waits CHIPNO × MCSTAG × 10 ns (R113). -/
def State.stagger (s : State) (mc : Bool) (edge : Nat) : State :=
  if mc then s.toEdge (edge + 16 * s.abt.chip * s.fldR pABT ABT_MCJOIN 23 20) else s

/-- Send a payload to a source: on the request's port in split use, on every port it was heard on in redundant use. -/
def State.replyTo (s : State) (x : Source) (p : Nat) (pl : List Byte) : State :=
  let one (s : State) (p : Nat) : State :=
    match (if p = 0 then x.macA else x.macB) with
    | some m => s.sendUdp p m x.ip x.udp pl
    | none => s
  if x.port = 2 then one (one s 0) 1 else one s p

/-- ABT_REPLY_SEND: the oldest completed frame of a space is answered, a multicast one after its stagger (R113); the edge
is kept for second copies (R85), and what waited for the reply takes effect. Where no frame waits, it is the reply to
commands that no frame brought. -/
def State.replySend (s : State) (id grp : Nat) : State :=
  match (s.source id).bind (fun x => ((x.space grp).bind (fun sp => sp.ready.head?)).map (fun f => (x, f))) with
  | none => s.replied (decide <| · < 2)
  | some (x, f) =>
      let s := s.stagger f.mc f.edge
      let s := s.replyTo x f.port (s.replyPayload f false 0)
      let s := s.mapSpace id grp (fun sp =>
        { sp with ready := sp.ready.drop 1, cache := sp.cache.map (fun c => if c.seq = f.seq then { c with edge := s.time.edge } else c) })
      f.settles.foldl State.settleAbt s

/-! ### Request frames (R95 to R109) -/

/-- Reject a frame: an immediate reply with COUNT 0 (R97). -/
def State.rejectFrame (s : State) (src : Option Source) (p ip udp mac : Nat) (h : AbtHead) (e : Err) : State :=
  let s := (if e = .frame then s.inc pABT ABT_BADFRM else s).stagger h.mc s.time.edge
  let pl := s.replyPayload { seq := h.seq, mc := h.mc, port := p, count := 0, rest := [] } false e.code
  match src with
  | some x => s.replyTo x p pl
  | none => s.sendUdp p mac ip udp pl

/-- Is the frame a second copy of one that another port brought: held, executing, not yet answered, or answered up to
1 ms ago (R85)? -/
def State.isTwin (s : State) (sp : Space) (p seq : Nat) : Bool :=
  (sp.held ++ sp.exec ++ sp.ready).any (fun f => f.seq == seq && f.port != p)
    || sp.cache.any (fun f => f.seq == seq && f.port != p && decide (s.time.edge ≤ f.edge + 1600000))

/-- Is a frame of this number held or executing (R106)? -/
def Space.hasSeq (sp : Space) (seq : Nat) : Bool := (sp.held ++ sp.exec).any (fun f => f.seq == seq && !f.stale)

/-- The limits of a request: its own size, its reply's size (R99), and the commands in flight on the port (R109). -/
def State.frameLimit (s : State) (p len : Nat) (cs : List AbtCmd) : Bool :=
  decide (s.payloadMax p < len) || decide (s.payloadMax p < replySize cs) || decide (256 < s.inFlight p + cs.length)

/-- Accept a frame of a space: it executes when the gap before it is closed, and is held until then (R106). -/
def State.acceptFrame (s : State) (id grp : Nat) (now : Bool) (f : AbtFrame) : State :=
  if now then s.goFrame id grp f else s.mapSpace id grp (fun sp => { sp with held := sp.held ++ [f] })

/-- A SYNC restarts a space: held frames and cached replies go, and a frame that still waits no longer moves N (R107). -/
def resync (seq : Nat) (sp : Space) : Space :=
  { sp with next := seq, syncSeq := some seq, held := [], cache := []
            exec := sp.exec.map (fun (g : AbtFrame) => { g with stale := true }) }

/-- The port of the sources that a port serves: its own in split use, 2 in redundant use (R85, R105). -/
def State.sourceKey (s : State) (p : Nat) : Nat := if s.fldR pABT ABT_CFG 23 22 = 1 then p else 2

/-- A frame of a source has come in on a port: its MAC address is the one that replies and stream frames go to (R86, R91),
and the source has sent something now (R105). -/
def State.learn (s : State) (p ip udp mac : Nat) : State :=
  let key := s.sourceKey p
  let mine (x : Source) : Bool := x.port == key && x.ip == ip && x.udp == udp
  { s with
    abt := { s.abt with sources := s.abt.sources.map (fun x =>
      if mine x then
        (if p = 0 then { x with macA := some mac, last := s.time.edge } else { x with macB := some mac, last := s.time.edge })
      else x) }
    slots := s.slots.mapVals (unitDefault {}) (fun _ (v : Slot) =>
      if v.isOpen && v.key == key && v.dip == ip && v.sport == udp then
        (if p = 0 then { v with macA := some mac } else { v with macB := some mac })
      else v) }

/-- The source with an address and a UDP port on a port. -/
def State.sourceOf (s : State) (p ip udp : Nat) : Option Source :=
  s.abt.sources.find? (fun x => x.port == s.sourceKey p && x.ip == ip && x.udp == udp)

/-- The frame's place among the sources and spaces known: what happens to it (R105 to R109). A duplicate whose reply is no
longer in the cache is rejected with SEQ (DESIGN CHOICE, log entry 57). -/
def State.sequence (s : State) (p ip udp mac len : Nat) (h : AbtHead) (cs : List AbtCmd) : State :=
  let key := s.sourceKey p
  let grp := if h.mc then h.target else 16
  let f : AbtFrame := { seq := h.seq, mc := h.mc, port := p, count := h.count, rest := cs, edge := s.time.edge }
  match s.sourceOf p ip udp with
  | none =>
    if !h.sync then s.rejectFrame none p ip udp mac h .seq
    else if 8 ≤ s.sourcesOn p ∨ s.frameLimit p len cs then s.rejectFrame none p ip udp mac h .limit
    else
      let id := s.abt.nextId
      let x : Source := { id := id, port := key, ip := ip, udp := udp, last := s.time.edge
                          macA := if p = 0 then some mac else none, macB := if p = 0 then none else some mac
                          spaces := [{ grp := grp, next := h.seq, syncSeq := some h.seq }] }
      ({ s with abt := { s.abt with sources := s.abt.sources ++ [x], nextId := id + 1 } }).acceptFrame id grp true f
  | some x =>
      if key = 2 ∧ (x.space grp).any (fun sp => s.isTwin sp p h.seq) = true then s.inc pABT ABT_TWIN
      else match x.space grp with
      | none =>
        if !h.sync then s.rejectFrame (some x) p ip udp mac h .seq
        else if s.frameLimit p len cs then s.rejectFrame (some x) p ip udp mac h .limit
        else (s.mapSource x.id (fun z => { z with spaces := z.spaces ++ [{ grp := grp, next := h.seq, syncSeq := some h.seq }] })).acceptFrame
          x.id grp true f
      | some sp =>
        if h.sync ∧ sp.syncSeq ≠ some h.seq then
          if s.frameLimit p len cs then s.rejectFrame (some x) p ip udp mac h .limit
          else (s.mapSpace x.id grp (resync h.seq)).acceptFrame x.id grp true f
        else if sp.hasSeq h.seq then (if sp.exec.any (fun g => g.seq == h.seq && !g.stale) then s.inc pABT ABT_DUP else s)
        else
          let d := (h.seq + 65536 - sp.next) % 65536
          if 65280 ≤ d then
            match sp.cache.find? (fun c => c.seq == h.seq) with
            | some c => ((s.inc pABT ABT_DUP).stagger h.mc s.time.edge).replyTo x p (s.replyPayload c true 0)
            | none => s.rejectFrame (some x) p ip udp mac h .seq
          else if 256 < d + h.count then s.rejectFrame (some x) p ip udp mac h .seq
          else if s.frameLimit p len cs then s.rejectFrame (some x) p ip udp mac h .limit
          else s.acceptFrame x.id grp (d == 0) f

/-- Does the device take a datagram as one for ABT (R88, R93)? It is for the port's address or a joined group's and for
ABT_PORT, and its checksum is zero or right. -/
def State.abtHears (s : State) (p : Nat) (g : Datagram) : Bool :=
  (g.dstIp == s.ipOf p || (s.joined.map s.groupIp).contains g.dstIp) && g.dstPort == s.fldR pABT ABT_PORT 15 0
    && (g.sum == 0 || g.sum == udpSum g.srcIp g.dstIp g.srcPort g.dstPort g.payload)

/-- A datagram arrives at a port (R93, R95 to R107). -/
def State.requestFrame (s : State) (p : Nat) (g : Datagram) : State :=
  if !s.portUp p ∨ s.run.st = .cold ∨ !s.abtHears p g then s
  else
    let b := g.payload
    let inj := s.bitR pABT PG_INJ 0 && decide (12 ≤ b.length)
    let s := if inj then s.setBit pABT PG_INJ 0 false else s
    let good := (crc32c (b.take (b.length - 4)) == beNat (b.drop (b.length - 4))) != inj
    let h := abtHead b
    if b.length < 12 ∨ !good then s.inc pABT ABT_BADCRC
    else if !h.mc ∧ h.target ≠ s.abt.chip then s.inc pABT ABT_NOTME
    else if h.mc ∧ !s.joined.contains h.target then s
    else
      let s := s.learn p g.srcIp g.srcPort g.srcMac
      match abtParse h b with
      | none => s.rejectFrame (s.sourceOf p g.srcIp g.srcPort) p g.srcIp g.srcPort g.srcMac h .frame
      | some cs => s.sequence p g.srcIp g.srcPort g.srcMac b.length h cs

/-- HELD_FRAME_EXECUTE: the held frame with SEQ = N executes (R106). -/
def State.heldGo (s : State) (id grp : Nat) : State :=
  match (s.source id).bind (fun x => x.space grp) with
  | none => s
  | some sp =>
    if sp.exec.any (fun g => !g.stale) then s
    else match sp.held.find? (fun f => f.seq == sp.next) with
    | none => s
    | some f => (s.mapSpace id grp (fun sp => { sp with held := sp.held.filter (fun g => g.seq != f.seq) })).goFrame id grp f

/-- GAP_TIMEOUT: GAPTMO milliseconds after the oldest held frame of the space arrived, or later, every held frame of it is
discarded and counted (R108). -/
def State.gapTimeout (s : State) (id grp : Nat) : State :=
  match (s.source id).bind (fun x => x.space grp) with
  | none => s
  | some sp =>
    let s := match sp.held with
      | [] => s
      | f :: _ => s.toEdge (f.edge + 1600000 * s.fldR pABT ABT_CFG 21 14)
    (s.inc pABT ABT_GAPDROP sp.held.length).mapSpace id grp (fun sp => { sp with held := [] })

/-- SOURCE_EXPIRY: a source that has sent nothing for 10 s is forgotten, then or later (R105). -/
def State.expire (s : State) (id : Nat) : State :=
  let s := match s.source id with
    | some x => s.toEdge (x.last + 16000000000)
    | none => s
  { s with abt := { s.abt with sources := s.abt.sources.filter (fun x => x.id != id)
                               fences := s.abt.fences.filter (fun f => f.org.src != id) } }

end Sys2Proof.Machine
end

