-- ==== Sys2Proof/Machine/Abt.lean ====
section
/-!
DEFINITION. Meanings of the frame commands of ABT (R94 to R99, R105 to R113, R124).
-/
namespace Sys2Proof.Machine

/-- ABT_REQUEST_FRAME (R95 to R109). -/
def execAbtRequestFrame (port : Port) (dg : Datagram) (s : State) : Out := .next (s.requestFrame port dg)

/-- HELD_FRAME_EXECUTE (R106). -/
def execHeldFrameExecute (src grp : Nat) (s : State) : Out := .next (s.heldGo src grp)

/-- GAP_TIMEOUT (R108). -/
def execGapTimeout (src grp : Nat) (s : State) : Out := .next (s.gapTimeout src grp)

/-- SOURCE_EXPIRY (R105). -/
def execSourceExpiry (src : Nat) (s : State) : Out := .next (s.expire src)

/-- ABT_REPLY_SEND (R98, R113). -/
def execAbtReplySend (src grp : Nat) (s : State) : Out := .next (s.replySend src grp)

/-- FORGET: a write of ABT_CMD.FORGET (R124). -/
def execForget (ini : Ini) (s : State) : Out := .next (s.writeReg {} ini pABT ABT_CMD 2)

/-- ABT_CLRCNT: a write of ABT_CMD.CLRCNT (R124). -/
def execAbtClrcnt (ini : Ini) (s : State) : Out := .next (s.writeReg {} ini pABT ABT_CMD 1)

end Sys2Proof.Machine
end

