-- ==== Sys2Proof/Machine/AbtCmd.lean ====
section
/-!
DEFINITION. Meanings of the commands inside ABT frames (R100 to R104). Each leaves its status and data in `State.reply`.
-/
namespace Sys2Proof.Machine

/-- READ (R70, R73, R100). -/
def execRead (org : Org) (addr n : Nat) (s : State) : Out := .next (s.abtRead org.ini addr n)

/-- WRITE (R70, R73, R77, R100). -/
def execWrite (org : Org) (addr : Nat) (data : List Word) (seqchk : Option Word) (s : State) : Out :=
  .next (s.abtWrite org.ini addr data seqchk)

/-- MWRITE (R77, R102). -/
def execMwrite (org : Org) (addr : Nat) (mask data : Word) (seqchk : Option Word) (s : State) : Out :=
  .next (s.abtMwrite org.ini addr mask data seqchk)

/-- BULK_READ (R101, R147). -/
def execBulkRead (org : Org) (desc : BulkDesc) (s : State) : Out := .next (s.bulkRead org.ini (orgPort org) desc)

/-- BULK_WRITE (R101, R103, R147). -/
def execBulkWrite (org : Org) (desc : BulkDesc) (data : List Word) (seqchk : Option Word) (s : State) : Out :=
  .next (s.bulkWrite org (orgPort org) desc data seqchk)

/-- BULK_WRITE_COMPLETE (R103, R128). -/
def execBulkWriteComplete (s : State) : Out := .next s.bulkComplete

/-- FENCE (R103, R402). -/
def execFence (org : Org) (wdone wseal : Bool) (s : State) : Out := .next (s.fence org wdone wseal).2

/-- FENCE_COMPLETE (R103, R402). -/
def execFenceComplete (s : State) : Out := .next s.fenceComplete

/-- TIME (R104). -/
def execTime (org : Org) (sfd : Nat) (s : State) : Out := .next (s.timeCmd org.ini (sfd % 2 ^ 64))

end Sys2Proof.Machine
end

