-- ==== Sys2Proof/Machine/Access.lean ====
section
/-!
DEFINITION. Meanings of the commands that are accesses of one word and of the header registers (R62 to R80).
-/
namespace Sys2Proof.Machine

/-- REGISTER_WRITE: one write of the word at an address (R8, R63, R69, R77). -/
def execRegisterWrite (ini : Ini) (addr : Nat) (val : Word) (s : State) : Out :=
  .next (s.writeBurst {} ini addr 0xFFFFFF [val] none)

/-- SNAPSHOT_READ: one read of the word at an address; the lowest word of a wide quantity captures it (R67, R68). -/
def execSnapshotRead (ini : Ini) (addr : Nat) (s : State) : Out := .next (s.readBurst ini addr 1)

/-- TBL_DATA_ACCESS: a read or a write of the word that the initiator's TBL_ADDR selects (R71, R72). -/
def execTblDataAccess (ini : Ini) (page : Nat) (wr : Option Word) (s : State) : Out :=
  match wr with
  | some w => .next (s.writeReg {} ini page TBL_DATA w)
  | none => .next (s.readBurst ini (page * 256 + TBL_DATA) 1)

/-- PG_LOCK_OPEN: the key is written (R76). -/
def execPgLockOpen (ini : Ini) (page : Nat) (s : State) : Out := .next (s.writeReg {} ini page PG_LOCK 0x5A5A5A)

/-- PG_LOCK_CLOSE: zero is written (R76). -/
def execPgLockClose (ini : Ini) (page : Nat) (s : State) : Out := .next (s.writeReg {} ini page PG_LOCK 0)

/-- PG_ERR_CLR: PG_ERR.CLR is written (R74). -/
def execPgErrClr (ini : Ini) (page : Nat) (s : State) : Out :=
  .next (s.writeBurst {} ini (page * 256 + PG_ERR) 0x001000 [0x001000] none)

/-- HEDGE_REQ: PG_CTL.HEDGE_REQ is written, the page's other control bits unchanged (R74, R214). -/
def execHedgeReq (ini : Ini) (page : Nat) (s : State) : Out :=
  .next (s.writeBurst {} ini (page * 256 + PG_CTL) 0x400000 [0x400000] none)

/-- PG_FORCE: sources to force are written (R75, R370). -/
def execPgForce (ini : Ini) (page : Nat) (bits : Word) (s : State) : Out := .next (s.writeReg {} ini page PG_FORCE bits)

/-- PG_INJ: checkers to invert are written (R75). -/
def execPgInj (ini : Ini) (page : Nat) (bits : Word) (s : State) : Out := .next (s.writeReg {} ini page PG_INJ bits)

/-- CHIPNO_WRITE: a write of TOP_CHIPNO; the number is in effect for frames after the reply (R80). -/
def execChipnoWrite (ini : Ini) (val : Word) (s : State) : Out := .next (s.writeReg {} ini pTOP TOP_CHIPNO val)

end Sys2Proof.Machine
end

