-- ==== Sys2Proof/Machine/Acq.lean ====
section
/-!
DEFINITION. Meanings of the commands of acquisition: arming, windows, samples, gap records, spilling (R312 to R334).
-/
namespace Sys2Proof.Machine

/-- ACQ_ARM: ACQ_CMD.ARM of an octet unit, or ACQG_GCMD with ACT ARM of a global one, is written (R317, R334). -/
def execAcqArm (ini : Ini) (unit : Nat) (s : State) : Out :=
  .next (if unit < 64 then s.writeReg {} ini (pACQ unit) ACQ_CMD 1
    else s.writeReg {} ini pACQG ACQG_GCMD (word (2 ^ 22 + (unit - 64) % 4)))

/-- ACQ_DISARM: ACQ_CMD.DISARM, or ACQG_GCMD with ACT DISARM, is written (R316, R334). -/
def execAcqDisarm (ini : Ini) (unit : Nat) (s : State) : Out :=
  .next (if unit < 64 then s.writeReg {} ini (pACQ unit) ACQ_CMD 2
    else s.writeReg {} ini pACQG ACQG_GCMD (word (2 ^ 23 + (unit - 64) % 4)))

/-- WINDOW_OPEN: the window that a trigger has made due opens (R318). -/
def execWindowOpen (unit : Nat) (s : State) : Out := .next (s.openWindow unit)

/-- WINDOW_CLOSE: TCLOSE of the open window is reached (R318). -/
def execWindowClose (unit : Nat) (s : State) : Out := .next (s.closeDue unit)

/-- CAPTURE_SAMPLE: a sample of the unit's source is judged and reduced (R312, R318 to R322). -/
def execCaptureSample (unit : Nat) (inp : CapIn) (s : State) : Out := .next (s.captureSample unit inp)

/-- PENDING_GAP_WRITE: room has appeared in a ring, and the pending gap record is written (R324). -/
def execPendingGapWrite (unit : Nat) (s : State) : Out := .next (s.writeGap unit)

/-- SPILL: a ring's oldest record is copied to the external area (R326). -/
def execSpill (unit : Nat) (s : State) : Out := .next (s.spill (min unit 128))

/-- XLEN_WRITE: both words of ACQG_XLEN are written, the highest last (R334). -/
def execXlenWrite (ini : Ini) (lo hi : Word) (s : State) : Out := .next (s.writeRegs {} ini pACQG ACQG_XLEN0 [lo, hi])

/-- ACQG_CMD.CLRCNT is written (R334). -/
def execAcqgClrcnt (ini : Ini) (s : State) : Out := .next (s.writeReg {} ini pACQG ACQG_CMD 1)

end Sys2Proof.Machine
end

