-- ==== Sys2Proof/Machine/ChestCmd.lean ====
section
/-!
DEFINITION. Meanings of the commands of the lifecycle and the Chest (R433 to R441).
-/
namespace Sys2Proof.Machine

/-- ADVANCE: LIFE_CMD with ACT ADVANCE and a target state is written (R434). -/
def execAdvance (ini : Ini) (target : Nat) (s : State) : Out :=
  .next (s.writeReg {} ini pLIFE LIFE_CMD (word (2 ^ 20 + target % 8 * 2 ^ 17)))

/-- PROG_MKEY: LIFE_CMD with ACT PROG_MKEY is written (R435). -/
def execProgMkey (ini : Ini) (s : State) : Out := .next (s.writeReg {} ini pLIFE LIFE_CMD 0x200000)

/-- CHEST_SEAL: CHEST_CMD.SEAL is written; the flash takes the image or not (R438, R441). -/
def execChestSeal (ini : Ini) (ok : Bool) (s : State) : Out := .next (s.writeReg { good := some ok } ini pCHEST CHEST_CMD 2)

/-- CHEST_AUTO_SEAL: the seal 1 s after the last Chest write (R438). -/
def execChestAutoSeal (ok : Bool) (s : State) : Out := .next (s.autoSeal ok)

/-- WIPE: CHEST_CMD.WIPE is written (R439). -/
def execWipe (ini : Ini) (s : State) : Out := .next (s.writeReg {} ini pCHEST CHEST_CMD 1)

/-- TAMPER: a tamper detector fires (R440); that of VCORE and VANA only while PORST_N is high (Table 16.8). -/
def execTamper (cause : Nat) (s : State) : Out := .next (if cause = 1 ∧ !s.pins.porstN then s else s.tamper cause)

/-- WIPE_COMPLETE: the wipe in progress is complete (R439). -/
def execWipeComplete (s : State) : Out := .next s.wipeDone

/-- LIFECYCLE_CHANGE_COMPLETE: the lifecycle change in progress ends (R434). -/
def execLifecycleChangeComplete (ok : Bool) (s : State) : Out := .next (s.lifeDone ok)

end Sys2Proof.Machine
end

