-- ==== Sys2Proof/Machine/Day.lean ====
section
/-!
DEFINITION. Meanings of the commands of the Daybook: programming, seals, compaction, formatting, JOURNAL (R399 to R416).
-/
namespace Sys2Proof.Machine

/-- The open group is sealed 250 ms of the time base after its first record (R401). -/
def State.sealDue (s : State) : State :=
  if s.day.group ≠ [] ∧ 250000000000 ≤ (s.time.base + 2 ^ 64 - s.day.opened) % 2 ^ 64 then s.dayClose else s

/-- A compaction ends: what waited for its group's seal has been programmed, then CKPT_END, and the records that the
checkpoint reflects are erased; full no longer (R404). A checkpoint whose group could not be sealed is dropped (log entry
62). While PWRWARN_N is low nothing is written (R412). -/
def State.compactDone (s : State) (good : Bool) : State :=
  if !s.day.compacting ∨ !s.pins.pwrwarnN then s
  else if good then
    let s := s.dayDrain 0
    let upto := (s.day.ckpt.head?.map (·.rseq)).getD 0
    if max s.day.sealedRec s.day.abandoned < upto then { s with day := { s.day with ckpt := [], compacting := false } }
    else
      { s with day := { s.day with log := s.day.ckpt ++ s.day.log.filter (fun r => decide (upto < r.rseq)), ckpt := []
                                   compacting := false, full := false } }
  else s.dayFail

/-- A new area is formatted: erased, with a checkpoint of the current configuration, and its descriptor written: it is
the area in use, and MODE is ON (R403). While PWRWARN_N is low nothing is written (R412). -/
def State.formatDone (s : State) (good : Bool) : State :=
  if s.day.mode ≠ .formatting ∨ !s.pins.pwrwarnN then s
  else if good then
    let d := s.day
    let bound (t : Nat) : DayRec := { typ := t, rseq := d.lastRec, time := s.time.base }
    { s with day := { d with mode := .on, area := d.newArea, newArea := none, compacting := false, ckpt := [], full := false
                             log := bound 0x12 :: (ckptRuns false s.regs ++ ckptRuns true s.tabs) ++ [bound 0x13] } }
  else { s with day := { s.day with newArea := none } }.dayFail

/-- DAYBOOK_PROGRAM: the oldest queued record is programmed (R400); nothing after a power-loss sequence (R412). -/
def execDaybookProgram (ok : Bool) (s : State) : Out := .next (if s.pins.pwrwarnN then s.dayProgram ok else s)

/-- SEAL_TIMER: the open group's 250 ms are over (R401). -/
def execSealTimer (s : State) : Out := .next s.sealDue

/-- DB_SEAL: DB_CMD.SEAL is written (R401). -/
def execDbSeal (ini : Ini) (s : State) : Out := .next (s.writeReg {} ini pDAY DB_CMD 1)

/-- DB_COMPACT: DB_CMD.COMPACT is written (R404). -/
def execDbCompact (ini : Ini) (s : State) : Out := .next (s.writeReg {} ini pDAY DB_CMD 2)

/-- COMPACTION_COMPLETE: the compaction in progress ends (R404). -/
def execCompactionComplete (ok : Bool) (s : State) : Out := .next (s.compactDone ok)

/-- DB_AREA_WRITE: the highest word of DB_SIZE is written (R403). -/
def execDbAreaWrite (ini : Ini) (hi : Word) (s : State) : Out := .next (s.writeReg {} ini pDAY DB_SIZE1 hi)

/-- DAYBOOK_FORMAT_COMPLETE: the formatting in progress ends (R403). -/
def execDaybookFormatComplete (ok : Bool) (s : State) : Out := .next (s.formatDone ok)

/-- JOURNAL with ACT STAT (R415). -/
def execJournalStat (org : Org) (s : State) : Out := .next (s.journalCmd org.ini (orgPort org) [0x100000])

/-- JOURNAL with ACT READ (R415). -/
def execJournalRead (org : Org) (w1 w2 w3 : Word) (s : State) : Out :=
  .next (s.journalCmd org.ini (orgPort org) [0x200000, w1, w2, w3])

/-- JOURNAL with ACT COMPACT (R415). -/
def execJournalCompact (org : Org) (s : State) : Out := .next (s.journalCmd org.ini (orgPort org) [0x300000])

end Sys2Proof.Machine
end

