-- ==== Sys2Proof/Machine/Exec.lean ====
section
/-!
DEFINITION. Meanings of EXEC, of the command stile's exit, and of the commands of pages STREAM, SITE and SLIP
(R199 to R202, R214, R218 to R221).
-/
namespace Sys2Proof.Machine

/-- EXEC with its ACTION field at 1, ARM, and the two words of ENTRY (R200). -/
def execExecArm (org : Org) (w0 e0 e1 : Word) (s : State) : Out := .next (s.execCmd org (putFld w0 23 20 1) [e0, e1])

/-- EXEC with its ACTION field at 2, JUMP (R200). -/
def execExecJump (org : Org) (w0 : Word) (s : State) : Out := .next (s.execCmd org (putFld w0 23 20 2) [])

/-- EXEC with its ACTION field at 3, STOP (R200, R214). -/
def execExecStop (org : Org) (w0 : Word) (s : State) : Out := .next (s.execCmd org (putFld w0 23 20 3) [])

/-- EXEC with its ACTION field at 4, RESET (R200). -/
def execExecReset (org : Org) (w0 : Word) (s : State) : Out := .next (s.execCmd org (putFld w0 23 20 4) [])

/-- EXEC with its ACTION field at 5, RELEASE (R200, R201). -/
def execExecRelease (org : Org) (w0 : Word) (s : State) : Out := .next (s.execCmd org (putFld w0 23 20 5) [])

/-- COMMAND_STILE_EXIT: the oldest command of the stiles takes effect (R458). -/
def execCommandStileExit (s : State) : Out := .next s.stileExit.followStreams

/-- SITE_ASSIGN: ASSIGN and STREAM of SITE_CFG are written, its other fields unchanged (R31, R201). -/
def execSiteAssign (ini : Ini) (site : SiteN) (str : Str) (s : State) : Out :=
  .next (s.writeBurst {} ini (pSITE site * 256 + SITE_CFG) 0xE00000 [word (2 ^ 23 + str * 2 ^ 21)] none)

/-- SITE_UNASSIGN: ASSIGN of SITE_CFG is written 0, its other fields unchanged (R201). -/
def execSiteUnassign (ini : Ini) (site : SiteN) (s : State) : Out :=
  .next (s.writeBurst {} ini (pSITE site * 256 + SITE_CFG) 0x800000 [0] none)

/-- STREAM_CMD.CLRCNT is written (R218). -/
def execStreamClrcnt (ini : Ini) (str : Str) (s : State) : Out := .next (s.writeReg {} ini (pSTREAM str) STREAM_CMD 1)

/-- SLIP_SNAP: SLIP_CMD.SNAP is written (R219). -/
def execSlipSnap (ini : Ini) (s : State) : Out := .next (s.writeReg {} ini pSLIP SLIP_CMD 2)

/-- CLRMAX: SLIP_CMD.CLRMAX is written (R219). -/
def execClrmax (ini : Ini) (s : State) : Out := .next (s.writeReg {} ini pSLIP SLIP_CMD 1)

end Sys2Proof.Machine
end

