-- ==== Sys2Proof/Machine/Expand.lean ====
section
/-!
DEFINITION. Meanings of the pattern instructions: the expander of a stream executes the instruction at the fetch address
of one of its paths (R155 to R188, R195). The word is read from the stream's resident windows and decoded from its
fields; where it is another instruction, is not resident, or the run-ahead is full, the expander does nothing; a word
that breaks a rule of its instruction becomes an invalid word of the item list (R161). A failed bank access stops the
stream (R128).
-/
namespace Sys2Proof.Machine

/-- One instruction of opcode `op` on a path, with the fault of a failed bank access (R128). -/
def State.expandStep (s : State) (k p op : Nat) : State :=
  match s.expand k p (some op) with
  | (s, true) => (s.streamFail k 0x064).followStreams
  | (s, false) => s

/-- VEC, opcode 0x01: one vector, written whole or as its differences from the previous one (R162, Table 6.3). -/
def execVec (str : Str) (path : Nat) (s : State) : Out := .next (s.expandStep str path 0x01)

/-- RPT, opcode 0x02: COUNT repetitions of the previous vector as written (R163). -/
def execRpt (str : Str) (path : Nat) (s : State) : Out := .next (s.expandStep str path 0x02)

/-- RUN, opcode 0x03: LEN + 1 vectors of packed bits (R164). -/
def execRun (str : Str) (path : Nat) (s : State) : Out := .next (s.expandStep str path 0x03)

/-- LOOP, opcode 0x04: opens a counted loop, pinned or not (R174, R175). -/
def execLoop (str : Str) (path : Nat) (s : State) : Out := .next (s.expandStep str path 0x04)

/-- ENDL, opcode 0x05: ends an iteration: back to the body, or on (R174 to R176). -/
def execEndl (str : Str) (path : Nat) (s : State) : Out := .next (s.expandStep str path 0x05)

/-- MATCH, opcode 0x06: opens a match loop (R178). -/
def execMatch (str : Str) (path : Nat) (s : State) : Out := .next (s.expandStep str path 0x06)

/-- ENDM, opcode 0x07: ends the match body (R178, R179). -/
def execEndm (str : Str) (path : Nat) (s : State) : Out := .next (s.expandStep str path 0x07)

/-- SEG, opcode 0x08: ends the open segment, if one is open, and opens a segment (R165, R166, R170). -/
def execSeg (str : Str) (path : Nat) (s : State) : Out := .next (s.expandStep str path 0x08)

/-- JSEG, opcode 0x09: declares a jump of the open segment (R168). -/
def execJseg (str : Str) (path : Nat) (s : State) : Out := .next (s.expandStep str path 0x09)

/-- CALL, opcode 0x0A: runs a subpattern (R176, R177). -/
def execCall (str : Str) (path : Nat) (s : State) : Out := .next (s.expandStep str path 0x0A)

/-- RET, opcode 0x0B: returns from a subpattern (R176). -/
def execRet (str : Str) (path : Nat) (s : State) : Out := .next (s.expandStep str path 0x0B)

/-- TSW, opcode 0x0C: switches the timing sets of columns from the next vector (R182, R183). -/
def execTsw (str : Str) (path : Nat) (s : State) : Out := .next (s.expandStep str path 0x0C)

/-- SUBP, opcode 0x0D: sets the substitution pointers (R185). -/
def execSubp (str : Str) (path : Nat) (s : State) : Out := .next (s.expandStep str path 0x0D)

/-- PAUSE_BEGIN, opcode 0x0E: opens a pausable region (R184). -/
def execPauseBegin (str : Str) (path : Nat) (s : State) : Out := .next (s.expandStep str path 0x0E)

/-- PAUSE_END, opcode 0x0F: closes the pausable region (R184). -/
def execPauseEnd (str : Str) (path : Nat) (s : State) : Out := .next (s.expandStep str path 0x0F)

/-- ALIGN, opcode 0x10: a re-gathering point (R187). -/
def execAlign (str : Str) (path : Nat) (s : State) : Out := .next (s.expandStep str path 0x10)

/-- HALT, opcode 0x11: ends the last segment (R173). -/
def execHalt (str : Str) (path : Nat) (s : State) : Out := .next (s.expandStep str path 0x11)

/-- NOP, opcode 0x12: nothing but the fetch address (Table 6.2). -/
def execNop (str : Str) (path : Nat) (s : State) : Out := .next (s.expandStep str path 0x12)

end Sys2Proof.Machine
end

