-- ==== Sys2Proof/Machine/Gate.lean ====
section
/-!
DEFINITION. The Gate port: frames, the alive counter, the reply buffer, its commands (R427 to R432, R449, R452), and the
meanings of its rows.
-/
namespace Sys2Proof.Machine

/-! ### Commands (Table 16.5). Each leaves its status and words in `State.reply`. -/

/-- READ: from 1 to 16 words, a nonzero [23:20] of the address out of RANGE (log entry 16). During a wipe of the Chest the
status is WIPING and the words are zero (R449). -/
def State.gateRead (s : State) (addr : Word) (n : Nat) : State :=
  if s.run.st = .cold then s.err .state
  else if 2 ^ 20 ≤ addr.toNat ∨ n = 0 ∨ 16 < n then s.err .range
  else
    let t := s.readBurst 2 addr.toNat n
    if t.reply.status = Err.wiping.code then { t with reply := ⟨Err.wiping.code, List.replicate n 0⟩ } else t

/-- WRITE of 1 to 16 words: AUTH in SECURED, STATE where GATE_CFG.WREN is 0. -/
def State.gateWrite (s : State) (addr : Word) (ws : List Word) : State :=
  let no (e : Err) : State := s.reject 2 (addr.toNat / 256 % 4096) (addr.toNat % 256) e
  if s.run.st = .cold ∨ s.run.st = .dead then no .state
  else if ws.isEmpty ∨ 16 < ws.length then s.err .frame
  else if s.fuses.life = 3 then no .auth
  else if !s.bitR pGATE GATE_CFG 23 then no .state
  else if 2 ^ 20 ≤ addr.toNat then s.err .range
  else s.writeBurst {} 2 addr.toNat 0xFFFFFF ws none

/-- IDENT: ID_PART to ID_FUSE, TOP_STATE, TOP_CHIPNO. -/
def State.gateIdent (s : State) : State :=
  if s.run.st = .cold then s.err .state
  else s.ok ((List.range 11).map (fun i => s.readReg 2 pID .id (ID_PART + i))
    ++ [s.readReg 2 pTOP .top TOP_STATE, s.readReg 2 pTOP .top TOP_CHIPNO])

/-- STATUS: TOP_STATE, WATCH_STAT, words 0 and 1 of the first-source records of N, D, H and G. -/
def State.gateStatus (s : State) : State :=
  if s.run.st = .cold ∨ s.run.st = .dead then s.err .state
  else s.ok ([s.readReg 2 pTOP .top TOP_STATE, s.readReg 2 pWATCH .watch WATCH_STAT]
    ++ (List.range 4).flatMap (fun c => [s.readTab pWATCH .watch 0 (6 * c), s.readTab pWATCH .watch 0 (6 * c + 1)]))

/-- NOP. -/
def State.gateNop (s : State) : State := if s.run.st = .cold then s.err .state else s.ok

/-- A command of a frame: its OP and its payload bytes (R432). -/
def State.gateCmd (s : State) (op : Nat) (p : List Byte) : State :=
  match op with
  | 0 => if p.isEmpty then s.gateNop else s.err .frame
  | 1 => (match p with
      | [a, b, c, n] => s.gateRead (word (beNat [a, b, c])) n.toNat
      | _ => s.err .frame)
  | 2 => if p.length % 3 = 0 ∧ 6 ≤ p.length then s.gateWrite ((bytesWords p).getD 0 0) ((bytesWords p).drop 1) else s.err .frame
  | 3 => if p.isEmpty then s.gateIdent else s.err .frame
  | 4 => if p.isEmpty then s.gateStatus else s.err .frame
  | _ => s.err .frame

/-- File the answer of an executed command in the reply buffer, with the ALIVE byte of its request (R431). -/
def State.gateFile (s : State) (op alive : Nat) : State :=
  { s with gate := { s.gate with buf := { op := op, status := s.reply.status, data := s.reply.data.flatMap wordBytes, alive := alive } } }

/-! ### Frames (R428 to R431) -/

/-- The bytes of the reply buffer (R431). -/
def Gate.replyBytes (g : Gate) : List Byte :=
  let b : List Byte := [BitVec.ofNat 8 g.buf.op, BitVec.ofNat 8 g.buf.status, BitVec.ofNat 8 g.flags, BitVec.ofNat 8 g.buf.data.length]
    ++ g.buf.data ++ [BitVec.ofNat 8 g.buf.alive]
  b ++ [BitVec.ofNat 8 (crc8 b)]

/-- The first `n` bytes of a list, zeros beyond its end. -/
def padTo (n : Nat) (bs : List Byte) : List Byte := (bs ++ List.replicate n 0).take n

/-- A frame shifts out the reply buffer, 0x00 after its CRC; FLAGS clear once byte 2 is out. Once the whole reply is out,
what waited for it takes effect (R80, R90, R124). -/
def State.gateShift (s : State) (n : Nat) : State :=
  let all := decide (s.gate.replyBytes.length ≤ n)
  let s : State := { s with gate := { s.gate with out := padTo n s.gate.replyBytes, flags := if 3 ≤ n then 0 else s.gate.flags } }
  if all then s.replied (· == 2) else s

/-- An ignored frame: its flag for the next reply, and GATE_BAD (R429). -/
def State.gateIgnore (s : State) (flag : Nat) : State :=
  { (s.inc pGATE GATE_BAD) with gate := { s.gate with flags := setNbit s.gate.flags flag true } }

/-- Execute a valid frame under the alive rules (R430). -/
def State.gateValid (s : State) (op alive : Nat) (p : List Byte) : State :=
  let last := s.fldR pGATE GATE_STAT 23 20
  let synced := s.bitR pGATE GATE_STAT 19
  if synced ∧ alive = last then
    { (s.inc pGATE GATE_DUP) with gate := { s.gate with flags := setNbit s.gate.flags 4 true } }
  else
    let skip := synced && alive != (last + 1) % 16
    let s : State := if skip then { (s.inc pGATE GATE_SKIP) with gate := { s.gate with flags := setNbit s.gate.flags 3 true } } else s
    let s := (s.setReg pGATE GATE_STAT (word (at_ 20 alive + at_ 19 1))).inc pGATE GATE_FRAMES
    (s.gateCmd op p).gateFile op (alive * 16)

/-- GT_RDY between frames: low in COLD (R427). -/
def State.gateReady (s : State) : Bool := s.run.st != .cold

/-- A frame of `bits` clocks with the bytes on GT_DI; `early` says that GT_SEL_N fell before the reply to the frame before
was ready, while GT_RDY was low (R427 to R429). -/
def State.gateFrame (s : State) (bits : Nat) (bytes : List Byte) (early : Bool) : State :=
  if early ∨ !s.gateReady then ({ s with gate := { s.gate with out := [] } }).gateIgnore 5
  else
    let n := bits / 8
    let b := padTo n bytes
    let s := s.gateShift n
    let len := (b.getD 1 0).toNat
    let alive := (b.getD (len + 2) 0).toNat
    if bits % 8 ≠ 0 ∨ n < 4 ∨ 51 < len ∨ n < len + 4 ∨ alive % 16 ≠ 0 then s.gateIgnore 6
    else
      let inj := s.bitR pGATE PG_INJ 0
      let s := s.setBit pGATE PG_INJ 0 false
      let good := (crc8 (b.take (len + 3)) == (b.getD (len + 3) 0).toNat) != inj
      if good then s.gateValid (b.getD 0 0).toNat (alive / 16) ((b.drop 2).take len) else s.gateIgnore 7

/-! ### Meanings -/

/-- A command of the Gate port by itself: executed, its reply in the buffer with the last alive counter. -/
def State.gateAlone (t : State) (op : Nat) : State := t.gateFile op (t.fldR pGATE GATE_STAT 23 20 * 16)

/-- GATE_FRAME (R429 to R431). -/
def execGateFrame (bits : Nat) (bytes : List Byte) (early : Bool) (s : State) : Out := .next (s.gateFrame bits bytes early)

/-- GATE_NOP (R432). -/
def execGateNop (s : State) : Out := .next (s.gateNop.gateAlone 0)

/-- GATE_READ (R432). -/
def execGateRead (addr : Word) (n : Nat) (s : State) : Out := .next ((s.gateRead addr n).gateAlone 1)

/-- GATE_WRITE (R432). -/
def execGateWrite (addr : Word) (data : List Word) (s : State) : Out := .next ((s.gateWrite addr data).gateAlone 2)

/-- IDENT (R432). -/
def execIdent (s : State) : Out := .next (s.gateIdent.gateAlone 3)

/-- GATE_STATUS (R432). -/
def execGateStatus (s : State) : Out := .next (s.gateStatus.gateAlone 4)

/-- GATE_CLRCNT: a write of GATE_CMD.CLRCNT (R452). -/
def execGateClrcnt (ini : Ini) (s : State) : Out := .next (s.writeReg {} ini pGATE GATE_CMD 1)

end Sys2Proof.Machine
end

