-- ==== Sys2Proof/Machine/Glean.lean ====
section
/-!
DEFINITION. Meanings of the commands of calibration and gleaning (R376 to R394).
-/
namespace Sys2Proof.Machine

/-- The active calibration table, by INDEX of TSEL 0, as a calibration image holds it. -/
def State.calTable (s : State) : Store Word :=
  (s.tabs.filter (fun e => decide (tkey pGLEAN 0 0 ≤ e.1) && decide (e.1 < tkey pGLEAN 0 36864))).map
    (fun e => (e.1 - tkey pGLEAN 0 0, e.2))

/-- A STORE ends: the image is in the inactive area and the boot header names it (R391, R422); a write that fails is
counted and leaves the header as it was (R426). While PWRWARN_N is low nothing is written (R412). -/
def State.storeDone (s : State) (good : Bool) : State :=
  if s.bitR pGLEAN GLEAN_STAT 20 ∧ s.pins.pwrwarnN then
    let s := s.setBit pGLEAN GLEAN_STAT 20 false
    let m := s.fmap
    if good then
      { s with fmap := { m with cal := m.cal.set (!m.calB).toNat (some (s.fuses.uniq, s.calTable)), calB := !m.calB, seq := m.seq + 1 } }
    else s.inc pSERM SERM_FWERR
  else s

/-- FULL: GLEAN_CMD with ACT FULL is written (R380). -/
def execFull (ini : Ini) (s : State) : Out := .next (s.writeReg {} ini pGLEAN GLEAN_CMD 0x400000)

/-- FULL_CALIBRATION_COMPLETE: a full calibration ends (R380). -/
def execFullCalibrationComplete (meas : List Meas) (s : State) : Out := .next (s.endFull meas)

/-- TDR: GLEAN_CMD with ACT TDR and an octet is written; `rtt` gives the round trips of its channels in ps (R381). -/
def execTdr (ini : Ini) (oct : Oct) (rtt : List Nat) (s : State) : Out :=
  .next (s.writeReg { nums := rtt } ini pGLEAN GLEAN_CMD (word (0xC00000 + oct * 2 ^ 16)))

/-- STORE: GLEAN_CMD with ACT STORE is written (R391). -/
def execStore (ini : Ini) (s : State) : Out := .next (s.writeReg {} ini pGLEAN GLEAN_CMD 0x800000)

/-- STORE_COMPLETE: the calibration image is written, or its write has failed (R391, R422). -/
def execStoreComplete (ok : Bool) (s : State) : Out := .next (s.storeDone ok)

/-- BORROWING: the gleaner borrows a channel for one task, of `len` cycles where it lies in an X window (R383 to R385). -/
def execBorrowing (chan : Fin 512) (task : GleanTask) (len : Nat) (s : State) : Out := .next (s.startBorrow chan task len)

/-- GLEAN_TASK_COMPLETE: the task in progress has measured (R382, R388). -/
def execGleanTaskComplete (meas : List Meas) (s : State) : Out := .next (s.gleanDone meas)

/-- GLEAN_ABORT: the borrowing in progress ends without result (R386). -/
def execGleanAbort (s : State) : Out := .next s.gleanStop

end Sys2Proof.Machine
end

