-- ==== Sys2Proof/Machine/Green.lean ====
section
/-!
DEFINITION. Meanings of the commands of Event Green (R335 to R347, R371).
-/
namespace Sys2Proof.Machine

/-- GREEN_EVENT: the oldest event in flight is delivered; `arr` is its arrival or capture in ps of the timing clock,
where the fabric decides it (R336 to R341). -/
def execGreenEvent (arr : Nat) (s : State) : Out := .next (s.deliver arr).followStreams

/-- DELAY_LINE_FIRE: a delay line fires D cycles after its activation (R344). -/
def execDelayLineFire (line : Fin 4) (s : State) : Out := .next (s.fireDelay line)

/-- WATCH_IN: the Watchhouse takes the request of a WATCH consumer (R371). -/
def execWatchIn (k : Fin 8) (s : State) : Out := .next (s.watchRequest k)

/-- GREEN_SW is written (R335, R347). -/
def execGreenSw (ini : Ini) (bits : Word) (s : State) : Out := .next (s.writeReg {} ini pGREEN GREEN_SW bits)

/-- GREEN_TABLE_WRITE: words of a table of the Green are written (R342, R343). -/
def execGreenTableWrite (ini : Ini) (tsel index : Nat) (data : List Word) (s : State) : Out :=
  .next (s.writeTable ini pGREEN tsel index data none)

/-- GREEN_PAR: the periodic parity check of the Green's tables (R347). -/
def execGreenPar (ok : Bool) (s : State) : Out := .next (s.greenParity ok)

/-- GREEN_CMD.CLRFLG is written (R347). -/
def execClrflg (ini : Ini) (s : State) : Out := .next (s.writeReg {} ini pGREEN GREEN_CMD 2)

/-- GREEN_CMD.CLRCNT is written (R347). -/
def execGreenClrcnt (ini : Ini) (s : State) : Out := .next (s.writeReg {} ini pGREEN GREEN_CMD 1)

end Sys2Proof.Machine
end

