-- ==== Sys2Proof/Machine/Guard.lean ====
section
/-!
DEFINITION. Meanings of the commands of the guard monitors, the sensors and the Watchhouse (R348 to R375).
-/
namespace Sys2Proof.Machine

/-- MONITOR_SAMPLE: a monitor takes a sample on its tick (R350 to R352). -/
def execMonitorSample (mon : Nat) (x : Int) (parityOk : Bool) (s : State) : Out := .next (s.monSample mon x parityOk)

/-- MONITOR_SELF_CHECK: a monitor converts the two known levels and exchanges its comparators' inputs (R353). -/
def execMonitorSelfCheck (mon : Nat) (above below : Int) (swap : Bool) (s : State) : Out := .next (s.monCheck mon above below swap)

/-- GUARD_CMD.CLRCNT is written (R373). -/
def execGuardClrcnt (ini : Ini) (s : State) : Out := .next (s.writeReg {} ini pGUARD GUARD_CMD 1)

/-- SITE_HEDGE: a hedge that has been ordered is carried out (R355, R356). -/
def execSiteHedge (site : SiteN) (s : State) : Out := .next (s.doHedge site).followStreams

/-- HEDGE_CONFIRM: the Watchhouse checks a site's isolation (R356). -/
def execHedgeConfirm (site : SiteN) (isolated : Bool) (s : State) : Out := .next (s.confirmHedge site isolated)

/-- SENSOR_READING: one reading of every sensor (R358 to R361). -/
def execSensorReading (temps : List Int) (bad : List (Fin 16)) (s : State) : Out := .next (s.readSensors temps (bad.map Fin.val))

/-- REVALID: THERM_CMD.REVALID is written with a sensor (R359). -/
def execRevalid (ini : Ini) (sensor : Fin 16) (s : State) : Out :=
  .next (s.writeReg {} ini pTHERM THERM_CMD (word (sensor * 2 ^ 20 + 1)))

/-- FAULT_LATCH: the oldest raised fault reaches the Watchhouse (R362 to R366). -/
def execFaultLatch (s : State) : Out := .next s.latchFault.followStreams

/-- WATCH_CLEAR is written with a page (R367). -/
def execWatchClear (ini : Ini) (val : Word) (s : State) : Out := .next (s.writeReg {} ini pWATCH WATCH_CLEAR val)

/-- WATCH_CMD is written (R375). -/
def execWatchClrcnt (ini : Ini) (s : State) : Out := .next (s.writeReg {} ini pWATCH WATCH_CMD 1)

end Sys2Proof.Machine
end

