-- ==== Sys2Proof/Machine/Link.lean ====
section
/-!
DEFINITION. Meanings of the commands of the two Ethernet ports (R82 to R93, R123).
-/
namespace Sys2Proof.Machine

/-- FRAME_RECEIVE: the checks of R83, R88 and R93 and the counters of the port. -/
def execFrameReceive (port : Port) (frame : EthFrame) (s : State) : Out := .next (s.frameIn port frame)

/-- ARP_REQUEST (R91). -/
def execArpRequest (port : Port) (ip srcMac srcIp : Nat) (s : State) : Out := .next (s.arpIn port ip srcMac srcIp)

/-- ICMP_ECHO_REQUEST (R92). -/
def execIcmpEchoRequest (port : Port) (srcMac srcIp ident seqn : Nat) (data : List Byte) (s : State) : Out :=
  .next (s.echoIn port srcMac srcIp ident seqn data)

/-- LINK_UP: a port that was down comes up (R91). -/
def execLinkUp (port : Port) (s : State) : Out :=
  .next (if s.run.st = .cold ∨ s.portUp port = true then s else s.linkUp port)

/-- LINKDOWN: a port that is up loses block lock, with a local or a remote fault or none (R87, R123). -/
def execLinkdown (port : Port) (lfault rfault : Bool) (s : State) : Out :=
  .next (if s.portUp port then s.linkDown port lfault rfault else s)

/-- HIBER: a port that is up has a high bit-error rate (R87). -/
def execHiber (port : Port) (s : State) : Out := .next (if s.portUp port then s.hiBer port else s)

/-- LINK_IP_WRITE: both words of LINK_IP; the address is in effect for frames after the reply, and announced (R90, R91). -/
def execLinkIpWrite (ini : Ini) (port : Port) (lo hi : Word) (s : State) : Out :=
  .next (s.writeRegs {} ini (pLINK port) LINK_IP0 [lo, hi])

/-- RETRAIN: a write of LINK_CMD.RETRAIN; `trained` says whether the link comes up again (R123). -/
def execRetrain (ini : Ini) (port : Port) (trained : Bool) (s : State) : Out :=
  .next (s.writeReg { good := some trained } ini (pLINK port) LINK_CMD 2)

/-- LINK_CLRCNT: a write of LINK_CMD.CLRCNT (R123). -/
def execLinkClrcnt (ini : Ini) (port : Port) (s : State) : Out := .next (s.writeReg {} ini (pLINK port) LINK_CMD 1)

end Sys2Proof.Machine
end

