-- ==== Sys2Proof/Machine/Mse.lean ====
section
/-!
DEFINITION. Meanings of the commands of the measurement engine: submission, dispatch, one micro-word per sequencing
operation, and the conditions a context waits for (R286 to R311).
-/
namespace Sys2Proof.Machine

/-- OPERATION_SUBMIT: word 7 of a descriptor is written (R289). -/
def execOperationSubmit (ini : Ini) (tag : Nat) (hi : Word) (s : State) : Out :=
  .next (s.writeTable ini pMSE 0 (8 * tag + 7) [hi] none)

/-- OPERATION_DISPATCH: a lane dispatches its oldest QUEUED operation whose resources are free (R290, R291). -/
def execOperationDispatch (lane : Fin 8) (s : State) : Out := .next (s.dispatch lane)

/-- A micro-word with SEQ NEXT: its nano-word acts, and the next address follows (R304). -/
def execMicroNext (tag : Nat) (env : MicroEnv) (s : State) : Out := .next (s.micro tag 0 env)

/-- SEQ CALL: the return address is pushed (R304). -/
def execMicroCall (tag : Nat) (env : MicroEnv) (s : State) : Out := .next (s.micro tag 1 env)

/-- SEQ RET: the return address is popped (R304). -/
def execMicroRet (tag : Nat) (env : MicroEnv) (s : State) : Out := .next (s.micro tag 2 env)

/-- SEQ BR: a branch where the nano-word's condition holds (R304, R306). -/
def execMicroBr (tag : Nat) (env : MicroEnv) (s : State) : Out := .next (s.micro tag 3 env)

/-- SEQ LOOP: LC counts down, and a branch follows while it is not zero (R304). -/
def execMicroLoop (tag : Nat) (env : MicroEnv) (s : State) : Out := .next (s.micro tag 4 env)

/-- SEQ WAIT: the lane is given up until the condition holds (R304). -/
def execMicroWait (tag : Nat) (env : MicroEnv) (s : State) : Out := .next (s.micro tag 5 env)

/-- SEQ END: the operation is DONE with OK (R301). -/
def execMicroEnd (tag : Nat) (env : MicroEnv) (s : State) : Out := .next (s.micro tag 6 env)

/-- SEQ DISPATCH: the entry word of another recipe follows (R304). -/
def execMicroDispatch (tag : Nat) (env : MicroEnv) (s : State) : Out := .next (s.micro tag 7 env)

/-- SETTLE_TIMER_EXPIRY: the settle timer of a context expires (R293). -/
def execSettleTimerExpiry (tag : Nat) (s : State) : Out := .next (s.timerExpiry tag)

/-- SAMPLE_RUN_DONE: the samples of a run are in (R293, R296, R305). -/
def execSampleRunDone (tag : Nat) (samples : List Word) (s : State) : Out := .next (s.runEnd tag samples)

/-- ADC_WAIT_TIMEOUT: the ADC of a run has not come free within ADCTMO (R293). -/
def execAdcWaitTimeout (tag : Nat) (s : State) : Out := .next (s.adcTimeout tag)

/-- MSE_ACK is written with a tag (R298). -/
def execMseAck (ini : Ini) (val : Word) (s : State) : Out := .next (s.writeReg {} ini pMSE MSE_ACK val)

/-- MSE_ABORT is written with a tag (R301). -/
def execMseAbort (ini : Ini) (val : Word) (s : State) : Out := .next (s.writeReg {} ini pMSE MSE_ABORT val)

/-- MSE_CMD.CLRCNT is written (R310). -/
def execMseClrcnt (ini : Ini) (s : State) : Out := .next (s.writeReg {} ini pMSE MSE_CMD 1)

/-- UCODE_CMD.SWITCH is written (R309). -/
def execSwitch (ini : Ini) (s : State) : Out := .next (s.writeReg {} ini pUCODE UCODE_CMD 1)

end Sys2Proof.Machine
end

