-- ==== Sys2Proof/Machine/Pins.lean ====
section
/-!
DEFINITION. Meanings of the commands of pin electronics and site rails: levels, load strobes, span sequences,
converters, tone, PMUs, rails (R256 to R285).
-/
namespace Sys2Proof.Machine

/-- LEVEL_TABLE_WRITE: words of the staged level table of an octet are written (R258, R264). -/
def execLevelTableWrite (ini : Ini) (oct : Oct) (index : Nat) (data : List Word) (s : State) : Out :=
  .next (s.writeTable ini (pOCTPE oct) 0 index data none)

/-- LOAD: OCTPE_CMD.LOAD is written (R259). -/
def execLoad (ini : Ini) (oct : Oct) (s : State) : Out := .next (s.writeReg {} ini (pOCTPE oct) OCTPE_CMD 1)

/-- CONV: OCTPE_CMD.CONV is written with ADCMASK (R275). -/
def execConv (ini : Ini) (oct : Oct) (mask : Byte) (s : State) : Out :=
  .next (s.writeReg {} ini (pOCTPE oct) OCTPE_CMD (word (mask.toNat * 2 ^ 16 + 2)))

/-- LOAD_STROBE: a load strobe of a group: at the edge at which a LOAD of the group leaves its measurement stile, or at
the next edge (R259 to R261). In the octets of `bad` a read by the DACs fails its parity check (R284). -/
def execLoadStrobe (grp : Fin 8) (bad : List Oct) (s : State) : Out :=
  .next ((s.loadExit grp).levelParity grp bad)

/-- SPAN_SEQUENCE_STEP: the next step of a lane's span sequence, or its end (R263). -/
def execSpanSequenceStep (oct : Oct) (lane : Fin 8) (s : State) : Out := .next (s.spanStep oct lane)

/-- CONV_RESULT: the result of a host conversion (R273, R275). -/
def execConvResult (oct : Oct) (adc : Fin 8) (code : Word) (s : State) : Out := .next (s.convResult oct adc code)

/-- TONE_SAMPLE: the next sample of an octet's tone source (R276). -/
def execToneSample (oct : Oct) (parityOk : Bool) (s : State) : Out := .next (s.toneSample oct parityOk)

/-- PMU_CLAMP: the PMU of a lane starts or stops limiting: without a limit its load would take the pin to `load` microvolts
in FI, or draw `load` picoamperes in FV (R270). -/
def execPmuClamp (oct : Oct) (lane : Fin 8) (load : Int) (s : State) : Out := .next (s.pmuClamp oct lane load)

/-- OCTPE_PIN_WRITE: OCTPE_PIN of a lane is written (R271, R283). -/
def execOctpePinWrite (ini : Ini) (oct : Oct) (lane : Fin 8) (val : Word) (s : State) : Out :=
  .next (s.writeReg {} ini (pOCTPE oct) (OCTPE_PIN0 + lane) val)

/-- RAIL_ON: ON of OCTPE_RAILCFG is written 1, its other fields unchanged; the ramp starts at RAILSNS, `sns` in
microvolts (R280). -/
def execRailOn (ini : Ini) (oct : Oct) (sns : Int) (s : State) : Out :=
  .next (s.writeBurst { sns := some sns } ini (pOCTPE oct * 256 + OCTPE_RAILCFG) 0x000100 [0x000100] none)

/-- RAIL_OFF: ON of OCTPE_RAILCFG is written 0, its other fields unchanged (R280). -/
def execRailOff (ini : Ini) (oct : Oct) (s : State) : Out :=
  .next (s.writeBurst {} ini (pOCTPE oct * 256 + OCTPE_RAILCFG) 0x000100 [0] none)

/-- RAIL_RAMP_END: the set-point ramp has reached RAILSET, with `sns` microvolts at RAILSNS (R280). -/
def execRailRampEnd (oct : Oct) (sns : Int) (s : State) : Out := .next (s.rampEnd oct sns)

end Sys2Proof.Machine
end

