-- ==== Sys2Proof/Machine/Pipe.lean ====
section
/-!
DEFINITION. Meanings of the commands of a running stream: start, cycles, decisions, holds, the drain, the records
(R198 to R217).
-/
namespace Sys2Proof.Machine

/-- Entries that a site's stile can hold: the vectors expanded beyond its place (R211). -/
def State.entriesAhead (s : State) (k n : Nat) : Nat :=
  let v := s.site n
  vecCount ((s.stream k).items.drop v.cur) - v.off

/-- Does the stile of starving site `n` hold RESUME entries, or every vector up to a HALT (R211), or all that the shares of
R196 leave room for (log entry 26)? -/
def State.holdOver (s : State) (k n : Nat) : Bool :=
  let v := s.stream k
  v.exp.ended || decide (s.fldR (pSTREAM k) STREAM_CFG 19 13 ≤ s.entriesAhead k n) || v.room 0 == 0

/-- A stream in HOLDING resumes at the present edge, once the starving site's stile is full enough (R211). -/
def State.resumeHold (s : State) (k : Nat) : State :=
  let v := s.stream k
  match v.hold with
  | none => s
  | some (_, n) =>
    if s.strSt k = sHOLDING ∧ s.holdOver k n = true then
      (s.setStream k { v with resume := some s.ps }).setStrSt k sRUNNING
    else s

/-- INVALID_WORD: the site's next cycle, where it is the one that reaches an invalid word as the first site of the
stream: class D PATTERN_CODE (R161, R215). -/
def execInvalidWord (str : Str) (site : SiteN) (s : State) : Out :=
  let t := s.cycle site []
  .next (if s.siteStream site = str ∧ (s.strSt str = sRUNNING ∨ s.strSt str = sHOLDING) ∧ t.strSt str = sDRAINING
      ∧ t.fldR (pSTREAM str) STREAM_STAT 19 16 = 4 then t else s)

/-- STREAM_PRIMED: PRIMED becomes 1 once the run-ahead is full (R203). -/
def execStreamPrimed (str : Str) (s : State) : Out := .next (s.prime str)

/-- STREAM_START: the registered start event takes effect (R204, Table 7.3). -/
def execStreamStart (str : Str) (s : State) : Out := .next (s.start str)

/-- FIRST_CYCLE_START: a marked site's first cycle begins 64 cycles after the start event (R204). -/
def execFirstCycleStart (site : SiteN) (s : State) : Out := .next (s.firstCycle site)

/-- VECTOR_COMMIT: one cycle of a site: a vector, an idle vector or a held cycle, with what its comparators see and the
octets whose sets fail their parity check (R205, R231). -/
def execVectorCommit (site : SiteN) (pins : List PinIn) (bad : List Oct) (s : State) : Out :=
  .next (s.setErrors (s.cycle site pins) site (bad.map Fin.val)).followStreams

/-- MATCH_DECISION: the oldest decision of a site is made (R179, R181, R217). -/
def execMatchDecision (site : SiteN) (s : State) : Out := .next (s.makeDecision site)

/-- HOLD_RESUME: a stream in HOLDING resumes (R211). -/
def execHoldResume (str : Str) (s : State) : Out := .next (s.resumeHold str)

/-- STREAM_DRAIN_COMPLETE: a DRAINING stream that is done goes to STOPPED (Table 7.3, R208). -/
def execStreamDrainComplete (str : Str) (s : State) : Out := .next (s.drainDone str).followStreams

/-- SEGMENT_RECORD_CLOSE: a site's oldest ended record goes to acquisition once its decisions are made (R217). -/
def execSegmentRecordClose (site : SiteN) (s : State) : Out := .next (s.closeRecord site)

end Sys2Proof.Machine
end

