-- ==== Sys2Proof/Machine/Power.lean ====
section
/-!
DEFINITION. Meanings of the commands of power, start and run state: pins of the board, the test access port, TOP_CMD
(R48 to R61, R78, R395 to R412).
-/
namespace Sys2Proof.Machine

/-- PORST_RESET: a low pulse of `ps` picoseconds on PORST_N. From 10 us it resets; below 1 us it is ignored; between, a
free value decides (R48). -/
def execPorstReset (ps : Nat) (s : State) : Out :=
  if 10000000 ≤ ps then .next s.porst
  else if ps < 1000000 then .next s
  else
    let (v, s) := s.takeFree
    .next (if v % 2 = 0 then s.porst else s)

/-- COLD_START: PORST_N rises (R46, R48, R54, R395). -/
def execColdStart (env : StartEnv) (s : State) : Out := .next (s.porstRise env)

/-- PWRWARN: PWRWARN_N low for `lowPs` picoseconds. From 1 us it is recognised, below 200 ns it is not; between, a free
value decides (R51, R52). -/
def execPwrwarn (lowPs : Nat) (done : Bool) (s : State) : Out :=
  if 1000000 ≤ lowPs then .next (s.powerWarn done)
  else if lowPs < 200000 then .next s
  else
    let (v, s) := s.takeFree
    .next (if v % 2 = 0 then s.powerWarn done else s)

/-- PWRWARN_RISE: PWRWARN_N rises; a start that waited begins again as a cold start (R54). -/
def execPwrwarnRise (env : StartEnv) (s : State) : Out := .next (s.warnRise env)

/-- PWRWARN_N_RISE_IN_COLD: PWRWARN_N rises before the first step of a cold start that waits for it (R54). -/
def execPwrwarnNRiseInCold (env : StartEnv) (s : State) : Out := .next (s.warnRise env)

/-- G_LATCH_CLEAR: VCORE is below 0.3 V; the latch cell of class G clears, and nothing else is kept either (R367). -/
def execGLatchClear (s : State) : Out :=
  let s := s.porst
  .next { s with pins := { s.pins with gLatch := false } }

/-! ### Boundary scan (R58 to R61) -/

/-- The IDCODE (R59): step 0x2, part number 0x512B, manufacturer code, and bit 0. -/
def idcode : Nat := 0x2512BBBD

/-- The data register that an instruction selects, by its length: the boundary register's 43 cells for EXTEST and
SAMPLE/PRELOAD, the 32 bits of IDCODE, and the bypass register's one bit for every other code (R58, R60). -/
def tapLength (code : Byte) : Nat :=
  if code = 0x00 ∨ code = 0x02 then 43 else if code = 0x01 then 32 else 1

/-- The level of a ball at its boundary cell (R60). The cells stand in the order of R60 (log entry 46): 0 to 4 the Gate
port, 5 to 8 the serial master, 9 to 24 GPIO, 25 to 34 CID, FLT_N, PWRWARN_N, BELL, BELLO, TRG0 to TRG3. The levels of
balls that the state does not hold are a free value `v`. -/
def State.cellLevel (s : State) (v i : Nat) : Bool :=
  if 9 ≤ i ∧ i < 25 then nbit s.gpioIn (i - 9)
  else if 25 ≤ i ∧ i < 35 then nbit s.pins.cid (i - 25)
  else if i = 35 then !s.fltLow
  else if i = 36 then s.pins.pwrwarnN
  else nbit v i

/-- What the selected data register captures, bit 0 the first to be shifted out: the balls' levels, the IDCODE, or the
bypass register's 0 (R58 to R60). -/
def State.tapCapture (s : State) (code : Byte) : List Bool × State :=
  if tapLength code = 43 then
    let (v, s) := s.takeFree
    ((List.range 43).map (s.cellLevel v), s)
  else if code = 0x01 then ((List.range 32).map (nbit idcode), s)
  else ([false], s)

/-- A data scan with bits `tdi`: the register's bits come out on TDO, followed by what has been shifted in; the boundary
cells then take the bits that stand in the register (R58, R60). Without bits nothing is scanned. -/
def State.tapScan (s : State) (code : Byte) (tdi : List Bool) : State :=
  if tdi.isEmpty then s
  else
    let (cap, s) := s.tapCapture code
    let all := cap ++ tdi
    let s := { s with pins := { s.pins with tdo := all.take tdi.length } }
    if tapLength code = 43 then
      let held := all.drop tdi.length
      { s with pins := { s.pins with cells := (List.range 43).foldl (fun a i => setNbit a i (held.getD i false)) 0 } }
    else s

/-- The level that the test access port puts on a ball with a cell, where it does: the cell's latch in EXTEST and CLAMP
(R60, R61). -/
def State.cellDrives (s : State) (i : Nat) : Option Bool :=
  if s.pins.tap = 0x00 ∨ s.pins.tap = 0x04 then some (nbit s.pins.cells i) else none

/-- An instruction becomes current; in RUN one that isolates the channels raises class H BSCAN first (R61). -/
def State.tapCurrent (s : State) (code : Byte) : State :=
  let s := if tapIsolates code ∧ s.run.st = .run then s.raiseH pTOP 0x0C1 else s
  let s := { s with pins := { s.pins with tap := code } }
  if tapIsolates code then s.isolatePins else s

/-- TAP_INSTRUCTION_LOAD: an instruction becomes current, and bits are scanned through the data register it selects. With
TRST_N low the port stays in Test-Logic-Reset, where IDCODE is current and nothing is loaded or scanned (R58, R61). -/
def execTapLoad (trstN : Bool) (code : Byte) (tdi : List Bool) (s : State) : Out :=
  let s := { s with pins := { s.pins with trstN := trstN } }
  if trstN then .next ((s.tapCurrent code).tapScan code tdi)
  else .next { s with pins := { s.pins with tap := 0x01 } }

/-- WARM_START: a write of TOP_CMD (Table 3.3, R397). -/
def execWarmStart (ini : Ini) (env : StartEnv) (s : State) : Out :=
  .next (s.writeReg { start := some env } ini pTOP TOP_CMD 1)

/-- RECOVER: a write of TOP_CMD (Table 3.3, R408). -/
def execRecover (ini : Ini) (s : State) : Out := .next (s.writeReg {} ini pTOP TOP_CMD 2)

/-- RECOVERY_COMPLETE: the steps of R409 have run. -/
def execRecoveryComplete (s : State) : Out := .next s.recovered

/-- ENTER_TEST: a write of TOP_CMD (Table 3.3, R407). -/
def execEnterTest (ini : Ini) (s : State) : Out := .next (s.writeReg {} ini pTOP TOP_CMD 3)

/-- LEAVE_TEST: a write of TOP_CMD (Table 3.3, R407). -/
def execLeaveTest (ini : Ini) (env : StartEnv) (s : State) : Out :=
  .next (s.writeReg { start := some env } ini pTOP TOP_CMD 4)

end Sys2Proof.Machine
end

