-- ==== Sys2Proof/Machine/Ptp.lean ====
section
/-!
DEFINITION. The PTP ordinary clock (R119 to R122): messages received and sent, the estimate of TAI, the best master clock
algorithm, and the meanings of the PTP commands.
-/
namespace Sys2Proof.Machine

/-- Does the clock take a message: PTP is enabled on the port, which is up, for the domain; the message is multicast, and
its checksum is right (R93, R119, Table 4.6)? -/
def State.ptpHears (s : State) (h : PtpHead) : Bool :=
  s.bitR pPTP PTP_CFG 23 && (s.bitR pPTP PTP_CFG 21).toNat == h.port.val && s.fldR pPTP PTP_CFG 19 12 == h.domain
    && !h.unicast && h.sumOk && s.portUp h.port

/-- The port PTP runs on. -/
def State.ptpPort (s : State) : Nat := (s.bitR pPTP PTP_CFG 21).toNat

def State.ptpState (s : State) : Nat := s.fldR pPTP PTP_STAT 23 20

/-- PTP time at time `t` of the time base (R122): the time base plus PTP_OFS. -/
def State.ptpTime (s : State) (t : Nat) : Int := (t : Int) + s.ptpAhead t

/-- The clock identity: EUI-64 of the port's MAC address with 0xFFFE inserted (Table 4.6). -/
def State.clockId (s : State) : Nat :=
  let m := s.macOf s.ptpPort
  m / 2 ^ 24 * 2 ^ 40 + 0xFFFE * 2 ^ 24 + m % 2 ^ 24

/-- LOCKED is lost: class N PTPLOST (R122). The count of 16 exchanges starts again (DEDUCED, log entry 18). -/
def State.ptpLost (s : State) : State :=
  if s.bitR pPTP PTP_STAT 19 then
    { (s.setBit pPTP PTP_STAT 19 false).raiseN pPTP 0x043 with ptp := { s.ptp with good := 0 } }
  else s

/-- A PTP message of the device: its domain, its clock identity and port number 1 (Table 4.6). -/
def State.ptpMsg (s : State) (typ seqn : Nat) (interval : Int) : PtpMsg :=
  { typ := typ, domain := s.fldR pPTP PTP_CFG 19 12, seqn := seqn, clock := s.clockId, interval := interval }

/-- Send a PTP message: multicast to 224.0.1.129 with a TTL of 1 (R89, Table 4.6). -/
def State.sendPtp (s : State) (m : PtpMsg) : State :=
  s.send s.ptpPort (.ptp { s.ipHead s.ptpPort ptpIp with ttl := 1 } m)

/-- logSyncInterval, which logMinDelayReqInterval equals, and logAnnounceInterval (Table 4.6). -/
def State.logSync (s : State) : Int := signed 4 (s.fldR pPTP PTP_CFG2 7 4)
def State.logAnn (s : State) : Int := s.fldR pPTP PTP_CFG2 3 0

/-- The port leaves a state for another; what it knows of its master goes with it. -/
def State.ptpEnter (s : State) (st gm : Nat) : State :=
  let s := s.ptpFreeze
  let s := ((if s.ptpState = st then s else s.ptpLost).setFld pPTP PTP_STAT 23 20 st).setWide pPTP PTP_GM0 3 gm
  { s with ptp := { s.ptp with waitSync := none, sync := none, dreq := none, good := 0, err := 0 } }

/-- A Sync is complete: `x` is its receive time less the master's time and the corrections. PTP_OFS takes the estimate
(R120), within 5 ns of the measured value (R121, log entry 18). -/
def State.syncDone (s : State) (x : Int) : State :=
  let m := (s.reg pPTP PTP_MPD).toNat + signed 24 (s.reg pPTP PTP_ASYM).toNat - x
  let e := m - s.ptpAhead s.time.base
  let (v, s) := s.takeFree
  let s := s.setWide pPTP PTP_OFS0 3 (unsigned 72 (m + (v % 10001 : Nat) - 5000))
  { s with ptp := { s.ptp with waitSync := none, sync := some x, err := e, at_ := s.time.base } }

/-- A Sync message (R119, R120). -/
def State.ptpSync (s : State) (m : PtpSync) : State :=
  if s.ptpHears m.head ∧ s.ptpSlave = true then
    let s := s.incFld pPTP PTP_CNT 23 12
    if m.twoStep then { s with ptp := { s.ptp with waitSync := some (m.head.seqn, m.rx, m.corr) } }
    else s.syncDone ((m.rx : Int) - (m.origin : Int) - m.corr)
  else s

/-- A Follow_Up message: the precise time of the Sync of the same number (R119). -/
def State.ptpFollowUp (s : State) (h : PtpHead) (origin : Nat) (corr : Int) : State :=
  match s.ptp.waitSync with
  | some (q, rx, c) => if q = h.seqn ∧ s.ptpHears h = true ∧ s.ptpSlave = true then s.syncDone ((rx : Int) - c - (origin : Int) - corr) else s
  | none => s

/-- Servo offset within 100 ns. -/
def State.ptpClose (s : State) : Bool := decide (-100000 ≤ s.ptp.err) && decide (s.ptp.err ≤ 100000)

/-- A Delay_Resp message completes the exchange (R120): the mean path delay, the rate estimate `rate`, LOCKED after 16
exchanges within 100 ns. The first exchange makes the port SLAVE, and a negative mean path delay leaves MPD a free value
(log entry 18). -/
def State.ptpDelayResp (s : State) (h : PtpHead) (rx : Nat) (corr rate : Int) : State :=
  match s.ptp.dreq, s.ptp.sync with
  | some (q, t3), some x =>
    if q = h.seqn ∧ s.ptpHears h = true ∧ s.ptpSlave = true then
      let d := (x + ((rx : Int) - corr - (t3 : Int))) / 2
      let (v, s) := s.takeFree
      let s := s.setReg pPTP PTP_MPD (word (if d < 0 then v else min 0xFFFFFF d.toNat))
      let s := (s.setReg pPTP PTP_RATE (word (unsigned 24 rate))).setFld pPTP PTP_STAT 23 20 9
      let good := if s.ptpClose then s.ptp.good + 1 else 0
      let s : State := { s with ptp := { s.ptp with dreq := none, good := min 16 good } }
      if 16 ≤ good then s.setBit pPTP PTP_STAT 19 true else if good = 0 then s.ptpLost else s
    else s
  | _, _ => s

/-- The numbers that the best master clock algorithm compares, the best clock's lowest (IEEE 1588-2019). -/
def annRank (a : PtpAnnounce) : List Nat :=
  [a.prio1, a.clockClass, a.accuracy, a.variance, a.prio2, a.gmid, a.steps]

/-- The device's own clock (Table 4.6). -/
def State.ptpOwn (s : State) : List Nat :=
  [s.fldR pPTP PTP_CFG 11 4, s.fldR pPTP PTP_CFG2 15 8, 0xFE, Config.ptpVariance, s.fldR pPTP PTP_CFG2 23 16, s.clockId, 0]

/-- Is the first list before the second? -/
def before : List Nat → List Nat → Bool
  | a :: as, b :: bs => decide (a < b) || (a == b && before as bs)
  | _, _ => false

/-- Follow a master: UNCALIBRATED where it is a new one. -/
def State.ptpFollow (s : State) (a : PtpAnnounce) : State :=
  if s.ptpSlave ∧ s.wideR pPTP PTP_GM0 3 = a.gmid then s else s.ptpEnter 8 a.gmid

/-- An Announce message feeds the best master clock algorithm (R119). -/
def State.ptpAnnounce (s : State) (a : PtpAnnounce) : State :=
  if s.ptpHears a.head ∧ a.steps < 255 ∧ a.gmid ≠ s.clockId then
    let best := match s.ptp.best with
      | some b => if b.gmid = a.gmid ∨ before (annRank a) (annRank b) = true then a else b
      | none => a
    let s : State := { s with ptp := { s.ptp with best := some best } }
    if !s.bitR pPTP PTP_CFG 22 then s.ptpFollow best
    else if before s.ptpOwn (annRank best) then
      (if s.ptpState = 6 then s else { s.ptpEnter 6 s.clockId with ptp := { s.ptpEnter 6 s.clockId |>.ptp with best := some best } })
    else if s.fldR pPTP PTP_CFG2 15 8 < 128 then (if s.ptpState = 7 then s else s.ptpEnter 7 best.gmid)
    else s.ptpFollow best
  else s

/-- The master's Announce interval expires (R119). A port that listens and has heard no better clock becomes master
(log entry 18). -/
def State.ptpAnnounceSend (s : State) : State :=
  let alone := s.ptpState = 4 ∧ s.bitR pPTP PTP_CFG 22 = true ∧ s.ptp.best = none
  let s := if alone then s.ptpEnter 6 s.clockId else s
  if s.ptpState = 6 ∧ s.portUp s.ptpPort = true then
    let a : AnnBody := { prio1 := s.fldR pPTP PTP_CFG 11 4, clockClass := s.fldR pPTP PTP_CFG2 15 8, accuracy := 0xFE
                         variance := Config.ptpVariance, prio2 := s.fldR pPTP PTP_CFG2 23 16, gmid := s.clockId
                         steps := 0, timeSource := 0xA0 }
    { (s.sendPtp { s.ptpMsg 0xB s.ptp.seqAnn s.logAnn with ann := some a }) with ptp := { s.ptp with seqAnn := (s.ptp.seqAnn + 1) % 65536 } }
  else s

/-- The master's Sync interval expires: Sync with its time, or Sync and Follow_Up (R122). -/
def State.ptpSyncSend (s : State) : State :=
  if s.ptpState = 6 ∧ s.portUp s.ptpPort = true then
    let q := s.ptp.seqSync
    let t := s.ptpTime s.time.base
    let s := if s.bitR pPTP PTP_CFG 20 then
        (s.sendPtp { s.ptpMsg 0x0 q s.logSync with twoStep := true }).sendPtp { s.ptpMsg 0x8 q s.logSync with time := t }
      else s.sendPtp { s.ptpMsg 0x0 q s.logSync with time := t }
    { s with ptp := { s.ptp with seqSync := (q + 1) % 65536 } }
  else s

/-- A slave whose port is up sends Delay_Req; its send time is kept (R119, R121). The interval field of a Delay_Req is
0x7F (log entry 18). -/
def State.ptpDelayReq (s : State) : State :=
  if s.ptpSlave ∧ s.portUp s.ptpPort = true then
    let q := s.fldR pPTP PTP_CNT 11 0
    let s := (s.sendPtp (s.ptpMsg 0x1 q 0x7F)).incFld pPTP PTP_CNT 11 0
    { s with ptp := { s.ptp with dreq := some (q, s.time.base) } }
  else s

/-- A master answers Delay_Req with Delay_Resp and the time of its reception (R122). -/
def State.ptpDelayReqIn (s : State) (h : PtpHead) (sender : Nat) : State :=
  if s.ptpHears h ∧ s.ptpState = 6 then
    s.sendPtp { s.ptpMsg 0x9 h.seqn s.logSync with time := s.ptpTime s.time.base, dest := sender }
  else s

/-! ### Meanings -/

/-- PTP_SYNC_RECEIVE (R120). -/
def execPtpSyncReceive (sync : PtpSync) (s : State) : Out := .next (s.ptpSync sync)

/-- PTP_FOLLOW_UP_RECEIVE (R119). -/
def execPtpFollowUpReceive (head : PtpHead) (origin : Nat) (corr : Int) (s : State) : Out :=
  .next (s.ptpFollowUp head origin corr)

/-- PTP_DELAY_RESP_RECEIVE (R120). -/
def execPtpDelayRespReceive (head : PtpHead) (rx : Nat) (corr rate : Int) (s : State) : Out :=
  .next (s.ptpDelayResp head rx corr rate)

/-- PTP_ANNOUNCE_RECEIVE (R119). -/
def execPtpAnnounceReceive (ann : PtpAnnounce) (s : State) : Out := .next (s.ptpAnnounce ann)

/-- PTP_DELAY_REQ_SEND (R119). -/
def execPtpDelayReqSend (s : State) : Out := .next s.ptpDelayReq

/-- PTP_DELAY_REQ_RECEIVE (R122). -/
def execPtpDelayReqReceive (head : PtpHead) (sender : Nat) (s : State) : Out := .next (s.ptpDelayReqIn head sender)

/-- PTP_SYNC_SEND (R122). -/
def execPtpSyncSend (s : State) : Out := .next s.ptpSyncSend

/-- PTP_ANNOUNCE_SEND (R119). -/
def execPtpAnnounceSend (s : State) : Out := .next s.ptpAnnounceSend

/-- PTPLOST (R122). -/
def execPtplost (s : State) : Out := .next s.ptpLost

/-- PTP_OFS_WRITE (R122): a write of the three words of PTP_OFS. -/
def execPtpOfsWrite (ini : Ini) (w0 w1 w2 : Word) (s : State) : Out := .next (s.writeRegs {} ini pPTP PTP_OFS0 [w0, w1, w2])

/-- The first edge after the present one at or after a whole second of TAI (Table 12.1): as many cycles on as bring TAI there,
corrected for PTP_RATE until it is exact. -/
def State.ppsEdge (s : State) : Nat :=
  let tai (d : Nat) : Int := s.ptpTime (s.time.base + 625 * d)
  let want := (tai 0 / 10 ^ 12 + 1) * 10 ^ 12
  s.time.edge + (List.range 8).foldl (fun (d : Nat) _ => ((d : Int) + (want - tai d + 624) / 625).toNat) 0

/-- PPS (R335, Table 12.1): at a whole second of TAI, producer PPS fires while PTP is locked. -/
def execPps (s : State) : Out :=
  .next (if s.bitR pPTP PTP_STAT 19 then (s.toEdge s.ppsEdge).fire 178 (s.ppsEdge * 625) else s)

end Sys2Proof.Machine
end

