-- ==== Sys2Proof/Machine/Reeve.lean ====
section
/-!
DEFINITION. Meanings of the commands of the Reeve, its RAM, the serial master and the flash window (R417 to R426, R450,
R451).
-/
namespace Sys2Proof.Machine

/-- REEVE_WDOG: the firmware misses its watchdog for 100 ms (R419). -/
def execReeveWdog (s : State) : Out := .next s.reeveWdog

/-- REEVE_RAM_ERROR: an error of Reeve RAM, corrected or uncorrectable (R418). -/
def execReeveRamError (ue : Bool) (s : State) : Out := .next (s.reeveRam ue)

/-- GO: SERM_CMD.GO is written (R423). -/
def execGo (ini : Ini) (s : State) : Out := .next (s.writeReg {} ini pSERM SERM_CMD 1)

/-- SERM_TRANSFER_DONE: the host transfer ends with the bits `sdi` sampled on SM_DI (R423). -/
def execSermTransferDone (sdi : Nat) (s : State) : Out := .next (s.sermDone sdi)

/-- SERM_TMO: SM_RDY was not high within 1 ms (R423). -/
def execSermTmo (s : State) : Out := .next s.sermTimeout

/-- SERM_CMD.CLRCNT is written (R451). -/
def execSermClrcnt (ini : Ini) (s : State) : Out := .next (s.writeReg {} ini pSERM SERM_CMD 2)

/-- FLASH_WINDOW_OPERATION: a read, program or erase through the flash window (R425, R426). -/
def execFlashWindowOperation (op : FlashOp) (ok : Bool) (s : State) : Out := .next (s.windowRequest op ok)

/-- SELFORCE: a window operation waits for a select that has been low for 10 ms; the device drives it high and the
operation starts (R425). -/
def execSelforce (op : FlashOp) (ok : Bool) (s : State) : Out := .next (s.windowRequest op ok).selForce

/-- REEVE_CMD.CLRCNT is written (R450). -/
def execReeveClrcnt (ini : Ini) (s : State) : Out := .next (s.writeReg {} ini pREEVE REEVE_CMD 1)

/-- FIRMWARE_RELOAD_COMPLETE: the boot ROM has reloaded the firmware (R419). -/
def execFirmwareReloadComplete (ok : Bool) (s : State) : Out := .next (s.reloadDone ok)

end Sys2Proof.Machine
end

