-- ==== Sys2Proof/Machine/StoreCmd.lean ====
section
/-!
DEFINITION. Meanings of the commands of the pattern store: a bank's arbitration and access, retest, the region table,
external memory, refill windows and the conflict counters (R126 to R153).
-/
namespace Sys2Proof.Machine

/-! ### Arbitration (R137 to R139) -/

/-- The class that a decision of a bank goes to: the highest pending one, or after 15 grants in a row to classes 0 to 2
the highest pending one among 3 to 7 (R137, R138). -/
def grantClass (run : Nat) (reqs : List BankReq) : Option Nat :=
  let first (p : Nat → Bool) : Option Nat := (List.range 8).find? (fun c => p c && reqs.any (fun r => r.cls == c))
  match (if 15 ≤ run then first (fun c => decide (3 ≤ c)) else none) with
  | some c => some c
  | none => first (fun _ => true)

/-- The winner within a class: the first requester from the round-robin pointer on (R138). -/
def roundRobin (ptr : Nat) (rs : List BankReq) : Option BankReq :=
  let least (l : List BankReq) : Option BankReq :=
    l.foldl (fun a r => match a with
      | some x => if r.who < x.who then some r else a
      | none => some r) none
  match least (rs.filter (fun r => decide (ptr ≤ r.who))) with
  | some r => some r
  | none => least rs

/-- Is a request served by the winner's access: itself, or a read of the same class and word (R138)? -/
def servedBy (w r : BankReq) : Bool :=
  r == w || (r.cls == w.cls && r.row == w.row && r.wr.isNone && w.wr.isNone)

/-- What a failed access does to its requester (R128, R294, R329). -/
def State.accessFailed (s : State) (r : BankReq) : State :=
  if r.cls = 1 then
    match s.siteOf r.who with
    | some n => s.streamFail (s.siteStream n) 0x064
    | none => s
  else if r.cls = 2 then (if r.who < 4 then s.streamFail r.who 0x064 else s)
  else if r.cls = 3 then
    if r.who < 68 then s.unitBankFail r.who s.time.base
    else if 128 ≤ r.who ∧ r.who < 192 then s.siteGap (r.who - 128) { cause := 4, tstart := s.time.base, lenps := 0, count := 1 }
    else s
  else if r.cls = 4 then s.endOp r.who 6
  else if r.cls = 7 then s.bankReject r.who
  else s

/-- The check of the access that has won: PG_INJ of page STORE and what the word itself shows (R127, R150). Writes are
not checked, but every access to a fenced bank fails (R127). -/
def State.accessCheck (s : State) (b : Nat) (w : BankReq) (e : BankErr) : Bool × State :=
  if (s.bank b).fenced then (false, s)
  else if w.wr.isSome then (true, s)
  else
    match s.bankCheck b w with
    | (false, t) => (false, t)
    | (true, t) =>
      match e with
      | .none => (true, t)
      | .single => (true, t.bankCe b w false)
      | .multi => (false, t.bankUe b false)

/-- A corrected word's write-back as a request: it writes the word that stands (R127). -/
def State.fixReq (s : State) (b : Nat) (r : BankReq) : BankReq :=
  { r with wr := some (BitVec.ofNat 96 (wide (s.rowWords b r.row))) }

/-- The requests pending at a bank: those that have lost before, the write-backs of corrected words, and the new ones
(R26, R127). -/
def State.bankPending (s : State) (b : Nat) (reqs : List BankReq) : List BankReq :=
  (s.bank b).waiting ++ (s.bank b).fixes.map (s.fixReq b) ++ reqs

/-- A decision has gone to class `c` and winner `w`: losers are counted and stay pending, the pointer and the run of
grants move on (R26, R138, R139). -/
def State.bankGrant (s : State) (b c : Nat) (w : BankReq) (reqs : List BankReq) : State :=
  let lost (l : List BankReq) : List BankReq := l.filter (fun r => !servedBy w r)
  let s1 := (lost (s.bankPending b reqs)).foldl (fun (t : State) r => t.lose b r.cls) s
  let v := s.bank b
  s1.setBank b { v with
    run := if c < 3 then min 15 (v.run + 1) else 0
    ptr := (List.range 8).map (fun i => if i = c then w.who + 1 else v.ptr.getD i 0)
    waiting := lost (v.waiting ++ reqs)
    fixes := v.fixes.filter (fun r => s.fixReq b r != w) }

/-- One decision of a bank among all that is pending there, and the access that wins it: the word is read or written; a
failed access takes effect at every requester it serves, but a failed write-back at none (R26, R127, R128, R136 to
R139). The word read is the reply's data. -/
def State.bankAccess (s : State) (b : Nat) (reqs : List BankReq) (e : BankErr) : State :=
  let all := s.bankPending b reqs
  match grantClass (s.bank b).run all with
  | none => s
  | some c =>
    match roundRobin ((s.bank b).ptr.getD c 0) (all.filter (fun r => r.cls == c)) with
    | none => s
    | some w =>
      let served := ((s.bank b).waiting ++ reqs).filter (servedBy w)
      match (s.bankGrant b c w reqs).accessCheck b w e with
      | (false, s) => served.foldl State.accessFailed s
      | (true, s) =>
        match w.wr with
        | some x => (s.setRow b w.row (unwide 4 x.toNat)).ok
        | none => s.ok (s.rowWords b w.row)

/-! ### Refill (R144, R148, R149) -/

/-- The stream that refill serves next: of those with a window to fetch and a place for it, the one with the fewest
resident windows ahead, then the lowest (R149). -/
def State.refillNext (s : State) : Option (Nat × Nat × Nat × List (Nat × Nat)) :=
  let cand (k : Nat) : Option (Nat × Nat × Nat × List (Nat × Nat)) :=
    match s.nextWindow k with
    | some w => (s.ringPlace k w).map (fun x => (k, w, x.1, x.2))
    | none => none
  ((List.range 4).filterMap cand).foldl (fun a c => match a with
    | none => some c
    | some x => if s.residentAhead c.1 < s.residentAhead x.1 then some c else a) none

/-- The memory controller's next grant among the external masters that ask: 0 refill, 1 acquisition, 2 MSE, 3 Reeve,
4 host, in that order, but a lower master after 15 refill grants in a row (R149). -/
def dramGrant (run : Nat) (asks : Nat → Bool) : Option Nat :=
  match (if 15 ≤ run then [1, 2, 3, 4].find? asks else none) with
  | some m => some m
  | none => [0, 1, 2, 3, 4].find? asks

/-- Which masters ask for external memory: refill with a window to fetch, acquisition with records to spill, the host
with a posted bulk write (R149). A window's fetch counts as one grant (log entry 53). -/
def State.dramAsks (s : State) (m : Nat) : Bool :=
  if m = 0 then s.refillNext.isSome
  else if m = 1 then s.recs.any (fun r => r.kind == 1 && !r.spilled && r.sent.isNone) && s.reg pACQG ACQG_XLEN0 != 0
  else if m = 4 then s.abt.posts.any (fun p => match p.kind with
    | .bulk d _ => d.space == 2
    | .exec .. => false)
  else false

/-- Refill starts the next window, unless one is in transfer or the controller's relief grant goes to a lower master
(R149). -/
def State.refillFetch (s : State) : State :=
  if (List.range 4).any (fun k => (s.rfl_ k).fetching.isSome) then s
  else match s.refillNext with
  | none => s
  | some (k, w, p, rest) =>
    if dramGrant s.dramRun s.dramAsks = some 0 then
      { s.setRefill k { s.rfl_ k with fetching := some (w, p), resident := rest } with dramRun := min 15 (s.dramRun + 1) }
    else { s with dramRun := 0 }

/-- The window in transfer has been read: corrections are counted, an uncorrectable error is retried once, and the window
is written and resident or the stream fails, as it does where a bank of the window region is fenced (R128, R144, R148,
R151). -/
def State.refillComplete (s : State) (k lecc ce : Nat) (ue retryUe : Bool) : State :=
  match (s.rfl_ k).fetching with
  | none => s
  | some (w, p) =>
    let s := s.inc pDRAM DRAM_LECC lecc
    let s := if s.bitR pDRAM DRAM_STAT 19 then s.inc pDRAM DRAM_IECC_CE ce else s
    let inj := decide (s.reg pDRAM PG_INJ ≠ 0)
    let s := s.setReg pDRAM PG_INJ 0
    let s := if inj || ue then (s.inc pDRAM DRAM_IECC_UE).inc pDRAM DRAM_RETRY else s
    let r := s.rfl_ k
    if (inj || ue) && retryUe then (s.setRefill k { r with fetching := none }).streamFail k 0x055
    else
      let (good, s) := s.writeRegionRun (4 + k) (2048 * p) (s.windowWords k w)
      if good then
        s.setRefill k { r with fetching := none, resident := r.resident ++ [(w, p)], wanted := r.wanted.filter (· != w)
                               wins := (r.wins + 1) % 2 ^ 24 }
      else (s.setRefill k { r with fetching := none }).streamFail k 0x064

/-! ### Meanings -/

/-- BANK_ACCESS: one decision of a bank among the requests pending at it, and the access that wins (R136). -/
def execBankAccess (bank : Fin 128) (reqs : List BankReq) (err : BankErr) (s : State) : Out :=
  .next (s.bankAccess bank reqs err).followStreams

/-- RETEST: STORE_CMD.RETEST is written; BIST of the bank in STORE_INJSEL passes or not (R130). -/
def execRetest (ini : Ini) (pass : Bool) (s : State) : Out := .next (s.writeReg { good := some pass } ini pSTORE STORE_CMD 2)

/-- STORE_CMD.CLRCNT is written: CE and UE of every bank clear (R150). -/
def execStoreClrcnt (ini : Ini) (s : State) : Out := .next (s.writeReg {} ini pSTORE STORE_CMD 1)

/-- REGION_TABLE_WRITE: one word of the region table is written (R132). -/
def execRegionTableWrite (ini : Ini) (index : Nat) (val : Word) (s : State) : Out := .next (s.writeTable ini pSTORE 0 index [val] none)

/-- DRAM_TRACK: the periodic reading of the WCK oscillator; a drifted lane is retrained and counted (R142). -/
def execDramTrack (drifted : Bool) (s : State) : Out := .next (if drifted then s.inc pDRAM DRAM_TRACK else s)

/-- DRAM_REFRESH: the memory's temperature report in MR4: above 85 degrees class N DRAM_TEMP, its operating limit
exceeded class H (R143). -/
def execDramRefresh (hot exceeded : Bool) (s : State) : Out :=
  let s := s.setBit pDRAM DRAM_STAT 17 (hot || exceeded)
  let s := if hot || exceeded then s.raiseN pDRAM 0x054 else s
  .next (if exceeded then s.raiseH pDRAM 0x054 else s)

/-- DRAM_RETRAIN: DRAM_CMD.RETRAIN is written: DRAM_CFG is applied and the memory trained (R142, R151). -/
def execDramRetrain (ini : Ini) (train : DramEnv) (s : State) : Out := .next (s.writeReg { dram := some train } ini pDRAM DRAM_CMD 2)

/-- DRAM_CMD.CLRCNT is written (R151). -/
def execDramClrcnt (ini : Ini) (s : State) : Out := .next (s.writeReg {} ini pDRAM DRAM_CMD 1)

/-- REFILL_WINDOW_FETCH: the engine starts the next window (R148, R149). -/
def execRefillWindowFetch (s : State) : Out := .next s.refillFetch

/-- REFILL_WINDOW_COMPLETE: the window in transfer of a stream has been read (R144, R148). -/
def execRefillWindowComplete (str : Str) (lecc ce : Nat) (ue retryUe : Bool) (s : State) : Out :=
  .next (s.refillComplete str lecc ce ue retryUe).followStreams

/-- REFILL_CMD.CLRCNT is written (R152). -/
def execRefillClrcnt (ini : Ini) (s : State) : Out := .next (s.writeReg {} ini pREFILL REFILL_CMD 1)

/-- SNAPALL: CONFL_CMD is written, with CLEAR or without (R153). -/
def execSnapall (ini : Ini) (clear : Bool) (s : State) : Out := .next (s.writeReg {} ini pCONFL CONFL_CMD (if clear then 3 else 2))

/-- CONFL_CMD.CLEAR is written alone (R153). -/
def execConflClear (ini : Ini) (s : State) : Out := .next (s.writeReg {} ini pCONFL CONFL_CMD 1)

end Sys2Proof.Machine
end

