-- ==== Sys2Proof/Machine/Subs.lean ====
section
/-!
DEFINITION. Meanings of the commands of result streaming (R114 to R117).
-/
namespace Sys2Proof.Machine

/-- SUBSCRIBE_OPEN (R114). -/
def execSubscribeOpen (org : Org) (w0 w1 w2 : Word) (filter : List Word) (s : State) : Out :=
  .next (s.subscribe org (putFld w0 23 22 0 :: w1 :: w2 :: filter))

/-- SUBSCRIBE_CLOSE (R117). -/
def execSubscribeClose (org : Org) (w0 : Word) (s : State) : Out := .next (s.subscribe org [putFld w0 23 22 1])

/-- SUBSCRIBE_ACK (R116). -/
def execSubscribeAck (org : Org) (w0 w1 : Word) (s : State) : Out := .next (s.subscribe org [putFld w0 23 22 2, w1])

/-- STREAM_FRAME_SEND (R115). -/
def execStreamFrameSend (slot : Fin 16) (s : State) : Out := .next (s.streamSend slot)

/-- STREAM_RESEND_TIMEOUT (R116). -/
def execStreamResendTimeout (slot : Fin 16) (s : State) : Out := .next (s.streamResend slot)

end Sys2Proof.Machine
end

