-- ==== Sys2Proof/Machine/Timing.lean ====
section
/-!
DEFINITION. Meanings of the commands of timing: the timing-set table, the PLL, the Bell, generated pulses and the TRG
lines (R222 to R253).
-/
namespace Sys2Proof.Machine

/-- TIMING_SET_WRITE: words of the timing-set table of an octet are written (R229, R230). -/
def execTimingSetWrite (ini : Ini) (oct : Oct) (index : Nat) (data : List Word) (s : State) : Out :=
  .next (s.writeTable ini (pOCTTM oct) 0 index data none)

/-- PLL_UNLOCK: lock is lost, by the phase error or because REFCLK shows no edges (R222, R223). -/
def execPllUnlock (noRef : Bool) (s : State) : Out := .next (s.unlock noRef)

/-- BELL_PULSE: a pulse of `width` high samples on BELL (R239). -/
def execBellPulse (width : Nat) (s : State) : Out := .next (s.bellPulse width)

/-- BELL_REGISTRATION: the oldest sampled pulse registers 128 cycles after B0 (R240 to R242). -/
def execBellRegistration (s : State) : Out := .next s.registerBell

/-- GEN_BELL: TBASE_CMD.GEN_BELL is written (R244). -/
def execGenBell (ini : Ini) (s : State) : Out := .next (s.writeReg {} ini pTBASE TBASE_CMD 1)

/-- GEN_EPOCH: TBASE_CMD.GEN_EPOCH is written (R244). -/
def execGenEpoch (ini : Ini) (s : State) : Out := .next (s.writeReg {} ini pTBASE TBASE_CMD 2)

/-- BELLO_GENERATE: the generated pulse rises (R244). -/
def execBelloGenerate (s : State) : Out := .next s.genRise

/-- SEND: SKEW_CMD with ACT SEND is written (R247). -/
def execSend (ini : Ini) (line : Fin 4) (s : State) : Out :=
  .next (s.writeReg {} ini pSKEW SKEW_CMD (word (2 ^ 22 + line * 2 ^ 20)))

/-- LISTEN: SKEW_CMD with ACT LISTEN is written (R248). -/
def execListen (ini : Ini) (line : Fin 4) (s : State) : Out :=
  .next (s.writeReg {} ini pSKEW SKEW_CMD (word (2 ^ 23 + line * 2 ^ 20)))

/-- SKEW_SEND_EDGE: the SEND edge of the pending SEND is reached (R247). -/
def execSkewSendEdge (s : State) : Out := .next s.sendEdge

/-- SKEW_TRG is written (R253). -/
def execSkewTrgWrite (ini : Ini) (val : Word) (s : State) : Out := .next (s.writeReg {} ini pSKEW SKEW_TRG val)

/-- TRG_RECEIVE: a rising edge arrives at a TRG ball (R250). -/
def execTrgReceive (line : Fin 4) (arr : Nat) (s : State) : Out := .next (s.trgReceive line arr)

end Sys2Proof.Machine
end

