-- ==== Sys2Proof/Machine/Update.lean ====
section
/-!
DEFINITION. Meanings of the commands of the update path (R442 to R449, R455).
-/
namespace Sys2Proof.Machine

/-- UPDATE with ACT BEGIN (R444). -/
def execUpdateBegin (org : Org) (kind total : Nat) (s : State) : Out := .next (s.updBeginCmd org.ini kind total)

/-- UPDATE with ACT DATA; the flash programs the words or not (R443, R445). -/
def execUpdateData (org : Org) (offset : Nat) (data : List Word) (ok : Bool) (s : State) : Out :=
  .next (s.updDataCmd org.ini (orgPort org) offset data ok)

/-- UPDATE with ACT FINISH; the flash takes the boot header or not (R445). -/
def execUpdateFinish (org : Org) (ok : Bool) (s : State) : Out := .next (s.updFinishCmd org.ini ok)

/-- UPDATE with ACT ABORT (R443). -/
def execUpdateAbort (org : Org) (s : State) : Out := .next (s.updAbortCmd org.ini)

/-- UPDATE with ACT STATUS (R443). -/
def execUpdateStatus (org : Org) (s : State) : Out := .next (s.updStatusCmd org.ini)

/-- UPDATE with ACT SAVE (R448). -/
def execUpdateSave (org : Org) (s : State) : Out := .next (s.updSaveCmd org.ini)

/-- UPDATE_IDLE_TIMEOUT: no DATA for 60 s (R444). -/
def execUpdateIdleTimeout (s : State) : Out := .next s.updIdle

/-- UPD_CMD.ABORT is written (R455). -/
def execUpdCmdAbort (ini : Ini) (s : State) : Out := .next (s.writeReg {} ini pUPD UPD_CMD 1)

/-- REEVE_SAVE: REEVE_CMD.SAVE is written (R448). -/
def execReeveSave (ini : Ini) (s : State) : Out := .next (s.writeReg {} ini pREEVE REEVE_CMD 2)

end Sys2Proof.Machine
end

