-- ==== Sys2Proof/Machine/Dispatch.lean ====
section
/-!
DEFINITION. The meaning of each command: one arm per constructor, each one call of the meaning of that command.
-/
namespace Sys2Proof.Machine

def exec (i : Instr) (s : State) : Host.Outcome State Fault Refusal :=
  match i with
  | .porstReset ps => Sys2Proof.Machine.execPorstReset ps s
  | .coldStart env => Sys2Proof.Machine.execColdStart env s
  | .pwrwarn lowPs sealed => Sys2Proof.Machine.execPwrwarn lowPs sealed s
  | .pwrwarnRise env => Sys2Proof.Machine.execPwrwarnRise env s
  | .gLatchClear => Sys2Proof.Machine.execGLatchClear s
  | .tapLoad trstN code tdi => Sys2Proof.Machine.execTapLoad trstN code tdi s
  | .registerWrite ini addr val => Sys2Proof.Machine.execRegisterWrite ini addr val s
  | .snapshotRead ini addr => Sys2Proof.Machine.execSnapshotRead ini addr s
  | .tblDataAccess ini page wr => Sys2Proof.Machine.execTblDataAccess ini page wr s
  | .pgLockOpen ini page => Sys2Proof.Machine.execPgLockOpen ini page s
  | .pgLockClose ini page => Sys2Proof.Machine.execPgLockClose ini page s
  | .pgErrClr ini page => Sys2Proof.Machine.execPgErrClr ini page s
  | .hedgeReq ini page => Sys2Proof.Machine.execHedgeReq ini page s
  | .pgForce ini page bits => Sys2Proof.Machine.execPgForce ini page bits s
  | .pgInj ini page bits => Sys2Proof.Machine.execPgInj ini page bits s
  | .warmStart ini env => Sys2Proof.Machine.execWarmStart ini env s
  | .recover ini => Sys2Proof.Machine.execRecover ini s
  | .recoveryComplete => Sys2Proof.Machine.execRecoveryComplete s
  | .enterTest ini => Sys2Proof.Machine.execEnterTest ini s
  | .leaveTest ini env => Sys2Proof.Machine.execLeaveTest ini env s
  | .chipnoWrite ini val => Sys2Proof.Machine.execChipnoWrite ini val s
  | .frameReceive port frame => Sys2Proof.Machine.execFrameReceive port frame s
  | .arpRequest port ip srcMac srcIp => Sys2Proof.Machine.execArpRequest port ip srcMac srcIp s
  | .icmpEchoRequest port srcMac srcIp ident seqn data => Sys2Proof.Machine.execIcmpEchoRequest port srcMac srcIp ident seqn data s
  | .abtRequestFrame port dg => Sys2Proof.Machine.execAbtRequestFrame port dg s
  | .heldFrameExecute src grp => Sys2Proof.Machine.execHeldFrameExecute src grp s
  | .gapTimeout src grp => Sys2Proof.Machine.execGapTimeout src grp s
  | .sourceExpiry src => Sys2Proof.Machine.execSourceExpiry src s
  | .abtReplySend src grp => Sys2Proof.Machine.execAbtReplySend src grp s
  | .read org addr n => Sys2Proof.Machine.execRead org addr n s
  | .write org addr data seqchk => Sys2Proof.Machine.execWrite org addr data seqchk s
  | .mwrite org addr mask data seqchk => Sys2Proof.Machine.execMwrite org addr mask data seqchk s
  | .bulkRead org desc => Sys2Proof.Machine.execBulkRead org desc s
  | .bulkWrite org desc data seqchk => Sys2Proof.Machine.execBulkWrite org desc data seqchk s
  | .bulkWriteComplete => Sys2Proof.Machine.execBulkWriteComplete s
  | .fence org wdone wseal => Sys2Proof.Machine.execFence org wdone wseal s
  | .fenceComplete => Sys2Proof.Machine.execFenceComplete s
  | .time org sfd => Sys2Proof.Machine.execTime org sfd s
  | .subscribeOpen org w0 w1 w2 filter => Sys2Proof.Machine.execSubscribeOpen org w0 w1 w2 filter s
  | .subscribeClose org w0 => Sys2Proof.Machine.execSubscribeClose org w0 s
  | .subscribeAck org w0 w1 => Sys2Proof.Machine.execSubscribeAck org w0 w1 s
  | .streamFrameSend slot => Sys2Proof.Machine.execStreamFrameSend slot s
  | .streamResendTimeout slot => Sys2Proof.Machine.execStreamResendTimeout slot s
  | .linkUp port => Sys2Proof.Machine.execLinkUp port s
  | .linkdown port lfault rfault => Sys2Proof.Machine.execLinkdown port lfault rfault s
  | .hiber port => Sys2Proof.Machine.execHiber port s
  | .linkIpWrite ini port lo hi => Sys2Proof.Machine.execLinkIpWrite ini port lo hi s
  | .retrain ini port trained => Sys2Proof.Machine.execRetrain ini port trained s
  | .linkClrcnt ini port => Sys2Proof.Machine.execLinkClrcnt ini port s
  | .forget ini => Sys2Proof.Machine.execForget ini s
  | .abtClrcnt ini => Sys2Proof.Machine.execAbtClrcnt ini s
  | .ptpSyncReceive sync => Sys2Proof.Machine.execPtpSyncReceive sync s
  | .ptpFollowUpReceive head origin corr => Sys2Proof.Machine.execPtpFollowUpReceive head origin corr s
  | .ptpDelayRespReceive head rx corr rate => Sys2Proof.Machine.execPtpDelayRespReceive head rx corr rate s
  | .ptpAnnounceReceive ann => Sys2Proof.Machine.execPtpAnnounceReceive ann s
  | .ptpDelayReqSend => Sys2Proof.Machine.execPtpDelayReqSend s
  | .ptpDelayReqReceive head sender => Sys2Proof.Machine.execPtpDelayReqReceive head sender s
  | .ptpSyncSend => Sys2Proof.Machine.execPtpSyncSend s
  | .ptpAnnounceSend => Sys2Proof.Machine.execPtpAnnounceSend s
  | .ptplost => Sys2Proof.Machine.execPtplost s
  | .ptpOfsWrite ini w0 w1 w2 => Sys2Proof.Machine.execPtpOfsWrite ini w0 w1 w2 s
  | .pps => Sys2Proof.Machine.execPps s
  | .bankAccess bank reqs err => Sys2Proof.Machine.execBankAccess bank reqs err s
  | .retest ini pass => Sys2Proof.Machine.execRetest ini pass s
  | .storeClrcnt ini => Sys2Proof.Machine.execStoreClrcnt ini s
  | .regionTableWrite ini index val => Sys2Proof.Machine.execRegionTableWrite ini index val s
  | .dramTrack drifted => Sys2Proof.Machine.execDramTrack drifted s
  | .dramRefresh hot exceeded => Sys2Proof.Machine.execDramRefresh hot exceeded s
  | .dramRetrain ini train => Sys2Proof.Machine.execDramRetrain ini train s
  | .dramClrcnt ini => Sys2Proof.Machine.execDramClrcnt ini s
  | .refillWindowFetch => Sys2Proof.Machine.execRefillWindowFetch s
  | .refillWindowComplete str lecc ce ue retryUe => Sys2Proof.Machine.execRefillWindowComplete str lecc ce ue retryUe s
  | .refillClrcnt ini => Sys2Proof.Machine.execRefillClrcnt ini s
  | .snapall ini clear => Sys2Proof.Machine.execSnapall ini clear s
  | .conflClear ini => Sys2Proof.Machine.execConflClear ini s
  | .vec str path => Sys2Proof.Machine.execVec str path s
  | .rpt str path => Sys2Proof.Machine.execRpt str path s
  | .run str path => Sys2Proof.Machine.execRun str path s
  | .loop str path => Sys2Proof.Machine.execLoop str path s
  | .endl str path => Sys2Proof.Machine.execEndl str path s
  | .match_ str path => Sys2Proof.Machine.execMatch str path s
  | .endm str path => Sys2Proof.Machine.execEndm str path s
  | .seg str path => Sys2Proof.Machine.execSeg str path s
  | .jseg str path => Sys2Proof.Machine.execJseg str path s
  | .call str path => Sys2Proof.Machine.execCall str path s
  | .ret str path => Sys2Proof.Machine.execRet str path s
  | .tsw str path => Sys2Proof.Machine.execTsw str path s
  | .subp str path => Sys2Proof.Machine.execSubp str path s
  | .pauseBegin str path => Sys2Proof.Machine.execPauseBegin str path s
  | .pauseEnd str path => Sys2Proof.Machine.execPauseEnd str path s
  | .align str path => Sys2Proof.Machine.execAlign str path s
  | .halt str path => Sys2Proof.Machine.execHalt str path s
  | .nop str path => Sys2Proof.Machine.execNop str path s
  | .invalidWord str site => Sys2Proof.Machine.execInvalidWord str site s
  | .execArm org w0 e0 e1 => Sys2Proof.Machine.execExecArm org w0 e0 e1 s
  | .execJump org w0 => Sys2Proof.Machine.execExecJump org w0 s
  | .execStop org w0 => Sys2Proof.Machine.execExecStop org w0 s
  | .execReset org w0 => Sys2Proof.Machine.execExecReset org w0 s
  | .execRelease org w0 => Sys2Proof.Machine.execExecRelease org w0 s
  | .commandStileExit => Sys2Proof.Machine.execCommandStileExit s
  | .streamPrimed str => Sys2Proof.Machine.execStreamPrimed str s
  | .streamStart str => Sys2Proof.Machine.execStreamStart str s
  | .firstCycleStart site => Sys2Proof.Machine.execFirstCycleStart site s
  | .vectorCommit site pins bad => Sys2Proof.Machine.execVectorCommit site pins bad s
  | .matchDecision site => Sys2Proof.Machine.execMatchDecision site s
  | .holdResume str => Sys2Proof.Machine.execHoldResume str s
  | .streamDrainComplete str => Sys2Proof.Machine.execStreamDrainComplete str s
  | .segmentRecordClose site => Sys2Proof.Machine.execSegmentRecordClose site s
  | .siteAssign ini site str => Sys2Proof.Machine.execSiteAssign ini site str s
  | .siteUnassign ini site => Sys2Proof.Machine.execSiteUnassign ini site s
  | .streamClrcnt ini str => Sys2Proof.Machine.execStreamClrcnt ini str s
  | .slipSnap ini => Sys2Proof.Machine.execSlipSnap ini s
  | .clrmax ini => Sys2Proof.Machine.execClrmax ini s
  | .timingSetWrite ini oct index data => Sys2Proof.Machine.execTimingSetWrite ini oct index data s
  | .pllUnlock noRef => Sys2Proof.Machine.execPllUnlock noRef s
  | .bellPulse width => Sys2Proof.Machine.execBellPulse width s
  | .bellRegistration => Sys2Proof.Machine.execBellRegistration s
  | .genBell ini => Sys2Proof.Machine.execGenBell ini s
  | .genEpoch ini => Sys2Proof.Machine.execGenEpoch ini s
  | .belloGenerate => Sys2Proof.Machine.execBelloGenerate s
  | .send ini line => Sys2Proof.Machine.execSend ini line s
  | .listen ini line => Sys2Proof.Machine.execListen ini line s
  | .skewSendEdge => Sys2Proof.Machine.execSkewSendEdge s
  | .skewTrgWrite ini val => Sys2Proof.Machine.execSkewTrgWrite ini val s
  | .trgReceive line arr => Sys2Proof.Machine.execTrgReceive line arr s
  | .levelTableWrite ini oct index data => Sys2Proof.Machine.execLevelTableWrite ini oct index data s
  | .load ini oct => Sys2Proof.Machine.execLoad ini oct s
  | .conv ini oct mask => Sys2Proof.Machine.execConv ini oct mask s
  | .loadStrobe grp bad => Sys2Proof.Machine.execLoadStrobe grp bad s
  | .spanSequenceStep oct lane => Sys2Proof.Machine.execSpanSequenceStep oct lane s
  | .convResult oct adc code => Sys2Proof.Machine.execConvResult oct adc code s
  | .toneSample oct parityOk => Sys2Proof.Machine.execToneSample oct parityOk s
  | .pmuClamp oct lane load => Sys2Proof.Machine.execPmuClamp oct lane load s
  | .octpePinWrite ini oct lane val => Sys2Proof.Machine.execOctpePinWrite ini oct lane val s
  | .railOn ini oct sns => Sys2Proof.Machine.execRailOn ini oct sns s
  | .railOff ini oct => Sys2Proof.Machine.execRailOff ini oct s
  | .railRampEnd oct sns => Sys2Proof.Machine.execRailRampEnd oct sns s
  | .operationSubmit ini tag hi => Sys2Proof.Machine.execOperationSubmit ini tag hi s
  | .operationDispatch lane => Sys2Proof.Machine.execOperationDispatch lane s
  | .microNext tag env => Sys2Proof.Machine.execMicroNext tag env s
  | .microCall tag env => Sys2Proof.Machine.execMicroCall tag env s
  | .microRet tag env => Sys2Proof.Machine.execMicroRet tag env s
  | .microBr tag env => Sys2Proof.Machine.execMicroBr tag env s
  | .microLoop tag env => Sys2Proof.Machine.execMicroLoop tag env s
  | .microWait tag env => Sys2Proof.Machine.execMicroWait tag env s
  | .microEnd tag env => Sys2Proof.Machine.execMicroEnd tag env s
  | .microDispatch tag env => Sys2Proof.Machine.execMicroDispatch tag env s
  | .settleTimerExpiry tag => Sys2Proof.Machine.execSettleTimerExpiry tag s
  | .sampleRunDone tag samples => Sys2Proof.Machine.execSampleRunDone tag samples s
  | .adcWaitTimeout tag => Sys2Proof.Machine.execAdcWaitTimeout tag s
  | .mseAck ini val => Sys2Proof.Machine.execMseAck ini val s
  | .mseAbort ini val => Sys2Proof.Machine.execMseAbort ini val s
  | .mseClrcnt ini => Sys2Proof.Machine.execMseClrcnt ini s
  | .switch ini => Sys2Proof.Machine.execSwitch ini s
  | .acqArm ini unit => Sys2Proof.Machine.execAcqArm ini unit s
  | .acqDisarm ini unit => Sys2Proof.Machine.execAcqDisarm ini unit s
  | .windowOpen unit => Sys2Proof.Machine.execWindowOpen unit s
  | .windowClose unit => Sys2Proof.Machine.execWindowClose unit s
  | .captureSample unit inp => Sys2Proof.Machine.execCaptureSample unit inp s
  | .pendingGapWrite unit => Sys2Proof.Machine.execPendingGapWrite unit s
  | .spill unit => Sys2Proof.Machine.execSpill unit s
  | .xlenWrite ini lo hi => Sys2Proof.Machine.execXlenWrite ini lo hi s
  | .acqgClrcnt ini => Sys2Proof.Machine.execAcqgClrcnt ini s
  | .greenEvent arr => Sys2Proof.Machine.execGreenEvent arr s
  | .delayLineFire line => Sys2Proof.Machine.execDelayLineFire line s
  | .watchIn k => Sys2Proof.Machine.execWatchIn k s
  | .greenSw ini bits => Sys2Proof.Machine.execGreenSw ini bits s
  | .greenTableWrite ini tsel index data => Sys2Proof.Machine.execGreenTableWrite ini tsel index data s
  | .greenPar ok => Sys2Proof.Machine.execGreenPar ok s
  | .clrflg ini => Sys2Proof.Machine.execClrflg ini s
  | .greenClrcnt ini => Sys2Proof.Machine.execGreenClrcnt ini s
  | .monitorSample mon x parityOk => Sys2Proof.Machine.execMonitorSample mon x parityOk s
  | .monitorSelfCheck mon above below swap => Sys2Proof.Machine.execMonitorSelfCheck mon above below swap s
  | .guardClrcnt ini => Sys2Proof.Machine.execGuardClrcnt ini s
  | .siteHedge site => Sys2Proof.Machine.execSiteHedge site s
  | .hedgeConfirm site isolated => Sys2Proof.Machine.execHedgeConfirm site isolated s
  | .sensorReading temps bad => Sys2Proof.Machine.execSensorReading temps bad s
  | .revalid ini sensor => Sys2Proof.Machine.execRevalid ini sensor s
  | .faultLatch => Sys2Proof.Machine.execFaultLatch s
  | .watchClear ini val => Sys2Proof.Machine.execWatchClear ini val s
  | .watchClrcnt ini => Sys2Proof.Machine.execWatchClrcnt ini s
  | .full ini => Sys2Proof.Machine.execFull ini s
  | .fullCalibrationComplete meas => Sys2Proof.Machine.execFullCalibrationComplete meas s
  | .tdr ini oct rtt => Sys2Proof.Machine.execTdr ini oct rtt s
  | .store ini => Sys2Proof.Machine.execStore ini s
  | .storeComplete ok => Sys2Proof.Machine.execStoreComplete ok s
  | .borrowing chan task len => Sys2Proof.Machine.execBorrowing chan task len s
  | .gleanTaskComplete meas => Sys2Proof.Machine.execGleanTaskComplete meas s
  | .gleanAbort => Sys2Proof.Machine.execGleanAbort s
  | .daybookProgram ok => Sys2Proof.Machine.execDaybookProgram ok s
  | .sealTimer => Sys2Proof.Machine.execSealTimer s
  | .dbSeal ini => Sys2Proof.Machine.execDbSeal ini s
  | .dbCompact ini => Sys2Proof.Machine.execDbCompact ini s
  | .compactionComplete ok => Sys2Proof.Machine.execCompactionComplete ok s
  | .dbAreaWrite ini hi => Sys2Proof.Machine.execDbAreaWrite ini hi s
  | .daybookFormatComplete ok => Sys2Proof.Machine.execDaybookFormatComplete ok s
  | .journalStat org => Sys2Proof.Machine.execJournalStat org s
  | .journalRead org w1 w2 w3 => Sys2Proof.Machine.execJournalRead org w1 w2 w3 s
  | .journalCompact org => Sys2Proof.Machine.execJournalCompact org s
  | .reeveWdog => Sys2Proof.Machine.execReeveWdog s
  | .reeveRamError ue => Sys2Proof.Machine.execReeveRamError ue s
  | .go ini => Sys2Proof.Machine.execGo ini s
  | .sermTransferDone sdi => Sys2Proof.Machine.execSermTransferDone sdi s
  | .sermTmo => Sys2Proof.Machine.execSermTmo s
  | .sermClrcnt ini => Sys2Proof.Machine.execSermClrcnt ini s
  | .flashWindowOperation op ok => Sys2Proof.Machine.execFlashWindowOperation op ok s
  | .selforce op ok => Sys2Proof.Machine.execSelforce op ok s
  | .gateFrame bits bytes early => Sys2Proof.Machine.execGateFrame bits bytes early s
  | .gateNop => Sys2Proof.Machine.execGateNop s
  | .gateRead addr n => Sys2Proof.Machine.execGateRead addr n s
  | .gateWrite addr data => Sys2Proof.Machine.execGateWrite addr data s
  | .ident => Sys2Proof.Machine.execIdent s
  | .gateStatus => Sys2Proof.Machine.execGateStatus s
  | .gateClrcnt ini => Sys2Proof.Machine.execGateClrcnt ini s
  | .advance ini target => Sys2Proof.Machine.execAdvance ini target s
  | .progMkey ini => Sys2Proof.Machine.execProgMkey ini s
  | .chestSeal ini ok => Sys2Proof.Machine.execChestSeal ini ok s
  | .chestAutoSeal ok => Sys2Proof.Machine.execChestAutoSeal ok s
  | .wipe ini => Sys2Proof.Machine.execWipe ini s
  | .tamper cause => Sys2Proof.Machine.execTamper cause s
  | .updateBegin org kind total => Sys2Proof.Machine.execUpdateBegin org kind total s
  | .updateData org offset data ok => Sys2Proof.Machine.execUpdateData org offset data ok s
  | .updateFinish org ok => Sys2Proof.Machine.execUpdateFinish org ok s
  | .updateAbort org => Sys2Proof.Machine.execUpdateAbort org s
  | .updateStatus org => Sys2Proof.Machine.execUpdateStatus org s
  | .updateSave org => Sys2Proof.Machine.execUpdateSave org s
  | .updateIdleTimeout => Sys2Proof.Machine.execUpdateIdleTimeout s
  | .updCmdAbort ini => Sys2Proof.Machine.execUpdCmdAbort ini s
  | .reeveSave ini => Sys2Proof.Machine.execReeveSave ini s
  | .reeveClrcnt ini => Sys2Proof.Machine.execReeveClrcnt ini s
  | .pwrwarnNRiseInCold env => Sys2Proof.Machine.execPwrwarnNRiseInCold env s
  | .wipeComplete => Sys2Proof.Machine.execWipeComplete s
  | .lifecycleChangeComplete ok => Sys2Proof.Machine.execLifecycleChangeComplete ok s
  | .firmwareReloadComplete ok => Sys2Proof.Machine.execFirmwareReloadComplete ok s

end Sys2Proof.Machine
end

