-- ==== Sys2Proof/Machine/Step.lean ====
section
/-!
DEFINITION. One step: the command at the front of the queue is executed with the rest of the queue; on an empty queue
the timing clock makes one cycle where the PLL is locked, and the device idles where it is not (log entry 2).
-/
namespace Sys2Proof.Machine

/-- What passes when no command waits: one cycle of the timing clock while the PLL is locked (R241). -/
def idle (s : State) : State := if s.locked then s.ticks 1 else s

/-- One step. -/
def step (s : State) : Host.Outcome State Fault Refusal :=
  match s.pending with
  | [] => .next (idle s)
  | c :: cs => exec c { s with pending := cs }

/-- The state with the command that a table word spells at the front of its queue; unchanged where it spells none. -/
def State.withFetchWord (s : State) (nbits w : Nat) : State :=
  match decodeTableWord nbits w with
  | some c => { s with pending := c :: s.pending }
  | none => s

end Sys2Proof.Machine
end

