-- ==== Sys2Proof/Safety.lean ====
section
/-!
DEFINITION. What claims are stated in: the canonical form that a safe run keeps, and what a command leaves unchanged.
-/
namespace Sys2Proof.Machine

/-! ### The canonical form of every sparse part of the state: equal contents are equal data -/

/-- The canonical form of the registers and tables. -/
def State.regsWf (s : State) : Bool := Store.wf regDefault s.regs && Store.wf tabDefault s.tabs

/-- The canonical form of the memories: banks, external memory, flash. -/
def State.memWf (s : State) : Bool :=
  Store.wf zeroDefault s.bankMem && Store.wf zeroDefault s.dram && Store.wf flashDefault s.flash

/-! ### Frames -/

/-- Every register outside a list of pages and offsets keeps its word. -/
def State.keepsRegs (s t : State) (ex : List (Nat × Nat)) : Prop :=
  ∀ p o, o < 256 → (p, o) ∉ ex → t.reg p o = s.reg p o

/-- Every table word outside a range of indices of one table keeps its value. -/
def State.keepsTabs (s t : State) (page tsel lo n : Nat) : Prop :=
  ∀ p u i, i < 2 ^ 19 → u < 16 → ¬ (p = page ∧ u = tsel ∧ lo ≤ i ∧ i < lo + n) → t.tab p u i = s.tab p u i

/-- An accepted access to a page by a write: the answer is OK, PG_SEQ of the page counts it, and no register but PG_SEQ
and those at the offsets `offs` of the page changes (R10, R77). -/
def State.wrote (s t : State) (page : Nat) (offs : List Nat) : Prop :=
  t.reply = ⟨0, []⟩ ∧ t.reg page PG_SEQ = s.reg page PG_SEQ + 1 ∧ s.keepsRegs t ((page, PG_SEQ) :: offs.map (page, ·))

/-- A command that clears registers of a page and changes nothing else. -/
def clears (c : Instr) (page : Nat) (offs : List Nat) (s : State) : Prop :=
  ∃ t, exec c s = .next t ∧ s.wrote t page offs ∧ (∀ o ∈ offs, t.reg page o = 0) ∧
    t = { s with regs := t.regs, rot := t.rot, reply := t.reply }

/-- An access to a page of the timing domain enters the page's register stile in `s` and leaves it in `u`, 3 cycles after
its capture edge, which is the next edge or the one after it (R20, R458, Table 1.2). -/
def State.crosses (s u : State) : Prop := ∃ n, (n = 4 ∨ n = 5) ∧ u = { s.ticks n with fresh := s.fresh + 1 }

/-- An access that arrives in `s` reaches its page in `u`: through a register stile if the page has one (R20). -/
def State.reaches (s u : State) (page : Nat) : Prop := if timingPage page then s.crosses u else u = s

/-- The clock and the free values taken at the end of an access to a page: an access to the timing domain crosses the
page's register stile, and its answer is offered 3 cycles later (R20, R21, Table 1.2). -/
def State.passes (s t : State) (page : Nat) : Prop :=
  ∃ u, s.reaches u page ∧ t.time = (u.ticks (if timingPage page then 3 else 0)).time ∧ t.fresh = u.fresh

/-- READY and RUN follow the streams (Table 3.3): in `t` the state of the device is that of `s`, brought up to the streams
of `t`. -/
def State.runFollows (s t : State) : Prop := t.run = ({ t with run := s.run } : State).followStreams.run

/-! ### The expander -/

/-- The instructions of pattern on a path of a stream, with their opcodes (Table 6.2). -/
def patternRows (k : Str) (p : Nat) : List (Instr × Nat) :=
  [(.vec k p, 0x01), (.rpt k p, 0x02), (.run k p, 0x03), (.loop k p, 0x04), (.endl k p, 0x05), (.match_ k p, 0x06),
   (.endm k p, 0x07), (.seg k p, 0x08), (.jseg k p, 0x09), (.call k p, 0x0A), (.ret k p, 0x0B), (.tsw k p, 0x0C),
   (.subp k p, 0x0D), (.pauseBegin k p, 0x0E), (.pauseEnd k p, 0x0F), (.align k p, 0x10), (.halt k p, 0x11), (.nop k p, 0x12)]

/-- The expander of stream `k` stands on path `p`, at place `e` after `items`, with room for a vector (R195). -/
def State.standsAt (s : State) (k p : Nat) (e : Exp) (items : List Item) : Prop :=
  (s.stream k).path p = some (e, items) ∧ (s.stream k).room p ≠ 0 ∧ sARMED ≤ s.strSt k ∧ s.strSt k ≤ sHOLDING ∧ e.ended = false

/-- It stands before an instruction whose header `h` is fetched, which leaves the state `u`. -/
def State.faces (s : State) (k p : Nat) (e : Exp) (items : List Item) (h : Word) (u : State) : Prop :=
  s.standsAt k p e items ∧ e.rptLeft = 0 ∧ e.run = none ∧ s.fetchFor k e e.pc false = (.ok h, u) ∧
    ∀ f, e.pin = some f → f.again = true ∨ e.pc < f.start + 21845

/-- The path stands at `e` after `items`, and nothing else has changed since the state `u` that the fetches left, but that
the staged paths lose the pin region to a pinned loop that the main path has open (R175). -/
def State.advances (s u t : State) (k p : Nat) (e : Exp) (items : List Item) : Prop :=
  let v := s.stream k
  t.stream k = (if p = 0 then
      { v with exp := e, items := items, alts := if e.pin.isSome then v.alts.map Alt.losePin else v.alts }
    else { v with alts := v.alts.map (fun a => if a.id = p then { a with exp := e, items := items } else a) }) ∧
  (∀ j, j ≠ k → t.stream j = s.stream j) ∧ (∀ j, t.rfl_ j = s.rfl_ j) ∧
  t = { u with streams := t.streams, refill := t.refill }

/-- The place after `n` vectors of the codes `cs` as written, and the item that carries them (R155, R157, R190). -/
def Exp.took (e : Exp) (n : Nat) (cs : List Nat) : Exp × List Item :=
  ({ e with raw := cs, res := resolve e.res cs, hasVec := true, tsets := e.tsw, pos := e.pos + n, segVecs := e.segVecs + n
            loops := e.loops.map (fun f => { f with
              vecs := f.vecs + n, strobed := f.strobed || (f.isMatch && (resolve e.res cs).any strobed) }) },
   [.vec e.pos n (resolve e.res cs) e.tsw e.pause.isSome ((e.loops.find? (·.isMatch)).elim 0 LoopFrame.sw)])

/-- The vectors keep the limits of the loop bodies that are open (R175, R178). -/
def Exp.fits (e : Exp) (n : Nat) (cs : List Nat) : Prop :=
  (∀ f ∈ e.loops, (f.isMatch = true → f.vecs + n ≤ 512) ∧ (f.pinned = true → f.vecs + n ≤ 16384)) ∧
    ((∃ f ∈ e.loops, f.isMatch = true) → cSUBD ∉ resolve e.res cs ∧ cSUBE ∉ resolve e.res cs)

/-! ### The measurement engine -/

/-- The operation of tag `t` ends with a status: its slot is DONE, its record stands in the table and waits for delivery,
MSE_CNT counts it, and its PMU and ADC are free: levels that waited for the PMU are active, and a PMU that forces no longer
limits no longer (R261, R262, R270, R298, R301). -/
def State.endsOp (s u : State) (t status : Nat) : Prop :=
  let q := u.op t
  let o := tagOct t
  let i := tagPin t
  let v := s.oct o
  let ws := resultWords t (s.recipe t) q
  let eased : Bool := (s.op t).holdsPmu && !u.pmuForces o i
  q.st = .done ∧ q.status = status ∧ q.holdsAdc = false ∧ q.holdsPmu = false ∧ q.holdsTone = false ∧
  (∀ x, x ≠ t → u.op x = s.op x) ∧
  u.recs = s.recs ++ [{ kind := 0, unit := t, words := ws : Rec }] ∧
  (∀ i < 10, u.tab pMSE 1 (10 * t + i) = ws.getD i 0) ∧ u.reg pMSE MSE_CNT = s.reg pMSE MSE_CNT + 1 ∧
  u.oct o = { v with
    adc := if (s.op t).holdsAdc = true ∧ v.adc.getD i 0 = 1 then v.adc.set i 0 else v.adc
    pmu := if (s.op t).holdsPmu then v.pmu.filter (fun x => x.1 != i) else v.pmu
    late := if (s.op t).holdsPmu then v.late.filter (fun x => x.1 / 16 != i) else v.late
    lim := if eased then v.lim.set i 0 else v.lim } ∧
  u.reg (pOCTPE o) OCTPE_STAT = (if eased then putFld (s.reg (pOCTPE o) OCTPE_STAT) (8 + i) (8 + i) 0
    else s.reg (pOCTPE o) OCTPE_STAT) ∧
  (∀ c, c ≠ o → u.oct c = s.oct c) ∧
  (∀ p m i, i < 2 ^ 19 → m < 16 → ¬ (p = pMSE ∧ m = 1 ∧ 10 * t ≤ i ∧ i < 10 * t + 10) →
    ¬ ((s.op t).holdsPmu = true ∧ p = pOCTPE o ∧ m = 1 ∧ i / 16 = tagPin t ∧ ∃ x ∈ v.late, x.1 = i) →
    u.tab p m i = s.tab p m i)

/-! ### Acquisition -/

/-- The bank, the row and the word of pattern word `i` of a ring, where the ring has one (R325). -/
def State.ringCell (s : State) (r i : Nat) : Option (Nat × Nat × Nat) :=
  let p := 4 * s.ringBase r + i % (4 * s.ringSize r)
  (s.regionWord 12 (p / 4)).map (fun x => (x.1, x.2, p % 4))

/-- The words of a record stand in a ring from its write pointer on, and the banks hold nothing else new (R325), in a state
whose region CAPTURE ends with its banks (R132). -/
def State.ringHolds (s t : State) (r : Nat) (ws : List Word) : Prop :=
  s.regionFirst 12 + s.regionRows 12 ≤ 21846 →
  (∀ i < ws.length, ∀ b row j, s.ringCell r (s.ringWr r + i) = some (b, row, j) → t.cell b row j = ws.getD i 0) ∧
  (∀ b row j, b < 128 → row < 21846 → j < 4 → (∀ i < ws.length, s.ringCell r (s.ringWr r + i) ≠ some (b, row, j)) →
    t.cell b row j = s.cell b row j)

/-- Outside some registers `ex`, the only configuration or status words that change are the words `ws` of unit `u`, on its
page or in the table of page ACQG (R333, R334). The tables of page GLEAN lie in banks, and `ringHolds` speaks of them. -/
def State.keepsButRing (s t : State) (u : Nat) (ws : List Nat) (ex : List (Nat × Nat)) : Prop :=
  s.keepsRegs t ((if u < 64 then ws.map (fun i => (pACQ u, 0x10 + i)) else []) ++ ex) ∧
  ∀ p m i, i < 2 ^ 19 → m < 16 → p ≠ pGLEAN → ¬ (64 ≤ u ∧ p = pACQG ∧ m = 0 ∧ ∃ w ∈ ws, i = 16 * (u - 64) + w) →
    t.tab p m i = s.tab p m i

/-- As `keepsButRing`, with no record written to a ring. -/
def State.keepsButUnit (s t : State) (u : Nat) (ws : List Nat) (ex : List (Nat × Nat)) : Prop :=
  s.keepsButRing t u ws ex ∧ ∀ m i, i < 2 ^ 19 → m < 16 → t.tab pGLEAN m i = s.tab pGLEAN m i

/-- Octet `u` after its unit gave its ADCs up at time base `tc`: an operation that holds one has it again
(R290, R313). -/
def State.freedAdcs (s : State) (u tc : Nat) : Octet :=
  let o := s.oct u
  let m := s.acqF u 7 0
  { o with
    adc := (List.range 8).map (fun a => if nbit m a then (s.mseHolds u a).toNat else o.adc.getD a 0)
    span := (List.range 8).map (fun a =>
      let x := o.span.getD a (0, 0)
      if nbit m a then (x.1, max x.1 tc) else x) }

/-- The window of unit `u` closes at `tc` by `code`, its ring having room: its record is written and counted, WINNO counts
the window, and the unit goes to `next`; it gives up its ADCs unless it watches a level again (R313, R318, R325). -/
def State.closesWindow (s t : State) (u tc code next : Nat) : Prop :=
  let v := s.acq u
  let ws := s.windowRecord u tc code
  let free := v.heldAdc && !(s.acqF u 21 19 == 3 && next == 1)
  t.acqSt u = next ∧ fld (t.acqW u 14) 21 10 = (v.closed + 1) % 4096 ∧
  t.acq u = { v with wr := (v.wr + ws.length) % (4 * s.ringSize u), heldAdc := v.heldAdc && !free, closed := v.closed + 1
                     tclose := none, prevClose := some tc, chg := [], reds := [], n := 0, bands := none, gap := false
                     level := none, closes := v.closes.filter (fun x => decide (tc < x)) } ∧
  (∀ x, x ≠ u → t.acq x = s.acq x) ∧
  t.oct u = (if free then s.freedAdcs u tc else s.oct u) ∧ (∀ c, c ≠ u → t.oct c = s.oct c) ∧
  t.recs = s.recs ++ [{ kind := 1, unit := u, words := ws, place := v.wr : Rec }] ∧ s.ringHolds t u ws ∧
  t.reg pACQG ACQG_RECS = s.reg pACQG ACQG_RECS + 1

end Sys2Proof.Machine
end

