-- ==== Sys2Proof/Certificates/Slice0/Obligations.lean ====
section
/-!
DEFINITION. The statements for the provers: what the commands of the device do, what they leave alone, and what every
step keeps.
-/
open Sys2Proof Sys2Proof.Machine

/-! ### The queue, reset, and what every step keeps -/

/-- A step executes the command at the front of the queue with the rest of the queue. -/
def Obligations.StepExecutesTheFrontCommand : Prop :=
  ∀ (s : State) (c : Instr) (cs : List Instr), s.pending = c :: cs → step s = exec c { s with pending := cs }

/-- On an empty queue a step is one cycle of the timing clock while the PLL is locked, the time base counting 625 ps
modulo 2^64, and nothing while it is not: what an empty queue does is the model's choice (log entry 2), what a cycle
does is R241. -/
def Obligations.IdleStepIsOneTimingCycle : Prop :=
  ∀ s : State, s.pending = [] →
    (s.bitR pTBASE TBASE_STAT 23 = true →
      ∃ t, step s = .next t ∧ t.time.edge = s.time.edge + 1 ∧ t.time.base = (s.time.base + 625) % 2 ^ 64 ∧
        t = { s with time := { s.time with edge := t.time.edge, base := t.time.base } }) ∧
    (s.bitR pTBASE TBASE_STAT 23 = false → step s = .next s)

/-- R6, R78, R129: Right after power-on the device is in COLD, no command waits, every register and every table word reads
its Reset column, every bank word reads zero, and nothing is raised or held. That it has PORST_N low then is the
model's reading (log entry 6). The state after reset holds its registers, tables and memories in canonical form. -/
def Obligations.ResetLeavesEveryRegisterAtItsResetColumn : Prop :=
  (State.reset.run.st = .cold ∧ State.reset.pending = [] ∧ State.reset.pins.porstN = false ∧
   (∀ k page off, kindOf page = some k → off < 256 → State.reset.reg page off = regReset k off) ∧
   (∀ k page tsel idx, kindOf page = some k → tsel < 16 → idx < 2 ^ 19 →
     State.reset.tab page tsel idx = tabReset k tsel idx) ∧
   (∀ b row w, State.reset.bankMem.get zeroDefault (bkey b row w) = 0) ∧
   State.reset.watch.raised = [] ∧ State.reset.recs = [] ∧ State.reset.stile = []) ∧
  (State.reset.regsWf = true ∧ State.reset.memWf = true)

/-- Every step keeps the memories (banks, external memory, flash) in canonical form. -/
def Obligations.StepKeepsMemoriesCanonical : Prop :=
  ∀ s t : State, s.memWf = true → step s = .next t → t.memWf = true

/-- Every step keeps the registers and tables in canonical form. -/
def Obligations.StepKeepsRegistersCanonical : Prop :=
  ∀ s t : State, s.regsWf = true → step s = .next t → t.regsWf = true

/-- Every command completes: `exec` answers a next state for each of the 234 commands, on all operands and in every state,
and leaves the queue alone, so that no command of the device issues another; a step takes exactly the front command. -/
def Obligations.StepTakesExactlyTheFrontCommand : Prop :=
  (∀ (s : State) (c : Instr), ∃ t, exec c s = .next t ∧ t.pending = s.pending) ∧
  (∀ (s : State) (c : Instr) (cs : List Instr), s.pending = c :: cs → ∃ t, step s = .next t ∧ t.pending = cs)

/-! ### Accesses and header registers -/

/-- R10, R63, R74, R78: a write that the run state refuses, or that names a page that is not implemented, answers its
error code and changes nothing but the record of the rejection: PG_ERR of the page, OVF telling that an earlier record
stood, or the first record of TOP_BADPG; in COLD nothing at all. -/
def Obligations.RejectedWriteOnlyRecordsItself : Prop :=
  ∀ (s : State) (ini : Ini) (addr : Nat) (val : Word) (e : Err),
    (s.gate_ ini (addr / 256 % 4096) true = some e ∨
      (s.gate_ ini (addr / 256 % 4096) true = none ∧ kindOf (addr / 256 % 4096) = none ∧ e = .badAddr)) →
    ∃ t, exec (.registerWrite ini addr val) s = .next t ∧ t.reply = ⟨e.code, []⟩ ∧
      t = { s with regs := t.regs, reply := t.reply } ∧
      (s.run.st = .cold → t.regs = s.regs) ∧
      (s.run.st ≠ .cold → (kindOf (addr / 256 % 4096)).isSome = true →
        s.keepsRegs t [(addr / 256 % 4096, PG_ERR)] ∧
        t.reg (addr / 256 % 4096) PG_ERR = word (e.code * 2 ^ 16 + ini * 2 ^ 14 +
          (if bit (s.reg (addr / 256 % 4096) PG_ERR) 13 = true ∨ fld (s.reg (addr / 256 % 4096) PG_ERR) 23 16 ≠ 0
            then 2 ^ 13 else 0) + addr % 256)) ∧
      (s.run.st ≠ .cold → kindOf (addr / 256 % 4096) = none → e = .badAddr →
        s.keepsRegs t [(pTOP, TOP_BADPG)] ∧
        (s.bitR pTOP TOP_BADPG 23 = false →
          t.reg pTOP TOP_BADPG = word (2 ^ 23 + ini * 2 ^ 20 + addr / 256 % 4096)) ∧
        (s.bitR pTOP TOP_BADPG 23 = true →
          t.reg pTOP TOP_BADPG = putFld (s.reg pTOP TOP_BADPG) 22 22 1))

/-- R20, R21, R67, R68: a read of one word of a register group of 48 or 72 bits. The lowest word captures all of them for
that initiator; another word answers from the capture where one is held, the highest releasing it, and the live word
where none is held. A register of a single word answers its word. A page of the timing domain answers as it stands
when the access leaves its register stile. (REEVE_UTIL holds a free value and is not considered here.) Commands whose
completion it states: snapshotRead. -/
def Obligations.RegisterReadsCaptureAndReleaseSnapshots : Prop :=
  ∀ (s : State) (ini : Ini) (page off : Nat) (k : Kind) (r : RegInfo),
    page < 4096 → off < 256 → kindOf page = some k → regInfo k off = some r → off ≤ lastOff k →
    off ≠ TBL_DATA → (k, off) ≠ (.reeve, REEVE_UTIL) → s.gate_ ini page false = none →
    (r.n = 1 → ∃ t u, s.reaches u page ∧ exec (.snapshotRead ini (page * 256 + off)) s = .next t ∧
      t.reply = ⟨0, [u.readReg ini page k off]⟩ ∧
        t = { s with rot := t.rot, reply := t.reply, fresh := u.fresh,
                     time := (u.ticks (if timingPage page then 3 else 0)).time }) ∧
    (r.n ≠ 1 → off = r.base → ∃ t u, s.reaches u page ∧ exec (.snapshotRead ini (page * 256 + off)) s = .next t ∧
      t.reply = ⟨0, [u.readReg ini page k off]⟩ ∧
      t.snaps = s.snaps.filter (fun x => !(x.ini == ini.val && x.page == page && x.place == 0 && x.base == off)) ++
        [{ ini := ini, page := page, place := 0, base := off,
           words := (List.range r.n).map (fun i => u.readReg ini page k (off + i)) : Snap }] ∧
        t = { s with rot := t.rot, reply := t.reply, snaps := t.snaps, fresh := u.fresh,
                     time := (u.ticks (if timingPage page then 3 else 0)).time }) ∧
    (off ≠ r.base → ∀ x, s.snaps.find?
        (fun x => x.ini == ini.val && x.page == page && x.place == 0 && x.base == r.base) = some x →
      ∃ t u, s.reaches u page ∧ exec (.snapshotRead ini (page * 256 + off)) s = .next t ∧
        t.reply = ⟨0, [x.words.getD (off - r.base) 0]⟩ ∧
        t.snaps = (if off + 1 = r.base + r.n then
            s.snaps.filter (fun x => !(x.ini == ini.val && x.page == page && x.place == 0 && x.base == r.base))
          else s.snaps) ∧
        t = { s with rot := t.rot, reply := t.reply, snaps := t.snaps, fresh := u.fresh,
                     time := (u.ticks (if timingPage page then 3 else 0)).time }) ∧
    (off ≠ r.base → s.snaps.find?
        (fun x => x.ini == ini.val && x.page == page && x.place == 0 && x.base == r.base) = none →
      ∃ t u, s.reaches u page ∧ exec (.snapshotRead ini (page * 256 + off)) s = .next t ∧
        t.reply = ⟨0, [u.readReg ini page k off]⟩ ∧
        t = { s with rot := t.rot, reply := t.reply, fresh := u.fresh,
                     time := (u.ticks (if timingPage page then 3 else 0)).time })

/-- R8, R72, R77, R80: accepted writes. STORE_INJSEL stores its writable bits and ignores the others; a word of the
Watchhouse's table written through TBL_DATA takes the value, and INDEX advances unless HOLD is 1, as it does for a
word read; CHIPNO written by the Reeve is stored and in effect at once, and written by another waits for its reply.
The journal is not kept here (log entry 8 and the statements of the Daybook say what it adds). Commands whose
completion it states: registerWrite, tblDataAccess, chipnoWrite. -/
def Obligations.AcceptedAccessesActAsTheirRegisters : Prop :=
  ∀ (s : State) (ini : Ini), s.day.active = false → ¬ (s.run.st = .start ∧ s.run.warm = true ∧ s.run.step ≤ 7) →
    (∀ val : Word, s.gate_ ini pSTORE true = none →
      ∃ t, exec (.registerWrite ini (pSTORE * 256 + STORE_INJSEL) val) s = .next t ∧ s.wrote t pSTORE [STORE_INJSEL] ∧
        t.reg pSTORE STORE_INJSEL = (s.reg pSTORE STORE_INJSEL &&& 0xFFFF80) ||| (val &&& 0x00007F) ∧
        t = { s with regs := t.regs, rot := t.rot, reply := t.reply }) ∧
    (∀ idx, idx < 32 → idx % 4 = 0 → s.window ini pWATCH = (1, (s.window ini pWATCH).2.1, idx) →
      (∀ val : Word, s.gate_ ini pWATCH true = none → fld val 21 0 = 0 →
        ∃ t, exec (.tblDataAccess ini pWATCH (some val)) s = .next t ∧ s.wrote t pWATCH [] ∧ t.tab pWATCH 1 idx = val ∧
          s.keepsTabs t pWATCH 1 idx 1 ∧
          t.window ini pWATCH = (1, (s.window ini pWATCH).2.1, if (s.window ini pWATCH).2.1 then idx else idx + 1) ∧
          t = { s with regs := t.regs, tabs := t.tabs, tblAddr := t.tblAddr, waits := t.waits, rot := t.rot,
                       reply := t.reply }) ∧
      (s.gate_ ini pWATCH false = none →
        ∃ t, exec (.tblDataAccess ini pWATCH none) s = .next t ∧ t.reply = ⟨0, [s.readTab pWATCH .watch 1 idx]⟩ ∧
          t.window ini pWATCH = (1, (s.window ini pWATCH).2.1, if (s.window ini pWATCH).2.1 then idx else idx + 1) ∧
          t = { s with tblAddr := t.tblAddr, rot := t.rot, reply := t.reply })) ∧
    (∀ val : Word, s.gate_ ini pTOP true = none →
      ∃ t, exec (.chipnoWrite ini val) s = .next t ∧
        t.reply = ⟨0, []⟩ ∧ t.reg pTOP PG_SEQ = s.reg pTOP PG_SEQ + 1 ∧
        fld (t.reg pTOP TOP_CHIPNO) 9 0 = fld val 9 0 ∧
        s.wrote t pTOP [TOP_CHIPNO] ∧
        t.abt = (if ini.val = 3 then { s.abt with chip := fld val 9 0 }
          else { s.abt with settles := s.abt.settles ++ [(ini.val, .chip (fld val 9 0))] }) ∧
        t = { s with regs := t.regs, rot := t.rot, reply := t.reply, abt := t.abt })

/-- R74, R76, R252, R74, R75, R214, R356, R370: PG_LOCK opens for the initiator where the lock is closed and the run state
allows it, which it then owns; the owner closes it; PG_ERR.CLR clears CODE, INIT and OFFSET and leaves OVF; PG_INJ
takes the bits that its page assigns. Nothing else changes but PG_SEQ, the rotation and the reply. On page TBASE while
the PLL is locked, where the two counters are always compared (log entry 32), PG_INJ bit 0 is used up at once and
raises class H TBASE_CMP, marked as injected. HEDGE_REQ of a site sets its bit and raises class D HOST on the site,
with the initiator as its detail; of a stream it enters the command stile. PG_FORCE of page LINK in TEST sets the bit
and raises the source once, marked as forced; while the bit is 1, nothing further; a bit that the page does not assign
does nothing. Commands whose completion it states: pgLockOpen, pgLockClose, pgErrClr, hedgeReq, pgForce, pgInj. -/
def Obligations.HeaderRegistersHedgeAndForce : Prop :=
  (∀ (s : State) (ini : Ini) (page : Nat) (k : Kind), page < 4096 → kindOf page = some k → s.gate_ ini page true = none →
     ((s.run.st = .start ∨ s.run.st = .ready ∨ s.run.st = .recovery ∨ s.run.st = .test) → s.bitR page PG_LOCK 0 = false →
       ∃ t, exec (.pgLockOpen ini page) s = .next t ∧ s.wrote t page [PG_LOCK] ∧
         t.reg page PG_LOCK = word (4 * ini + 1) ∧ s.passes t page ∧
         t = { s with regs := t.regs, rot := t.rot, reply := t.reply, time := t.time, fresh := t.fresh }) ∧
     (s.bitR page PG_LOCK 0 = true → s.fldR page PG_LOCK 3 2 = ini →
       ∃ t, exec (.pgLockClose ini page) s = .next t ∧ s.wrote t page [PG_LOCK] ∧ t.reg page PG_LOCK = 0 ∧
         s.passes t page ∧
         t = { s with regs := t.regs, rot := t.rot, reply := t.reply, time := t.time, fresh := t.fresh }) ∧
     (∃ t, exec (.pgErrClr ini page) s = .next t ∧ s.wrote t page [PG_ERR] ∧
       t.reg page PG_ERR = s.reg page PG_ERR &&& 0x002000 ∧
       s.passes t page ∧
         t = { s with regs := t.regs, rot := t.rot, reply := t.reply, time := t.time, fresh := t.fresh }) ∧
     (∀ bits : Word, s.run.st ≠ .dead →
       let inj := s.reg page PG_INJ ||| (bits &&& injMask k)
       let met := page = pTBASE ∧ s.locked = true ∧ bit inj 0 = true
       (¬ met → ∃ t, exec (.pgInj ini page bits) s = .next t ∧ s.wrote t page [PG_INJ] ∧ t.reg page PG_INJ = inj ∧
         s.passes t page ∧
         t = { s with regs := t.regs, rot := t.rot, reply := t.reply, time := t.time, fresh := t.fresh }) ∧
       (met → ∃ t, exec (.pgInj ini page bits) s = .next t ∧ s.wrote t page [PG_INJ] ∧ t.reg page PG_INJ = putBit inj 0 false ∧
         t.watch = { s.watch with raised := s.watch.raised ++ [{ cls := .h, code := 0x073, page := pTBASE, inj := true : Raised }] } ∧
         s.passes t page ∧
         t = { s with regs := t.regs, rot := t.rot, reply := t.reply, watch := t.watch, time := t.time, fresh := t.fresh }))) ∧
  (∀ (s : State) (ini : Ini),
     (∀ n : SiteN, s.gate_ ini (pSITE n) true = none → s.bitR (pSITE n) PG_CTL 22 = false →
       ∃ t, exec (.hedgeReq ini (pSITE n)) s = .next t ∧ s.wrote t (pSITE n) [PG_CTL] ∧
         t.reg (pSITE n) PG_CTL = putFld (s.reg (pSITE n) PG_CTL) 22 22 1 ∧
         t.watch = { s.watch with raised := s.watch.raised ++
           [{ cls := .d, code := 0x020, page := pSITE n, detail := ini, unit := .site n : Raised }] } ∧
         t = { s with regs := t.regs, rot := t.rot, reply := t.reply, watch := t.watch }) ∧
     (∀ k : Str, s.gate_ ini (pSTREAM k) true = none → s.bitR (pSTREAM k) PG_CTL 22 = false →
       ∃ t c, exec (.hedgeReq ini (pSTREAM k)) s = .next t ∧ s.wrote t (pSTREAM k) [PG_CTL] ∧
         t.reg (pSTREAM k) PG_CTL = putFld (s.reg (pSTREAM k) PG_CTL) 22 22 1 ∧
         t.stile = s.stile ++ [c] ∧ c.op = .hedge k ini ∧
         t = { s with regs := t.regs, rot := t.rot, reply := t.reply, stile := t.stile, fresh := t.fresh }) ∧
     (∀ (port : Port) (b : Nat), s.gate_ ini (pLINK port) true = none → s.run.st = .test → b < 24 →
       (b < 2 → s.bitR (pLINK port) PG_FORCE b = false →
         ∃ t, exec (.pgForce ini (pLINK port) (word (2 ^ b))) s = .next t ∧ s.wrote t (pLINK port) [PG_FORCE] ∧
           t.reg (pLINK port) PG_FORCE = putFld (s.reg (pLINK port) PG_FORCE) b b 1 ∧
           t.watch = { s.watch with raised := s.watch.raised ++
             [{ cls := .n, code := 0x040 + b, page := pLINK port, fbit := some (pLINK port, b) : Raised }] } ∧
           t = { s with regs := t.regs, rot := t.rot, reply := t.reply, watch := t.watch }) ∧
       ((2 ≤ b ∨ s.bitR (pLINK port) PG_FORCE b = true) →
         ∃ t, exec (.pgForce ini (pLINK port) (word (2 ^ b))) s = .next t ∧ s.wrote t (pLINK port) [] ∧
           t = { s with regs := t.regs, rot := t.rot, reply := t.reply })))

/-! ### Counters and copies that a command register clears or takes -/

/-- R123, R124, R151, R218, R219, R310, R334, R375, R450, R451, R452, R150, R152, R153, R219, R347, R373: Each CLRCNT (and
CLRMAX of page SLIP), where the run state permits the write, clears exactly its page's counters. The commands that
clear or copy what is no register: CE and UE of every bank, WINS and EMPTY of every stream's refill, TRIPS of every
monitor, the conflict counters with CONFL_STAT and their copy, the slip counts' copy, and the counters and flags of
every Green consumer. Nothing else changes but PG_SEQ, the rotation and the reply. Commands whose completion it
states: linkClrcnt, abtClrcnt, storeClrcnt, dramClrcnt, refillClrcnt, snapall, conflClear, streamClrcnt, slipSnap,
clrmax, mseClrcnt, acqgClrcnt, clrflg, greenClrcnt, guardClrcnt, watchClrcnt, sermClrcnt, gateClrcnt, reeveClrcnt. -/
def Obligations.ClearAndCopyCommandsActOnTheirCounters : Prop :=
  (∀ (s : State) (ini : Ini),
     (∀ port : Port, s.gate_ ini (pLINK port) true = none →
       clears (.linkClrcnt ini port) (pLINK port) [LINK_RXOK, LINK_RXFCS, LINK_RXDROP, LINK_TXOK, LINK_FECC, LINK_FECU] s) ∧
     (s.gate_ ini pABT true = none →
       clears (.abtClrcnt ini) pABT [ABT_BADCRC, ABT_BADFRM, ABT_DUP, ABT_TWIN, ABT_GAPDROP, ABT_NOTME] s) ∧
     (s.gate_ ini pDRAM true = none →
       clears (.dramClrcnt ini) pDRAM [DRAM_LECC, DRAM_IECC_CE, DRAM_IECC_UE, DRAM_RETRY, DRAM_TRACK] s) ∧
     (∀ str : Str, s.gate_ ini (pSTREAM str) true = none →
       clears (.streamClrcnt ini str) (pSTREAM str) [STREAM_SQUASH, STREAM_HOLDS, STREAM_LATE] s) ∧
     (s.gate_ ini pSLIP true = none → clears (.clrmax ini) pSLIP [SLIP_MAXA, SLIP_MAXB, SLIP_MAXC, SLIP_MAXD] s) ∧
     (s.gate_ ini pMSE true = none → clears (.mseClrcnt ini) pMSE [MSE_CNT] s) ∧
     (s.gate_ ini pACQG true = none → clears (.acqgClrcnt ini) pACQG [ACQG_RECS] s) ∧
     (s.gate_ ini pWATCH true = none →
       clears (.watchClrcnt ini) pWATCH [WATCH_NREC, WATCH_NDROP, WATCH_LOST, WATCH_HEDGES] s) ∧
     (s.gate_ ini pREEVE true = none → clears (.reeveClrcnt ini) pREEVE [REEVE_RAMERR] s) ∧
     (s.gate_ ini pSERM true = none → clears (.sermClrcnt ini) pSERM [SERM_FWERR] s) ∧
     (s.gate_ ini pGATE true = none → clears (.gateClrcnt ini) pGATE [GATE_FRAMES, GATE_BAD, GATE_DUP, GATE_SKIP] s)) ∧
  (∀ (s : State) (ini : Ini),
     (s.gate_ ini pSTORE true = none →
       ∃ t, exec (.storeClrcnt ini) s = .next t ∧ s.wrote t pSTORE [] ∧
         (∀ b : Nat, t.bank b = if b < 128 then { s.bank b with ce := 0, ue := 0 } else s.bank b) ∧
         t = { s with regs := t.regs, rot := t.rot, reply := t.reply, banks := t.banks }) ∧
     (s.gate_ ini pREFILL true = none →
       ∃ t, exec (.refillClrcnt ini) s = .next t ∧ s.wrote t pREFILL [] ∧
         (∀ k : Nat, t.rfl_ k = if k < 4 then { s.rfl_ k with wins := 0, empty := 0 } else s.rfl_ k) ∧
         t = { s with regs := t.regs, rot := t.rot, reply := t.reply, refill := t.refill }) ∧
     (s.gate_ ini pGUARD true = none →
       ∃ t, exec (.guardClrcnt ini) s = .next t ∧ s.wrote t pGUARD [] ∧
         (∀ m : Nat, t.mon m = { s.mon m with trips := 0 }) ∧
         t = { s with regs := t.regs, rot := t.rot, reply := t.reply, mons := t.mons }) ∧
     (s.gate_ ini pCONFL true = none →
       (∃ t, exec (.conflClear ini) s = .next t ∧ s.wrote t pCONFL [CONFL_STAT] ∧ t.reg pCONFL CONFL_STAT = 0 ∧
         s.keepsTabs t pCONFL 0 0 128 ∧ (∀ i < 128, t.tab pCONFL 0 i = 0) ∧
         t = { s with regs := t.regs, rot := t.rot, reply := t.reply, tabs := t.tabs }) ∧
       (∃ t, exec (.snapall ini false) s = .next t ∧ s.wrote t pCONFL [] ∧ s.keepsTabs t pCONFL 1 0 128 ∧
         (∀ i < 128, t.tab pCONFL 1 i = s.tab pCONFL 0 i) ∧
         t = { s with regs := t.regs, rot := t.rot, reply := t.reply, tabs := t.tabs }) ∧
       (∃ t, exec (.snapall ini true) s = .next t ∧ s.wrote t pCONFL [CONFL_STAT] ∧ t.reg pCONFL CONFL_STAT = 0 ∧
         (∀ i < 128, t.tab pCONFL 1 i = s.tab pCONFL 0 i ∧ t.tab pCONFL 0 i = 0) ∧
         t = { s with regs := t.regs, rot := t.rot, reply := t.reply, tabs := t.tabs })) ∧
     (s.gate_ ini pSLIP true = none →
       ∃ t, exec (.slipSnap ini) s = .next t ∧ s.wrote t pSLIP [] ∧ s.keepsTabs t pSLIP 1 0 64 ∧
         (∀ n < 64, t.tab pSLIP 1 n = s.slipWord n) ∧
         t = { s with regs := t.regs, rot := t.rot, reply := t.reply, tabs := t.tabs }) ∧
     (s.gate_ ini pGREEN true = none →
       (∃ t, exec (.greenClrcnt ini) s = .next t ∧ s.wrote t pGREEN [] ∧ s.keepsTabs t pGREEN 2 0 64 ∧
         (∀ c < 64, t.tab pGREEN 2 c = s.tab pGREEN 2 c &&& 0xFF0000) ∧
         t = { s with regs := t.regs, rot := t.rot, reply := t.reply, tabs := t.tabs }) ∧
       (∃ t, exec (.clrflg ini) s = .next t ∧ s.wrote t pGREEN [] ∧ s.keepsTabs t pGREEN 2 0 64 ∧
         (∀ c < 64, t.tab pGREEN 2 c = s.tab pGREEN 2 c &&& 0x20FFFF) ∧
         t = { s with regs := t.regs, rot := t.rot, reply := t.reply, tabs := t.tabs })))

/-! ### Power, run states, starts -/

/-- R48, R58, R59, R60, R61, R367, R78 (Table 3.3), R222 to R224, R244, R252, R270, R357, R386: A low pulse on PORST_N of
10 us or more returns the device to COLD and keeps only what flash, fuses and pins hold (beside the model's own
records: the queue, the reply, the frames sent, the count of free values, the last start's surroundings, and the
clock's edge count); one below 1 us does nothing; one between does one or the other. VCORE below 0.3 V clears the
class G latch cell, and is a power cycle (log entry 46). TRST_N low holds the test access port in Test-Logic-Reset. An
instruction that becomes current isolates every channel if it is EXTEST, CLAMP or HIGHZ, and raises class H BSCAN then
if the run state is RUN; bits shifted through the register that it selects come out after what that register holds,
the IDCODE, the bypass register's 0, or the 43 boundary cells, and these take the bits that stand in them then. Loss
of lock isolates every channel and ends every PMU limit, ends the tones and a borrowing of the gleaner, takes the
rails off, holds BELLO low and discards pending Bell pulses, and, as the model has it, a pending SEND (log entry 49);
it raises class G PLL_UNLOCK in RUN, and class H elsewhere but in COLD. REFOK goes with the REFCLK edges. A PLL that
is not locked loses nothing else. Commands whose completion it states: porstReset, gLatchClear, tapLoad, pllUnlock. -/
def Obligations.ResetBoundaryScanAndLossOfLock : Prop :=
  (∀ s : State,
     let cold (u : State) (p : Pins) : State :=
       { State.reset with
         pending := u.pending, reply := u.reply, fresh := u.fresh, tx := u.tx, env := u.env, pins := p, fuses := u.fuses,
         flash := u.flash, fmap := u.fmap, time := { edge := u.time.edge },
         chest := { imgA := u.chest.imgA, imgB := u.chest.imgB, order := u.chest.order },
         day := { log := u.day.log, area := u.day.area } }
     (∀ ps, 10000000 ≤ ps → exec (.porstReset ps) s = .next (cold s { s.pins with porstN := false })) ∧
     (∀ ps, ps < 1000000 → exec (.porstReset ps) s = .next s) ∧
     (∀ ps, 1000000 ≤ ps → ps < 10000000 →
       exec (.porstReset ps) s = .next { s with fresh := s.fresh + 1 } ∨
       exec (.porstReset ps) s = .next (cold { s with fresh := s.fresh + 1 } { s.pins with porstN := false })) ∧
     exec .gLatchClear s = .next (cold s { s.pins with porstN := false, gLatch := false }) ∧
     (∀ (code : Byte) (tdi : List Bool),
       exec (.tapLoad false code tdi) s = .next { s with pins := { s.pins with trstN := false, tap := 0x01 } }) ∧
     (∀ (code : Byte) (tdi : List Bool),
       let iso : Prop := code = 0x00 ∨ code = 0x04 ∨ code = 0x05
       let n := if code = 0x00 ∨ code = 0x02 then 43 else if code = 0x01 then 32 else 1
       ∃ (t : State) (cap : List Bool), exec (.tapLoad true code tdi) s = .next t ∧
         cap.length = n ∧ (code = 0x01 → cap = (List.range 32).map (Nat.testBit 0x2512BBBD)) ∧ (n = 1 → cap = [false]) ∧
         t.pins = { s.pins with trstN := true, tap := code, cells := t.pins.cells
                                tdo := if tdi = [] then s.pins.tdo else (cap ++ tdi).take tdi.length } ∧
         (∀ i < 43, nbit t.pins.cells i = if tdi ≠ [] ∧ n = 43 then ((cap ++ tdi).drop tdi.length).getD i false
           else nbit s.pins.cells i) ∧
         (∀ c, t.chan c = if iso then { s.chan c with edges := [], drv := 2 } else s.chan c) ∧
         (∀ o < 64, t.oct o = (if iso then { s.oct o with lim := List.replicate 8 0 } else s.oct o) ∧
           t.reg (pOCTPE o) OCTPE_STAT =
             if iso then putFld (s.reg (pOCTPE o) OCTPE_STAT) 15 8 0 else s.reg (pOCTPE o) OCTPE_STAT) ∧
         s.keepsRegs t ((List.range 64).map (fun o => (pOCTPE o, OCTPE_STAT))) ∧
         t.watch = { s.watch with raised := s.watch.raised ++
           (if iso ∧ s.run.st = .run then [{ cls := .h, code := 0x0C1, page := pTOP : Raised }] else []) } ∧
         t = { s with pins := t.pins, chans := t.chans, octets := t.octets, regs := t.regs, watch := t.watch,
                      fresh := t.fresh })) ∧
  (∀ (s : State) (noRef : Bool),
     let lent : Prop := ∃ c task left, s.glean.borrow = some (.chan c task left)
     (s.locked = false → ∃ t, exec (.pllUnlock noRef) s = .next t ∧
       t.reg pTBASE TBASE_STAT = (if noRef then putFld (s.reg pTBASE TBASE_STAT) 22 22 0 else s.reg pTBASE TBASE_STAT) ∧
       s.keepsRegs t [(pTBASE, TBASE_STAT)] ∧ t = { s with regs := t.regs }) ∧
     (s.locked = true →
       ∃ t, exec (.pllUnlock noRef) s = .next t ∧ t.bitR pTBASE TBASE_STAT 23 = false ∧ t.bitR pTBASE TBASE_STAT 21 = false ∧
         t.bitR pTBASE TBASE_STAT 22 = (s.bitR pTBASE TBASE_STAT 22 && !noRef) ∧
         t.run = { s.run with safe := true } ∧ (∀ c, t.chan c = { s.chan c with edges := [], drv := 2 }) ∧
         (∀ o < 64, t.bitR (pOCTPE o) OCTPE_RAILCFG 8 = false ∧ t.bitR (pOCTPE o) OCTPE_RAILSTAT 22 = false ∧
           t.fldR (pOCTPE o) OCTPE_STAT 15 8 = 0 ∧
           t.oct o = { s.oct o with ramp := none, tone := { (s.oct o).tone with en := false }, lim := List.replicate 8 0 }) ∧
         t.time = { s.time with bells := [], gen := none, lastHigh := none, send := none
                                bello := (s.time.bello.filter (fun p => decide (p.rise ≤ s.time.edge))).map (fun p =>
                                  if s.time.edge < p.rise + 16 * p.width ∧ p.cut = none then
                                    { p with cut := some s.time.edge } else p) } ∧
         (lent → t.glean = { s.glean with borrow := none } ∧ t.reg pGLEAN GLEAN_ABORT = s.reg pGLEAN GLEAN_ABORT + 1) ∧
         (¬ lent → t.glean = s.glean ∧ t.reg pGLEAN GLEAN_ABORT = s.reg pGLEAN GLEAN_ABORT) ∧
         t.watch = { s.watch with raised := s.watch.raised ++
           (if s.run.st = .cold then [] else if s.run.st = .run then [{ cls := .g, code := 0x071, page := pTBASE : Raised }]
            else [{ cls := .h, code := 0x070, page := pTBASE : Raised }]) } ∧
         (∀ p o, o < 256 → (p, o) ≠ (pTBASE, TBASE_STAT) → (p, o) ≠ (pGLEAN, GLEAN_ABORT) →
           (∀ c < 64, p ≠ pOCTPE c ∨ (o ≠ OCTPE_RAILCFG ∧ o ≠ OCTPE_RAILSTAT ∧ o ≠ OCTPE_STAT)) → t.reg p o = s.reg p o) ∧
         t = { s with regs := t.regs, run := t.run, chans := t.chans, octets := t.octets, time := t.time, watch := t.watch
                      glean := t.glean }))

/-- R51, R52, R54, R357, R412, R449: PWRWARN_N low for less than 200 ns does nothing, and for 200 ns to 1 us does nothing
or what 1 us does. Recognised in COLD or DEAD it only stands low; in START the start waits; in any other run state
class H PWRWARN is latched and the device waits in HALTED: no stream runs, no channel is driven, the update in
progress, if one is, ends aborted, and where the journal is kept and the 4 ms suffice every queued record and the SEAL
of the open group stand in flash. A fault that waits for the Watchhouse is not considered here. Commands whose
completion it states: pwrwarn. -/
def Obligations.PowerWarningRaisesClassHAndSeals : Prop :=
  ∀ (s : State) (lowPs : Nat) (done : Bool),
    (lowPs < 200000 → exec (.pwrwarn lowPs done) s = .next s) ∧
    (200000 ≤ lowPs → lowPs < 1000000 → ∃ d, (d = 0 ∨ d = 1000000) ∧
      exec (.pwrwarn lowPs done) s = exec (.pwrwarn d done) { s with fresh := s.fresh + 1 }) ∧
    (1000000 ≤ lowPs →
      (s.run.st = .cold ∨ s.run.st = .dead →
        exec (.pwrwarn lowPs done) s = .next { s with pins := { s.pins with pwrwarnN := false } }) ∧
      (s.run.st = .start →
        exec (.pwrwarn lowPs done) s =
          .next { s with pins := { s.pins with pwrwarnN := false }, run := { s.run with waiting := true } }) ∧
      (s.run.st ≠ .cold → s.run.st ≠ .dead → s.run.st ≠ .start → s.watch.raised = [] →
        ∃ t, exec (.pwrwarn lowPs done) s = .next t ∧ t.pins = { s.pins with pwrwarnN := false } ∧
          t.run.st = .halted ∧ t.run.safe = true ∧ t.bitR pWATCH WATCH_STAT 22 = true ∧
          (s.fldR pTOP PG_FLT 23 21 = 0 → t.fldR pTOP PG_FLT 23 21 = 3 ∧ t.fldR pTOP PG_FLT 11 0 = 0x0C0) ∧
          (∀ k < 4, t.strBusy k = false) ∧ (∀ c, (t.chan c).edges = [] ∧ (t.chan c).drv = 2) ∧
          t.fldR pUPD UPD_STAT 23 22 =
            (if s.fldR pUPD UPD_STAT 23 22 = 3 then 3 else 0) ∧
          (s.day.active = true → done = true → t.day.queue = [] ∧ t.day.group = []) ∧ t.fuses = s.fuses))

/-- R46, R48, R54, R80, R395, R397, R407: starts. PORST_N rising samples the straps and begins the cold start, which waits
while PWRWARN_N is low and then begins when it rises, as does a start that PWRWARN_N interrupted, without sampling the
straps again. TOP_CMD WARM_START (from HALTED or READY) and LEAVE_TEST (from TEST) begin a warm start. A start stays
in START only while it waits for PWRWARN_N. Where nothing fails that raises class H or G (the fuses and no class G
latch, the banks, the PLL, the external memory, the firmware or its other area, the microcode ROM, the sensors) and
PWRWARN_N stays high, it ends in READY with the PLL locked and every stream IDLE; a warm start leaves no class H
latched. Commands whose completion it states: coldStart, pwrwarnRise, warmStart, leaveTest, pwrwarnNRiseInCold. -/
def Obligations.StartsBeginAsTheirCauseSays : Prop :=
  ∀ (s : State) (env : StartEnv),
    let begun (t : State) : Prop := t.env = some env ∧ t.fuses = s.fuses ∧ (t.run.st = .start → t.run.waiting = true)
    let fair : Prop := env.pll = true ∧ env.romOk = true ∧ env.temps = [] ∧ env.warnAt = none ∧ env.dram.fitted0 = true ∧
      env.dram.fitted1 = true ∧ env.dram.dens0 = env.dram.dens1 ∧ 1 ≤ env.dram.dens0 ∧ env.dram.dens0 ≤ 5 ∧
      env.dram.ranks0 = env.dram.ranks1 ∧ 1 ≤ env.dram.ranks0 ∧ env.dram.ranks0 ≤ 2 ∧ env.dram.best0.isSome = true ∧
      env.dram.best1.isSome = true
    let ready (t : State) : Prop := t.run.st = .ready ∧ t.locked = true ∧ t.run.safe = false ∧ (∀ k < 4, t.strSt k = sIDLE) ∧
      t.bitR pWATCH WATCH_STAT 22 = false
    let coldFair : Prop := fair ∧ (env.fwOk = true ∨ env.fwOtherOk = true) ∧ env.badBanks = [] ∧ s.fuses.ok = true ∧
      s.pins.gLatch = false
    (s.pins.porstN = false → s.pins.pwrwarnN = true →
      ∃ t, exec (.coldStart env) s = .next t ∧ begun t ∧ t.run.warm = false ∧ t.pins.porstN = true ∧
        t.pins.strap = s.pins.cid % 1024 ∧ (coldFair → ready t)) ∧
    (s.pins.porstN = false → s.pins.pwrwarnN = false →
      exec (.coldStart env) s = .next { s with pins := { s.pins with porstN := true, strap := s.pins.cid % 1024 } }) ∧
    (s.run.st = .start → s.run.waiting = true →
      ∃ t, exec (.pwrwarnRise env) s = .next t ∧ begun t ∧ t.run.warm = false ∧ t.pins.strap = s.pins.strap ∧
        (coldFair → ready t)) ∧
    (s.run.st = .cold → s.pins.porstN = true →
      ∃ t, exec (.pwrwarnNRiseInCold env) s = .next t ∧ begun t ∧ t.run.warm = false ∧ t.pins.strap = s.pins.strap ∧
        (coldFair → ready t)) ∧
    (¬ (s.run.st = .start ∧ s.run.waiting = true) → ¬ (s.run.st = .cold ∧ s.pins.porstN = true) →
      exec (.pwrwarnRise env) s = .next { s with pins := { s.pins with pwrwarnN := true } } ∧
      exec (.pwrwarnNRiseInCold env) s = .next { s with pins := { s.pins with pwrwarnN := true } }) ∧
    (∀ ini : Ini, s.gate_ ini pTOP true = none → s.run.st = .halted ∨ s.run.st = .ready → s.romOnly = false →
      ∃ t, exec (.warmStart ini env) s = .next t ∧ begun t ∧ t.run.warm = true ∧ t.pins.strap = s.pins.strap ∧
        t.reply = ⟨0, []⟩ ∧ (fair → s.watch.raised = [] → s.run.replayed = true → ready t)) ∧
    (∀ ini : Ini, s.gate_ ini pTOP true = none → s.run.st = .test →
      ∃ t, exec (.leaveTest ini env) s = .next t ∧ begun t ∧ t.run.warm = true ∧ t.pins.strap = s.pins.strap ∧
        t.reply = ⟨0, []⟩ ∧ (fair → s.watch.raised = [] → s.run.replayed = true → ready t))

/-- R78 (Table 3.3), R367, R401, R407 to R409: RECOVER takes HALTED to RECOVERY where the first class H source lets it,
RECOVERY_COMPLETE takes RECOVERY to READY with the class H latch, its first-source record and every PG_FLT of class H
clear and the journal's queue programmed, and ENTER_TEST takes READY to TEST; RECOVER and ENTER_TEST seal the open
group. Commands whose completion it states: recover, recoveryComplete, enterTest. -/
def Obligations.RecoveryAndTestChangeTheRunState : Prop :=
  ∀ (s : State) (ini : Ini),
    let closed (t : State) : Prop := t.day.group = [] ∧ t.day.lastRec = s.day.lastRec ∧
      (s.day.group = [] → t.day.queue = s.day.queue) ∧
      (s.day.group ≠ [] → ∃ r, t.day.queue = s.day.queue ++ [r] ∧ r.typ = 0x10 ∧ r.count = s.day.group.length)
    (s.gate_ ini pTOP true = none → s.run.st = .halted → s.run.inStart = false → s.romOnly = false → s.recoverable = true →
      ∃ t, exec (.recover ini) s = .next t ∧ s.wrote t pTOP [] ∧ t.run = { s.run with st := .recovery, prev := .halted } ∧
        closed t ∧ t = { s with regs := t.regs, rot := t.rot, reply := t.reply, run := t.run, day := t.day }) ∧
    (s.gate_ ini pTOP true = none → s.run.st = .ready →
      ∃ t, exec (.enterTest ini) s = .next t ∧ s.wrote t pTOP [] ∧ t.run = { s.run with st := .test, prev := .ready } ∧
        closed t ∧ t.day.testFrom = s.day.lastRec ∧
        t = { s with regs := t.regs, rot := t.rot, reply := t.reply, run := t.run, day := t.day }) ∧
    (s.run.st = .recovery →
      ∃ t, exec .recoveryComplete s = .next t ∧
        t.run = { s.run with st := .ready, prev := .recovery, safe := false, inStart := false } ∧
        t.bitR pWATCH WATCH_STAT 22 = false ∧ (∀ p, t.fldR p PG_FLT 23 21 ≠ 3) ∧
        (∀ i < 6, t.tab pWATCH 0 (12 + i) = 0) ∧ s.keepsTabs t pWATCH 0 12 6 ∧ t.day.queue = [] ∧
        (∀ p o, o < 256 → o ≠ PG_FLT → (p, o) ≠ (pWATCH, WATCH_STAT) → (p, o) ≠ (pDAY, PG_INJ) →
          t.reg p o = s.reg p o) ∧
        t = { s with regs := t.regs, tabs := t.tabs, run := t.run, day := t.day }) ∧
    (s.run.st ≠ .recovery → exec .recoveryComplete s = .next s)

/-! ### Ethernet ports -/

/-- R87, R90, R91, R123, R90, R91: A port that comes up shows BLOCK_LOCK and UP, whether it uses FEC as configured, and
sends one gratuitous ARP; one that loses block lock shows no more than a local and a remote fault, and raises
LINKDOWN; a high bit-error rate sets HIBER and raises its fault, and the port stays up (log entry 57); RETRAIN loses
block lock (log entry 14) and brings the link up again where it trains. A port that is up already does not come up
again; one that is not loses nothing. Nothing else changes. LINK_IP takes its value with its higher word, all 32 bits
together; an address that a host link or the Gate port writes waits for the reply, and one that the Reeve writes is in
effect at once, announced where it changes. A multicast, broadcast or zero address is refused with RANGE and changes
nothing but the record. The journal is not kept here. Commands whose completion it states: linkUp, linkdown, hiber,
linkIpWrite, retrain. -/
def Obligations.PortsAndAddressesChange : Prop :=
  (∀ (s : State) (ini : Ini) (port : Port),
     let up (u t : State) : Prop :=
       t.reg (pLINK port) LINK_STAT = word (2 ^ 23 + 2 ^ 22 +
         (if fld (s.reg (pLINK port) LINK_CFG) 23 22 = 1 ∧ s.bitR (pLINK port) LINK_CFG 20 = true then 2 ^ 21 else 0) +
         (if s.bitR (pLINK port) LINK_CFG 21 = true then 2 ^ 20 else 0)) ∧
       t.reg (pLINK port) LINK_TXOK = s.reg (pLINK port) LINK_TXOK + 1 ∧
       t.tx = u.tx ++ [⟨port, .arp (s.ipOf port) (s.macOf port)⟩]
     (s.run.st ≠ .cold → s.bitR (pLINK port) LINK_STAT 22 = false →
       ∃ t, exec (.linkUp port) s = .next t ∧ up s t ∧
         s.keepsRegs t [(pLINK port, LINK_STAT), (pLINK port, LINK_TXOK)] ∧ t = { s with regs := t.regs, tx := t.tx }) ∧
     (s.run.st = .cold ∨ s.bitR (pLINK port) LINK_STAT 22 = true → exec (.linkUp port) s = .next s) ∧
     (s.bitR (pLINK port) LINK_STAT 22 = true →
       (∀ lf rf : Bool, ∃ t, exec (.linkdown port lf rf) s = .next t ∧
         t.reg (pLINK port) LINK_STAT = word ((if rf then 2 ^ 18 else 0) + (if lf then 2 ^ 17 else 0)) ∧
         s.keepsRegs t [(pLINK port, LINK_STAT)] ∧
         t.watch = { s.watch with raised := s.watch.raised ++ [{ cls := .n, code := 0x040, page := pLINK port : Raised }] } ∧
         t = { s with regs := t.regs, watch := t.watch }) ∧
       (∃ t, exec (.hiber port) s = .next t ∧
         t.reg (pLINK port) LINK_STAT = putFld (s.reg (pLINK port) LINK_STAT) 19 19 1 ∧
         s.keepsRegs t [(pLINK port, LINK_STAT)] ∧
         t.watch = { s.watch with raised := s.watch.raised ++ [{ cls := .n, code := 0x041, page := pLINK port : Raised }] } ∧
         t = { s with regs := t.regs, watch := t.watch })) ∧
     (s.bitR (pLINK port) LINK_STAT 22 = false → (∀ lf rf, exec (.linkdown port lf rf) s = .next s) ∧
       exec (.hiber port) s = .next s) ∧
     (s.gate_ ini (pLINK port) true = none →
       (∃ t, exec (.retrain ini port true) s = .next t ∧ up s t ∧
         s.wrote t (pLINK port) [LINK_STAT, LINK_TXOK] ∧
         t.watch = { s.watch with raised := s.watch.raised ++ (if s.bitR (pLINK port) LINK_STAT 22 = true
           then [{ cls := .n, code := 0x040, page := pLINK port : Raised }] else []) } ∧
         t = { s with regs := t.regs, rot := t.rot, reply := t.reply, tx := t.tx, watch := t.watch }) ∧
       (∃ t, exec (.retrain ini port false) s = .next t ∧ s.wrote t (pLINK port) [LINK_STAT] ∧
         t.reg (pLINK port) LINK_STAT =
           (if s.bitR (pLINK port) LINK_STAT 22 = true then 0 else s.reg (pLINK port) LINK_STAT) ∧
         t.watch = { s.watch with raised := s.watch.raised ++ (if s.bitR (pLINK port) LINK_STAT 22 = true
           then [{ cls := .n, code := 0x040, page := pLINK port : Raised }] else []) } ∧
         t = { s with regs := t.regs, rot := t.rot, reply := t.reply, watch := t.watch }))) ∧
  (∀ (s : State) (ini : Ini) (port : Port) (lo hi : Word), s.gate_ ini (pLINK port) true = none → s.day.active = false →
     ¬ (s.run.st = .start ∧ s.run.warm = true ∧ s.run.step ≤ 7) →
     (badIp ((lo.toNat + 2 ^ 24 * hi.toNat) % 2 ^ 32) = false →
       ∃ t, exec (.linkIpWrite ini port lo hi) s = .next t ∧ t.reply = ⟨0, []⟩ ∧
         t.wideR (pLINK port) LINK_IP0 2 = (lo.toNat + 2 ^ 24 * hi.toNat) % 2 ^ 32 ∧
         (ini.val ≠ 3 → t.tx = s.tx ∧ t.abt = { s.abt with
           settles := s.abt.settles ++ [(ini.val, .ip port ((lo.toNat + 2 ^ 24 * hi.toNat) % 2 ^ 32))] }) ∧
         (ini.val = 3 → t.ipOf port = (lo.toNat + 2 ^ 24 * hi.toNat) % 2 ^ 32 ∧
           (s.portUp port = true → s.ipOf port ≠ (lo.toNat + 2 ^ 24 * hi.toNat) % 2 ^ 32 →
             t.tx = s.tx ++ [⟨port, .arp ((lo.toNat + 2 ^ 24 * hi.toNat) % 2 ^ 32) (s.macOf port)⟩]))) ∧
     (badIp ((lo.toNat + 2 ^ 24 * hi.toNat) % 2 ^ 32) = true →
       ∃ t, exec (.linkIpWrite ini port lo hi) s = .next t ∧ t.reply = ⟨Err.range.code, []⟩ ∧
         s.keepsRegs t [(pLINK port, PG_ERR)] ∧ t = { s with regs := t.regs, rot := t.rot, reply := t.reply }))

/-- R83, R88, R89, R91, R92, R123: a frame at a port that is up counts once: in LINK_RXFCS with a bad FCS, in LINK_RXDROP
where the MAC or the IPv4 checks discard it, else in LINK_RXOK, and where FEC is active its blocks are counted; PG_INJ
once inverts the FCS check; at a port that is not up, nothing. An ARP request for the port's address, and an ICMP echo
request whose reply fits, are answered to their sender, with the TTL and DSCP of LINK_IPOPT and no option; others are
not. Commands whose completion it states: frameReceive, arpRequest, icmpEchoRequest. -/
def Obligations.FramesAreCountedAndAnswered : Prop :=
  ∀ (s : State) (port : Port),
    (s.bitR (pLINK port) LINK_STAT 22 = false → ∀ f, exec (.frameReceive port f) s = .next s) ∧
    (s.bitR (pLINK port) LINK_STAT 22 = true → ∀ f : EthFrame,
      let ipGood : Bool := match f.ip with
        | some k => s.ipAccepts port k
        | none => f.etherType == 0x0806
      let bad : Bool := f.fcsOk == s.bitR (pLINK port) PG_INJ 0
      let off : Nat := if bad then LINK_RXFCS else if s.macAccepts port f && ipGood then LINK_RXOK else LINK_RXDROP
      let fec (n : Nat) : Word := if s.bitR (pLINK port) LINK_STAT 20 then word n else 0
      ∃ t, exec (.frameReceive port f) s = .next t ∧ t.reg (pLINK port) off = s.reg (pLINK port) off + 1 ∧
        t.reg (pLINK port) LINK_FECC = s.reg (pLINK port) LINK_FECC + fec f.fecc ∧
        t.reg (pLINK port) LINK_FECU = s.reg (pLINK port) LINK_FECU + fec f.fecu ∧
        t.reg (pLINK port) PG_INJ = putFld (s.reg (pLINK port) PG_INJ) 0 0 0 ∧
        s.keepsRegs t [(pLINK port, off), (pLINK port, LINK_FECC), (pLINK port, LINK_FECU), (pLINK port, PG_INJ)] ∧
        t = { s with regs := t.regs }) ∧
    (∀ ip srcMac srcIp, ip ≠ s.ipOf port → exec (.arpRequest port ip srcMac srcIp) s = .next s) ∧
    (s.bitR (pLINK port) LINK_STAT 22 = true →
      (∀ srcMac srcIp, ∃ t, exec (.arpRequest port (s.ipOf port) srcMac srcIp) s = .next t ∧
        t.tx = s.tx ++ [⟨port, .arpReply srcMac srcIp⟩] ∧ t.reg (pLINK port) LINK_TXOK = s.reg (pLINK port) LINK_TXOK + 1 ∧
        s.keepsRegs t [(pLINK port, LINK_TXOK)] ∧ t = { s with regs := t.regs, tx := t.tx }) ∧
      (∀ srcMac srcIp ident seqn data, data.length + 28 ≤ (if s.bitR (pLINK port) LINK_CFG 19 = true then 9000 else 1500) →
        ∃ t, exec (.icmpEchoRequest port srcMac srcIp ident seqn data) s = .next t ∧
          t.tx = s.tx ++ [⟨port, .icmpReply
            { src := s.ipOf port, dst := srcIp, ttl := s.fldR (pLINK port) LINK_IPOPT 23 16,
              dscp := s.fldR (pLINK port) LINK_IPOPT 15 10, df := true, ihl := 5 } srcMac ident seqn data⟩] ∧
          t.reg (pLINK port) LINK_TXOK = s.reg (pLINK port) LINK_TXOK + 1 ∧
          s.keepsRegs t [(pLINK port, LINK_TXOK)] ∧ t = { s with regs := t.regs, tx := t.tx })) ∧
    (∀ srcMac srcIp ident seqn data, (if s.bitR (pLINK port) LINK_CFG 19 = true then 9000 else 1500) < data.length + 28 →
      exec (.icmpEchoRequest port srcMac srcIp ident seqn data) s = .next s)

/-! ### ABT -/

/-- R86, R93, R95, R97, R105, R106: a datagram that is not for the port's address or a joined group's and for ABT_PORT, or
whose UDP checksum is wrong and not zero, does nothing; one whose CRC-32C fails counts in ABT_BADCRC and one for
another chip in ABT_NOTME, and nothing else happens (PG_INJ once inverts the CRC's result). The first frame of a new
source, a unicast SYNC frame within its limits, makes the source known, with the MAC address that it came from and a
space whose next number is the frame's plus its count; its commands, no FENCE among them, execute in order, and its
reply, one result for each, waits to be sent and is cached. A held frame whose number is next executes in the same
way. Commands whose completion it states: abtRequestFrame, heldFrameExecute. -/
def Obligations.RequestFramesExecuteInOrder : Prop :=
  ∀ (s : State) (port : Port) (dg : Datagram),
    let b := dg.payload
    let h := abtHead b
    let forUs : Prop := (dg.dstIp = s.ipOf port ∨ ∃ g ∈ s.joined, dg.dstIp = s.groupIp g) ∧
      dg.dstPort = s.fldR pABT ABT_PORT 15 0 ∧
      (dg.sum = 0 ∨ dg.sum = udpSum dg.srcIp dg.dstIp dg.srcPort dg.dstPort dg.payload)
    let inj : Bool := s.bitR pABT PG_INJ 0 && decide (12 ≤ b.length)
    let good : Prop := decide (crc32c (b.take (b.length - 4)) = beNat (b.drop (b.length - 4))) = !inj
    let used (t : State) : Prop := t.reg pABT PG_INJ = if inj then putFld (s.reg pABT PG_INJ) 0 0 0 else s.reg pABT PG_INJ
    (s.portUp port = false ∨ s.run.st = .cold ∨ ¬ forUs → exec (.abtRequestFrame port dg) s = .next s) ∧
    (s.portUp port = true → s.run.st ≠ .cold → forUs → (b.length < 12 ∨ ¬ good) →
      ∃ t, exec (.abtRequestFrame port dg) s = .next t ∧ t.reg pABT ABT_BADCRC = s.reg pABT ABT_BADCRC + 1 ∧ used t ∧
        s.keepsRegs t [(pABT, ABT_BADCRC), (pABT, PG_INJ)] ∧ t = { s with regs := t.regs }) ∧
    (s.portUp port = true → s.run.st ≠ .cold → forUs → 12 ≤ b.length → good → h.mc = false → h.target ≠ s.abt.chip →
      ∃ t, exec (.abtRequestFrame port dg) s = .next t ∧ t.reg pABT ABT_NOTME = s.reg pABT ABT_NOTME + 1 ∧ used t ∧
        s.keepsRegs t [(pABT, ABT_NOTME), (pABT, PG_INJ)] ∧ t = { s with regs := t.regs }) ∧
    (∀ cs, s.portUp port = true → s.run.st ≠ .cold → forUs → 12 ≤ b.length → good → h.mc = false → h.target = s.abt.chip →
      abtParse h b = some cs → (∀ c ∈ cs, c.op ≠ 6) → h.sync = true → s.sourceOf port dg.srcIp dg.srcPort = none →
      s.sourcesOn port < 8 → s.frameLimit port b.length cs = false → (∀ x ∈ s.abt.sources, x.id < s.abt.nextId) →
      ∃ t x sp f, exec (.abtRequestFrame port dg) s = .next t ∧ t.abt.sources = s.abt.sources ++ [x] ∧
        x.id = s.abt.nextId ∧ t.abt.nextId = s.abt.nextId + 1 ∧ x.ip = dg.srcIp ∧ x.udp = dg.srcPort ∧
        (if port = 0 then x.macA else x.macB) = some dg.srcMac ∧ x.spaces = [sp] ∧ sp.grp = 16 ∧
        sp.next = (h.seq + h.count) % 65536 ∧ sp.held = [] ∧ sp.exec = [] ∧ sp.ready = [f] ∧ sp.cache = [f] ∧
        f.seq = h.seq ∧ f.port = port.val ∧ f.results.map (·.op) = cs.map (·.op)) ∧
    (∀ (src grp : Nat) (x : Source) (sp : Space) (f : AbtFrame), s.source src = some x → x.space grp = some sp →
      sp.exec = [] → sp.held.find? (fun g => g.seq == sp.next) = some f → f.stale = false → (∀ c ∈ f.rest, c.op ≠ 6) →
      ∃ t y sq g, exec (.heldFrameExecute src grp) s = .next t ∧ t.source src = some y ∧ y.space grp = some sq ∧
        sq.held = sp.held.filter (fun g => g.seq != f.seq) ∧ sq.exec = [] ∧ sq.next = (f.seq + f.count) % 65536 ∧
        sq.ready = sp.ready ++ [g] ∧ g.seq = f.seq ∧ g.results.map (·.op) = f.results.map (·.op) ++ f.rest.map (·.op)) ∧
    (∀ (src grp : Nat), (∀ x sp, s.source src = some x → x.space grp = some sp →
        (∃ g ∈ sp.exec, g.stale = false) ∨ ∀ g ∈ sp.held, g.seq ≠ sp.next) →
      exec (.heldFrameExecute src grp) s = .next s)

/-- R80, R85, R93, R98, R105, R108, R113, R124: GAPTMO milliseconds after the oldest held frame of a space arrived, its
held frames are discarded and counted; a source that has been silent for 10 s is forgotten; the reply to the oldest
completed frame of a space, a multicast one after its stagger, goes from the ABT port to its source on every port that
the mode names, is no longer waiting, and a chip number that waited for it takes effect; FORGET by the Reeve forgets
every source at once, and by the others after their reply. Commands whose completion it states: gapTimeout,
sourceExpiry, abtReplySend, forget. -/
def Obligations.SpacesAndSourcesAreAnsweredAndForgotten : Prop :=
  ∀ s : State,
    (∀ (src grp : Nat) (x : Source) (sp : Space), s.source src = some x → x.space grp = some sp →
      ∃ t, exec (.gapTimeout src grp) s = .next t ∧
        t.reg pABT ABT_GAPDROP = s.reg pABT ABT_GAPDROP + word sp.held.length ∧ s.keepsRegs t [(pABT, ABT_GAPDROP)] ∧
        t.abt.sources = s.abt.sources.map (fun y => if y.id = src then
          { y with spaces := y.spaces.map (fun q => if q.grp = grp then { q with held := [] } else q) } else y) ∧
        (∀ f r, sp.held = f :: r → t.time = (s.toEdge (f.edge + 1600000 * s.fldR pABT ABT_CFG 21 14)).time) ∧
        (sp.held = [] → t.time = s.time) ∧
        t = { s with regs := t.regs, time := t.time, abt := { s.abt with sources := t.abt.sources } }) ∧
    (∀ src, ∃ t, exec (.sourceExpiry src) s = .next t ∧ t.abt = { s.abt with
        sources := s.abt.sources.filter (fun x => x.id != src), fences := s.abt.fences.filter (fun f => f.org.src != src) } ∧
      (∀ x, s.source src = some x → t.time = (s.toEdge (x.last + 16000000000)).time) ∧
      (s.source src = none → t.time = s.time) ∧ t = { s with abt := t.abt, time := t.time }) ∧
    (∀ (src grp m : Nat) (x : Source) (sp : Space) (f : AbtFrame) (r : List AbtFrame) (p : Port), s.source src = some x →
      x.space grp = some sp → sp.ready = f :: r → f.port = p → (if p = 0 then x.macA else x.macB) = some m →
      (x.port = 2 → (if p = 0 then x.macB else x.macA) = none) → s.portUp p = true →
      f.settles = [] ∨ (∃ v, f.settles = [.chip v]) →
      let pl := s.replyPayload f false 0
      let from_ := s.fldR pABT ABT_PORT 15 0
      ∃ t, exec (.abtReplySend src grp) s = .next t ∧
        t.tx = s.tx ++ [⟨p, .udp { src := s.ipOf p, dst := x.ip, ttl := s.fldR (pLINK p) LINK_IPOPT 23 16,
                                   dscp := s.fldR (pLINK p) LINK_IPOPT 15 10, df := true, ihl := 5 }
          m from_ x.udp (udpSum (s.ipOf p) x.ip from_ x.udp pl) pl⟩] ∧
        t.reg (pLINK p) LINK_TXOK = s.reg (pLINK p) LINK_TXOK + 1 ∧ s.keepsRegs t [(pLINK p, LINK_TXOK)] ∧
        (∀ y, t.source src = some y → ∀ q, y.space grp = some q → q.ready = r) ∧
        t.time = (if f.mc then s.toEdge (f.edge + 16 * s.abt.chip * s.fldR pABT ABT_MCJOIN 23 20) else s).time ∧
        (f.settles = [] → t.abt.chip = s.abt.chip) ∧ (∀ v, f.settles = [.chip v] → t.abt.chip = v) ∧
        t = { s with regs := t.regs, tx := t.tx, time := t.time
                     abt := { s.abt with sources := t.abt.sources, chip := t.abt.chip } }) ∧
    (∀ ini : Ini, s.gate_ ini pABT true = none →
      ∃ t, exec (.forget ini) s = .next t ∧ s.wrote t pABT [] ∧
        t.abt = (if ini.val = 3 then { s.abt with sources := [], fences := [] }
          else { s.abt with settles := s.abt.settles ++ [(ini.val, .forget)] }) ∧
        t = { s with regs := t.regs, rot := t.rot, reply := t.reply, abt := t.abt })

/-- R10, R70, R77, R78, R100, R102, R104: READ, WRITE, MWRITE and TIME. An address word with a bit above 19 set is out of
RANGE (the model's choice, log entry 16), or STATE in DEAD, and more than 256 words are LIMIT, recorded by the page; a
READ or WRITE of one word is one access; a READ of n header registers answers them in ascending order; a write with
another PG_SEQ than the page's is rejected with SEQ and changes nothing but the record, the page's rotation and the
clock of a page that the access crosses a stile to; MWRITE takes the bits of its mask only; TIME answers the time of
the request's start delimiter and the PTP time, which is zero while PTP is not locked. Commands whose completion it
states: read, write, mwrite, time. -/
def Obligations.AbtReadsAndWritesAreAccesses : Prop :=
  ∀ (s : State) (org : Org) (addr : Nat),
    let page := addr / 256 % 4096
    (2 ^ 20 ≤ addr → ∀ n data q mask d,
      let e := if s.run.st = .dead then Err.state else Err.range
      exec (.read org addr n) s = .next { s with reply := ⟨e.code, []⟩ } ∧
      exec (.write org addr data q) s = .next { s with reply := ⟨e.code, []⟩ } ∧
      exec (.mwrite org addr mask d q) s = .next { s with reply := ⟨e.code, []⟩ }) ∧
    (addr < 2 ^ 20 →
      let limited (c : Instr) : Prop := ∃ t, exec c s = .next t ∧ t.reply = ⟨Err.limit.code, []⟩ ∧
        (s.run.st ≠ .cold → (kindOf page).isSome = true → t.fldR page PG_ERR 23 16 = Err.limit.code) ∧
        s.keepsRegs t [(page, PG_ERR)] ∧ t = { s with regs := t.regs, reply := t.reply }
      (∀ n, 256 < n → s.run.st ≠ .dead → limited (.read org addr n)) ∧
      (∀ data q, 256 < data.length → s.run.st ≠ .dead → limited (.write org addr data q)) ∧
      exec (.read org addr 1) s = exec (.snapshotRead org.ini addr) s ∧
      (∀ w, exec (.write org addr [w] none) s = exec (.registerWrite org.ini addr w) s) ∧
      (∀ w k, kindOf page = some k → s.gate_ org.ini page true = none →
        exec (.write org addr [w] (some (s.reg page PG_SEQ))) s = exec (.registerWrite org.ini addr w) s) ∧
      (∀ data q k, data.length ≤ 256 → kindOf page = some k → s.gate_ org.ini page true = none →
        s.writesStaged org.ini page k (addr % 256) data.length = false → q ≠ s.reg page PG_SEQ →
        ∃ t, exec (.write org addr data (some q)) s = .next t ∧ t.reply = ⟨Err.seq.code, []⟩ ∧
          t.fldR page PG_ERR 23 16 = Err.seq.code ∧ s.keepsRegs t [(page, PG_ERR)] ∧ s.passes t page ∧
          t = { s with regs := t.regs, rot := t.rot, reply := t.reply, time := t.time, fresh := t.fresh }) ∧
      (∀ n k, kindOf page = some k → s.gate_ org.ini page false = none → 1 ≤ n → addr % 256 + n ≤ 10 →
        ∃ t u, s.reaches u page ∧ exec (.read org addr n) s = .next t ∧
          t.reply = ⟨0, (List.range n).map (fun i => u.readReg org.ini page k (addr % 256 + i))⟩ ∧
          t = { s with rot := t.rot, reply := t.reply, fresh := u.fresh,
                       time := (u.ticks (if timingPage page then 3 else 0)).time })) ∧
    (∀ mask d : Word, s.gate_ org.ini pSTORE true = none → s.day.active = false →
      ¬ (s.run.st = .start ∧ s.run.warm = true ∧ s.run.step ≤ 7) →
      ∃ t, exec (.mwrite org (pSTORE * 256 + STORE_INJSEL) mask d none) s = .next t ∧ s.wrote t pSTORE [STORE_INJSEL] ∧
        t.reg pSTORE STORE_INJSEL =
          (s.reg pSTORE STORE_INJSEL &&& ~~~(mask &&& 0x00007F)) ||| (d &&& mask &&& 0x00007F) ∧
        t = { s with regs := t.regs, rot := t.rot, reply := t.reply }) ∧
    (∀ sfd, sfd < 2 ^ 64 → s.hostGate org.ini = none →
      exec (.time org sfd) s = .next { s with reply := ⟨0, unwide 3 sfd ++
        unwide 3 (if s.bitR pPTP PTP_STAT 19 then unsigned 72 ((sfd : Int) + s.ptpAhead sfd) else 0) ++
        [word (s.fldR pPTP PTP_STAT 23 20 * 2 ^ 20 + (if s.bitR pPTP PTP_STAT 19 then 2 ^ 19 + 2 ^ 18 else 0))]⟩ })

/-- R101, R103, R144, R147: bulk transfers. A read of external memory within the capacity answers its words, the
corrections that it meets are counted (how many is a free value, log entry 51); a read of a table through SPACE 0,
here the conflict counters, answers its entries; a write of external memory that meets no running stream's image is
posted, and when it completes the words stand at its addresses and everywhere else is as before; so is one of a
region, whose words then stand in its banks. A transfer beyond the capacity is out of RANGE. Commands whose completion
it states: bulkRead, bulkWrite, bulkWriteComplete. -/
def Obligations.BulkTransfersMoveTheirWords : Prop :=
  ∀ (s : State) (org : Org) (addr n : Nat),
    let d : BulkDesc := { space := 2, page := 0, tsel := 0, addr := addr, n := n }
    s.hostGate org.ini = none → 1 ≤ n → n ≤ s.bulkMax (orgPort org) →
    (addr + n ≤ s.dramSize → ∃ t, exec (.bulkRead org d) s = .next t ∧
      t.reply = ⟨0, (List.range n).map (fun i => s.dram.get zeroDefault (addr + i))⟩ ∧
      s.keepsRegs t [(pDRAM, DRAM_LECC), (pDRAM, DRAM_IECC_CE)] ∧
      t = { s with regs := t.regs, fresh := t.fresh, reply := t.reply, dramRun := t.dramRun }) ∧
    (s.dramSize < addr + n → exec (.bulkRead org d) s = .next { s with reply := ⟨Err.range.code, []⟩ } ∧
      ∀ data, exec (.bulkWrite org d data none) s = .next { s with reply := ⟨Err.range.code, []⟩ }) ∧
    (addr + n ≤ 128 → s.gate_ org.ini pCONFL false = none →
      ∃ t, exec (.bulkRead org { space := 0, page := pCONFL, tsel := 0, addr := addr, n := n }) s = .next t ∧
        t.reply = ⟨0, (List.range n).map (fun i => s.readTab pCONFL .confl 0 (addr + i))⟩ ∧
        t = { s with rot := t.rot, reply := t.reply }) ∧
    (∀ data : List Word, data.length = n → addr + n ≤ s.dramSize → s.meetsImage addr n = false →
      exec (.bulkWrite org d data none) s = .next { s with
        reply := ⟨0, []⟩
        abt := { s.abt with posts := s.abt.posts ++ [({ org := org, kind := .bulk d data } : Post)] } }) ∧
    (∀ (data : List Word) (ps : List Post), data.length = n → s.abt.posts = ({ org := org, kind := .bulk d data } : Post) :: ps →
      ∃ t, exec .bulkWriteComplete s = .next t ∧ t.abt = { s.abt with posts := ps } ∧
        (∀ a, t.dram.get zeroDefault a = if addr ≤ a ∧ a < addr + n then data.getD (a - addr) 0 else s.dram.get zeroDefault a) ∧
        t = { s with abt := t.abt, dram := t.dram, dramRun := t.dramRun }) ∧
    (∀ (g : Nat) (data : List Word), g < 16 → s.regionEn g = true → addr + n ≤ 4 * s.regionSize g → addr + n < 2 ^ 24 →
      data.length = n →
      let e : BulkDesc := { space := 1, page := 0, tsel := 0, addr := g * 2 ^ 24 + addr, n := n }
      (s.mayWriteRegion g = true → exec (.bulkWrite org e data none) s = .next { s with
        reply := ⟨0, []⟩
        abt := { s.abt with posts := s.abt.posts ++ [({ org := org, kind := .bulk e data } : Post)] } }) ∧
      (∀ ps, s.abt.posts = ({ org := org, kind := .bulk e data } : Post) :: ps →
        (∀ i < n, ∀ x, s.regionWord g ((addr + i) / 4) = some x → (s.bank x.1).fenced = false) →
        ∃ t, exec .bulkWriteComplete s = .next t ∧ t.abt = { s.abt with posts := ps } ∧
          (∀ i < n, ∀ x, s.regionWord g ((addr + i) / 4) = some x → t.cell x.1 x.2 ((addr + i) % 4) = data.getD i 0) ∧
          t = { s with abt := t.abt, bankMem := t.bankMem, tabs := t.tabs }))

/-- R103, R402: a FENCE whose conditions hold answers OK, or the code and the number of the first posted command of its
space that failed, which is then forgotten; one that names SEALED while no journal is kept answers STATE with its own
number; one that waits for a posted bulk write of its space waits, and when its conditions hold it is answered and the
commands behind it in its frame, no FENCE among them, execute in order. Commands whose completion it states: fence,
fenceComplete. -/
def Obligations.FencesAnswerWhenTheirConditionsHold : Prop :=
  ∀ (s : State) (org : Org), s.hostGate org.ini = none →
    (∀ wdone : Bool, (wdone = true →
        ∀ p ∈ s.abt.posts, p.org.src = org.src → p.org.grp = org.grp → s.postDone p = true) →
      s.abt.fails.find? (fun f => f.src == org.src && f.grp == org.grp) = none →
      ∃ t, exec (.fence org wdone false) s = .next t ∧ t.reply = ⟨0, []⟩ ∧ t = { s with
        reply := t.reply, abt := { s.abt with posts := s.prunePosts.abt.posts, fails := t.abt.fails } } ∧
        t.abt.fails = s.abt.fails.filter (fun f => !(f.src == org.src && f.grp == org.grp))) ∧
    (∀ f, s.abt.fails.find? (fun f => f.src == org.src && f.grp == org.grp) = some f →
      ∃ t, exec (.fence org false false) s = .next t ∧ t.reply = ⟨f.code, [word (f.num % 65536)]⟩ ∧
        t.abt.fails = s.abt.fails.filter (fun f => !(f.src == org.src && f.grp == org.grp)) ∧
        t = { s with reply := t.reply, abt := { s.abt with posts := s.prunePosts.abt.posts, fails := t.abt.fails } }) ∧
    (s.day.mode ≠ .on → s.abt.fails = [] →
      ∃ t, exec (.fence org false true) s = .next t ∧ t.reply = ⟨Err.state.code, [word (org.num % 65536)]⟩ ∧
        t = { s with reply := t.reply, abt := { s.abt with posts := s.prunePosts.abt.posts } }) ∧
    (∀ d data, s.abt.posts = [({ org := org, kind := .bulk d data } : Post)] →
      exec (.fence org true false) s = .next { s with abt := { s.abt with fences := s.abt.fences ++
        [({ org := org, wantDone := true, wantSeal := false, lastRec := s.day.lastRec } : FenceWait)] } }) ∧
    (∀ (w : FenceWait) (ws : List FenceWait), s.abt.fences = w :: ws → s.fenceHolds w = true →
      (s.source w.org.src = none →
        ∃ t, exec .fenceComplete s = .next t ∧ t.abt.fences = ws ∧
          t = { s with reply := t.reply, abt := { s.abt with fences := ws, posts := t.abt.posts, fails := t.abt.fails } }) ∧
      (∀ x sp f c cs, s.source w.org.src = some x → x.space w.org.grp = some sp →
        sp.exec.find? (fun g => (g.seq + g.results.length) % 65536 == w.org.num) = some f → f.rest = c :: cs → f.stale = false →
        (∀ d ∈ cs, d.op ≠ 6) →
        ∃ t y sq g, exec .fenceComplete s = .next t ∧ t.abt.fences = ws ∧ t.source w.org.src = some y ∧
          y.space w.org.grp = some sq ∧ sq.ready = sp.ready ++ [g] ∧ sq.next = (f.seq + f.count) % 65536 ∧ g.seq = f.seq ∧
          g.results.map (·.op) = f.results.map (·.op) ++ 6 :: cs.map (·.op))) ∧
    ((∀ w ∈ s.abt.fences, s.fenceHolds w = false) → exec .fenceComplete s = .next s)

/-! ### Result streaming -/

/-- R114 to R117, R85, R89, R93, R115, R116: SUBSCRIBE. OPEN of a closed slot with legal fields opens it for its kind,
port and window with nothing sent, its frames for the source of the request; OPEN of an open slot and CLOSE or ACK of
a closed one are STATE; CLOSE closes it and makes its unacknowledged records unsent; ACK of a frame in the window
releases the fault and Green records of every frame up to it and moves the window, and frees the operation of a
measurement record; one of another frame releases nothing and ends a stall. An open slot that may send puts its oldest
waiting record, where it is the only one, into one frame: on each port that is up and known, from the ABT port, and
the record then waits for its acknowledgement. A slot whose one unacknowledged frame has waited SRETX times 100 us
sends it again, or after SRETRY resends stalls and raises SUBSTALL. A slot that is closed or stalled sends nothing.
Commands whose completion it states: subscribeOpen, subscribeClose, subscribeAck, streamFrameSend,
streamResendTimeout. -/
def Obligations.SubscriptionsAndStreamFrames : Prop :=
  (∀ (s : State) (org : Org) (w0 w1 w2 : Word), s.hostGate org.ini = none →
     let i := fld w0 19 16
     let others (t : State) : Prop := ∀ j, j ≠ i → t.slot j = s.slot j
     ((s.slot i).isOpen = false → fld w0 21 20 = 0 → fld w0 11 0 = 0 → fld w0 15 12 ≤ 3 → fld w1 23 16 = 0 → fld w2 23 8 = 0 →
       fld w2 7 0 ≠ 0 →
       ∃ t, exec (.subscribeOpen org w0 w1 w2 []) s = .next t ∧ t.reply = ⟨0, []⟩ ∧ others t ∧ (t.slot i).isOpen = true ∧
         (t.slot i).stall = false ∧ (t.slot i).kind = fld w0 15 12 ∧ (t.slot i).dport = fld w1 15 0 ∧
         (t.slot i).window = fld w2 7 0 ∧ (t.slot i).next = 0 ∧ (t.slot i).oldest = 0 ∧ (t.slot i).sentAt = [] ∧
         (∀ x, s.source org.src = some x → (t.slot i).dip = x.ip ∧ (t.slot i).macA = x.macA ∧ (t.slot i).macB = x.macB) ∧
         t = { s with reply := t.reply, slots := t.slots }) ∧
     ((s.slot i).isOpen = true → exec (.subscribeOpen org w0 w1 w2 []) s = .next { s with reply := ⟨Err.state.code, []⟩ }) ∧
     ((s.slot i).isOpen = false →
       exec (.subscribeClose org w0) s = .next { s with reply := ⟨Err.state.code, []⟩ } ∧
       exec (.subscribeAck org w0 w1) s = .next { s with reply := ⟨Err.state.code, []⟩ }) ∧
     ((s.slot i).isOpen = true → fld w0 21 20 = 0 → fld w0 15 0 = 0 →
       (∃ t, exec (.subscribeClose org w0) s = .next t ∧ t.reply = ⟨0, []⟩ ∧ others t ∧ (t.slot i).isOpen = false ∧
         t.recs.length = s.recs.length ∧
         (∀ j (h : j < s.recs.length), t.recs[j]? = some (if (s.recs[j].sent.map Prod.fst) = some i
           then { s.recs[j] with sent := none } else s.recs[j])) ∧
         t = { s with reply := t.reply, slots := t.slots, recs := t.recs }) ∧
       (fld w1 23 16 = 0 →
         let v := s.slot i
         let q := fld w1 15 0
         let far (x : Nat) : Nat := (x + 65536 - v.oldest) % 65536
         let acked (r : Rec) : Bool := match r.sent with
           | some (j, n) => i == j && decide (far n ≤ far q)
           | none => false
         (far v.next ≤ far q → ∃ t, exec (.subscribeAck org w0 w1) s = .next t ∧ t.reply = ⟨0, []⟩ ∧ others t ∧
           t.slot i = { v with stall := false, resends := 0 } ∧ t = { s with reply := t.reply, slots := t.slots }) ∧
         (far q < far v.next → (∀ r ∈ s.recs, acked r = true → 2 ≤ r.kind) → s.recs.Nodup →
           ∃ t, exec (.subscribeAck org w0 w1) s = .next t ∧ t.reply = ⟨0, []⟩ ∧ others t ∧
             t.slot i = { v with oldest := (q + 1) % 65536, sentAt := v.sentAt.drop (far q + 1), stall := false, resends := 0 } ∧
             t.recs = s.recs.filter (fun r => !acked r) ∧
             t = { s with reply := t.reply, slots := t.slots, recs := t.recs }) ∧
         (∀ r, far q < far v.next → s.recs = [r] → r.kind = 0 → (s.op r.unit).st = .done → acked r = true →
           ∃ t, exec (.subscribeAck org w0 w1) s = .next t ∧ t.reply = ⟨0, []⟩ ∧ t.recs = [] ∧ (t.op r.unit).st = .free)))) ∧
  (∀ (s : State) (slot : Fin 16) (r : Rec) (m : Nat),
     let v := s.slot slot
     let from_ := s.fldR pABT ABT_PORT 15 0
     let frame (q : Nat) : TxFrame :=
       let pl := s.streamPayload slot q [r]
       ⟨0, .udp { src := s.ipOf 0, dst := v.dip, ttl := s.fldR (pLINK 0) LINK_IPOPT 23 16,
                  dscp := s.fldR (pLINK 0) LINK_IPOPT 15 10, df := true, ihl := 5 }
         m from_ v.dport (udpSum (s.ipOf 0) v.dip from_ v.dport pl) pl⟩
     let late := s.toEdge (v.sentAt.headD 0 + 160000 * s.fldR pABT ABT_CFG 13 6)
     (v.isOpen = false ∨ v.stall = true → exec (.streamFrameSend slot) s = .next s ∧ exec (.streamResendTimeout slot) s = .next s) ∧
     (s.bitR (pLINK 0) LINK_STAT 22 = true → s.bitR (pLINK 1) LINK_STAT 22 = false → s.fldR pABT ABT_CFG 23 22 ≠ 1 →
     (s.slot slot).isOpen = true → (s.slot slot).stall = false → (s.slot slot).macA = some m →
     (s.slot slot).oldest < 65536 → s.recs = [r] → (r.kind = 3 → s.recFails r = false) → (r.kind = 1 → r.spilled = true) →
     ((s.slot slot).next = (s.slot slot).oldest → 1 ≤ (s.slot slot).window → r.sent = none → s.slotFor r = some slot.val →
       r.words.length ≤ 400 →
       ∃ t, exec (.streamFrameSend slot) s = .next t ∧
         t.tx = s.tx ++ [frame v.next] ∧ t.recs = [{ r with sent := some (slot.val, v.next) }] ∧
         t.slot slot = { v with next := (v.next + 1) % 65536, sentAt := v.sentAt ++ [s.time.edge] } ∧ (∀ j, j ≠ slot.val → t.slot j = s.slot j) ∧
         t.reg (pLINK 0) LINK_TXOK = s.reg (pLINK 0) LINK_TXOK + 1 ∧ s.keepsRegs t [(pLINK 0, LINK_TXOK)] ∧
         t = { s with regs := t.regs, tx := t.tx, recs := t.recs, slots := t.slots }) ∧
     ((s.slot slot).next = (s.slot slot).oldest + 1 → (s.slot slot).next < 65536 →
       r.sent = some (slot.val, (s.slot slot).oldest) →
       ((s.slot slot).resends < s.fldR pABT ABT_CFG 5 2 →
         ∃ t, exec (.streamResendTimeout slot) s = .next t ∧
           t.tx = s.tx ++ [frame v.oldest] ∧ t.time = late.time ∧
           t.slot slot = { v with resends := v.resends + 1, sentAt := [late.time.edge] } ∧
           (∀ j, j ≠ slot.val → t.slot j = s.slot j) ∧
           t.reg (pLINK 0) LINK_TXOK = s.reg (pLINK 0) LINK_TXOK + 1 ∧ s.keepsRegs t [(pLINK 0, LINK_TXOK)] ∧
           t = { s with regs := t.regs, tx := t.tx, slots := t.slots, time := t.time }) ∧
       (s.fldR pABT ABT_CFG 5 2 ≤ (s.slot slot).resends →
         ∃ t, exec (.streamResendTimeout slot) s = .next t ∧ t.slot slot = { v with stall := true } ∧ t.time = late.time ∧
           (∀ j, j ≠ slot.val → t.slot j = s.slot j) ∧
           t.watch = { s.watch with raised := s.watch.raised ++ [{ cls := .n, code := 0x042, page := pABT : Raised }] } ∧
           t = { s with slots := t.slots, watch := t.watch, time := t.time }))))

/-! ### PTP -/

/-- R119, R120, R122, R89, R119, R122, R125: A message that the clock does not take (another port or domain, unicast, a
wrong checksum, the port down) changes nothing. A slave's exchange: a Sync counts and, of one step, sets PTP_OFS to
TAI less the time base within 5 ns (what the device adds to the measured value is free, log entry 18); of two steps it
waits for its Follow_Up, which does the same. A Delay_Resp to the last Delay_Req sets PTP_MPD, which saturates and of
a negative delay is free, and PTP_RATE, makes the port SLAVE, and LOCKED after 16 exchanges within 100 ns; one that is
farther off loses LOCKED and raises PTPLOST. An Announce keeps the better of two masters; a slave-only port follows
it, and is UNCALIBRATED with a new one; a master-capable port becomes MASTER where its own clock is better, PASSIVE
where its class is below 128 and it is worse, and otherwise follows too. What the port sends, with a TTL of 1 to
224.0.1.129, its domain, clock identity and interval. A slave whose port is up sends Delay_Req with its number and
keeps its time; a master answers Delay_Req and serves Sync (with Follow_Up where TWOSTEP is 1) and Announce with its
priorities and class, all with the time base plus PTP_OFS; a port that listens, may be master and has heard none
becomes master when its Announce interval expires. In other states nothing is sent. Software may write PTP_OFS unless
the port is SLAVE or UNCALIBRATED. Loss of LOCKED raises PTPLOST. Commands whose completion it states: ptpSyncReceive,
ptpFollowUpReceive, ptpDelayRespReceive, ptpAnnounceReceive, ptpDelayReqSend, ptpDelayReqReceive, ptpSyncSend,
ptpAnnounceSend, ptplost, ptpOfsWrite. -/
def Obligations.PtpExchangesAndMessages : Prop :=
  (∀ s : State,
     let est (t : State) (x : Int) : Prop :=
       t.ptp = { s.ptp with waitSync := none, sync := some x, err := t.ptp.err, at_ := s.time.base } ∧
       ∃ e : Int, -5000 ≤ e ∧ e ≤ 5000 ∧ t.wideR pPTP PTP_OFS0 3 =
         unsigned 72 ((s.reg pPTP PTP_MPD).toNat + signed 24 (s.reg pPTP PTP_ASYM).toNat - x + e)
     let counted (t : State) : Prop := t.fldR pPTP PTP_CNT 23 12 = (s.fldR pPTP PTP_CNT 23 12 + 1) % 4096 ∧
       t.fldR pPTP PTP_CNT 11 0 = s.fldR pPTP PTP_CNT 11 0
     let lost (t : State) (b : Bool) : Prop := t.watch = if s.bitR pPTP PTP_STAT 19 = true ∧ b = true
       then { s.watch with raised := s.watch.raised ++ [{ cls := .n, code := 0x043, page := pPTP : Raised }] } else s.watch
     let enters (t : State) (b : PtpAnnounce) (st gm : Nat) : Prop :=
       t.ptpState = st ∧ t.wideR pPTP PTP_GM0 3 = gm ∧
       t.bitR pPTP PTP_STAT 19 = (s.bitR pPTP PTP_STAT 19 && decide (s.ptpState = st)) ∧ lost t (decide (s.ptpState ≠ st)) ∧
       t.ptp = { s.ptp with best := some b, waitSync := none, sync := none, dreq := none, good := 0, err := 0,
                            at_ := if s.ptpSlave = true then s.time.base else s.ptp.at_ } ∧
       t.wideR pPTP PTP_OFS0 3 = (if s.ptpSlave = true then unsigned 72 (s.ptpAhead s.time.base) else s.wideR pPTP PTP_OFS0 3) ∧
       s.keepsRegs t [(pPTP, PTP_STAT), (pPTP, PTP_GM0), (pPTP, PTP_GM1), (pPTP, PTP_GM2),
         (pPTP, PTP_OFS0), (pPTP, PTP_OFS1), (pPTP, PTP_OFS2)] ∧
       t = { s with regs := t.regs, ptp := t.ptp, watch := t.watch }
     (∀ m : PtpSync, s.ptpHears m.head = false ∨ s.ptpSlave = false → exec (.ptpSyncReceive m) s = .next s) ∧
     (∀ h origin corr, (s.ptpHears h = false ∨ s.ptpSlave = false ∨ ∀ q rx c, s.ptp.waitSync = some (q, rx, c) → q ≠ h.seqn) →
       exec (.ptpFollowUpReceive h origin corr) s = .next s) ∧
     (∀ h rx corr rate, (s.ptpHears h = false ∨ s.ptpSlave = false ∨ s.ptp.sync = none ∨
         ∀ q t3, s.ptp.dreq = some (q, t3) → q ≠ h.seqn) → exec (.ptpDelayRespReceive h rx corr rate) s = .next s) ∧
     (∀ a : PtpAnnounce, (s.ptpHears a.head = false ∨ 255 ≤ a.steps ∨ a.gmid = s.clockId) →
       exec (.ptpAnnounceReceive a) s = .next s) ∧
     (s.ptpSlave = true →
       (∀ m : PtpSync, s.ptpHears m.head = true →
         (m.twoStep = false → ∃ t, exec (.ptpSyncReceive m) s = .next t ∧ est t (m.rx - m.origin - m.corr) ∧ counted t ∧
           s.keepsRegs t [(pPTP, PTP_CNT), (pPTP, PTP_OFS0), (pPTP, PTP_OFS1), (pPTP, PTP_OFS2)] ∧
           t = { s with regs := t.regs, ptp := t.ptp, fresh := t.fresh }) ∧
         (m.twoStep = true → ∃ t, exec (.ptpSyncReceive m) s = .next t ∧ counted t ∧ s.keepsRegs t [(pPTP, PTP_CNT)] ∧
           t = { s with regs := t.regs, ptp := { s.ptp with waitSync := some (m.head.seqn, m.rx, m.corr) } })) ∧
       (∀ (h : PtpHead) (rx origin : Nat) (c corr : Int), s.ptpHears h = true → s.ptp.waitSync = some (h.seqn, rx, c) →
         ∃ t, exec (.ptpFollowUpReceive h origin corr) s = .next t ∧ est t (rx - c - origin - corr) ∧
           s.keepsRegs t [(pPTP, PTP_OFS0), (pPTP, PTP_OFS1), (pPTP, PTP_OFS2)] ∧
           t = { s with regs := t.regs, ptp := t.ptp, fresh := t.fresh }) ∧
       (∀ (h : PtpHead) (t3 rx : Nat) (corr rate x : Int), s.ptpHears h = true → s.ptp.dreq = some (h.seqn, t3) →
         s.ptp.sync = some x →
         let d := (x + ((rx : Int) - corr - t3)) / 2
         let close := decide (-100000 ≤ s.ptp.err ∧ s.ptp.err ≤ 100000)
         ∃ t, exec (.ptpDelayRespReceive h rx corr rate) s = .next t ∧
           (0 ≤ d → ((t.reg pPTP PTP_MPD).toNat : Int) = min 0xFFFFFF d) ∧
           (t.reg pPTP PTP_RATE).toNat = unsigned 24 rate ∧ t.ptpState = 9 ∧
           t.bitR pPTP PTP_STAT 19 = (close && (s.bitR pPTP PTP_STAT 19 || decide (15 ≤ s.ptp.good))) ∧ lost t (!close) ∧
           t.ptp = { s.ptp with dreq := none, good := if close then min 16 (s.ptp.good + 1) else 0 } ∧
           s.keepsRegs t [(pPTP, PTP_MPD), (pPTP, PTP_RATE), (pPTP, PTP_STAT)] ∧
           t = { s with regs := t.regs, ptp := t.ptp, fresh := t.fresh, watch := t.watch })) ∧
     (∀ a b : PtpAnnounce, s.ptpHears a.head = true → a.steps < 255 → a.gmid ≠ s.clockId →
       b = (match s.ptp.best with
         | none => a
         | some c => if c.gmid = a.gmid ∨ before (annRank a) (annRank c) = true then a else c) →
       b.gmid < 2 ^ 64 →
       let master := s.bitR pPTP PTP_CFG 22 && before s.ptpOwn (annRank b)
       let passive := s.bitR pPTP PTP_CFG 22 && !master && decide (s.fldR pPTP PTP_CFG2 15 8 < 128)
       let stays := if master then s.ptpState == 6 else if passive then s.ptpState == 7
         else s.ptpSlave && s.wideR pPTP PTP_GM0 3 == b.gmid
       (stays = true → exec (.ptpAnnounceReceive a) s = .next { s with ptp := { s.ptp with best := some b } }) ∧
       (stays = false → ∃ t, exec (.ptpAnnounceReceive a) s = .next t ∧
         enters t b (if master then 6 else if passive then 7 else 8) (if master then s.clockId else b.gmid)))) ∧
  (∀ s : State,
     let msg (typ seqn : Nat) (interval : Int) : PtpMsg :=
       { typ := typ, domain := s.fldR pPTP PTP_CFG 19 12, seqn := seqn, clock := s.clockId, interval := interval }
     let logSync : Int := signed 4 (s.fldR pPTP PTP_CFG2 7 4)
     let ipHead : IpHead := { src := s.ipOf s.ptpPort, dst := ptpIp, ttl := 1, dscp := s.fldR (pLINK s.ptpPort) LINK_IPOPT 15 10 }
     let sent (t : State) (fs : List PtpMsg) : Prop :=
       t.tx = s.tx ++ fs.map (fun m => (⟨s.ptpPort, .ptp ipHead m⟩ : TxFrame)) ∧
       t.reg (pLINK s.ptpPort) LINK_TXOK = s.reg (pLINK s.ptpPort) LINK_TXOK + word fs.length
     let listens : Prop := s.ptpState = 4 ∧ s.bitR pPTP PTP_CFG 22 = true ∧ s.ptp.best = none
     let ann : PtpMsg := { msg 0xB s.ptp.seqAnn (s.fldR pPTP PTP_CFG2 3 0) with
       ann := some { prio1 := s.fldR pPTP PTP_CFG 11 4, clockClass := s.fldR pPTP PTP_CFG2 15 8, accuracy := 0xFE,
                     variance := Config.ptpVariance, prio2 := s.fldR pPTP PTP_CFG2 23 16, gmid := s.clockId,
                     steps := 0, timeSource := 0xA0 } }
     (s.portUp s.ptpPort = false ∨ s.ptpSlave = false → exec .ptpDelayReqSend s = .next s) ∧
     (s.portUp s.ptpPort = false ∨ s.ptpState ≠ 6 → exec .ptpSyncSend s = .next s) ∧
     (¬ listens → s.portUp s.ptpPort = false ∨ s.ptpState ≠ 6 → exec .ptpAnnounceSend s = .next s) ∧
     (∀ h sender, s.ptpHears h = false ∨ s.ptpState ≠ 6 → exec (.ptpDelayReqReceive h sender) s = .next s) ∧
     (s.portUp s.ptpPort = true →
       (s.ptpSlave = true → ∃ t, exec .ptpDelayReqSend s = .next t ∧
         sent t [msg 0x1 (s.fldR pPTP PTP_CNT 11 0) 0x7F] ∧
         t.fldR pPTP PTP_CNT 11 0 = (s.fldR pPTP PTP_CNT 11 0 + 1) % 4096 ∧
         t.fldR pPTP PTP_CNT 23 12 = s.fldR pPTP PTP_CNT 23 12 ∧
         s.keepsRegs t [(pPTP, PTP_CNT), (pLINK s.ptpPort, LINK_TXOK)] ∧
         t = { s with regs := t.regs, tx := t.tx,
                      ptp := { s.ptp with dreq := some (s.fldR pPTP PTP_CNT 11 0, s.time.base) } }) ∧
       (listens → ∃ t, exec .ptpAnnounceSend s = .next t ∧ sent t [ann] ∧ t.ptpState = 6 ∧
         t.wideR pPTP PTP_GM0 3 = s.clockId ∧ t.bitR pPTP PTP_STAT 19 = false ∧
         t.ptp.seqAnn = (s.ptp.seqAnn + 1) % 65536 ∧ t.ptp.best = none ∧
         s.keepsRegs t [(pPTP, PTP_STAT), (pPTP, PTP_GM0), (pPTP, PTP_GM1), (pPTP, PTP_GM2), (pLINK s.ptpPort, LINK_TXOK)] ∧
         t = { s with regs := t.regs, tx := t.tx, ptp := t.ptp, watch := t.watch }) ∧
       (s.ptpState = 6 →
         (∀ h sender, s.ptpHears h = true → ∃ t, exec (.ptpDelayReqReceive h sender) s = .next t ∧
           sent t [{ msg 0x9 h.seqn logSync with time := s.ptpTime s.time.base, dest := sender }] ∧
           s.keepsRegs t [(pLINK s.ptpPort, LINK_TXOK)] ∧
           t = { s with regs := t.regs, tx := t.tx }) ∧
         (∃ t, exec .ptpSyncSend s = .next t ∧
           sent t (if s.bitR pPTP PTP_CFG 20 = true
             then [{ msg 0x0 s.ptp.seqSync logSync with twoStep := true },
                   { msg 0x8 s.ptp.seqSync logSync with time := s.ptpTime s.time.base }]
             else [{ msg 0x0 s.ptp.seqSync logSync with time := s.ptpTime s.time.base }]) ∧
           s.keepsRegs t [(pLINK s.ptpPort, LINK_TXOK)] ∧
           t = { s with regs := t.regs, tx := t.tx, ptp := { s.ptp with seqSync := (s.ptp.seqSync + 1) % 65536 } }) ∧
         (∃ t, exec .ptpAnnounceSend s = .next t ∧ sent t [ann] ∧
           s.keepsRegs t [(pLINK s.ptpPort, LINK_TXOK)] ∧
           t = { s with regs := t.regs, tx := t.tx, ptp := { s.ptp with seqAnn := (s.ptp.seqAnn + 1) % 65536 } }))) ∧
     (s.bitR pPTP PTP_STAT 19 = false → exec .ptplost s = .next s) ∧
     (s.bitR pPTP PTP_STAT 19 = true →
       ∃ t, exec .ptplost s = .next t ∧ t.reg pPTP PTP_STAT = putFld (s.reg pPTP PTP_STAT) 19 19 0 ∧
         s.keepsRegs t [(pPTP, PTP_STAT)] ∧
         t.watch = { s.watch with raised := s.watch.raised ++ [{ cls := .n, code := 0x043, page := pPTP : Raised }] } ∧
         t = { s with regs := t.regs, watch := t.watch, ptp := { s.ptp with good := 0 } }) ∧
     (∀ (ini : Ini) (w0 w1 w2 : Word), s.gate_ ini pPTP true = none →
       (s.ptpSlave = false → s.day.active = false → ¬ (s.run.st = .start ∧ s.run.warm = true ∧ s.run.step ≤ 7) →
         ∃ t, exec (.ptpOfsWrite ini w0 w1 w2) s = .next t ∧ s.wrote t pPTP [PTP_OFS0, PTP_OFS1, PTP_OFS2] ∧
           t.reg pPTP PTP_OFS0 = w0 ∧ t.reg pPTP PTP_OFS1 = w1 ∧ t.reg pPTP PTP_OFS2 = w2 ∧
           t = { s with regs := t.regs, rot := t.rot, reply := t.reply, waits := t.waits,
                        ptp := { s.ptp with at_ := s.time.base } }) ∧
       (s.ptpSlave = true →
         ∃ t, exec (.ptpOfsWrite ini w0 w1 w2) s = .next t ∧ t.reply = ⟨Err.state.code, []⟩ ∧
           s.keepsRegs t [(pPTP, PG_ERR)] ∧ t = { s with regs := t.regs, rot := t.rot, reply := t.reply })))

/-! ### Pattern store -/

/-- R26, R127, R136 to R139: a decision of a bank goes to the lowest pending class, or after 15 grants in a row to classes
0 to 2 to the lowest among 3 to 7; each losing class is counted at the bank's group, and the loser stays pending. A
granted read of a sound word answers its 96 bits, a granted write writes them and nothing else. A single error is
corrected, counted in CE and written back by an access of its own; a double error counts in UE, raises BANK_UE at the
bank and fences it, and then every access fails, as the requester's own rule says. Commands whose completion it
states: bankAccess. -/
def Obligations.BankDecisionsServeTheHighestClass : Prop :=
  ∀ (s : State) (b : Fin 128) (r : BankReq), r.cls < 8 → r.row < 21846 → (s.bank b).waiting = [] → (s.bank b).fixes = [] →
    (b.val ≠ s.fldR pSTORE STORE_INJSEL 6 0 ∨ s.reg pSTORE PG_INJ = 0) →
    let counted (r : BankReq) (v : Bank) : Bank := { v with
      run := if r.cls < 3 then min 15 (v.run + 1) else 0
      ptr := (List.range 8).map (fun i => if i = r.cls then r.who + 1 else v.ptr.getD i 0) }
    let others (t : State) : Prop := ∀ x, x ≠ b.val → t.bank x = s.bank x
    let sameCells (t : State) (row : Nat) : Prop := ∀ y rw j, y < 128 → rw < 21846 → j < 4 → (y, rw) ≠ (b.val, row) →
      t.cell y rw j = s.cell y rw j
    let sameTabs (t : State) : Prop := ∀ p u i, p ≠ pGLEAN → u < 16 → i < 2 ^ 19 → t.tab p u i = s.tab p u i
    ((s.bank b).fenced = false →
      (r.wr = none →
        (∃ t, exec (.bankAccess b [r] .none) s = .next t ∧ t.reply = ⟨0, s.rowWords b r.row⟩ ∧
          t.bank b = counted r (s.bank b) ∧ others t ∧ s.runFollows t ∧
          t = { s with reply := t.reply, banks := t.banks, run := t.run }) ∧
        (∃ t, exec (.bankAccess b [r] .single) s = .next t ∧ t.reply = ⟨0, s.rowWords b r.row⟩ ∧
          t.bank b = { counted r (s.bank b) with ce := min 255 ((s.bank b).ce + 1), fixes := [r] } ∧ others t ∧
          t.watch = (if s.fldR pSTORE STORE_CFG 23 16 = (s.bank b).ce + 1 then { s.watch with raised := s.watch.raised ++
            [{ cls := .n, code := 0x050, page := pSTORE, detail := b : Raised }] } else s.watch) ∧ s.runFollows t ∧
          t = { s with reply := t.reply, banks := t.banks, watch := t.watch, run := t.run }) ∧
        (∃ u, exec (.bankAccess b [r] .multi) s = .next (u.accessFailed r).followStreams ∧
          u.bank b = { counted r (s.bank b) with ue := min 255 ((s.bank b).ue + 1), fenced := true } ∧ others u ∧
          u.watch = { s.watch with raised := s.watch.raised ++
            [{ cls := .d, code := 0x051, page := pSTORE, detail := b, unit := .bank b : Raised }] } ∧
          u = { s with banks := u.banks, watch := u.watch })) ∧
      (∀ x : BitVec 96, r.wr = some x →
        ∃ t, exec (.bankAccess b [r] .none) s = .next t ∧ t.reply = ⟨0, []⟩ ∧ t.bank b = counted r (s.bank b) ∧ others t ∧
          (∀ j < 4, t.cell b r.row j = x.extractLsb' (24 * j) 24) ∧ sameCells t r.row ∧ sameTabs t ∧ s.runFollows t ∧
          t = { s with reply := t.reply, banks := t.banks, bankMem := t.bankMem, tabs := t.tabs, run := t.run }) ∧
      (∀ q : BankReq, r.wr = none → q.cls < 8 → q.cls ≠ r.cls → s.tab pCONFL 0 (8 * (b.val / 8) + q.cls) ≠ 0xFFFFFE →
        s.tab pCONFL 0 (8 * (b.val / 8) + q.cls) ≠ 0xFFFFFF →
        ((s.bank b).run < 15 ∧ r.cls < q.cls) ∨
          (15 ≤ (s.bank b).run ∧ 3 ≤ r.cls ∧ (q.cls < 3 ∨ r.cls < q.cls)) →
        ∃ t, exec (.bankAccess b [q, r] .none) s = .next t ∧ t.reply = ⟨0, s.rowWords b r.row⟩ ∧
          t.bank b = { counted r (s.bank b) with waiting := [q] } ∧ others t ∧
          t.tab pCONFL 0 (8 * (b.val / 8) + q.cls) = s.tab pCONFL 0 (8 * (b.val / 8) + q.cls) + 1 ∧
          s.keepsTabs t pCONFL 0 (8 * (b.val / 8) + q.cls) 1 ∧ s.runFollows t ∧
          t = { s with reply := t.reply, banks := t.banks, tabs := t.tabs, run := t.run })) ∧
    ((s.bank b).fenced = true → ∀ e, ∃ u, exec (.bankAccess b [r] e) s = .next (u.accessFailed r).followStreams ∧
      u.bank b = counted r (s.bank b) ∧ others u ∧ u = { s with banks := u.banks }) ∧
    (∀ (v : Bank) (f : BankReq) (e : BankErr), v.fenced = false → v.waiting = [] → v.fixes = [f] → f.cls < 8 → f.row < 21846 →
      let w : State := s.setBank b v
      ∃ t, exec (.bankAccess b [] e) w = .next t ∧ t.reply = ⟨0, []⟩ ∧ t.bank b = { counted f v with fixes := [] } ∧
        others t ∧ (∀ j < 4, t.cell b f.row j = s.cell b f.row j) ∧ sameCells t f.row ∧ sameTabs t ∧ s.runFollows t ∧
        t = { s with reply := t.reply, banks := t.banks, bankMem := t.bankMem, tabs := t.tabs, run := t.run }) ∧
    (∀ e, exec (.bankAccess b [] e) s = .next s.followStreams)

/-- R130, R132, R142, R143, R146: RETEST of a fenced bank that passes unfences it and leaves every word of it zero; where
it fails the bank stays fenced and BIST_FAIL is raised. The first words of a disabled region's entry take their value
from the holder of the lock; of an enabled region they are rejected with STATE, and those of region 14 are read-only.
A drifting lane of the external memory is counted; a hot memory raises DRAM_TEMP, one beyond its limit also in class
H. Commands whose completion it states: retest, regionTableWrite, dramTrack, dramRefresh. -/
def Obligations.BanksRegionsAndMemoryAreMaintained : Prop :=
  ∀ (s : State) (ini : Ini),
    let b := s.fldR pSTORE STORE_INJSEL 6 0
    (s.gate_ ini pSTORE true = none → s.run.st = .ready ∨ s.run.st = .recovery ∨ s.run.st = .test → (s.bank b).fenced = true →
      (∃ t, exec (.retest ini true) s = .next t ∧ s.wrote t pSTORE [] ∧
        t.bank b = { s.bank b with fenced := false, bistFail := false } ∧ (∀ x, x ≠ b → t.bank x = s.bank x) ∧
        (∀ x row j, x < 128 → row < 21846 → j < 4 → t.cell x row j = if x = b then 0 else s.cell x row j) ∧
        (∀ p u i, p ≠ pGLEAN → u < 16 → i < 2 ^ 19 → t.tab p u i = s.tab p u i) ∧
        t = { s with regs := t.regs, rot := t.rot, reply := t.reply, banks := t.banks, bankMem := t.bankMem, tabs := t.tabs }) ∧
      (∃ t, exec (.retest ini false) s = .next t ∧ s.wrote t pSTORE [] ∧
        t.bank b = { s.bank b with bistFail := true } ∧ (∀ x, x ≠ b → t.bank x = s.bank x) ∧
        t.watch = { s.watch with raised := s.watch.raised ++
          [{ cls := .d, code := 0x052, page := pSTORE, detail := b, unit := .bank b : Raised }] } ∧
        t = { s with regs := t.regs, rot := t.rot, reply := t.reply, banks := t.banks, watch := t.watch })) ∧
    (∀ (g i : Nat) (val : Word), g < 16 → i < 5 → s.gate_ ini pSTORE true = none → s.lockMine pSTORE ini = true →
      s.day.active = false → ¬ (s.run.st = .start ∧ s.run.warm = true ∧ s.run.step ≤ 7) →
      (g ≠ 14 → s.regionEn g = false →
        ∃ t, exec (.regionTableWrite ini (8 * g + i) val) s = .next t ∧ s.wrote t pSTORE [] ∧
          t.tab pSTORE 0 (8 * g + i) = val ∧ s.keepsTabs t pSTORE 0 (8 * g + i) 1 ∧
          t = { s with regs := t.regs, rot := t.rot, reply := t.reply, tabs := t.tabs, waits := t.waits }) ∧
      (g = 14 ∨ s.regionEn g = true →
        ∃ t, exec (.regionTableWrite ini (8 * g + i) val) s = .next t ∧
          t.reply = ⟨(if g = 14 then Err.roWrite else Err.state).code, []⟩ ∧ s.keepsRegs t [(pSTORE, PG_ERR)] ∧
          t = { s with regs := t.regs, rot := t.rot, reply := t.reply })) ∧
    exec (.dramTrack false) s = .next s ∧
    (∃ t, exec (.dramTrack true) s = .next t ∧ t.reg pDRAM DRAM_TRACK = s.reg pDRAM DRAM_TRACK + 1 ∧
      s.keepsRegs t [(pDRAM, DRAM_TRACK)] ∧ t = { s with regs := t.regs }) ∧
    (∀ hot exceeded, ∃ t, exec (.dramRefresh hot exceeded) s = .next t ∧
      t.reg pDRAM DRAM_STAT = putFld (s.reg pDRAM DRAM_STAT) 17 17 (if hot ∨ exceeded then 1 else 0) ∧
      s.keepsRegs t [(pDRAM, DRAM_STAT)] ∧
      t.watch = { s.watch with raised := s.watch.raised ++
        (if hot ∨ exceeded then [{ cls := .n, code := 0x054, page := pDRAM : Raised }] else []) ++
        (if exceeded then [{ cls := .h, code := 0x054, page := pDRAM : Raised }] else []) } ∧
      t = { s with regs := t.regs, watch := t.watch })

/-- R142, R144, R145, R146, R128, R144, R148, R149, R151: RETRAIN applies DRAM_CFG: where both channels train, READY is
set with the lowest of the configured and the trained rates, inline ECC as configured, and DRAM_SIZE is the fitted
capacity, seven eighths of it with inline ECC, in whole bank words of 32 pattern words for 96 bytes; the content is
kept where inline ECC stays as it was. Where a channel does not train, nothing is usable and class H DRAM_TRAIN is
raised. Refill fetches one window at a time, here the one that holds the fetch address of the only active stream, into
the first place of its empty ring; after 15 grants in a row a waiting bulk write of the host goes first. The window
read is written into the window region and resident, and its corrections, and an uncorrectable error that the retry
mends, are counted; where the retry fails too, or a bank of the window region is fenced, the stream fails. Commands
whose completion it states: dramRetrain, refillWindowFetch, refillWindowComplete. -/
def Obligations.ExternalMemoryTrainsAndRefills : Prop :=
  (∀ (s : State) (ini : Ini) (e : DramEnv), s.gate_ ini pDRAM true = none → s.run.st = .ready ∨ s.run.st = .test →
     (∀ a b, e.fitted0 = true → e.fitted1 = true → 1 ≤ e.dens0 → e.dens0 ≤ 5 → e.dens1 = e.dens0 → 1 ≤ e.ranks0 →
       e.ranks0 ≤ 2 → e.ranks1 = e.ranks0 → e.best0 = some a → e.best1 = some b → a ≤ 2 → b ≤ 2 →
       let iecc := s.bitR pDRAM DRAM_CFG 21
       let bytes := (match e.dens0 with | 1 => 8 | 2 => 12 | 3 => 16 | 4 => 24 | _ => 32) * e.ranks0 * 2 ^ 29
       ∃ t, exec (.dramRetrain ini e) s = .next t ∧ s.wrote t pDRAM [DRAM_GEOM, DRAM_STAT, DRAM_SIZE0, DRAM_SIZE1] ∧
         t.fldR pDRAM DRAM_STAT 23 22 = 3 ∧ t.fldR pDRAM DRAM_STAT 21 20 = min (s.fldR pDRAM DRAM_CFG 23 22) (min a b) ∧
         t.bitR pDRAM DRAM_STAT 19 = iecc ∧ t.bitR pDRAM DRAM_STAT 18 = false ∧
         t.dramSize = (if iecc then bytes * 7 / 8 else bytes) / 96 * 32 ∧
         t.dram = (if iecc = s.bitR pDRAM DRAM_STAT 19 then s.dram else []) ∧
         t = { s with regs := t.regs, rot := t.rot, reply := t.reply, dram := t.dram }) ∧
     (e.best0 = none ∨ e.best1 = none →
       ∃ t, exec (.dramRetrain ini e) s = .next t ∧ s.wrote t pDRAM [DRAM_GEOM, DRAM_STAT, DRAM_SIZE0, DRAM_SIZE1] ∧
         (e.best0 = none → t.bitR pDRAM DRAM_STAT 23 = false) ∧ (e.best1 = none → t.bitR pDRAM DRAM_STAT 22 = false) ∧
         t.dramSize = 0 ∧
         t.watch = { s.watch with raised := s.watch.raised ++ [{ cls := .h, code := 0x053, page := pDRAM : Raised }] } ∧
         t = { s with regs := t.regs, rot := t.rot, reply := t.reply, watch := t.watch })) ∧
  (∀ (s : State) (k : Str),
     ((∃ j < 4, (s.rfl_ j).fetching ≠ none) ∨ s.anyBusy = false → exec .refillWindowFetch s = .next s) ∧
     ((∀ j < 4, (s.rfl_ j).fetching = none) → (∀ j < 4, j ≠ k.val → s.strBusy j = false) →
       s.strBusy k = true → s.strSt k ≠ sDRAINING → (s.stream k).exp.ended = false → (s.stream k).alts = [] →
       (s.stream k).exp.run = none → (s.rfl_ k).resident = [] → 1 ≤ s.ring k →
       (s.stream k).exp.pc < s.imageLen k →
       (s.dramRun < 15 → ∃ t, exec .refillWindowFetch s = .next t ∧
         t.rfl_ k = { s.rfl_ k with fetching := some ((s.stream k).exp.pc / 2048, 0) } ∧
         (∀ j, j ≠ k.val → t.rfl_ j = s.rfl_ j) ∧ t = { s with refill := t.refill, dramRun := s.dramRun + 1 }) ∧
       (15 ≤ s.dramRun → (∃ p ∈ s.abt.posts, ∃ d n, p.kind = .bulk d n ∧ d.space = 2) →
         exec .refillWindowFetch s = .next { s with dramRun := 0 })) ∧
     (∀ (w p lecc ce : Nat) (ue rue : Bool), (s.rfl_ k).fetching = some (w, p) →
       let bad : Bool := ue || decide (s.reg pDRAM PG_INJ ≠ 0)
       let made := s.writeRegionRun (4 + k) (2048 * p) (s.windowWords k w)
       let counts (t : State) : Prop :=
         t.reg pDRAM DRAM_LECC = s.reg pDRAM DRAM_LECC + word lecc ∧
         t.reg pDRAM DRAM_IECC_CE = s.reg pDRAM DRAM_IECC_CE + (if s.bitR pDRAM DRAM_STAT 19 = true then word ce else 0) ∧
         t.reg pDRAM DRAM_IECC_UE = s.reg pDRAM DRAM_IECC_UE + (if bad then 1 else 0) ∧
         t.reg pDRAM DRAM_RETRY = s.reg pDRAM DRAM_RETRY + (if bad then 1 else 0) ∧ t.reg pDRAM PG_INJ = 0 ∧
         s.keepsRegs t [(pDRAM, DRAM_LECC), (pDRAM, DRAM_IECC_CE), (pDRAM, DRAM_IECC_UE), (pDRAM, DRAM_RETRY), (pDRAM, PG_INJ)] ∧
         (∀ j, j ≠ k.val → t.rfl_ j = s.rfl_ j)
       (bad = true → rue = true → ∃ u, exec (.refillWindowComplete k lecc ce ue rue) s = .next (u.streamFail k 0x055).followStreams ∧
         counts u ∧ u.rfl_ k = { s.rfl_ k with fetching := none } ∧ u = { s with regs := u.regs, refill := u.refill }) ∧
       ((bad = false ∨ rue = false) → made.1 = false →
         ∃ u, exec (.refillWindowComplete k lecc ce ue rue) s = .next (u.streamFail k 0x064).followStreams ∧
           counts u ∧ u.rfl_ k = { s.rfl_ k with fetching := none } ∧ u.bankMem = made.2.bankMem ∧ u.tabs = made.2.tabs ∧
           u = { s with regs := u.regs, bankMem := u.bankMem, tabs := u.tabs, refill := u.refill }) ∧
       ((bad = false ∨ rue = false) → made.1 = true →
         ∃ t, exec (.refillWindowComplete k lecc ce ue rue) s = .next t ∧ counts t ∧
           t.rfl_ k = { s.rfl_ k with fetching := none, resident := (s.rfl_ k).resident ++ [(w, p)],
                                      wanted := (s.rfl_ k).wanted.filter (· != w), wins := ((s.rfl_ k).wins + 1) % 2 ^ 24 } ∧
           t.bankMem = made.2.bankMem ∧ t.tabs = made.2.tabs ∧ s.runFollows t ∧
           t = { s with regs := t.regs, bankMem := t.bankMem, tabs := t.tabs, refill := t.refill, run := t.run })) ∧
     ((s.rfl_ k).fetching = none → ∀ lecc ce ue rue, exec (.refillWindowComplete k lecc ce ue rue) s = .next s.followStreams))

/-! ### Pattern language -/

/-- R148, R160, R161, R195: an instruction executes only where its own opcode stands at the fetch address: another one
leaves the expander where it is, as does a word that is not resident; a reserved opcode makes the word invalid, and
the path ends there, whichever instruction is tried. -/
def Obligations.OnlyTheWordAtTheFetchAddressExecutes : Prop :=
  ∀ (s u : State) (k : Str) (p : Nat) (e : Exp) (items : List Item) (h : Word) (c : Instr) (op : Nat),
    (c, op) ∈ patternRows k p →
    (s.faces k p e items h u → fld h 23 18 ≠ op → 1 ≤ fld h 23 18 → fld h 23 18 ≤ 0x12 → exec c s = .next u) ∧
    (s.faces k p e items h u → e.jumped = none → fld h 23 18 = 0 ∨ 0x12 < fld h 23 18 →
      ∃ t, exec c s = .next t ∧ s.advances u t k p { e with ended := true } (items ++ [.invalid e.pc])) ∧
    (s.standsAt k p e items → e.rptLeft = 0 → e.run = none → s.fetchFor k e e.pc false = (.error .waits, u) →
      ∃ t, exec c s = .next t ∧ s.advances u t k p e items)

/-- R148, R174 to R187, Table 6.2: the instructions that take no cycle. NOP only moves on; TSW switches the timing sets of
its columns; LOOP opens a loop and ENDL goes back to its body or on; MATCH and ENDM open and close a match loop; JSEG
declares a jump; CALL and RET go to a subpattern and back; refill is told the target of a JSEG and a CALL where PREFJ
is 1; SUBP, PAUSE_BEGIN, PAUSE_END and ALIGN leave their marks. Commands whose completion it states: loop, endl,
match_, endm, jseg, call, ret, tsw, subp, pauseBegin, pauseEnd, align, nop. -/
def Obligations.ControlInstructionsMoveTheirPath : Prop :=
  ∀ (s u : State) (k : Str) (p : Nat) (e : Exp) (items : List Item) (h : Word),
    s.faces k p e items h u → e.jumped = none → e.inSeg = true →
    let go (c : Instr) (v : State) (e' : Exp) (is : List Item) : Prop :=
      ∃ t, exec c s = .next t ∧ s.advances v t k p e' (items ++ is)
    let wants (x : Nat) : State := if s.bitR pREFILL REFILL_CFG 23 = true ∧ x < s.imageLen k
      then s.setRefill k { s.rfl_ k with wanted := (s.rfl_ k).wanted ++
        (if (s.rfl_ k).wanted.contains (x / 2048) then [] else [x / 2048]) } else s
    let go2 (a b : Word) (c : Instr) (v : State) (e' : Exp) : Prop :=
      ∃ t, exec c s = .next t ∧ (wants (a.toNat + 2 ^ 24 * b.toNat)).advances v t k p e' items
    let next : Exp := { e with pc := e.pc + 1 }
    let frame : LoopFrame := { isMatch := false, addr := e.pc, start := e.pc + 1, left := 0, calls := e.calls.length }
    (fld h 23 18 = 0x12 → go (.nop k p) u next []) ∧
    (fld h 23 18 = 0x0C → fld h 12 8 = 0 → fld h 7 0 ≠ 0 → fld h 7 0 < 2 ^ s.width k →
      go (.tsw k p) u { next with
        tsw := (List.range (s.width k)).map (fun c => if nbit (fld h 7 0) c then fld h 17 13 else e.tsw.getD c 0)
        loops := e.loops.map (fun f => if f.isMatch then { f with sw := f.sw ||| fld h 7 0 } else f) } []) ∧
    (fld h 23 18 = 0x07 → fld h 17 0 = 0 → ∀ f fs, e.loops = f :: fs → f.isMatch = true → f.vecs ≠ 0 → f.strobed = true →
      go (.endm k p) u { next with loops := fs } [.matchEnd (sinceMatch items) e.tsw]) ∧
    ((∀ f, e.loops.head? = some f → f.isMatch = false) →
      (fld h 23 18 = 0x04 → fld h 16 0 ≠ 0 → e.loops.length < 4 → (bit h 17 = true → e.pin = none) →
        go (.loop k p) u { next with loops := { frame with
          left := fld h 16 0, pinned := bit h 17, copying := bit h 17 && (s.stream k).mayCopy p } :: e.loops } []) ∧
      (fld h 23 18 = 0x05 → fld h 17 0 = 0 → ∀ f fs, e.loops = f :: fs → f.calls = e.calls.length → f.vecs ≠ 0 →
        (∀ l c, e.pause = some (l, c) → l < e.loops.length) →
        (1 < f.left → go (.endl k p) u { e with
          pc := f.start
          loops := { f with left := f.left - 1, again := true, vecs := 0, endAt := e.pc, copied := f.copying } :: fs } []) ∧
        (f.left ≤ 1 → go (.endl k p) u { next with loops := fs } [])) ∧
      (fld h 23 18 = 0x06 → fld h 17 0 ≠ 0 → e.loops.length < 4 →
        go (.match_ k p) u { next with loops := { frame with isMatch := true, left := fld h 17 0 } :: e.loops }
          [.matchBegin (fld h 17 0)]) ∧
      (fld h 14 0 = 0 → fld h 17 15 ≤ 3 → ∀ a b v,
        u.fetchData k e (e.pc + 1) 2 = (.ok [a, b], v) →
        (fld h 23 18 = 0x09 → e.loops = [] → e.calls = [] → e.jsegs.length < 4 →
          go2 a b (.jseg k p) v { e with
            pc := e.pc + 3
            jsegs := e.jsegs ++ [{ cond := fld h 17 15, target := a.toNat + 2 ^ 24 * b.toNat, addr := e.pc : Jseg }] }) ∧
        (fld h 23 18 = 0x0A → fld h 17 0 = 0 → e.pin = none → e.calls.length < 8 →
          a.toNat + 2 ^ 24 * b.toNat < s.imageLen k →
          go2 a b (.call k p) v { e with pc := a.toNat + 2 ^ 24 * b.toNat, calls := (e.pc + 3) :: e.calls })) ∧
      (fld h 23 18 = 0x0B → fld h 17 0 = 0 → ∀ r rs, e.calls = r :: rs →
        (∀ f, e.loops.head? = some f → f.calls ≠ e.calls.length) → go (.ret k p) u { e with pc := r, calls := rs } []) ∧
      (fld h 23 18 = 0x0D → fld h 17 15 = 0 → fld h 14 0 ≤ 24575 → go (.subp k p) u next [.subp (fld h 14 0)]) ∧
      (fld h 23 18 = 0x0E → fld h 17 0 = 0 → e.calls = [] → e.pause = none →
        go (.pauseBegin k p) u { next with pause := some (e.loops.length, e.calls.length) } []) ∧
      (fld h 23 18 = 0x0F → fld h 17 0 = 0 → e.calls = [] → e.pause = some (e.loops.length, 0) →
        go (.pauseEnd k p) u { next with pause := none } []) ∧
      (fld h 23 18 = 0x10 → fld h 16 0 = 0 → e.loops = [] → e.calls = [] → go (.align k p) u next [.align (fld h 17 17)]))

/-- R155 to R157, R162 to R164, R195: the instructions that produce vectors. A full VEC gives the codes of its words, a
sparse one of one entry that entry's code and KEEP elsewhere; RPT repeats the previous vector as written, as far as
the run-ahead has room now and the rest later; a RUN of one vector on one driven pin drives it as its data bit says.
Commands whose completion it states: vec, rpt, run. -/
def Obligations.VectorInstructionsProduceVectors : Prop :=
  ∀ (s u : State) (k : Str) (p : Nat) (e : Exp) (items : List Item) (h : Word),
    let npin := 8 * s.width k
    let produced (c : Instr) (v : State) (place : Exp) (n : Nat) (cs : List Nat) : Prop :=
      place.fits n cs → ∃ t, exec c s = .next t ∧ s.advances v t k p (place.took n cs).1 (items ++ (place.took n cs).2)
    (s.faces k p e items h u → e.jumped = none → e.inSeg = true →
      (fld h 23 18 = 0x01 → bit h 17 = false → ∀ ds v,
        u.fetchData k e (e.pc + 1) ((npin + 1) / 6) = (.ok ds, v) → fullBad npin e.pc h ds = none →
        produced (.vec k p) v { e with pc := e.pc + 1 + (npin + 1) / 6 } 1 (fullCodes npin h ds)) ∧
      (fld h 23 18 = 0x01 → bit h 17 = true → fld h 16 12 = 1 → fld h 11 10 = 0 → fld h 9 4 < npin → fld h 3 0 ≤ 12 →
        produced (.vec k p) u { e with pc := e.pc + 1 } 1 ((List.replicate npin cKEEP).set (fld h 9 4) (fld h 3 0))) ∧
      (fld h 23 18 = 0x02 → fld h 17 0 ≠ 0 → e.hasVec = true →
        produced (.rpt k p) u
          { e with pc := e.pc + 1, rptLeft := fld h 17 0 - min (fld h 17 0) ((s.stream k).room p) }
          (min (fld h 17 0) ((s.stream k).room p)) e.raw) ∧
      (fld h 23 18 = 0x03 → fld h 17 14 = 0 → fld h 13 0 = 0 → ∀ l d v w,
        u.fetchData k e (e.pc + 1) 1 = (.ok [l], v) → v.fetchData k e (e.pc + 2) 1 = (.ok [d], w) →
        fld l 23 22 = 0 → fld l 21 16 < npin → fld l 15 0 = 0 → fld d 22 0 = 0 →
        produced (.run k p) w { e with pc := e.pc + 3 } 1
          ((List.replicate npin cKEEP).set (fld l 21 16) (if bit d 23 then cD1 else cD0)))) ∧
    (s.standsAt k p e items → 0 < e.rptLeft →
      produced (.rpt k p) s { e with rptLeft := e.rptLeft - min e.rptLeft ((s.stream k).room p) }
        (min e.rptLeft ((s.stream k).room p)) e.raw)

/-- R165 to R167, R170, R173, R196: segments. SEG outside a segment opens one; inside, it first closes the open one, or
goes to the target of its first ALWAYS JSEG; a HOST, GREEN or ANYFAIL JSEG before that stages an alternative. HALT
closes the last segment and ends the path. A SEG or HALT in a segment without a vector is invalid. Commands whose
completion it states: seg, halt. -/
def Obligations.SegmentsOpenAndClose : Prop :=
  ∀ (s u : State) (k : Str) (p : Nat) (e : Exp) (items : List Item) (h : Word),
    s.faces k p e items h u → e.loops = [] → e.calls = [] →
    let closed : Exp := { e with inSeg := false, segVecs := 0, jsegs := [], pause := none, jumped := none }
    let opened (b : Word) : Exp := { closed with
      pc := e.pc + 2, inSeg := true, tsw := List.replicate (s.width k) (fld b 17 13)
      pause := if bit b 10 then some (0, 0) else none }
    let mark (b w1 : Word) : Item := .seg e.pc (fld b 17 13) (fld w1 15 0) (bit b 12) (bit b 11) (bit b 10) (bit b 9)
    let alt : Alt := { id := (s.stream k).nextAlt, parent := none, at_ := items.length, cand := 1, exp := {} }
    let go (c : Instr) (v : State) (e' : Exp) (is : List Item) : Prop :=
      ∃ t, exec c s = .next t ∧ s.advances v t k p e' (items ++ is)
    (∀ w1 v, fld h 23 18 = 0x08 → fld h 8 0 = 0 → u.fetchData k e (e.pc + 1) 1 = (.ok [w1], v) → fld w1 23 16 = 0 →
      (e.inSeg = false → go (.seg k p) v (opened h) [mark h w1]) ∧
      (e.inSeg = true → e.jumped = none → e.segVecs ≠ 0 → e.jsegs = [] →
        go (.seg k p) v (opened h) [.boundary [] none, mark h w1]) ∧
      (e.inSeg = true → e.jumped = none → e.segVecs = 0 → go (.seg k p) v { e with ended := true } [.invalid e.pc]) ∧
      (∀ j r, e.inSeg = true → e.jumped = none → e.segVecs ≠ 0 → e.jsegs = j :: r → j.cond = 0 →
        go (.seg k p) v { closed with pc := j.target, jumped := some j.addr } [.boundary e.jsegs none]) ∧
      (∀ j : Jseg, p = 0 → e.inSeg = true → e.jumped = none → e.segVecs ≠ 0 → e.jsegs = [j] → j.cond ≠ 0 →
        ∃ t, exec (.seg k p) s = .next t ∧
          t.stream k = { s.stream k with
            exp := opened h, items := items ++ [.boundary [j] none, mark h w1], nextAlt := (s.stream k).nextAlt + 1
            alts := (s.stream k).alts ++ [{ alt with exp := { closed with pc := j.target, jumped := some j.addr } }] } ∧
          (∀ i, i ≠ k.val → t.stream i = s.stream i) ∧ (∀ i, t.rfl_ i = s.rfl_ i) ∧
          t = { v with streams := t.streams, refill := t.refill })) ∧
    (fld h 23 18 = 0x11 → fld h 17 16 = 0 → e.jumped = none → e.inSeg = true →
      (e.segVecs ≠ 0 → e.jsegs = [] →
        go (.halt k p) u { closed with ended := true } [.boundary [] none, .halt (fld h 15 0)]) ∧
      (e.segVecs = 0 → go (.halt k p) u { e with ended := true } [.invalid e.pc]))

/-! ### Streams and sites -/

/-- R157, R198, R200, R203, R218, R227, R351, R79 (Table 7.4): ARM of one stream at rest whose regions, site ring, sites
and ENTRY pass their checks arms it: it expands from ENTRY with every pin's previous code DZ (code 2), START is
PARAM's and WHY stays, the cycle counters and start times of its octets are cleared, the sites of its mask whose
monitors are in band are marked and the others get INBAND and its fault, READY becomes RUN, and the command is posted.
Commands whose completion it states: execArm. -/
def Obligations.ArmPreparesAStream : Prop :=
  ∀ (s : State) (org : Org) (k : Str) (w0 e0 e1 : Word),
    let entry := e0.toNat + 2 ^ 24 * e1.toNat
    s.hostGate org.ini = none → fld w0 19 16 = 2 ^ k.val → fld w0 15 14 ≤ 2 → fld w0 13 0 = 0 → s.fuses.life ≠ 4 →
    s.run.st = .ready ∨ s.run.st = .run ∨ s.run.st = .test → s.strSt k = sIDLE ∨ s.strSt k = sSTOPPED →
    s.regionsOk k = true → s.siteRingOk = true → s.sitesOk k = true → entry < s.imageLen k →
    let marks (n : Nat) : Bool := (s.inband n).isNone
    ∃ t, exec (.execArm org w0 e0 e1) s = .next t ∧ t.reply = ⟨0, []⟩ ∧
      t.reg (pSTREAM k) STREAM_STAT =
        word (sARMED * 2 ^ 21 + s.fldR (pSTREAM k) STREAM_STAT 19 16 * 2 ^ 16 + fld w0 15 14 * 2 ^ 14) ∧
      (∀ o ∈ [STREAM_HPOS0, STREAM_HPOS1, STREAM_SEG], t.reg (pSTREAM k) o = 0) ∧ t.reg pSLIP (SLIP_MAXA + k) = 0 ∧
      (let dz : List Nat := List.replicate (8 * s.width k) 2
       t.stream k = { exp := { pc := entry, tsets := List.replicate (s.width k) 0, raw := dz, res := dz }, gen := s.fresh
                      marked := (t.stream k).marked }) ∧
      (∀ n < 64, nbit (t.stream k).marked n = (decide (n ∈ s.maskSites k) && marks n)) ∧
      (∀ j, j ≠ k.val → t.stream j = s.stream j) ∧
      (∀ n ∈ s.maskSites k, t.siteSt n = tASSIGNED ∧ t.fldR (pSITE n) SITE_STAT 20 17 = (if marks n then 0 else 2) ∧
        t.fldR (pSITE n) SITE_STAT 16 0 = s.fldR (pSITE n) SITE_STAT 16 0 ∧
        (∀ o ∈ [SITE_FLAG, SITE_FAILS, SITE_IDLES, SITE_POS0, SITE_POS1], t.reg (pSITE n) o = 0) ∧
        t.site n = { noct := (s.site n).noct, segNum := (s.site n).segNum, ended := (s.site n).ended,
                     decisions := (s.site n).decisions, pendGap := (s.site n).pendGap }) ∧
      (∀ n, n ∉ s.maskSites k → t.site n = s.site n) ∧
      (∀ o ∈ (s.sitesOf k).flatMap s.octetsOf, t.wideR (pOCTTM o) OCTTM_CYC0 2 = 0 ∧ t.wideR (pOCTTM o) OCTTM_TSTART0 3 = 0) ∧
      t.rfl_ k = { s.rfl_ k with resident := [], wanted := [], fetching := none } ∧
      (∀ j, j ≠ k.val → t.rfl_ j = s.rfl_ j) ∧
      t.watch = { s.watch with raised := s.watch.raised ++ (s.maskSites k).filterMap (fun n => (s.inband n).map (fun m =>
        ({ cls := .n, code := 0x017, page := pSITE n, detail := m + (if (s.mon m).last = 2 then 2048 else 0) } : Raised))) } ∧
      s.runFollows t ∧
      t.abt = { s.abt with posts := s.prunePosts.abt.posts ++ [({ org := org, kind := .exec 1 (2 ^ k.val) s.fresh } : Post)] } ∧
      (s.glean.borrow = none → t.glean = s.glean ∧ t.reg pGLEAN GLEAN_ABORT = s.reg pGLEAN GLEAN_ABORT) ∧
      (∀ p o, o < 256 → o ≠ PG_LOCK → p ≠ pSTREAM k → (p, o) ≠ (pSLIP, SLIP_MAXA + k.val) → (p, o) ≠ (pGLEAN, GLEAN_ABORT) →
        (∀ n ∈ s.maskSites k, p ≠ pSITE n) →
        (∀ c ∈ (s.sitesOf k).flatMap s.octetsOf, ∀ i < 5, (p, o) ≠ (pOCTTM c, OCTTM_CYC0 + i)) → t.reg p o = s.reg p o) ∧
      t = { s with regs := t.regs, streams := t.streams, sites := t.sites, refill := t.refill, run := t.run, abt := t.abt,
                   fresh := s.fresh + 1, reply := t.reply, watch := t.watch, glean := t.glean }

/-- R20, R200, R201, R214, R458, Table 1.2: JUMP and STOP of one stream that is ARMED, RUNNING or HOLDING are posted and
enter its command stile, which captures them at the next edge or the one after it, and after those ahead of them;
where the stile holds 4 they wait. RESET of a stream at rest clears its status and its sites' positions and leaves it
IDLE; RELEASE of a RETIRED site without a latched fault returns it to ASSIGNED. Commands whose completion it states:
execJump, execStop, execReset, execRelease. -/
def Obligations.JumpStopResetAndRelease : Prop :=
  ∀ (s : State) (org : Org) (w0 : Word), s.hostGate org.ini = none →
    let stiled (t : State) (op : StileOp) : Prop :=
      let mates := s.stile.filter (fun y => y.op.stile == op.stile)
      ∃ c, t.stile = s.stile ++ [⟨op, c, s.fresh + 1⟩] ∧ (4 ≤ mates.length → c = none) ∧
        (mates.length < 4 → ∃ x, c = some x ∧ s.time.edge + 1 ≤ x ∧ (∀ y ∈ mates, y.capture.getD 0 ≤ x) ∧
          (x ≤ s.time.edge + 2 ∨ ∃ y ∈ mates, y.capture = some x))
    (∀ k : Str, fld w0 19 16 = 2 ^ k.val → sARMED ≤ s.strSt k → s.strSt k ≤ sHOLDING →
      (fld w0 15 0 = 0 → ∃ t g, exec (.execJump org w0) s = .next t ∧ t.reply = ⟨0, []⟩ ∧ stiled t (.jump k) ∧
        t.abt = { s.abt with posts := s.prunePosts.abt.posts ++ [({ org := org, kind := .exec 2 (2 ^ k.val) g } : Post)] } ∧
        t = { s with stile := t.stile, abt := t.abt, fresh := s.fresh + 1, reply := t.reply }) ∧
      (fld w0 15 1 = 0 → ∃ t g, exec (.execStop org w0) s = .next t ∧ t.reply = ⟨0, []⟩ ∧ stiled t (.stop k (bit w0 0)) ∧
        t.abt = { s.abt with posts := s.prunePosts.abt.posts ++ [({ org := org, kind := .exec 3 (2 ^ k.val) g } : Post)] } ∧
        t = { s with stile := t.stile, abt := t.abt, fresh := s.fresh + 1, reply := t.reply })) ∧
    (∀ k : Str, fld w0 19 16 = 2 ^ k.val → s.strSt k = sIDLE ∨ s.strSt k = sSTOPPED → fld w0 15 0 = 0 →
      ∃ t, exec (.execReset org w0) s = .next t ∧ t.reply = ⟨0, []⟩ ∧ t.fldR (pSTREAM k) STREAM_STAT 23 16 = 0 ∧
        t.fldR (pSTREAM k) STREAM_STAT 15 0 = s.fldR (pSTREAM k) STREAM_STAT 15 0 ∧
        (∀ o ∈ [STREAM_HALT, STREAM_ERRA0, STREAM_ERRA1, STREAM_HPOS0, STREAM_HPOS1, STREAM_SEG],
          t.reg (pSTREAM k) o = 0) ∧ t.reg (pSTREAM k) STREAM_FLAG = s.reg (pSTREAM k) STREAM_FLAG ∧
        t.stream k = {} ∧
        (∀ j, j ≠ k.val → t.stream j = { s.stream j with startAt := (t.stream j).startAt } ∧
          (s.startMode j ≠ 2 ∨ s.strSt j ≠ sARMED → t.stream j = s.stream j)) ∧
        (∀ n ∈ s.sitesOf k, t.wideR (pSITE n) SITE_POS0 2 = 0 ∧ t.site n = { s.site n with pos := 0, top := 0 } ∧
          t.siteSt n = if s.siteSt n = tHEDGED then tRETIRED else s.siteSt n) ∧
        (∀ n, n ∉ s.sitesOf k → t.site n = s.site n) ∧
        (∀ p o, o < 256 → p ≠ pSTREAM k → (∀ n ∈ s.sitesOf k, p ≠ pSITE n) → t.reg p o = s.reg p o) ∧
        t = { s with regs := t.regs, streams := t.streams, sites := t.sites, abt := { s.abt with posts := s.prunePosts.abt.posts },
                     reply := t.reply }) ∧
    (∀ n : SiteN, fld w0 19 16 = 0 → fld w0 15 0 = n.val → s.siteSt n = tRETIRED → s.fldR (pSITE n) PG_FLT 23 21 = 0 →
      ∃ t, exec (.execRelease org w0) s = .next t ∧ t.reply = ⟨0, []⟩ ∧
        t.reg (pSITE n) SITE_STAT = putFld (s.reg (pSITE n) SITE_STAT) 23 21 tASSIGNED ∧
        s.keepsRegs t [(pSITE n, SITE_STAT)] ∧ t.site n = { noct := (s.site n).noct, pendGap := (s.site n).pendGap } ∧
        (∀ m, m ≠ n.val → t.site m = s.site m) ∧
        (∀ m, t.mon m = if m ∈ monsOf (s.octetsOf n) ∧ s.monAction m ≠ 0 then { s.mon m with fault := true, beyond := 0 }
          else s.mon m) ∧
        t = { s with regs := t.regs, sites := t.sites, mons := t.mons, abt := { s.abt with posts := s.prunePosts.abt.posts },
                     reply := t.reply })

/-- R20, R169, R171, R201, R204, R214, R458, Table 1.2: the command captured first takes effect 2 cycles after its capture
edge, and one that waits for its stile enters it. A jump request is pending with that time, or keeps an earlier one; a
STOP ends an ARMED stream, marks a running one to stop at its next boundary, or with NOW = 1 drains it from that edge;
HEDGE_REQ takes a stream at rest or ARMED to STOPPED and one that runs to DRAINING, with class D HOST. A command that
finds its stream at rest has no other effect, and with the stiles empty nothing happens. Commands whose completion it
states: commandStileExit. -/
def Obligations.StileCommandsTakeEffectAtTheirEdge : Prop :=
  ∀ (s : State), (s.stileFirst = none → exec .commandStileExit s = .next s.followStreams) ∧
   ∀ (c : StileCmd) (cap : Nat) (k : Str), s.stileFirst = some (c, cap) →
    let e := cap + 2
    let others (t : State) : Prop := ∀ j, j ≠ k.val → t.stream j = s.stream j
    let left (t : State) : Prop :=
      match s.stile.find? (fun y => y != c && y.op.stile == c.op.stile && y.capture.isNone) with
      | none => t.stile = s.stile.erase c
      | some w => ∃ x, (s.toEdge e).time.edge < x ∧ t.stile = (s.stile.erase c).replace w { w with capture := some x }
    let rested (t : State) : Prop :=
      (∀ j, j ≠ k.val → t.stream j = { s.stream j with startAt := (t.stream j).startAt } ∧
        (s.startMode j ≠ 2 ∨ s.strSt j ≠ sARMED → t.stream j = s.stream j)) ∧
      (t.stream k).exp.ended = true ∧ (t.stream k).startAt = none ∧ (t.stream k).marked = 0 ∧ (t.stream k).alts = [] ∧
      (∀ n < 64, t.siteSt n = if n ∈ s.sitesOf k ∧ s.siteSt n = tHEDGED then tRETIRED else s.siteSt n)
    let drains (t : State) (why : Nat) : Prop := ∃ es, others t ∧ t.strSt k = sDRAINING ∧
      t.fldR (pSTREAM k) STREAM_STAT 19 16 = why ∧
      (t.stream k).stopAt = some (match (s.stream k).stopAt with | none => e * 625 | some u => min u (e * 625)) ∧
      (t.stream k).exp.ended = true ∧ (t.stream k).alts = [] ∧
      t.green = { s.green with flight := s.green.flight ++ es, ins := t.green.ins } ∧ ∀ x ∈ es, x.prod = 148 + k.val
    let stat := (pSTREAM k, STREAM_STAT)
    let idle : Prop := s.strSt k < sARMED ∨ sHOLDING < s.strSt k
    (c.op = .jump k ∨ (∃ now, c.op = .stop k now) → idle →
      ∃ t, exec .commandStileExit s = .next t ∧ left t ∧ s.runFollows t ∧
        t = { s with stile := t.stile, time := (s.toEdge e).time, fresh := t.fresh, run := t.run }) ∧
    (c.op = .jump k → sARMED ≤ s.strSt k → s.strSt k ≤ sHOLDING →
      ∃ t, exec .commandStileExit s = .next t ∧ left t ∧ others t ∧
        t.stream k = { s.stream k with hostReq := some (match (s.stream k).hostReq with
          | some u => min u (e * 625)
          | none => e * 625) } ∧ s.runFollows t ∧
        t = { s with stile := t.stile, time := (s.toEdge e).time, fresh := t.fresh, streams := t.streams, run := t.run }) ∧
    (∀ now, c.op = .stop k now → s.strSt k = sARMED →
      ∃ t, exec .commandStileExit s = .next t ∧ left t ∧ rested t ∧ t.strSt k = sIDLE ∧ t.bitR (pSTREAM k) STREAM_STAT 20 = false ∧
        s.keepsRegs t (stat :: (s.sitesOf k).map (fun n => (pSITE n, SITE_STAT))) ∧ s.runFollows t ∧
        t = { s with stile := t.stile, time := (s.toEdge e).time, fresh := t.fresh, streams := t.streams, regs := t.regs, run := t.run }) ∧
    (s.strSt k = sRUNNING ∨ s.strSt k = sHOLDING →
      (c.op = .stop k false → ∃ t, exec .commandStileExit s = .next t ∧ left t ∧ others t ∧
        t.stream k = { s.stream k with stopNext := true } ∧ s.runFollows t ∧
        t = { s with stile := t.stile, time := (s.toEdge e).time, fresh := t.fresh, streams := t.streams, run := t.run }) ∧
      (c.op = .stop k true → s.time.edge ≤ e → ∃ t, exec .commandStileExit s = .next t ∧ left t ∧ drains t 2 ∧
        s.keepsRegs t [stat] ∧ s.runFollows t ∧
        t = { s with stile := t.stile, time := (s.toEdge e).time, fresh := t.fresh, streams := t.streams, regs := t.regs,
                     green := t.green, run := t.run })) ∧
    (∀ ini, c.op = .hedge k ini → s.time.edge ≤ e →
      ∃ t, exec .commandStileExit s = .next t ∧ left t ∧
        (idle ∧ s.strSt k ≠ sDRAINING ∨ s.strSt k = sARMED →
          rested t ∧ t.strSt k = sSTOPPED ∧ t.fldR (pSTREAM k) STREAM_STAT 19 16 = 9) ∧
        (s.strSt k = sRUNNING ∨ s.strSt k = sHOLDING → drains t 9) ∧
        (s.strSt k = sDRAINING → t.streams = s.streams ∧ t.reg (pSTREAM k) STREAM_STAT = s.reg (pSTREAM k) STREAM_STAT) ∧
        (s.strSt k ≠ sRUNNING → s.strSt k ≠ sHOLDING → t.green = s.green) ∧
        t.bitR (pSTREAM k) PG_CTL 22 = false ∧
        s.keepsRegs t (stat :: (pSTREAM k, PG_CTL) :: (s.sitesOf k).map (fun n => (pSITE n, SITE_STAT))) ∧
        t.watch = { s.watch with raised := s.watch.raised ++
          [{ cls := .d, code := 0x020, page := pSTREAM k, detail := ini, unit := .stream k : Raised }] } ∧ s.runFollows t ∧
        t = { s with stile := t.stile, time := (s.toEdge e).time, fresh := t.fresh, streams := t.streams, regs := t.regs,
                     green := t.green, watch := t.watch, run := t.run })

/-- R31, R201, R202, R351: ASSIGN of a FREE site to a stream at rest, with distinct octets that no site holds, makes it
ASSIGNED, and the monitors of its octets start on their fault side; ASSIGN = 0 of an ASSIGNED site of a stream at rest
makes it FREE; an octet that another site holds is out of RANGE. Commands whose completion it states: siteAssign,
siteUnassign. -/
def Obligations.SitesAreAssignedAndFreed : Prop :=
  ∀ (s : State) (ini : Ini) (n : SiteN), s.gate_ ini (pSITE n) true = none → s.day.active = false →
    ¬ (s.run.st = .start ∧ s.run.warm = true ∧ s.run.step ≤ 7) →
    (∀ k : Str, s.siteSt n = tFREE → s.strSt k = sIDLE ∨ s.strSt k = sSTOPPED →
      let cols := (List.range (s.width k)).map (s.column n)
      (cols.Nodup → (∀ o ∈ cols, s.siteOf o = none) →
        ∃ t, exec (.siteAssign ini n k) s = .next t ∧ s.wrote t (pSITE n) [SITE_CFG, SITE_STAT] ∧
          t.reg (pSITE n) SITE_CFG = putFld (s.reg (pSITE n) SITE_CFG) 23 21 (4 + k) ∧
          t.reg (pSITE n) SITE_STAT = putFld (s.reg (pSITE n) SITE_STAT) 23 21 tASSIGNED ∧
          t.octetsOf n = cols ∧ t.site n = { s.site n with noct := s.width k } ∧ (∀ m, m ≠ n.val → t.site m = s.site m) ∧
          (∀ m, t.mon m = if m ∈ monsOf cols ∧ s.monAction m ≠ 0 then { s.mon m with fault := true, beyond := 0 } else s.mon m) ∧
          t = { s with regs := t.regs, rot := t.rot, reply := t.reply, sites := t.sites, mons := t.mons }) ∧
      ((∃ o ∈ cols, (s.siteOf o).isSome = true) →
        ∃ t, exec (.siteAssign ini n k) s = .next t ∧ t.reply = ⟨Err.range.code, []⟩ ∧ s.keepsRegs t [(pSITE n, PG_ERR)] ∧
          t = { s with regs := t.regs, rot := t.rot, reply := t.reply })) ∧
    (s.siteSt n = tASSIGNED → s.strSt (s.siteStream n) = sIDLE ∨ s.strSt (s.siteStream n) = sSTOPPED →
      ∃ t, exec (.siteUnassign ini n) s = .next t ∧ s.wrote t (pSITE n) [SITE_CFG, SITE_STAT] ∧
        t.reg (pSITE n) SITE_CFG = putFld (s.reg (pSITE n) SITE_CFG) 23 23 0 ∧
        t.reg (pSITE n) SITE_STAT = putFld (s.reg (pSITE n) SITE_STAT) 23 21 tFREE ∧
        t.site n = { s.site n with noct := 0 } ∧ (∀ m, m ≠ n.val → t.site m = s.site m) ∧
        t = { s with regs := t.regs, rot := t.rot, reply := t.reply, sites := t.sites })

/-! ### The running of streams -/

/-- R203, R204, R227 (Tables 7.3, 7.6): a stream whose run-ahead is full is PRIMED, and with START = NOW and no other
stream armed with it starts at the next edge; the start event takes effect at its edge: RUNNING, with the marked
sites' first cycles 64 cycles later, DRAINING with NOSITE where no site is left, or MISSED_START where the stream was
not PRIMED; a marked site's first cycle makes it ACTIVE and OCTTM_TSTART of its octets tells its time. Commands whose
completion it states: streamPrimed, streamStart, firstCycleStart. -/
def Obligations.StreamsPrimeAndStart : Prop :=
  ∀ (s : State) (k : Str),
    let others (t : State) : Prop := ∀ j, j ≠ k.val → t.stream j = s.stream j
    (s.primeReady k = false ∨ s.bitR (pSTREAM k) STREAM_STAT 20 = true → exec (.streamPrimed k) s = .next s) ∧
    (s.primeReady k = true → s.bitR (pSTREAM k) STREAM_STAT 20 = false →
      (s.startMode k ≠ 2 → ∃ t, exec (.streamPrimed k) s = .next t ∧
        t.reg (pSTREAM k) STREAM_STAT = putFld (s.reg (pSTREAM k) STREAM_STAT) 20 20 1 ∧
        s.keepsRegs t [(pSTREAM k, STREAM_STAT)] ∧ t = { s with regs := t.regs }) ∧
      (s.startMode k = 2 → (∀ j < 4, j ≠ k.val → s.strSt j ≠ sARMED ∨ s.startMode j ≠ 2) →
        (s.stream k).startAt = none →
        ∃ t, exec (.streamPrimed k) s = .next t ∧
          t.reg (pSTREAM k) STREAM_STAT = putFld (s.reg (pSTREAM k) STREAM_STAT) 20 20 1 ∧
          s.keepsRegs t [(pSTREAM k, STREAM_STAT)] ∧ others t ∧
          t.stream k = { s.stream k with startAt := some (s.time.edge + 1, true) } ∧
          t = { s with regs := t.regs, streams := t.streams })) ∧
    (∀ (e : Nat) (primed : Bool), (s.stream k).startAt = some (e, primed) → s.strSt k = sARMED →
      let marked (n : Nat) : Bool := nbit (s.stream k).marked n && s.siteSt n == tASSIGNED && s.siteStream n == k.val
      (primed = true → ∃ t, exec (.streamStart k) s = .next t ∧ others t ∧
        (∀ n < 64, t.site n = if marked n then { s.site n with tnext := (e + 64) * 625 } else s.site n) ∧
        ((∃ n < 64, s.siteStream n = k ∧ (s.siteSt n = tACTIVE ∨ s.siteSt n = tPARKED ∨
            marked n = true ∧ (s.site n).begun = false)) →
          t.reg (pSTREAM k) STREAM_STAT = putFld (s.reg (pSTREAM k) STREAM_STAT) 23 21 sRUNNING ∧
          t.stream k = { s.stream k with startAt := none } ∧ t.green = s.green ∧ t.fresh = s.fresh) ∧
        ((∀ n < 64, s.siteStream n = k → s.siteSt n ≠ tACTIVE ∧ s.siteSt n ≠ tPARKED ∧
            (marked n = true → (s.site n).begun = true)) →
          t.strSt k = sDRAINING ∧ t.fldR (pSTREAM k) STREAM_STAT 19 16 = 8 ∧ (t.stream k).exp.ended = true ∧
          ∃ es, t.green = { s.green with flight := s.green.flight ++ es, ins := t.green.ins } ∧ ∀ x ∈ es, x.prod = 148 + k.val) ∧
        s.keepsRegs t [(pSTREAM k, STREAM_STAT)] ∧
        t = { s with regs := t.regs, streams := t.streams, sites := t.sites, time := (s.toEdge e).time, green := t.green,
                     fresh := t.fresh }) ∧
      (primed = false → ∃ t, exec (.streamStart k) s = .next t ∧
        t.reg (pSTREAM k) STREAM_FLAG = putFld (s.reg (pSTREAM k) STREAM_FLAG) 22 22 1 ∧
        s.keepsRegs t [(pSTREAM k, STREAM_FLAG)] ∧ others t ∧ t.stream k = { s.stream k with startAt := none } ∧
        t.watch = { s.watch with raised := s.watch.raised ++ [{ cls := .n, code := 0x062, page := pSTREAM k : Raised }] } ∧
        t = { s with regs := t.regs, streams := t.streams, time := (s.toEdge e).time, watch := t.watch })) ∧
    ((s.stream k).startAt = none → exec (.streamStart k) s = .next s) ∧
    (∀ n : SiteN, (s.siteSt n ≠ tASSIGNED ∨ (s.site n).begun = true) → exec (.firstCycleStart n) s = .next s) ∧
    (∀ n : SiteN, s.siteStream n = k → s.siteSt n = tASSIGNED → nbit (s.stream k).marked n = true →
      (s.strSt k = sRUNNING ∨ s.strSt k = sHOLDING ∨ s.strSt k = sDRAINING) → (s.site n).begun = false →
      (s.octetsOf n).Nodup →
      ∃ t, exec (.firstCycleStart n) s = .next t ∧
        t.reg (pSITE n) SITE_STAT = putFld (s.reg (pSITE n) SITE_STAT) 23 21 tACTIVE ∧
        (∀ o ∈ s.octetsOf n, t.wideR (pOCTTM o) OCTTM_TSTART0 3 = (s.toPs (s.site n).tnext).siteTime (s.site n).tnext) ∧
        t.site n = { s.site n with begun := true } ∧ (∀ m, m ≠ n.val → t.site m = s.site m) ∧
        (∀ p o, o < 256 → (p, o) ≠ (pSITE n, SITE_STAT) →
          (∀ c ∈ s.octetsOf n, ∀ i < 3, (p, o) ≠ (pOCTTM c, OCTTM_TSTART0 + i)) → t.reg p o = s.reg p o) ∧
        t = { s with regs := t.regs, sites := t.sites, time := (s.toPs (s.site n).tnext).time })

/-- R135, R155, R161, R183, R186, R188, R190, R192, R205, R211, R213: one cycle of a site that has begun. The leader
commits the next vector with the sets in effect: its position and the high mark H move to it, it is written to the
slip region, the cycle counters of its octets count until it stops, and the strobes outside a match body that do not
pass are counted in SITE_FAILS. A site that has stopped holds an idle vector; a site in a hold holds a held cycle. The
first site to reach an invalid word stops the stream with PATTERN_CODE and the word's address. A site that has not
begun does nothing. Commands whose completion it states: invalidWord, vectorCommit. -/
def Obligations.CyclesCommitVectors : Prop :=
  ∀ (s : State) (n : SiteN) (pins : List PinIn) (bad : List Oct),
    let k := s.siteStream n
    let v := s.site n
    let w := s.toPs v.tnext
    let period (tsets : List Nat) : Nat := s.setPeriod ((s.octetsOf n).headD 0) (tsets.headD 0)
    let cycled (t : State) (tsets : List Nat) (counts : Nat) : Prop :=
      t.time = w.time ∧ (t.site n).tcyc = v.tnext ∧
        (t.site n).tnext = v.tnext + period tsets ∧
        ∀ o ∈ s.octetsOf n, t.wideR (pOCTTM o) OCTTM_CYC0 2 = (s.wideR (pOCTTM o) OCTTM_CYC0 2 + counts) % 2 ^ 48
    (v.begun = false ∨ s.run.safe = true → exec (.vectorCommit n pins bad) s = .next s.followStreams) ∧
    (v.begun = true → s.run.safe = false → s.siteSt n = tACTIVE → (s.octetsOf n).Nodup → v.gapCycles = 0 → v.waitAt = none →
      (s.strSt k = sRUNNING → (s.stream k).stopAt = none → (s.stream k).hold = none → v.stopped = false → v.overDue = false →
        (∀ pos m codes tsets pz sw, (s.stream k).items[v.cur]? = some (.vec pos m codes tsets pz sw) →
          (s.stream k).h ≤ pos + v.off → pos + v.off < 2 ^ 48 →
          let ts := bodySets v.loopSets sw tsets
          let sub := substitute (s.subBit n) codes v.bits v.subptr
          let slip := s.storeSlip k (pos + v.off) codes
          slip.1 = true →
          ∃ t, exec (.vectorCommit n pins bad) s = .next t ∧ cycled t ts 1 ∧
            (t.site n).pos = pos + v.off ∧ (t.site n).tlast = v.tnext ∧ (t.site n).codes = codes ∧
            (t.site n).tsets = ts ∧ (t.site n).subptr = sub.2.2.1 ∧
            ((t.site n).cur, (t.site n).off) = (if v.off + 1 = m then (v.cur + 1, 0) else (v.cur, v.off + 1)) ∧
            (t.stream k).h = pos + v.off + 1 ∧ t.wideR (pSTREAM k) STREAM_HPOS0 2 = pos + v.off ∧
            t.siteSt n = tACTIVE ∧ t.strSt k = sRUNNING ∧ t.bankMem = slip.2.bankMem ∧
            (v.inMatch = false → (t.reg (pSITE n) SITE_FAILS).toNat = min 0xFFFFFF
              ((s.reg (pSITE n) SITE_FAILS).toNat +
                ((w.strobes n v.tnext (period ts) ts sub.1 pins).filter (fun x => !x.2)).length)) ∧ s.runFollows t ∧
            t = { s with regs := t.regs, tabs := t.tabs, sites := t.sites, streams := t.streams, time := t.time, chans := t.chans,
                         bankMem := t.bankMem, units := t.units, watch := t.watch, glean := t.glean, run := t.run }) ∧
        (∀ a (j : Str), j.val = k → (s.stream k).items[v.cur]? = some (.invalid a) →
          ∃ t es xs, exec (.invalidWord j n) s = .next t ∧
            t.strSt k = sDRAINING ∧ t.fldR (pSTREAM k) STREAM_STAT 19 16 = 4 ∧
            t.wideR (pSTREAM k) STREAM_ERRA0 2 = a % 2 ^ 48 ∧ (t.site n).stopped = true ∧ cycled t v.tsets 0 ∧
            t.watch = { s.watch with raised := s.watch.raised ++
              [{ cls := .d, code := 0x061, page := pSTREAM k, unit := .stream k : Raised }] ++ xs } ∧
            (∀ x ∈ xs, x.code = 0x074 ∨ x.code = 0x075) ∧
            t.green = { s.green with flight := s.green.flight ++ es, ins := t.green.ins } ∧ (∀ x ∈ es, x.prod = 148 + k) ∧
            t = { s with regs := t.regs, tabs := t.tabs, sites := t.sites, streams := t.streams, time := t.time,
                         chans := t.chans, units := t.units, watch := t.watch, green := t.green, fresh := t.fresh })) ∧
      (v.stopped = true → (s.strSt k = sRUNNING ∨ s.strSt k = sDRAINING) →
        ∃ t, exec (.vectorCommit n pins bad) s = .next t ∧ cycled t v.tsets 0 ∧ (t.site n).pos = v.pos ∧ (t.site n).cur = v.cur ∧
          (t.reg (pSITE n) SITE_IDLES).toNat = min 0xFFFFFF ((s.reg (pSITE n) SITE_IDLES).toNat + 1) ∧ s.runFollows t ∧
          t = { s with regs := t.regs, sites := t.sites, time := t.time, chans := t.chans, watch := t.watch, run := t.run }) ∧
      (∀ h m, s.strSt k = sHOLDING → (s.stream k).stopAt = none → v.stopped = false → (s.stream k).hold = some (h, m) →
        h ≤ v.tnext → (s.stream k).resume = none →
        ∃ t, exec (.vectorCommit n pins bad) s = .next t ∧ cycled t v.tsets 1 ∧ (t.site n).pos = v.pos ∧ (t.site n).cur = v.cur ∧
          (t.site n).gapCycles = 1 ∧ (t.site n).gapFrom = v.tnext ∧ s.runFollows t ∧
          t = { s with regs := t.regs, sites := t.sites, time := t.time, units := t.units, watch := t.watch, run := t.run })) ∧
    (∀ j : Str, j.val ≠ k → exec (.invalidWord j n) s = .next s)

/-- R29, R169, R181, R199, R208, R211, R217: the oldest decision of a site is made at its time: a fail of an ACTIVE site
raises the stream's ANYFAIL request, a match loop that ended without a match sets MATCH_FAIL. A hold ends once the
expander has no more to give. A DRAINING stream whose sites have stopped, with every decision made and record closed,
is STOPPED and its sites ASSIGNED. An ended segment's record goes to the site ring once its decisions are made.
Commands whose completion it states: matchDecision, holdResume, streamDrainComplete, segmentRecordClose. -/
def Obligations.DecisionsHoldsDrainsAndRecordsFinish : Prop :=
  ∀ (s : State) (n : SiteN) (k : Str),
    let v := s.site n
    let otherSites (t : State) : Prop := ∀ m, m ≠ n.val → t.site m = s.site m
    let otherStreams (t : State) (k : Nat) : Prop := ∀ j, j ≠ k → t.stream j = s.stream j
    let gapOf (g : SegAcc) : Gap :=
      { cause := 5, tstart := g.tend, lenps := 0, count := 1, aux0 := g.fails
        aux1 := ((g.words n).getD 1 0).toNat, aux2 := g.segid, aux3 := g.segid }
    (v.decisions = [] → exec (.matchDecision n) s = .next s) ∧
    (∀ d ds, v.decisions = d :: ds →
      (d.kind = .matched → ∃ t, exec (.matchDecision n) s = .next t ∧ t.site n = { v with decisions := ds } ∧ otherSites t ∧
        t = { s with sites := t.sites, time := (s.toPs d.time).time }) ∧
      (d.kind = .loopEnd false → ∃ t, exec (.matchDecision n) s = .next t ∧
        t.site n = ({ v with decisions := ds } : Site).matchFail d.seg ∧ otherSites t ∧
        t.reg (pSITE n) SITE_FLAG = putFld (s.reg (pSITE n) SITE_FLAG) 22 22 1 ∧ s.keepsRegs t [(pSITE n, SITE_FLAG)] ∧
        t = { s with sites := t.sites, regs := t.regs, time := (s.toPs d.time).time }) ∧
      (d.kind = .loopEnd true ∨ (d.kind = .fail ∧ s.siteSt n ≠ tACTIVE) →
        ∃ t, exec (.matchDecision n) s = .next t ∧ t.site n = { v with decisions := ds } ∧ otherSites t ∧
          t = { s with sites := t.sites, time := (s.toPs d.time).time }) ∧
      (d.kind = .fail → s.siteSt n = tACTIVE →
        ∃ t es, exec (.matchDecision n) s = .next t ∧ t.site n = { v with decisions := ds } ∧ otherSites t ∧
          t.stream (s.siteStream n) = { s.stream (s.siteStream n) with
            failReq := some ((s.stream (s.siteStream n)).failReq.getD (d.time, false)) } ∧
          otherStreams t (s.siteStream n) ∧
          t.green = { s.green with flight := s.green.flight ++ es } ∧ (∀ x ∈ es, x.prod = 136 + s.siteStream n) ∧
          t = { s with sites := t.sites, streams := t.streams, green := t.green, time := (s.toPs d.time).time })) ∧
    (∀ h, (s.stream k).hold = some (h, n.val) → s.strSt k = sHOLDING →
      let full : Prop := (s.stream k).exp.ended = true ∨ s.fldR (pSTREAM k) STREAM_CFG 19 13 ≤ s.entriesAhead k n ∨
        (s.stream k).room 0 = 0
      (¬ full → exec (.holdResume k) s = .next s) ∧
      (full → ∃ t, exec (.holdResume k) s = .next t ∧ t.stream k = { s.stream k with resume := some (s.time.edge * 625) } ∧
        otherStreams t k ∧ t.reg (pSTREAM k) STREAM_STAT = putFld (s.reg (pSTREAM k) STREAM_STAT) 23 21 sRUNNING ∧
        s.keepsRegs t [(pSTREAM k, STREAM_STAT)] ∧ t = { s with regs := t.regs, streams := t.streams })) ∧
    (s.strSt k ≠ sHOLDING → exec (.holdResume k) s = .next s) ∧
    (s.drained k = true → (∀ m ∈ s.liveSites k, s.preason m = 3 → (s.site m).seg = none) →
      ∃ t, exec (.streamDrainComplete k) s = .next t ∧ t.strSt k = sSTOPPED ∧
        t.bitR (pSTREAM k) STREAM_STAT 20 = s.bitR (pSTREAM k) STREAM_STAT 20 ∧
        t.stream k = { s.stream k with hostReq := none, greenReq := none, failReq := none, stopAt := none, hold := none,
                                       resume := none, stopNext := false, startAt := none, alts := [] } ∧
        otherStreams t k ∧
        (∀ m ∈ s.sitesOf k, t.siteSt m = if s.siteSt m = tACTIVE ∨ s.siteSt m = tPARKED then tASSIGNED
          else if s.siteSt m = tHEDGED then tRETIRED else s.siteSt m) ∧
        (∀ m, t.mon m = if (∃ x ∈ s.liveSites k, m ∈ monsOf (s.octetsOf x)) ∧ s.monAction m ≠ 0
          then { s.mon m with fault := true, beyond := 0 } else s.mon m) ∧
        (∀ p o, o < 256 → (p, o) ≠ (pSTREAM k, STREAM_STAT) → (∀ m ∈ s.sitesOf k, (p, o) ≠ (pSITE m, SITE_STAT)) →
          t.reg p o = s.reg p o) ∧ s.runFollows t ∧
        t = { s with regs := t.regs, streams := t.streams, mons := t.mons, run := t.run }) ∧
    (s.drained k = true → (∃ m ∈ s.liveSites k, s.preason m = 3 ∧ (s.site m).seg ≠ none) →
      ∃ t, exec (.streamDrainComplete k) s = .next t ∧ t.strSt k = sDRAINING ∧
        (∀ m ∈ s.liveSites k, s.preason m = 3 → (s.site m).seg ≠ none → (t.site m).stopped = true ∧ (t.site m).seg = none ∧
          (s.site m).ended.length < (t.site m).ended.length)) ∧
    (s.drained k = false → exec (.streamDrainComplete k) s = .next s.followStreams) ∧
    (∀ g gs, v.ended = g :: gs →
      ((∃ d ∈ v.decisions, d.seg ≤ g.num) → exec (.segmentRecordClose n) s = .next s) ∧
      ((∀ d ∈ v.decisions, g.num < d.seg) → 8 ≤ s.ringFree 128 → s.ringFails 128 8 = false →
        ∃ t, exec (.segmentRecordClose n) s = .next t ∧ t.site n = { v with ended := gs } ∧ otherSites t ∧
          t.recs = s.recs ++ [{ kind := 1, unit := 128 + n, words := g.words n, place := s.ringWr 128 : Rec }] ∧
          s.ringHolds t 128 (g.words n) ∧
          t.reg pACQG ACQG_RECS = s.reg pACQG ACQG_RECS + 1 ∧ s.keepsRegs t [(pACQG, ACQG_RECS)] ∧
          t = { s with regs := t.regs, sites := t.sites, recs := t.recs, bankMem := t.bankMem, tabs := t.tabs, siteWr := t.siteWr }) ∧
      ((∀ d ∈ v.decisions, g.num < d.seg) → (s.ringFree 128 < 8 ∨ s.ringFails 128 8 = true) → v.pendGap = none →
        ∃ t, exec (.segmentRecordClose n) s = .next t ∧ otherSites t ∧
          t.site n = { v with ended := gs, pendGap := some (gapOf g) } ∧
          t = { s with sites := t.sites })) ∧
    (v.ended = [] → exec (.segmentRecordClose n) s = .next s)

/-! ### Timing -/

/-- R229, R230, R231: A word of a timing set takes its value where the set stays legal and no stream runs on the octet; on
an octet in use it is STATE; a word that must be zero is out of RANGE. Nothing else changes but PG_SEQ, the rotation,
the reply and the clock, which moves as the access crosses its register stile (R20, R21). R20, R258, R259, R264, R275,
R386, R458, Tables 1.2 and 9.4: a staged level word crosses its register stile, load strobes of edges up to there
first, and takes its value where the tables stay legal; LOAD enters the measurement stile, or waits where it holds 16;
CONV makes conversions of its ADCs pending, clears their result flags and enters the stile, and is RANGE with no ADC
and BUSY with one in use. Commands whose completion it states: timingSetWrite, levelTableWrite, load, conv. -/
def Obligations.TimingSetsAndLevelsAreWritten : Prop :=
  (∀ (s : State) (ini : Ini) (o : Oct) (idx : Nat) (w : Word), idx < 2048 → s.gate_ ini (pOCTTM o) true = none →
     s.day.active = false → ¬ (s.run.st = .start ∧ s.run.warm = true ∧ s.run.step ≤ 7) →
     (s.checkTset o idx w = none →
       ∃ t, exec (.timingSetWrite ini o idx [w]) s = .next t ∧ s.wrote t (pOCTTM o) [] ∧ t.tab (pOCTTM o) 0 idx = w ∧
         s.keepsTabs t (pOCTTM o) 0 idx 1 ∧ s.passes t (pOCTTM o) ∧
         t = { s with regs := t.regs, rot := t.rot, reply := t.reply, tabs := t.tabs, waits := t.waits, time := t.time,
                      fresh := t.fresh }) ∧
     (∀ e, (s.octBusy o = true ∧ e = Err.state) ∨ (s.octBusy o = false ∧ 52 ≤ idx % 64 ∧ w ≠ 0 ∧ e = Err.range) →
       ∃ t, exec (.timingSetWrite ini o idx [w]) s = .next t ∧ t.reply = ⟨e.code, []⟩ ∧
         s.keepsRegs t [(pOCTTM o, PG_ERR)] ∧ s.passes t (pOCTTM o) ∧
         t = { s with regs := t.regs, rot := t.rot, reply := t.reply, time := t.time, fresh := t.fresh })) ∧
  (∀ (s : State) (ini : Ini) (o : Oct), s.gate_ ini (pOCTPE o) true = none →
     let stiled (t : State) (op : StileOp) : Prop :=
       let mates := s.stile.filter (fun y => y.op.stile == op.stile)
       ∃ c, t.stile = s.stile ++ [⟨op, c, s.fresh + 1⟩] ∧ (16 ≤ mates.length → c = none) ∧
         (mates.length < 16 → ∃ x, c = some x ∧ s.time.edge + 1 ≤ x ∧ (∀ y ∈ mates, y.capture.getD 0 ≤ x) ∧
           (x ≤ s.time.edge + 2 ∨ ∃ y ∈ mates, y.capture = some x))
     (∀ (idx : Nat) (w : Word), idx < 128 → s.day.active = false → ¬ (s.run.st = .start ∧ s.run.warm = true ∧ s.run.step ≤ 7) →
       (∀ u, s.crosses u → u.dueLoads.checkLevel o idx w = none) →
       ∃ t u, s.crosses u ∧ exec (.levelTableWrite ini o idx [w]) s = .next t ∧ u.dueLoads.wrote t (pOCTPE o) [] ∧
         t.tab (pOCTPE o) 0 idx = w ∧ u.dueLoads.keepsTabs t (pOCTPE o) 0 idx 1 ∧
         t = { u.dueLoads with regs := t.regs, rot := t.rot, reply := t.reply, tabs := t.tabs, waits := t.waits }) ∧
     (∃ t, exec (.load ini o) s = .next t ∧ s.wrote t (pOCTPE o) [] ∧ stiled t (.load o (s.fldR (pOCTPE o) OCTPE_CFG 23 21)) ∧
       t = { s with regs := t.regs, rot := t.rot, reply := t.reply, stile := t.stile, fresh := s.fresh + 1 }) ∧
     (∀ mask : Byte, (mask ≠ 0 → (∀ a < 8, mask.getLsbD a = true → s.adcBusy o a = false) →
         ∃ t, exec (.conv ini o mask) s = .next t ∧ t.reply = ⟨0, []⟩ ∧
           t.reg (pOCTPE o) PG_SEQ = s.reg (pOCTPE o) PG_SEQ + 1 ∧
           s.keepsRegs t [(pOCTPE o, PG_SEQ), (pOCTPE o, OCTPE_STAT), (pGLEAN, GLEAN_ABORT)] ∧ stiled t (.conv o mask.toNat) ∧
           t.reg (pOCTPE o) OCTPE_STAT = s.reg (pOCTPE o) OCTPE_STAT &&& ~~~(mask.setWidth 24) ∧
           t.oct o = { s.oct o with conv := (s.oct o).conv ||| mask.toNat } ∧ (∀ c, c ≠ o.val → t.oct c = s.oct c) ∧
           (s.glean.borrow = none → t.glean = s.glean ∧ t.reg pGLEAN GLEAN_ABORT = s.reg pGLEAN GLEAN_ABORT) ∧
           t = { s with regs := t.regs, rot := t.rot, reply := t.reply, stile := t.stile, fresh := s.fresh + 1,
                        octets := t.octets, glean := t.glean }) ∧
       (∀ e, (mask = 0 ∧ e = Err.range) ∨ ((∃ a < 8, mask.getLsbD a = true ∧ s.adcBusy o a = true) ∧ e = Err.busy) →
         ∃ t, exec (.conv ini o mask) s = .next t ∧ t.reply = ⟨e.code, []⟩ ∧ s.keepsRegs t [(pOCTPE o, PG_ERR)] ∧
           t = { s with regs := t.regs, rot := t.rot, reply := t.reply })))

/-- R239 to R241, R244, R251, R204: a Bell pulse whose first high sample is B0, the next reference edge: of one or two
periods it is a BELL, and 128 cycles after B0 the BELL registers, is counted, its time kept, producer BELL fires and
streams armed with START = BELL take it as their start event. A width of three or of more than six periods is an
error, and so is a pulse that begins within 128 cycles of the last high sample of the one before. With BELLO REPEAT
the pulse goes out again, 32 cycles after B0. GEN_BELL and GEN_EPOCH raise BELLO, one and five periods wide, at the
first reference edge at least 1 us after they leave their register stile, where BELLO is GENERATE then. A registration
is seen at the end of its edge (log entry 34). Commands whose completion it states: bellPulse, bellRegistration,
genBell, genEpoch, belloGenerate. -/
def Obligations.BellPulsesRegisterAndAreGenerated : Prop :=
  ∀ (s : State) (ini : Ini),
    let b0 := (s.time.edge + 16) / 16 * 16
    let at_ (e : Nat) : Time := (s.toEdge e).time
    (∀ w, s.locked = false ∨ w = 0 → exec (.bellPulse w) s = .next s) ∧
    (∀ w, s.locked = true → 1 ≤ w →
      let near : Prop := ∃ l, s.time.lastHigh = some l ∧ b0 ≤ l + 128
      let out := s.time.bello ++ if s.bello = 1 then [({ rise := b0 + 32, width := w, risen := true } : GenPulse)] else []
      (w ≤ 2 → ¬ near → exec (.bellPulse w) s = .next { s with time := { at_ (b0 + 16 * w) with
        lastHigh := some (b0 + 16 * (w - 1)), bello := out
        bells := s.time.bells ++ [({ b0 := b0, epoch := false } : Bell)] } }) ∧
      (w = 3 ∨ 7 ≤ w ∨ near → ∃ t, exec (.bellPulse w) s = .next t ∧
        t.fldR pTBASE TBASE_BELLCNT 7 0 = (s.fldR pTBASE TBASE_BELLCNT 7 0 + 1) % 256 ∧
        s.keepsRegs t [(pTBASE, TBASE_BELLCNT)] ∧
        t.watch = { s.watch with raised := s.watch.raised ++ [{ cls := .n, code := 0x072, page := pTBASE : Raised }] } ∧
        t = { s with regs := t.regs, watch := t.watch,
                     time := { at_ (b0 + 16 * w) with lastHigh := some (b0 + 16 * (w - 1)), bello := out } })) ∧
    (s.time.bells = [] → exec .bellRegistration s = .next s) ∧
    (∀ b bs, s.time.bells = b :: bs →
      let e := b.b0 + 128
      let u := s.toEdge (e + 1)
      (b.epoch = false → ∃ t es, exec .bellRegistration s = .next t ∧
        t.fldR pTBASE TBASE_BELLCNT 23 16 = (s.fldR pTBASE TBASE_BELLCNT 23 16 + 1) % 256 ∧
        t.wideR pTBASE TBASE_BELLT0 3 = u.baseAtEdge e ∧
        s.keepsRegs t [(pTBASE, TBASE_BELLCNT), (pTBASE, TBASE_BELLT0), (pTBASE, TBASE_BELLT1), (pTBASE, TBASE_BELLT2)] ∧
        (∀ k < 4, t.stream k = if s.startMode k = 0 ∧ s.strSt k = sARMED ∧ (s.stream k).startAt = none
          then { s.stream k with startAt := some (e, s.bitR (pSTREAM k) STREAM_STAT 20) } else s.stream k) ∧
        t.green = { s.green with flight := s.green.flight ++ es } ∧ (∀ x ∈ es, x.prod = 164 ∧ x.fired = e * 625) ∧
        t = { s with regs := t.regs, streams := t.streams, green := t.green, time := { u.time with bells := bs } })) ∧
    (s.gate_ ini pTBASE true = none → s.bello = 2 → s.genBusy = false →
      let drives (c : Instr) (w : Nat) : Prop := ∃ t u, s.crosses u ∧ exec c s = .next t ∧ s.wrote t pTBASE [] ∧
        t = { s with regs := t.regs, rot := t.rot, reply := t.reply, fresh := u.fresh
                     time := { (u.ticks 3).time with
                       gen := some { rise := (u.time.edge + 1600 + 15) / 16 * 16, width := w } } }
      drives (.genBell ini) 1 ∧ drives (.genEpoch ini) 5) ∧
    (∀ g, s.time.gen = some g → g.risen = false → s.bello = 2 → s.locked = true →
      exec .belloGenerate s = .next { s with time := { at_ g.rise with
        gen := some { g with risen := true }, bello := s.time.bello ++ [{ g with risen := true }] } }) ∧
    (s.time.gen = none ∨ s.bello ≠ 2 ∨ s.locked = false → exec .belloGenerate s = .next s)

/-- R242: an EPOCH pulse, of four to six periods, is counted in EPOCHS whether EPOCH_ARM is 1 or not. At its registration,
128 cycles after its first high sample, an armed one sets the time base to TBASE_EPOCH, clears EPOCH_ARM and sets
EPOCHED; it fires producer EPOCH, BELLT keeps the value, and a SEND that waits is cancelled (R246 to R251, R336). One
that is not armed does nothing more. Neither starts a stream. -/
def Obligations.EpochPulsesActOnlyWhileArmed : Prop :=
  ∀ s : State,
    (∀ w, let b0 := (s.time.edge + 16) / 16 * 16
      s.locked = true → 4 ≤ w → w ≤ 6 → (∀ l, s.time.lastHigh = some l → l + 128 < b0) →
      ∃ t, exec (.bellPulse w) s = .next t ∧
        t.fldR pTBASE TBASE_BELLCNT 15 8 = (s.fldR pTBASE TBASE_BELLCNT 15 8 + 1) % 256 ∧
        t.fldR pTBASE TBASE_BELLCNT 23 16 = s.fldR pTBASE TBASE_BELLCNT 23 16 ∧
        t.fldR pTBASE TBASE_BELLCNT 7 0 = s.fldR pTBASE TBASE_BELLCNT 7 0 ∧ s.keepsRegs t [(pTBASE, TBASE_BELLCNT)] ∧
        t = { s with regs := t.regs, time := { (s.toEdge (b0 + 16 * w)).time with
          lastHigh := some (b0 + 16 * (w - 1)), bells := s.time.bells ++ [({ b0 := b0, epoch := true } : Bell)]
          bello := s.time.bello ++ if s.bello = 1 then [({ rise := b0 + 32, width := w, risen := true } : GenPulse)] else [] } }) ∧
    (∀ b bs, s.time.bells = b :: bs → b.epoch = true →
      let e := b.b0 + 128
      let u := s.toEdge (e + 1)
      let v := s.wideR pTBASE TBASE_EPOCH0 3 % 2 ^ 64
      (s.bitR pTBASE TBASE_CFG 21 = false → exec .bellRegistration s = .next { s with time := { u.time with bells := bs } }) ∧
      (s.bitR pTBASE TBASE_CFG 21 = true → ∃ t es, exec .bellRegistration s = .next t ∧
        t.time = { u.time with bells := bs, base := (v + 625 * (u.time.edge - e)) % 2 ^ 64, send := none } ∧
        t.wideR pTBASE TBASE_BELLT0 3 = v ∧ t.bitR pTBASE TBASE_CFG 21 = false ∧ t.bitR pTBASE TBASE_STAT 21 = true ∧
        t.reg pSKEW SKEW_STAT = (if s.time.send.isSome then putFld (s.reg pSKEW SKEW_STAT) 21 21 1 else s.reg pSKEW SKEW_STAT) ∧
        s.keepsRegs t [(pTBASE, TBASE_CFG), (pTBASE, TBASE_STAT), (pTBASE, TBASE_BELLT0), (pTBASE, TBASE_BELLT1),
          (pTBASE, TBASE_BELLT2), (pSKEW, SKEW_STAT)] ∧
        t.green = { s.green with flight := s.green.flight ++ es } ∧ (∀ x ∈ es, x.prod = 165 ∧ x.fired = e * 625) ∧
        t = { s with regs := t.regs, green := t.green, time := t.time }))

/-- R246 to R250, R253: SEND on a driven line waits for its edge, 8 cycles before its ball time, and then SKEW_TX and the
pulse tell the time with SKEW_OFS; LISTEN on a line that is not driven takes the next rising edge into SKEW_RX. A
rising edge on a line that is not driven fires its producer with its tag; one on a driven line does nothing. SKEW_TRG
takes its eight bits and cancels a SEND on a line it no longer drives. Commands whose completion it states: send,
listen, skewSendEdge, skewTrgWrite, trgReceive. -/
def Obligations.TrgLinesSendAndReceive : Prop :=
  ∀ (s : State) (ini : Ini) (line : Fin 4),
    (s.gate_ ini pSKEW true = none →
      (s.bitR pSKEW SKEW_TRG line = true → s.wideR pSKEW SKEW_AT0 3 < 2 ^ 64 →
        s.time.base + 625 * 5 + 10 ^ 6 ≤ s.wideR pSKEW SKEW_AT0 3 →
        ∃ t u, s.crosses u ∧ exec (.send ini line) s = .next t ∧ s.wrote t pSKEW [] ∧
          t = { s with regs := t.regs, rot := t.rot, reply := t.reply, fresh := u.fresh
                       time := { (u.ticks 3).time with send := some ⟨line, s.wideR pSKEW SKEW_AT0 3⟩ } }) ∧
      (s.bitR pSKEW SKEW_TRG line = false →
        (∃ t u, s.crosses u ∧ exec (.listen ini line) s = .next t ∧ s.wrote t pSKEW [] ∧
          t = { s with regs := t.regs, rot := t.rot, reply := t.reply, fresh := u.fresh
                       time := { (u.ticks 3).time with listen := some line.val } }) ∧
        (∃ t, exec (.send ini line) s = .next t ∧ t.reply = ⟨Err.state.code, []⟩ ∧ s.keepsRegs t [(pSKEW, PG_ERR)] ∧
          s.passes t pSKEW ∧
          t = { s with regs := t.regs, rot := t.rot, reply := t.reply, time := t.time, fresh := t.fresh })) ∧
      (∀ val : Word, s.day.active = false → ¬ (s.run.st = .start ∧ s.run.warm = true ∧ s.run.step ≤ 7) →
        ∃ t u, s.crosses u ∧ exec (.skewTrgWrite ini val) s = .next t ∧ s.wrote t pSKEW [SKEW_TRG, SKEW_STAT] ∧
          t.reg pSKEW SKEW_TRG = (s.reg pSKEW SKEW_TRG &&& 0xFFFF00) ||| (val &&& 0x0000FF) ∧
          (∀ r, s.time.send = some r → r.line < 4 → bit val r.line = false →
            t.time = { (u.ticks 3).time with send := none } ∧ t.reg pSKEW SKEW_STAT = putFld (s.reg pSKEW SKEW_STAT) 21 21 1) ∧
          ((∀ r, s.time.send = some r → r.line < 4 ∧ bit val r.line = true) →
            t.time = (u.ticks 3).time ∧ t.reg pSKEW SKEW_STAT = s.reg pSKEW SKEW_STAT) ∧
          t = { s with regs := t.regs, rot := t.rot, reply := t.reply, time := t.time, fresh := u.fresh })) ∧
    (∀ r, s.time.send = some r → s.locked = true →
      let ball := s.edgeOfBase r.time
      let u := s.toEdge (ball - 8)
      let tx : Int := (u.baseAtEdge ball : Int) + s.skew
      ∃ t, exec .skewSendEdge s = .next t ∧ t.wideR pSKEW SKEW_TX0 3 = unsigned 64 tx ∧ t.bitR pSKEW SKEW_STAT 23 = true ∧
        s.keepsRegs t [(pSKEW, SKEW_TX0), (pSKEW, SKEW_TX1), (pSKEW, SKEW_TX2), (pSKEW, SKEW_STAT)] ∧
        t = { s with regs := t.regs, time := { u.time with send := none, trgOut := s.time.trgOut ++ [⟨r.line, tx, 10000⟩] } }) ∧
    (s.time.send = none ∨ s.locked = false → exec .skewSendEdge s = .next s) ∧
    (∀ arr, s.locked = false ∨ nbit (s.fldR pSKEW SKEW_TRG 3 0) line = true → exec (.trgReceive line arr) s = .next s) ∧
    (∀ arr, s.locked = true → nbit (s.fldR pSKEW SKEW_TRG 3 0) line = false → s.ps ≤ arr →
      (∀ x ∈ s.time.trgLast, x.1 = line → x.2 + 5000 ≤ arr) →
      let u := s.toPs arr
      let tag := unsigned 64 ((u.baseAt arr : Int) - s.skew)
      let last := (line.val, arr) :: s.time.trgLast.filter (fun x => x.1 != line.val)
      ∃ t es, exec (.trgReceive line arr) s = .next t ∧
        (s.time.listen = some line.val → t.wideR pSKEW SKEW_RX0 3 = tag ∧ t.bitR pSKEW SKEW_STAT 22 = true ∧
          s.keepsRegs t [(pSKEW, SKEW_RX0), (pSKEW, SKEW_RX1), (pSKEW, SKEW_RX2), (pSKEW, SKEW_STAT)] ∧
          t.time = { u.time with trgLast := last, listen := none }) ∧
        (s.time.listen ≠ some line.val → t.regs = s.regs ∧ t.time = { u.time with trgLast := last }) ∧
        t.green = { s.green with flight := s.green.flight ++ es } ∧ (∀ x ∈ es, x.prod = 160 + line.val ∧ x.tag = some tag) ∧
        t = { s with regs := t.regs, green := t.green, time := t.time })

/-! ### Pin electronics and rails -/

/-- R259 to R263, R277, R284, Table 9.4: a load strobe of a group reaches every octet of it at one edge, 2 cycles after
the capture of the LOAD that waits for it, or at the next edge where none does: the staged level words become active,
but those that wait for the PMU of an operation, and the staged tone settings take effect 4 cycles later; a level
whose span changes starts its lane's span sequence; producer LOAD of the group fires. Other octets keep theirs. A
parity error at an octet's DACs is class D LVL_PAR. A second strobe at one edge does nothing. Commands whose
completion it states: loadStrobe. -/
def Obligations.LoadStrobesMakeStagedLevelsActive : Prop :=
  ∀ (s : State) (g : Fin 8) (bad : List Oct) (e : Nat),
    let loads := s.stile.filter (fun c => (match c.op with | .load _ h => h == g.val | _ => false) && c.capture.isSome)
    e = (match loads with | [] => s.time.edge + 1 | c :: _ => c.capture.getD 0 + 2) →
    let inGroup (o : Nat) : Prop := o < 64 ∧ s.fldR (pOCTPE o) OCTPE_CFG 23 21 = g
    let waits (o i : Nat) : Bool := (s.oct o).pmu.any (fun x => x.1 == i / 16) &&
      ((decide (8 ≤ i % 16) && decide (i % 16 ≤ 11)) || i % 16 == 13)
    let span (tsel o i k : Nat) : Nat := spanOf (s.tab (pOCTPE o) tsel (16 * i + 12)) (s.tab (pOCTPE o) tsel (16 * i + 13)) k
    let once : Bool := s.green.last.get (unitDefault 0) (64 + g) == e + 1
    ∃ t es xs, exec (.loadStrobe g bad) s = .next t ∧
      (∀ o, inGroup o → once = false →
        (∀ i < 128, t.tab (pOCTPE o) 1 i = if waits o i then s.tab (pOCTPE o) 1 i else s.tab (pOCTPE o) 0 i) ∧
        (∀ i < 128, waits o i = true → (i, s.tab (pOCTPE o) 0 i) ∈ (t.oct o).late) ∧
        (∀ i < 8, (∃ k < 8, span 1 o i k ≠ span 0 o i k) → (∀ q ∈ (s.oct o).seqs, q.lane ≠ i) →
          (∃ q ∈ (t.oct o).seqs, q.lane = i ∧ q.strobe = e ∧ q.step = 1 ∧
            ∀ k < 8, span 1 o i k ≠ span 0 o i k → ∃ l ∈ q.levels, l.level = k ∧ l.span = span 1 o i k) ∧
          t.bitR (pOCTPE o) OCTPE_STAT (16 + i) = true) ∧
        (∀ i < 8, (∀ k < 12, span 1 o i k = span 0 o i k) →
          ((t.oct o).seqs.map (·.lane)).count i = ((s.oct o).seqs.map (·.lane)).count i) ∧
        (t.oct o).tone = (let tn := s.stagedTone o; let old := (s.oct o).tone
          if tn.en = old.en ∧ tn.lane = old.lane ∧ tn.tdiv = old.tdiv ∧ tn.amp = old.amp ∧ tn.ftw = old.ftw ∧
            tn.poff = old.poff then old else { tn with p := 0, since := e + 4 }) ∧
        t.oct o = { s.oct o with tone := (t.oct o).tone, seqs := (t.oct o).seqs, late := (t.oct o).late }) ∧
      (∀ o, (¬ inGroup o ∨ once = true) → t.oct o = s.oct o ∧ ∀ i < 128, t.tab (pOCTPE o) 1 i = s.tab (pOCTPE o) 1 i) ∧
      (∀ p u i, i < 2 ^ 19 → u < 16 → (∀ o < 64, p ≠ pOCTPE o ∨ u ≠ 1) → t.tab p u i = s.tab p u i) ∧
      t.watch = { s.watch with raised := s.watch.raised ++ xs } ∧
      (∀ x ∈ xs, x.cls = .d ∧ x.code = 0x080 ∧ ∃ o, inGroup o ∧ x.page = pOCTPE o ∧ x.unit = .octet o) ∧
      (∀ o ∈ bad, inGroup o.val → ∃ x ∈ xs, x.page = pOCTPE o) ∧
      (bad = [] → (∀ o, inGroup o → s.bitR (pOCTPE o) PG_INJ 0 = false) → xs = []) ∧
      (once = false → t.green = { s.green with flight := s.green.flight ++ es,
                                               last := s.green.last.put (unitDefault 0) (64 + g) (e + 1) }) ∧
      (once = true → t.green = s.green) ∧ (∀ x ∈ es, x.prod = 170 + g.val ∧ x.fired = e * 625) ∧
      (∀ p o, o < 256 → (p, o) ≠ (pGLEAN, GLEAN_ABORT) → (∀ c, inGroup c → (p, o) ≠ (pOCTPE c, OCTPE_STAT) ∧
        (p, o) ≠ (pOCTPE c, PG_INJ)) → t.reg p o = s.reg p o) ∧
      t = { s with regs := t.regs, stile := t.stile, time := (s.toEdge e).time, tabs := t.tabs, octets := t.octets,
                   green := t.green, watch := t.watch, glean := t.glean, fresh := t.fresh }

/-- R263, R270, R273, R275 to R278, R284, R290, Tables 9.3 and 9.7: a span sequence steps at S + 3,204 and S + 4,804
cycles, its levels then move to the active codes, and it ends at S + 8,004; a host conversion's result goes to its
register with its flag when it leaves the measurement stile; a tone takes its next sample from its table at its
divider's grid, its phase advances, and in FV_TONE the voltage that its PMU forces is limited and the limit flagged; a
PMU limits in FI where its load would pass a clamp and in FV above 110 % of its range within 5 %, sets its flags, and
clears its status when it ends. Commands whose completion it states: spanSequenceStep, convResult, toneSample,
pmuClamp. -/
def Obligations.OctetUnitsRun : Prop :=
  ∀ (s : State) (o : Oct) (lane : Fin 8),
    let others (t : State) : Prop := ∀ c, c ≠ o.val → t.oct c = s.oct c
    ((s.oct o).seqs.find? (fun q => q.lane == lane.val) = none → exec (.spanSequenceStep o lane) s = .next s) ∧
    (∀ q, (s.oct o).seqs.find? (fun q => q.lane == lane.val) = some q →
      let rest := (s.oct o).seqs.filter (fun x => x.lane != lane.val)
      (q.step = 1 → ∃ t, exec (.spanSequenceStep o lane) s = .next t ∧ others t ∧
        t.oct o = { s.oct o with seqs := rest ++ [{ q with step := 2 }] } ∧
        t = { s with octets := t.octets, time := (s.toEdge (q.strobe + 3204)).time }) ∧
      (q.step = 2 → ∃ t, exec (.spanSequenceStep o lane) s = .next t ∧ others t ∧
        t.oct o = { s.oct o with seqs := rest ++ [{ q with
          step := 3
          levels := q.levels.map (fun l => { l with target := some (s.tab (pOCTPE o) 1 (16 * lane + l.level)).toNat }) }] } ∧
        t = { s with octets := t.octets, time := (s.toEdge (q.strobe + 4804)).time }) ∧
      (q.step = 3 → ∃ t, exec (.spanSequenceStep o lane) s = .next t ∧ others t ∧ t.oct o = { s.oct o with seqs := rest } ∧
        t.reg (pOCTPE o) OCTPE_STAT = putFld (s.reg (pOCTPE o) OCTPE_STAT) (16 + lane) (16 + lane) 0 ∧
        s.keepsRegs t [(pOCTPE o, OCTPE_STAT)] ∧
        t = { s with octets := t.octets, regs := t.regs, time := (s.toEdge (q.strobe + 8004)).time })) ∧
    (∀ (a : Fin 8) (code : Word),
      (∀ x, (s.oct o).convDue.find? (fun x => x.1 == a.val) = some x →
        ∃ t, exec (.convResult o a code) s = .next t ∧ others t ∧
          t.oct o = { s.oct o with conv := setNbit (s.oct o).conv a false, convDue := (s.oct o).convDue.erase x } ∧
          t.reg (pOCTPE o) (OCTPE_ADCRES0 + a) = code ∧
          t.reg (pOCTPE o) OCTPE_STAT = putFld (s.reg (pOCTPE o) OCTPE_STAT) a a 1 ∧
          s.keepsRegs t [(pOCTPE o, OCTPE_ADCRES0 + a), (pOCTPE o, OCTPE_STAT)] ∧
          t = { s with octets := t.octets, regs := t.regs, time := (s.toEdge x.2).time }) ∧
      ((s.oct o).convDue.find? (fun x => x.1 == a.val) = none → exec (.convResult o a code) s = .next s)) ∧
    (∀ good, (s.oct o).tone.en = false → exec (.toneSample o good) s = .next s) ∧
    (∀ e good, (s.oct o).tone.en = true →
      (if s.time.edge < (s.oct o).tone.since then s.toEdge ((s.oct o).tone.since - 1) else s).gridEdge (s.oct o).tone.tdiv = some e →
      let tn := (s.oct o).tone
      let w := s.tab (pOCTPE o) 2 ((tn.p / 2 ^ 36 + tn.poff) % 4096)
      let tone : Bool := (s.pmuOf o tn.lane).1 == 4
      let inj := s.bitR (pOCTPE o) PG_INJ 1
      ∃ t, exec (.toneSample o good) s = .next t ∧ others t ∧
        t.oct o = { s.oct o with tone := { tn with p := (tn.p + tn.ftw) % 2 ^ 48, out := w, force := (t.oct o).tone.force } } ∧
        (tone = false → (t.oct o).tone.force = tn.force ∧ t.reg (pOCTPE o) OCTPE_FLAG = s.reg (pOCTPE o) OCTPE_FLAG) ∧
        (tone = true →
          let x := (s.toEdge e).pmuVolt o tn.lane + 3750000 * (tn.amp : Int) * signed 24 w.toNat * 2 ^ 24 / 2 ^ 39
          let y := (t.oct o).tone.force
          y = max ((-1500000) * 2 ^ 24) (min x (6000000 * 2 ^ 24)) ∧ t.reg (pOCTPE o) OCTPE_FLAG =
            if x = y then s.reg (pOCTPE o) OCTPE_FLAG else putFld (s.reg (pOCTPE o) OCTPE_FLAG) 15 15 1) ∧
        t.reg (pOCTPE o) PG_INJ = (if inj then putFld (s.reg (pOCTPE o) PG_INJ) 1 1 0 else s.reg (pOCTPE o) PG_INJ) ∧
        t.watch = { s.watch with raised := s.watch.raised ++ (if inj = true ∨ good = false then
          [{ cls := .d, code := 0x080, page := pOCTPE o, unit := .octet o, inj := inj : Raised }] else []) } ∧
        s.keepsRegs t [(pOCTPE o, OCTPE_FLAG), (pOCTPE o, PG_INJ)] ∧
        t = { s with octets := t.octets, regs := t.regs, watch := t.watch, time := (s.toEdge e).time }) ∧
    (∀ x : Int,
      let fi : Bool := (s.pmuOf o lane).1 == 2
      let cl := s.clamps o lane
      let full := fullScale (s.pmuRange o lane)
      let size : Int := x.natAbs
      let far : Nat := if x < 0 then 1 else 2
      let held := (s.oct o).pmu.find? (fun y => y.1 == lane.val)
      let ends (t : State) : Prop := t.oct o = { s.oct o with lim := (s.oct o).lim.set lane 0 } ∧ others t ∧
        t.reg (pOCTPE o) OCTPE_STAT = putFld (s.reg (pOCTPE o) OCTPE_STAT) (8 + lane) (8 + lane) 0 ∧
        s.keepsRegs t [(pOCTPE o, OCTPE_STAT)] ∧ t = { s with regs := t.regs, octets := t.octets, fresh := t.fresh }
      let limits (t : State) (side : Nat) : Prop := t.oct o = { s.oct o with lim := (s.oct o).lim.set lane side } ∧ others t ∧
        t.reg (pOCTPE o) OCTPE_STAT = putFld (s.reg (pOCTPE o) OCTPE_STAT) (8 + lane) (8 + lane) 1 ∧
        t.reg (pOCTPE o) OCTPE_FLAG = putFld (s.reg (pOCTPE o) OCTPE_FLAG) (16 + lane) (16 + lane) 1 ∧
        s.keepsRegs t [(pOCTPE o, OCTPE_STAT), (pOCTPE o, OCTPE_FLAG)] ∧
        (∀ q, t.op q = if held = some (lane.val, q) ∧ (s.op q).running = true then { s.op q with lim := (s.op q).lim ||| side }
          else s.op q) ∧
        t = { s with regs := t.regs, octets := t.octets, ops := t.ops, fresh := t.fresh }
      ∃ t, exec (.pmuClamp o lane x) s = .next t ∧
        (s.pmuForces o lane = false → ends t) ∧
        (s.pmuForces o lane = true → fi = true →
          (cl.1 ≤ x * 2 ^ 24 → x * 2 ^ 24 ≤ cl.2 → ends t) ∧ (x * 2 ^ 24 < cl.1 → limits t 1) ∧
          (cl.1 ≤ x * 2 ^ 24 → cl.2 < x * 2 ^ 24 → limits t 2)) ∧
        (s.pmuForces o lane = true → fi = false →
          (1000 * size < 1045 * full → ends t) ∧ (1155 * full < 1000 * size → limits t far) ∧ (ends t ∨ limits t far)))

/-- R265, R270, R271, R279, R280, R283: a lane's settings take effect where the octet is idle, its PMU is free and a
change between modes finds the relay open; a lane whose driver is then held in HIZ places no further edge, and a PMU
that no longer forces limits no longer. A rail switched on ramps from RAILSNS in the regulating mode, and goes off at
once; an octet of no site may not switch it on. The end of the ramp keeps what stands at RAILSNS, which tells whether
it is in regulation. Commands whose completion it states: octpePinWrite, railOn, railOff, railRampEnd. -/
def Obligations.PinsAndRailsAreSwitched : Prop :=
  ∀ (s : State) (ini : Ini) (o : Oct), s.gate_ ini (pOCTPE o) true = none → s.day.active = false →
    ¬ (s.run.st = .start ∧ s.run.warm = true ∧ s.run.step ≤ 7) →
    let cfg := s.reg (pOCTPE o) OCTPE_RAILCFG
    let stat := s.reg (pOCTPE o) OCTPE_RAILSTAT
    let others (t : State) : Prop := ∀ c, c ≠ o.val → t.oct c = s.oct c
    (∀ (lane : Fin 8) (val : Word), s.octBusy o = false → (∀ x ∈ (s.oct o).pmu, x.1 ≠ lane.val) →
      fld val 23 21 ≤ 4 → fld val 20 18 ≤ 4 →
      let old := s.reg (pOCTPE o) (OCTPE_PIN0 + lane)
      (fld old 23 21 = fld val 23 21 ∨ fld old 23 21 = 0 ∨ fld val 23 21 = 0 ∨ (fld old 23 21 = 1 ∧ fld val 23 21 = 4) ∨
        (fld old 23 21 = 4 ∧ fld val 23 21 = 1) ∨ (bit old 17 = false ∧ bit val 17 = false)) →
      let c := 8 * o.val + lane.val
      ∃ t, exec (.octpePinWrite ini o lane val) s = .next t ∧ s.wrote t (pOCTPE o) [OCTPE_PIN0 + lane, OCTPE_STAT] ∧
        t.reg (pOCTPE o) (OCTPE_PIN0 + lane) = (old &&& 0x000FFF) ||| (val &&& 0xFFF000) ∧
        (∀ x, t.chan x = if x = c ∧ t.driverHeld c = true then { s.chan x with edges := [], drv := 2 } else s.chan x) ∧
        (let ends := t.driverHeld c || !t.pmuForces o lane
         t.reg (pOCTPE o) OCTPE_STAT = (if ends then putFld (s.reg (pOCTPE o) OCTPE_STAT) (8 + lane) (8 + lane) 0
           else s.reg (pOCTPE o) OCTPE_STAT) ∧
         t.oct o = { s.oct o with lim := if ends then (s.oct o).lim.set lane 0 else (s.oct o).lim }) ∧ others t ∧
        t = { s with regs := t.regs, rot := t.rot, reply := t.reply, chans := t.chans, octets := t.octets }) ∧
    (fld cfg 23 22 ≠ 3 → fld cfg 16 9 ≠ 0 → fld cfg 21 19 ≤ 4 →
      let ramps : Bool := fld cfg 23 22 == 1 && !s.pinsOff
      (bit cfg 8 = false → s.railAllowed o = true → ∀ sns,
        ∃ t, exec (.railOn ini o sns) s = .next t ∧ s.wrote t (pOCTPE o) [OCTPE_RAILCFG, OCTPE_RAILSTAT] ∧
          t.reg (pOCTPE o) OCTPE_RAILCFG = putFld cfg 8 8 1 ∧
          t.reg (pOCTPE o) OCTPE_RAILSTAT = (if ramps then putFld stat 22 22 1 else stat) ∧
          t.oct o = { s.oct o with sns := sns, ramp := if ramps then some sns else (s.oct o).ramp } ∧ others t ∧
          t = { s with regs := t.regs, rot := t.rot, reply := t.reply, octets := t.octets }) ∧
      (s.railAllowed o = false → ∀ sns,
        ∃ t, exec (.railOn ini o sns) s = .next t ∧ t.reply = ⟨Err.state.code, []⟩ ∧ s.keepsRegs t [(pOCTPE o, PG_ERR)] ∧
          t = { s with regs := t.regs, rot := t.rot, reply := t.reply }) ∧
      (bit cfg 8 = true →
        ∃ t, exec (.railOff ini o) s = .next t ∧ s.wrote t (pOCTPE o) [OCTPE_RAILCFG, OCTPE_RAILSTAT] ∧
          t.reg (pOCTPE o) OCTPE_RAILCFG = putFld cfg 8 8 0 ∧ t.reg (pOCTPE o) OCTPE_RAILSTAT = putFld stat 22 22 0 ∧
          t.oct o = { s.oct o with ramp := none } ∧ others t ∧
          t = { s with regs := t.regs, rot := t.rot, reply := t.reply, octets := t.octets })) ∧
    (∀ sns, ((s.oct o).ramp ≠ none → ∃ t, exec (.railRampEnd o sns) s = .next t ∧
        t.reg (pOCTPE o) OCTPE_RAILSTAT = putFld stat 22 22 0 ∧
        s.keepsRegs t [(pOCTPE o, OCTPE_RAILSTAT)] ∧ t.oct o = { s.oct o with ramp := none, sns := sns } ∧ others t ∧
        t = { s with regs := t.regs, octets := t.octets }) ∧
      ((s.oct o).ramp = none → exec (.railRampEnd o sns) s = .next s))

/-! ### The measurement engine -/

/-- R262, R288 to R291, R298, R301, R308, R309, R386: word 7 of a free slot's descriptor submits it; a lane that
dispatches starts its next operation, which then holds its ADC and, by its recipe, its PMU and the tone source, or
ends with status 0xA where its recipe needs a tone that is off; ACK frees a DONE slot and drops its record; ABORT ends
a QUEUED or RUNNING operation with status 1; SWITCH flips every lane that runs nothing, and ACT with the last of them.
Commands whose completion it states: operationSubmit, operationDispatch, mseAck, mseAbort, switch. -/
def Obligations.OperationsAreSubmittedDispatchedAndEnded : Prop :=
  ∀ (s : State) (ini : Ini) (t : Nat), t < 3072 →
    let p := s.op t
    let v := s.oct (tagOct t)
    let r := s.recipe t
    let otherOps (u : State) : Prop := ∀ x, x ≠ t → u.op x = s.op x
    (s.gate_ ini pMSE true = none →
      (∀ hi : Word, p.st = .free → s.descState t = false →
        s.checkDesc (fun j => if j = 7 then hi else s.desc t j) = true →
        ∃ u, exec (.operationSubmit ini t hi) s = .next u ∧ s.wrote u pMSE [] ∧ u.desc t 7 = hi ∧
          s.keepsTabs u pMSE 0 (8 * t + 7) 1 ∧ u.op t = { st := .queued, order := s.mse.submitted } ∧ otherOps u ∧
          u = { s with regs := u.regs, rot := u.rot, reply := u.reply, tabs := u.tabs, waits := u.waits, ops := u.ops,
                       mse := { s.mse with submitted := s.mse.submitted + 1 } }) ∧
      (p.st = .done →
        ∃ u, exec (.mseAck ini (word t)) s = .next u ∧ s.wrote u pMSE [] ∧ u.op t = {} ∧ otherOps u ∧
          u.recs = s.recs.filter (fun x => !(x.kind == 0 && x.unit == t)) ∧
          u = { s with regs := u.regs, rot := u.rot, reply := u.reply, ops := u.ops, recs := u.recs }) ∧
      ((p.st = .queued ∨ p.st = .running) → s.mse.pend = false → s.upd.patchWait = false →
        ∃ u, exec (.mseAbort ini (word t)) s = .next u ∧ u.reply = ⟨0, []⟩ ∧ u.reg pMSE PG_SEQ = s.reg pMSE PG_SEQ + 1 ∧
          s.keepsRegs u [(pMSE, PG_SEQ), (pMSE, MSE_CNT), (pOCTPE (tagOct t), OCTPE_STAT)] ∧ s.endsOp u t 1 ∧
          (u.op t).tend = s.time.base ∧
          u = { s with regs := u.regs, rot := u.rot, reply := u.reply, tabs := u.tabs, ops := u.ops, recs := u.recs,
                       octets := u.octets })) ∧
    (∀ k : Fin 8,
      (s.laneOn k = true → s.nextOp k = some t →
        ∃ u, exec (.operationDispatch k) s = .next u ∧ otherOps u ∧ (∀ c, c ≠ tagOct t → u.oct c = s.oct c) ∧
          (s.glean.borrow = none → u.glean = s.glean ∧ u.reg pGLEAN GLEAN_ABORT = s.reg pGLEAN GLEAN_ABORT) ∧
          ((r = 9 → v.tone.en = true) →
            u.op t = { p with st := .running, upc := r, holdsPmu := !noPmu r, holdsAdc := true, holdsTone := r == 9,
                              site := s.siteOf (tagOct t), calseq := s.calSeq, cal := s.calOf t, prng := s.irng t } ∧
            u.oct (tagOct t) = { v with adc := v.adc.set (tagPin t) 1,
                                        pmu := if noPmu r then v.pmu else v.pmu ++ [(tagPin t, t)] } ∧
            s.keepsRegs u [(pGLEAN, GLEAN_ABORT)] ∧
            u = { s with ops := u.ops, octets := u.octets, regs := u.regs, glean := u.glean }) ∧
          (r = 9 → v.tone.en = false → (u.op t).st = .done ∧ (u.op t).status = 0xA ∧ (u.op t).holdsPmu = false ∧
            u.recs = s.recs ++ [{ kind := 0, unit := t, words := resultWords t r (u.op t) : Rec }])) ∧
      (s.laneOn k = false ∨ s.nextOp k = none → exec (.operationDispatch k) s = .next s)) ∧
    (s.gate_ ini pUCODE true = none →
      (s.mse.pend = false → s.upd.patchWait = false → s.mse.act ≤ 1 →
        ((∀ e ∈ s.ops, e.2.st ≠ .running) →
          ∃ u, exec (.switch ini) s = .next u ∧ s.wrote u pUCODE [] ∧
            u.mse = { s.mse with act := 1 - s.mse.act, laneBank := u.mse.laneBank } ∧
            (∀ k < 8, nbit u.mse.laneBank k = (s.mse.act == 0)) ∧
            u = { s with regs := u.regs, rot := u.rot, reply := u.reply, mse := u.mse }) ∧
        ((∃ e ∈ s.ops, e.2.st = .running ∧ tagLane e.1 < 8 ∧ nbit s.mse.fenced (tagLane e.1) = false ∧
            nbit s.mse.laneBank (tagLane e.1) = (s.mse.act == 1)) →
          ∃ u, exec (.switch ini) s = .next u ∧ s.wrote u pUCODE [] ∧
            u.mse = { s.mse with pend := true, laneBank := u.mse.laneBank } ∧
            u = { s with regs := u.regs, rot := u.rot, reply := u.reply, mse := u.mse })) ∧
      (s.mse.pend = true → ∃ u, exec (.switch ini) s = .next u ∧ u.reply = ⟨Err.busy.code, []⟩ ∧
        s.keepsRegs u [(pUCODE, PG_ERR)] ∧ u = { s with regs := u.regs, rot := u.rot, reply := u.reply }))

/-- R266, R273, R290, R292, R293, R296, R302, R304 to R307 (Tables 10.4, 10.7, 10.8): one micro-word of the context that
its lane has come to, fetched where the match registers say. With the null nano-word its sequencing operation alone
acts: NEXT, CALL with its push, RET with its pop, BR (taken: the null COND is ALWAYS), LOOP, WAIT, END with OK,
DISPATCH; CALL on a full and RET on an empty stack end the operation with STACK. A nano-word acts first: an ALU result
goes to DST, TOP loads the settle timer from the capture edge, BR follows COND and may read the comparator. A parity
error raises class D at the lane. The settle timer runs out; a run's samples go to W0 to W3 and its scratch; a run
whose ADC stays held ends with status 7. Commands whose completion it states: microNext, microCall, microRet, microBr,
microLoop, microWait, microEnd, microDispatch, settleTimerExpiry, sampleRunDone, adcWaitTimeout. -/
def Obligations.MicroWordsMoveTheirContexts : Prop :=
  ∀ (s : State) (t : Nat) (env : MicroEnv),
    let b := s.laneBank (tagLane t)
    let a := s.matchAddr b (s.op t).upc
    let w := s.microWord b a
    let p : Op := { s.op t with wait := none, rom := (s.op t).rom && a == (s.op t).upc && decide (a < 0xF80) && decide (fld w 23 15 < 0x1E0) }
    let arg := fld w 11 0
    let nano := s.nanoWord b (fld w 23 15)
    let next := (a + 1) % 4096
    let mse : Mse := { s.mse with turn := s.mse.turn.set (tagLane t) t }
    let others (u : State) : Prop := ∀ x, x ≠ t → u.op x = s.op x
    let to_ (c : Instr) (q : Op) : Prop := ∃ u, exec c s = .next u ∧ u.op t = q ∧ others u ∧ u = { s with ops := u.ops, mse := mse }
    let rows : List (Instr × Nat) :=
      [(.microNext t env, 0), (.microCall t env, 1), (.microRet t env, 2), (.microBr t env, 3), (.microLoop t env, 4),
       (.microWait t env, 5), (.microEnd t env, 6), (.microDispatch t env, 7)]
    let calm : Prop := s.mse.pend = false ∧ s.upd.patchWait = false
    let ends (c : Instr) (status code : Nat) (m : Mse) (e : Nat) (good : Op → Prop) : Prop :=
      ∃ u, exec c s = .next u ∧ s.endsOp u t status ∧ good (u.op t) ∧
        s.keepsRegs u [(pMSE, MSE_CNT), (pOCTPE (tagOct t), OCTPE_STAT)] ∧
        u.watch = { s.watch with raised := s.watch.raised ++
          (if code = 0 then [] else [{ cls := .n, code := code, page := pMSE, detail := tagLane t : Raised }]) } ∧
        u = { s with regs := u.regs, tabs := u.tabs, ops := u.ops, recs := u.recs, octets := u.octets, watch := u.watch,
                     mse := m, fresh := u.fresh, time := (s.toEdge e).time }
    let now := s.time.edge
    ((s.op t).st ≠ .running ∨ s.nextCtx (tagLane t) ≠ some t → ∀ x ∈ rows, exec x.1 s = .next s) ∧
    ((s.op t).st = .running → s.nextCtx (tagLane t) = some t → s.bitR pMSE PG_INJ (tagLane t) = false →
      (env.parityOk = false → ∀ x ∈ rows, exec x.1 s = .next { s with
        mse := mse, watch := { s.watch with raised := s.watch.raised ++
          [{ cls := .d, code := 0x090, page := pMSE, detail := tagLane t, unit := .lane (tagLane t) : Raised }] } }) ∧
      (env.parityOk = true → s.mse.forceStack = false → s.mse.forceInvalid = false →
        (∀ x ∈ rows, x.2 ≠ fld w 14 12 → exec x.1 s = .next s) ∧
        (nano = 0 →
          (fld w 14 12 = 0 → to_ (.microNext t env) { p with upc := next }) ∧
          (fld w 14 12 = 1 →
            (p.stack.length < 8 → to_ (.microCall t env) { p with stack := next :: p.stack, upc := arg }) ∧
            (8 ≤ p.stack.length → calm → ends (.microCall t env) 4 0x091 mse now (fun _ => True))) ∧
          (fld w 14 12 = 2 →
            (∀ x xs, p.stack = x :: xs → to_ (.microRet t env) { p with stack := xs, upc := x }) ∧
            (p.stack = [] → calm → ends (.microRet t env) 4 0x091 mse now (fun _ => True))) ∧
          (fld w 14 12 = 3 → to_ (.microBr t env) { p with upc := arg }) ∧
          (fld w 14 12 = 4 → let lc := (p.lc + 2 ^ 24 - 1) % 2 ^ 24
            to_ (.microLoop t env) { p with lc := lc, upc := if lc = 0 then next else arg }) ∧
          (fld w 14 12 = 5 → to_ (.microWait t env) { p with wait := some (fld w 11 10), trig := false, upc := next }) ∧
          (fld w 14 12 = 6 → calm → ends (.microEnd t env) 0 0 mse now (fun q =>
            (p.rom = false → q.val0 = p.val0 ∧ q.val1 = p.val1 ∧ q.judge = p.judge) ∧
            (p.rom = true → s.recipe t ∈ [1, 2, 3, 5, 6] → ∀ x xs, p.runs = x :: xs → q.val0 = x.mean ∧ q.val1 = x.spread) ∧
            (p.rom = true → s.recipe t ∈ [4, 10] → ∀ x y xs, p.runs = x :: y :: xs → q.val0 = x.mean ∧ q.val1 = y.mean))) ∧
          (fld w 14 12 = 7 → to_ (.microDispatch t env) { p with upc := arg % 64 })) ∧
        (∀ f d sa sb, f < 9 → d < 8 → sa < 8 → sb < 8 → nano = 7 * 2 ^ 114 + f * 2 ^ 68 + d * 2 ^ 65 + sa * 2 ^ 62 + sb * 2 ^ 59 →
          fld w 14 12 = 0 →
          (∀ x : Int, (f = 1 ∧ x = p.wn sa) ∨ (f = 2 ∧ x = p.wn sa + p.wn sb) ∨ (f = 3 ∧ x = p.wn sa - p.wn sb) ∨
              (f = 4 ∧ 0 < p.wn sb ∧ x = roundDiv (p.wn sa) (p.wn sb).toNat) ∨ (f = 5 ∧ x = p.convert false (p.wn sa)) ∨
              (f = 7 ∧ x = (p.wn sa).natAbs) → fitsSigned 48 x = true →
            to_ (.microNext t env) { p.setW d x with alu := x, upc := next }) ∧
          (f = 6 → to_ (.microNext t env) { p with judged := s.judgeVal t p.isCurrent (p.wn sa), upc := next }) ∧
          (f = 8 → to_ (.microNext t env) { p with w := [0, 0, 0, 0] ++ p.w.drop 4, upc := next })) ∧
        (nano = 7 * 2 ^ 114 + 2 ^ 46 → fld w 14 12 = 0 →
          (s.stileRoom (4 + tagOct t) = false → exec (.microNext t env) s = .next { s with mse := mse }) ∧
          (s.stileRoom (4 + tagOct t) = true → ∃ u e, exec (.microNext t env) s = .next u ∧ s.time.edge + 1 ≤ e ∧
            (e ≤ s.time.edge + 2 ∨ ∃ y ∈ s.stile, y.op.stile = 4 + tagOct t ∧ y.capture = some e) ∧
            u.op t = { p with timer := some (e + 2 + 1600 * arg), upc := next } ∧ others u ∧
            u = { s with ops := u.ops, mse := mse, fresh := s.fresh + 1 })) ∧
        (∀ c < 8, nano = 7 * 2 ^ 114 + c * 2 ^ 42 → fld w 14 12 = 3 →
          (c ≠ 4 → c ≠ 5 → to_ (.microBr t env) { p with upc := if condHolds c 1 p then arg else next }) ∧
          (c = 4 ∨ c = 5 → ∃ u, exec (.microBr t env) s = .next u ∧ others u ∧
            let at1 := s.bandOf (tagChan t) (s.chan (tagChan t)).band env.volt
            u.op t = { p with bands := p.bands.filter (fun x => x.1 != p.pval) ++ [(p.pval, at1)],
                              upc := if at1 = (if c = 4 then 0 else 2) then arg else next } ∧
            (∀ x, u.chan x = if x = tagChan t then { s.chan x with band := at1 } else s.chan x) ∧
            u = { s with ops := u.ops, mse := mse, chans := u.chans })))) ∧
    ((∀ e, (s.op t).timer = some e → exec (.settleTimerExpiry t) s = .next { s with time := (s.toEdge e).time }) ∧
      ((s.op t).timer = none → exec (.settleTimerExpiry t) s = .next s)) ∧
    (∀ xs : List Word,
      let q := s.op t
      let n := xs.length
      let cs := xs.map (fun w => signed 24 w.toNat)
      let sum := cs.foldl (· + ·) 0
      let lo := cs.foldl min (2 ^ 23 - 1)
      let hi := cs.foldl max (-(2 ^ 23))
      let mean := q.convert false (roundDiv sum n)
      let step := s.gridStep (tagOct t)
      let out := s.recipeScratch t q mean xs
      (q.st ≠ .running ∨ n ≠ fld (s.desc t 5) 15 0 + 1 ∨ (∀ x y, s.runStart t ≠ some (x, some y)) →
        exec (.sampleRunDone t xs) s = .next s) ∧
      (q.st = .running → n = fld (s.desc t 5) 15 0 + 1 → ∀ want g, s.runStart t = some (want, some g) →
        (s.adcLimit ≠ 0 → s.adcLimit < g - want → calm → ends (.sampleRunDone t xs) 7 0x093 s.mse now (fun _ => True)) ∧
        (s.adcLimit = 0 ∨ g - want ≤ s.adcLimit → (s.scratch out.1 out.2).1 = true →
          ∃ u, exec (.sampleRunDone t xs) s = .next u ∧ others u ∧
            (let r := (((q.setW 0 sum).setW 1 lo).setW 2 hi).setW 3 n
             u.op t = { (if q.scr then r.setW 7 ((out.1 + n : Nat) : Int) else r) with
               running := false, runDone := true, tend := g + (n - 1) * step, clamp := q.clamp || q.lim != 0,
               runs := q.runs ++ [⟨mean, q.convert true (hi - lo)⟩],
               adcsat := q.adcsat || xs.any (fun w => w == 0x7FFFFF || w == 0x800000), delayed := q.delayed || g != want }) ∧
            u = { s with ops := u.ops, bankMem := (s.scratch out.1 out.2).2.bankMem, tabs := (s.scratch out.1 out.2).2.tabs,
                         time := (s.toEdge (s.edgeAt (g + n * step) + 2)).time }))) ∧
    (∀ want, (s.op t).st = .running → s.adcLimit ≠ 0 → s.runStart t = some (want, none) → calm →
      ends (.adcWaitTimeout t) 7 0x093 s.mse (s.edgeAt (want + s.adcLimit)) (fun _ => True)) ∧
    ((s.op t).st ≠ .running ∨ s.adcLimit = 0 ∨ (∀ x, s.runStart t ≠ some (x, none)) → exec (.adcWaitTimeout t) s = .next s)

/-! ### Acquisition -/

/-- R290, R313, R316 to R319, R323, R325, R333, R334, R458 (Tables 11.2 to 11.4): ARM and DISARM enter the timing domain
at their capture edge + 2. ARM, where its checks pass, takes a unit to ARMED with WINNO 0 and the open trigger that
IMMEDIATE or TIME gives; a past OPENAT sets LATE; under LEVEL the unit holds its ADCs from the first grid edge at
which they are free. DISARM takes a unit with no window due to IDLE, closing an open window. A due window opens at the
trigger's time plus DELAY, fires producer ACQ of its unit and claims its ADCs. It closes at its TCLOSE: its record is
written, or where no room remains lost in a DROP gap; then the unit is ARMED again or DONE under NWIN. Commands whose
completion it states: acqArm, acqDisarm, windowOpen, windowClose. -/
def Obligations.CaptureUnitsArmOpenAndClose : Prop :=
  ∀ (s : State) (ini : Ini) (u : Nat), u < 68 →
    let v := s.acq u
    let page := acqPage u
    let otrig := s.acqF u 21 19
    let openat := wide [s.acqW u 9, s.acqW u 10, s.acqW u 11] % 2 ^ 64
    let others (t : State) : Prop := ∀ x, x ≠ u → t.acq x = s.acq x
    let served (t : State) : Prop := t.reply = ⟨0, []⟩ ∧ t.reg page PG_SEQ = s.reg page PG_SEQ + 1
    let flag (b g : Nat) : Nat × Nat × Nat := if u < 64 then (page, ACQ_FLAG, b) else (page, ACQG_GFLAG, 6 * (u - 64) + g)
    let borrows (t : State) : Prop :=
      s.glean.borrow = none → t.glean = s.glean ∧ t.reg pGLEAN GLEAN_ABORT = s.reg pGLEAN GLEAN_ABORT
    let claims (w t : State) (b : Nat) : Prop :=
      let m := s.acqF u 7 0
      let step := s.gridStep u
      let g := w.adcClaim u m 16 (ceilTo step b)
      (t.acq u).heldAdc = true ∧ (t.acq u).wanted = ceilTo step b ∧ (t.acq u).holdFrom = g ∧ (t.acq u).lastGrid = none ∧
      t.oct u = { s.oct u with
        adc := (List.range 8).map (fun a => if nbit m a then 2 else (s.oct u).adc.getD a 0)
        span := (List.range 8).map (fun a =>
          let x := (s.oct u).span.getD a (0, 0)
          if !nbit m a then x else if x.1 < x.2 ∧ g ≤ ceilTo step x.2 then (x.1, g) else (g, g)) }
    (s.gate_ ini page true = none →
      (s.checkAcqArm u = none →
        ∃ t n, exec (.acqArm ini u) s = .next t ∧ served t ∧ (n = 3 ∨ n = 4) ∧ t.time = (s.ticks n).time ∧
          t.acqSt u = 1 ∧ fld (t.acqW u 14) 21 10 = 0 ∧ others t ∧
          (let at_ := (s.ticks n).time.base
           let late := otrig == 4 && decide (openat < at_)
           let f := flag 19 2
           s.keepsButUnit t u [14] ((page, PG_SEQ) :: (pGLEAN, GLEAN_ABORT) :: (if late then [(f.1, f.2.1)] else [])) ∧
           (late = true → t.bitR f.1 f.2.1 f.2.2 = true) ∧
           t.acq u = { opens := if otrig = 0 then [at_] else if otrig = 4 then [if late then at_ else openat] else []
                       late := late, pend := v.pend, wr := v.wr, topen := at_, heldAdc := otrig == 3
                       wanted := (t.acq u).wanted, holdFrom := (t.acq u).holdFrom } ∧
           (otrig = 3 → claims (s.ticks n) t at_) ∧ (otrig ≠ 3 → (t.acq u).wanted = 0 ∧ (t.acq u).holdFrom = 0 ∧ t.oct u = s.oct u)) ∧
          borrows t ∧ (∀ c, c ≠ u → t.oct c = s.oct c) ∧
          t = { s with regs := t.regs, tabs := t.tabs, rot := t.rot, reply := t.reply, time := t.time, fresh := s.fresh + 1
                       units := t.units, octets := t.octets, glean := t.glean }) ∧
      (∀ e, s.checkAcqArm u = some e →
        ∃ t, exec (.acqArm ini u) s = .next t ∧ t.reply = ⟨e.code, []⟩ ∧ s.keepsRegs t [(page, PG_ERR)] ∧
          t = { s with regs := t.regs, rot := t.rot, reply := t.reply }) ∧
      (s.acqSt u = 1 → (∀ x, v.nextOpen (otrig == 0) = some x → (s.ticks 4).time.base < x + (s.acqW u 3).toNat ∧
          (s.ticks 3).time.base < x + (s.acqW u 3).toNat) →
        ∃ t n, exec (.acqDisarm ini u) s = .next t ∧ served t ∧ (n = 3 ∨ n = 4) ∧ t.time = (s.ticks n).time ∧
          t.acqSt u = 0 ∧ s.keepsButUnit t u [14] [(page, PG_SEQ)] ∧ others t ∧ t.acq u = { v with heldAdc := false } ∧
          t.oct u = (if v.heldAdc then s.freedAdcs u (s.ticks n).time.base else s.oct u) ∧ (∀ c, c ≠ u → t.oct c = s.oct c) ∧
          t = { s with regs := t.regs, tabs := t.tabs, rot := t.rot, reply := t.reply, time := t.time, fresh := s.fresh + 1
                       units := t.units, octets := t.octets }) ∧
      (s.acqSt u = 2 → v.tclose = none → v.chg = [] → v.heldAdc = false →
        (∀ tc, (s.windowRecord u tc 5).length ≤ s.ringFree u ∧ s.ringFails u (s.windowRecord u tc 5).length = false) →
        ∃ t n, exec (.acqDisarm ini u) s = .next t ∧ served t ∧ (n = 3 ∨ n = 4) ∧ t.time = (s.ticks n).time ∧
          s.closesWindow t u (s.ticks n).time.base 5 0 ∧ s.keepsButRing t u [14] [(page, PG_SEQ), (pACQG, ACQG_RECS)] ∧
          t = { s with regs := t.regs, tabs := t.tabs, rot := t.rot, reply := t.reply, time := t.time, fresh := s.fresh + 1
                       units := t.units, octets := t.octets, recs := t.recs, bankMem := t.bankMem })) ∧
    (∀ at_, s.acqSt u = 1 → v.nextOpen (otrig == 0) = some at_ →
      let topen := at_ + (s.acqW u 3).toNat
      let claim := s.acqF u 23 22 == 1 && decide (u < 64) && !v.heldAdc
      ∃ t es, exec (.windowOpen u) s = .next t ∧ t.acqSt u = 2 ∧ s.keepsButUnit t u [14] [(pGLEAN, GLEAN_ABORT)] ∧ others t ∧
        fld (t.acqW u 14) 21 10 = fld (s.acqW u 14) 21 10 ∧
        (t.acq u).topen = topen ∧ (t.acq u).n = 0 ∧
        (s.acqF u 18 17 = 0 → (t.acq u).tclose = none) ∧
        (s.acqF u 18 17 = 1 → (t.acq u).tclose = some (topen + s.acqLen u, 1)) ∧
        (2 ≤ s.acqF u 18 17 → (t.acq u).tclose =
          (firstOf (fun x => decide (topen + (s.acqF u 18 17 - 2) ≤ x)) v.closes).map (·, s.acqF u 18 17)) ∧
        (t.acq u).reds = List.replicate (s.acqChans u).length {} ∧ (t.acq u).calseq = s.calSeq ∧
        (t.acq u).opens = v.opens.filter (fun x => decide (at_ < x)) ∧
        (if claim then claims s t ((topen : Int) + s.skew).toNat else (t.acq u).heldAdc = v.heldAdc ∧ t.oct u = s.oct u) ∧
        borrows t ∧ (∀ c, c ≠ u → t.oct c = s.oct c) ∧
        t.green = { s.green with flight := s.green.flight ++ es, ins := t.green.ins } ∧ (∀ x ∈ es, x.prod = 64 + u) ∧
        t = { s with regs := t.regs, tabs := t.tabs, units := t.units, green := t.green, fresh := t.fresh
                     octets := t.octets, glean := t.glean }) ∧
    (s.acqSt u ≠ 1 ∨ v.nextOpen (otrig == 0) = none → exec (.windowOpen u) s = .next s) ∧
    (∀ tc code, s.acqSt u = 2 → v.tclose = some (tc, code) → v.chg = [] → (v.heldAdc = true → v.holdFrom = v.wanted) →
      let ws := s.windowRecord u tc code
      let nwin := fld (s.acqW u 1) 23 12
      let next := if nwin ≠ 0 ∧ nwin ≤ v.closed + 1 then 3 else 1
      (ws.length ≤ s.ringFree u → s.ringFails u ws.length = false →
        ∃ t, exec (.windowClose u) s = .next t ∧ s.closesWindow t u tc code next ∧
          s.keepsButRing t u [14] [(pACQG, ACQG_RECS)] ∧
          t = { s with regs := t.regs, tabs := t.tabs, units := t.units, octets := t.octets, recs := t.recs,
                       bankMem := t.bankMem }) ∧
      (s.ringFree u < ws.length → v.dropped = true →
        let f := flag 23 5
        ∃ t, exec (.windowClose u) s = .next t ∧ t.acqSt u = next ∧ (t.acq u).closed = v.closed + 1 ∧ others t ∧
          (t.acq u).pend = Gap.add v.pend { cause := 2, tstart := v.topen, lenps := tc - v.topen, count := 0, aux0 := 1 } ∧
          t.bitR f.1 f.2.1 f.2.2 = true ∧ s.keepsButUnit t u [14] [(f.1, f.2.1)] ∧
          t.oct u = (if v.heldAdc && !(otrig == 3 && next == 1) then s.freedAdcs u tc else s.oct u) ∧
          (∀ c, c ≠ u → t.oct c = s.oct c) ∧
          t = { s with regs := t.regs, tabs := t.tabs, units := t.units, octets := t.octets })) ∧
    (s.acqSt u ≠ 2 ∨ v.tclose = none → exec (.windowClose u) s = .next s)

/-- R312, R318, R321, R323 to R326, R334 (Tables 11.4, 11.5): a sample that lies in the open window enters the reductions
of its source and counts, and the LEN-th closes the window 1 ps after its tag; one before TOPEN does not. A pending
gap record goes to its ring when 11 words of it are free. Beyond its share of the ring the oldest record moves to the
external area, or sets XFULL once where that is full. XLEN 0 removes the area. Commands whose completion it states:
captureSample, pendingGapWrite, spill, xlenWrite. -/
def Obligations.SamplesGapsAndSpills : Prop :=
  ∀ (s : State) (u : Nat),
    let v := s.acq u
    let src := s.acqF u 23 22
    let others (t : State) : Prop := ∀ x, x ≠ u → t.acq x = s.acq x
    (∀ (inp : CapIn) (x : Sample) (w : AcqUnit), u < 68 → s.acqSt u = 2 → src ≠ 2 → s.acqF u 21 19 ≠ 3 → bit (s.acqW u 0) 14 = false →
      (src = 0 ∨ src = 3 → v.stile = x :: w.stile ∧ w = { v with stile := w.stile }) →
      (src = 1 → v.heldAdc = true ∧ v.wanted = v.holdFrom ∧ inp.codes.length = (s.acqChans u).length ∧ ∃ g,
        (∀ l, v.lastGrid = some l → g = max (l + s.gridStep u) v.holdFrom) ∧ (v.lastGrid = none → g = v.holdFrom) ∧
        w = { v with lastGrid := some g } ∧
        x = { tag := s.gridTag g, vals := inp.codes.map (·.toNat), offered := s.edgeAt (g + s.gridStep u) + 2 : Sample }) →
      (∀ tc code, v.tclose = some (tc, code) → x.tag < tc) →
      let moved (t : State) : Prop := others t ∧ t = { s with units := t.units, time := (s.toEdge x.offered).time }
      (x.tag < v.topen → ∃ t, exec (.captureSample u inp) s = .next t ∧ t.acq u = w ∧ moved t) ∧
      (v.topen ≤ x.tag → v.n + 1 < 16777215 → (src = 1 → x.vals.any (fun c => c == 0x7FFFFF || c == 0x800000) = false) →
        let b := x.vals.headD 0
        let r := v.reds.headD {}
        ∃ t, exec (.captureSample u inp) s = .next t ∧ moved t ∧
          t.acq u = { w with
            n := v.n + 1
            reds :=
              if src = 0 then (List.zip v.reds (List.range 8)).map (fun y => y.1.band (b / 4 ^ y.2 % 4))
              else if src = 1 then (List.zip v.reds x.vals).map (fun y =>
                y.1.adc v.n (signed 24 (s.acqW u 6).toNat) (s.acqW u 7).toNat (signed 24 y.2))
              else if v.n = 0 then [{}] else [r.interval (v.n == 1) (x.tag - v.tlast)]
            bands := if src = 0 then some b else v.bands
            tfirst := if src = 3 ∧ v.n = 0 then x.tag else v.tfirst
            tlast := if src = 3 then x.tag else v.tlast
            tclose := if s.acqF u 18 17 = 0 ∧ v.n + 1 = s.acqLen u then some (
              match v.tclose with
              | some (tc, code) => if x.tag + 1 < tc then (x.tag + 1, 0) else (tc, code)
              | none => (x.tag + 1, 0)) else v.tclose })) ∧
    (∀ (codes : List Word) (e : EdgeIn), u < 68 → s.acqSt u = 2 → src = 2 → s.acqF u 21 19 ≠ 3 → bit (s.acqW u 0) 14 = false →
      let c := 8 * u + e.lane
      let b0 := (s.chan c).band
      let b := s.bandOf c b0 e.volt
      let fcal := fld (s.calW u (64 * e.lane + 5)) 9 0
      let tag := unsigned 64 ((s.baseAtEdge e.edge : Int) + ((1250 * e.fine + fcal) / (2 * fcal) : Nat) -
        signed 24 (s.calW u (64 * e.lane + 6)).toNat - s.skew)
      let r := (v.reds.getD e.lane {}).edge tag b0 b false
      (nbit (s.acqF u 7 0) e.lane = false ∨ b = b0 → exec (.captureSample u ⟨codes, [e]⟩) s = .next s) ∧
      (nbit (s.acqF u 7 0) e.lane = true → b ≠ b0 → fcal ≠ 0 → (∀ tc code, v.tclose = some (tc, code) → tag < tc) →
        v.topen ≤ tag → v.n + 1 < 16777215 → s.acqF u 18 17 ≠ 0 → r.2 = false →
        ∃ t, exec (.captureSample u ⟨codes, [e]⟩) s = .next t ∧ others t ∧ t.chan c = { s.chan c with band := b } ∧
          (∀ d, d ≠ c → t.chan d = s.chan d) ∧ t.acq u = { v with reds := v.reds.set e.lane r.1, n := v.n + 1 } ∧
          t = { s with units := t.units, chans := t.chans
                       time := (s.toEdge (s.edgeAt (1250 * (s.baseAtEdge e.edge / 1250 + 1)) + 2)).time })) ∧
    (∀ inp : CapIn, 68 ≤ u ∨ ((src = 0 ∨ src = 3) ∧ v.stile = []) ∨ ((src = 1 ∨ src = 2) ∧ s.acqSt u ≠ 1 ∧ s.acqSt u ≠ 2) ∨
        (src = 2 ∧ inp.edges = []) → exec (.captureSample u inp) s = .next s) ∧
    (∀ g, u < 68 → v.pend = some g → 11 ≤ s.ringFree u →  s.ringFails u 11 = false →
      ∃ t, exec (.pendingGapWrite u) s = .next t ∧ others t ∧ s.ringHolds t u (g.words u none) ∧
        t.acq u = { v with pend := none, wr := (v.wr + 11) % (4 * s.ringSize u) } ∧
        t.recs = s.recs ++ [{ kind := 1, unit := u, words := g.words u none, place := v.wr : Rec }] ∧
        t.reg pACQG ACQG_RECS = s.reg pACQG ACQG_RECS + 1 ∧ s.keepsButRing t u [] [(pACQG, ACQG_RECS)] ∧
        t = { s with regs := t.regs, tabs := t.tabs, units := t.units, recs := t.recs, bankMem := t.bankMem }) ∧
    (∀ n g, n < 64 → u = 128 + n → (s.site n).pendGap = some g → 11 ≤ s.ringFree 128 → s.ringFails 128 11 = false →
      ∃ t, exec (.pendingGapWrite u) s = .next t ∧ s.ringHolds t 128 (g.words 127 (some n)) ∧
        t.site n = { s.site n with pendGap := none } ∧ (∀ m, m ≠ n → t.site m = s.site m) ∧
        t.siteWr = (s.siteWr + 11) % (4 * s.ringSize 128) ∧
        t.recs = s.recs ++ [{ kind := 1, unit := u, words := g.words 127 (some n), place := s.siteWr : Rec }] ∧
        t.reg pACQG ACQG_RECS = s.reg pACQG ACQG_RECS + 1 ∧ s.keepsButRing t u [] [(pACQG, ACQG_RECS)] ∧
        t = { s with regs := t.regs, tabs := t.tabs, sites := t.sites, recs := t.recs, bankMem := t.bankMem, siteWr := t.siteWr }) ∧
    ((u < 68 ∧ (v.pend = none ∨ s.ringFree u < 11)) ∨ (∃ n < 64, u = 128 + n ∧ ((s.site n).pendGap = none ∨ s.ringFree 128 < 11)) →
      exec (.pendingGapWrite u) s = .next s) ∧
    (let r := min u 128
     let thr := s.fldR pACQG ACQG_CFG 23 20
     let due : Prop := thr ≠ 0 ∧ s.xlen ≠ 0 ∧ thr * 4 * s.ringSize r < 16 * s.ringUsed r
     (∀ a x z, s.recs = a ++ x :: z → (∀ y ∈ a, inRing r y = false) → inRing r x = true → due →
        (s.xused + x.words.length ≤ s.xlen → s.ringRead x = (true, s) →
          ∃ t, exec (.spill u) s = .next t ∧ t.recs = a ++ { x with spilled := true } :: z ∧
            t.extWr = (s.extWr + x.words.length) % s.xlen ∧
            (∀ i < x.words.length,
              t.dram.get zeroDefault (s.wideR pACQG ACQG_XBASE0 2 + (s.extWr + i) % s.xlen) = x.words.getD i 0) ∧
            (∀ d, (∀ i < x.words.length, d ≠ s.wideR pACQG ACQG_XBASE0 2 + (s.extWr + i) % s.xlen) →
              t.dram.get zeroDefault d = s.dram.get zeroDefault d) ∧
            t = { s with recs := t.recs, extWr := t.extWr, dram := t.dram }) ∧
        (s.xlen < s.xused + x.words.length →
          (s.bitR pACQG ACQG_STAT 23 = true → exec (.spill u) s = .next s) ∧
          (s.bitR pACQG ACQG_STAT 23 = false →
            ∃ t, exec (.spill u) s = .next t ∧ t.bitR pACQG ACQG_STAT 23 = true ∧ s.keepsRegs t [(pACQG, ACQG_STAT)] ∧
              t.watch = { s.watch with raised := s.watch.raised ++ [{ cls := .n, code := 0x0A1, page := pACQG : Raised }] } ∧
              t = { s with regs := t.regs, watch := t.watch }))) ∧
     (¬ due ∨ (∀ y ∈ s.recs, inRing r y = false) → exec (.spill u) s = .next s)) ∧
    (∀ (ini : Ini) (lo hi : Word), s.gate_ ini pACQG true = none → s.lockMine pACQG ini = true →
      s.checkXlen 0 0 = none → s.checkXlen (s.wideR pACQG ACQG_XBASE0 2) (lo.toNat + 2 ^ 24 * hi.toNat) = none →
      s.day.active = false → ¬ (s.run.st = .start ∧ s.run.warm = true ∧ s.run.step ≤ 7) →
      ∃ t, exec (.xlenWrite ini lo hi) s = .next t ∧ s.wrote t pACQG [ACQG_XLEN0, ACQG_XLEN1] ∧
        t.reg pACQG ACQG_XLEN0 = lo ∧ t.reg pACQG ACQG_XLEN1 = hi ∧ t.extWr = 0 ∧
        t = { s with regs := t.regs, rot := t.rot, reply := t.reply, extWr := t.extWr, waits := t.waits })

/-! ### Event Green -/

/-- R204, R213, R224, R293, R318, R336 to R341, R344, R347, R371 (Tables 12.2, 12.6, 12.8): the event in flight reaches
its consumer at its action edge, which its exit from the stile or its arrival decides within R336's bounds. A
delivered activation counts in CNT of its consumer and acts: START and JUMP of a stream, a STOP of a stream at rest
not at all, a trigger of MSE operations or of capture units, the external event of a global capture unit, a TRG pulse
while the PLL is locked, a request of the Watchhouse, an event record, a delay line. A busy consumer drops it with
OVERRUN. A delay line that runs out fires its producer at its edge; the Watchhouse takes a WATCH request as its class
says: N, a D for every site of the mask that may be hedged, H, or nothing. Commands whose completion it states:
greenEvent, delayLineFire, watchIn. -/
def Obligations.EventsReachTheirConsumers : Prop :=
  ∀ (s : State) (arr : Nat),
    (s.green.flight = [] → exec (.greenEvent arr) s = .next s.followStreams) ∧
    (∀ e : GEvent, s.green.flight = [e] → e.cons < 64 →
      let c := e.cons
      let a := e.action arr
      (s.green.last.get (unitDefault 0) c ≠ a + 1) →
      (s.consBusy c a = false → ∃ t, exec (.greenEvent arr) s = .next t ∧ s.runFollows t ∧
        t.tab pGREEN 2 c = putFld (s.tab pGREEN 2 c) 15 0 (fld (s.tab pGREEN 2 c) 15 0 + 1) ∧ s.keepsTabs t pGREEN 2 c 1 ∧
        (let u := s.toEdge a
         let tag := u.eventTag e arr a
         let green : Green := { s.green with flight := [], last := s.green.last.put (unitDefault 0) c (a + 1) }
         (c < 4 → (∀ k < 4, t.stream k =
             if k = c ∧ s.startMode k = 1 ∧ s.strSt k = sARMED ∧ (s.stream k).startAt = none
             then { s.stream k with startAt := some (a, s.bitR (pSTREAM k) STREAM_STAT 20) } else s.stream k) ∧
           t = { s with tabs := t.tabs, run := t.run, time := u.time, green := green, streams := t.streams }) ∧
         (4 ≤ c → c < 8 → (∀ k < 4, t.stream k =
             if k + 4 = c ∧ sARMED ≤ s.strSt k ∧ s.strSt k ≤ sHOLDING
             then { s.stream k with greenReq := some (match (s.stream k).greenReq with
               | some x => min x (u.clockOf tag)
               | none => u.clockOf tag) } else s.stream k) ∧
           t = { s with tabs := t.tabs, run := t.run, time := u.time, green := green, streams := t.streams }) ∧
         (8 ≤ c → c < 12 → s.strSt (c - 8) < sARMED ∨ sHOLDING < s.strSt (c - 8) →
           t = { s with tabs := t.tabs, run := t.run, time := u.time, green := green }) ∧
         (20 ≤ c → c < 28 → (∀ x, t.op x = if tagLane x = c - 20 ∧ (s.op x).st = .running
             then { s.op x with trig := (s.op x).trig || (s.op x).wait == some 2
                                trigAt := if (s.op x).running ∧ (s.op x).trigAt = none then some a else (s.op x).trigAt }
             else s.op x) ∧
           t = { s with tabs := t.tabs, run := t.run, time := u.time, green := green, ops := t.ops }) ∧
         (28 ≤ c → c < 32 → (∀ x ∈ s.greenUnits (c - 28) true, s.acqSt x ≠ 2) →
           (∀ x, t.acq x = if x ∈ s.greenUnits (c - 28) true ∧ s.acqSt x = 1
             then { s.acq x with opens := (s.acq x).opens ++ [tag] } else s.acq x) ∧
           t = { s with tabs := t.tabs, run := t.run, time := u.time, green := green, units := t.units }) ∧
         (32 ≤ c → c < 36 → (∀ x ∈ s.greenUnits (c - 32) false, s.acqSt x = 2 → (s.acq x).tclose = none) →
           (∀ x, t.acq x =
             if x ∈ s.greenUnits (c - 32) false ∧ (s.acqSt x = 1 ∨ s.acqSt x = 2)
             then { s.acq x with closes := (s.acq x).closes ++ [tag]
                                 tclose := if s.acqSt x = 2 ∧ (s.acq x).topen ≤ tag then some (tag, 2) else (s.acq x).tclose }
             else s.acq x) ∧
           t = { s with tabs := t.tabs, run := t.run, time := u.time, green := green, units := t.units }) ∧
         (36 ≤ c → c < 40 → (∀ x, t.acq x =
             if x = 64 + (c - 36) ∧ (s.acqSt x = 1 ∨ s.acqSt x = 2)
             then { s.acq x with stile := (s.acq x).stile ++ [{ tag := tag, vals := [], offered := a + 2 : Sample }] } else s.acq x) ∧
           t = { s with tabs := t.tabs, run := t.run, time := u.time, units := t.units,
                        green := { green with busyTo := s.green.busyTo.put (unitDefault 0) c (a + 2) } }) ∧
         (40 ≤ c → c < 44 →
           t = { s with tabs := t.tabs, run := t.run,
                        time := { u.time with trgOut := s.time.trgOut ++
                          (if nbit (s.fldR pSKEW SKEW_TRG 3 0) (c - 40) && s.locked
                           then [{ line := c - 40, rise := (u.baseAtEdge (a + 8) : Int) + s.skew, high := 10000 : TrgPulse }]
                           else []) },
                        green := { green with busyTo := s.green.busyTo.put (unitDefault 0) c (a + 25) } }) ∧
         (44 ≤ c → c < 52 → t = { s with
           tabs := t.tabs, run := t.run, time := u.time, green := { green with watch := s.green.watch ++ [c - 44] } }) ∧
         (52 ≤ c → c < 60 →
           (let n := c - 52
            let q := s.green.seq.get (unitDefault 0) n
            let w := word (at_ 21 n + at_ 20 0 + at_ 19 (nbit s.green.ovr n).toNat + q % 65536)
            t = { s with tabs := t.tabs, run := t.run, time := u.time
                         recs := s.recs ++ [{ kind := 2, unit := n, words := w :: unwide 3 tag : Rec }]
                         green := { green with seq := s.green.seq.put (unitDefault 0) n ((q + 1) % 65536)
                                               ovr := setNbit s.green.ovr n false } })) ∧
         (60 ≤ c →
           (let d := (s.reg pGREEN (GREEN_DLY0 + (c - 60))).toNat
            t = { s with tabs := t.tabs, run := t.run, time := u.time,
                         green := { green with dly := s.green.dly.put (unitDefault 0) (c - 60) (a + d + 1)
                                               busyTo := s.green.busyTo.put (unitDefault 0) c (a + d + 1) } })))) ∧
      (s.consBusy c a = true → (c < 44 ∨ 60 ≤ c) → ∃ t, exec (.greenEvent arr) s = .next t ∧ s.runFollows t ∧
        t.tab pGREEN 2 c = putBit (s.tab pGREEN 2 c) 23 true ∧ s.keepsTabs t pGREEN 2 c 1 ∧
        t = { s with tabs := t.tabs, run := t.run, time := (s.toEdge a).time, green := { s.green with flight := [] } })) ∧
    (∀ n : Fin 4, (s.green.dly.get (unitDefault 0) n = 0 → exec (.delayLineFire n) s = .next s) ∧
      (∀ e, s.green.dly.get (unitDefault 0) n = e + 1 → ∃ t es, exec (.delayLineFire n) s = .next t ∧
        t = { s with time := (s.toEdge e).time, green := { s.green with
          dly := s.green.dly.put (unitDefault 0) n 0, flight := s.green.flight ++ es } } ∧
        (∀ x ∈ es, x.prod = 166 + n.val ∧ x.fired = e * 625))) ∧
    (∀ k : Fin 8, (k.val ∉ s.green.watch → exec (.watchIn k) s = .next s) ∧
      (k.val ∈ s.green.watch →
        let cmd := fld (s.tab pWATCH 1 (4 * k)) 23 22
        let sites := (List.range 64).filter (fun n => s.canHedge n && bit (s.tab pWATCH 1 (4 * k + 1 + n / 24)) (n % 24))
        let all (c : FClass) (u : FUnit) : Raised := { cls := c, code := 0x021, page := pWATCH, detail := k, unit := u }
        exec (.watchIn k) s = .next { s with
          green := { s.green with watch := s.green.watch.filter (· != k.val) }
          watch := { s.watch with raised := s.watch.raised ++
            (if cmd = 1 then [all .n .none] else if cmd = 2 then sites.map (fun n => all .d (.site n))
             else if cmd = 3 then [all .h .none] else []) } }))

/-- R335, R337, R342, R343, R347, R119, Table 1.2: each 1 of GREEN_SW fires its producer into every enabled clocked
channel of its row by way of its event-in stile, and PPS of a locked PTP clock fires producer 178 at the edge of the
next whole second. A word of the matrix or of the channel table takes its value where no loop of direct channels
closes, else it is LOOP and GREEN_LOOP tells the channel; CNT and the flags answer to 1s alone. A parity error, or
PG_INJ, raises class H GREEN_PAR. Commands whose completion it states: pps, greenSw, greenTableWrite, greenPar. -/
def Obligations.GreenTablesAreWrittenAndChecked : Prop :=
  ∀ (s : State) (ini : Ini),
    let entered (p at_ : Nat) (es : List GEvent) : Prop := ∀ c < 128, s.chanTakes c p = true → bit (s.tab pGREEN 1 c) 22 = true →
      ∃ x ∈ es, x.prod = p ∧ x.chan = c ∧ x.cons = fld (s.tab pGREEN 1 c) 21 16 ∧ x.clocked = true ∧ x.fired = at_ ∧
        (timingProducer p = false → x.exit = at_ / 625 + 3 ∨ x.exit = at_ / 625 + 4)
    let stiled (t : State) : Prop :=
      t.green = { s.green with flight := t.green.flight } ∧
      ((∀ x ∈ s.green.flight, x.clocked = true → x.timing = false → x.exit ≤ s.time.edge) →
        (∀ x ∈ s.green.ins, x.exit ≤ s.time.edge) → t.green = s.green) ∧
      ∀ x ∈ s.green.ins, s.time.edge < x.exit → ∀ c < 128, t.chanTakes c x.prod = true → bit (t.tab pGREEN 1 c) 22 = true →
        ∃ y ∈ t.green.flight, y.prod = x.prod ∧ y.chan = c ∧ y.cons = fld (t.tab pGREEN 1 c) 21 16 ∧ y.clocked = true ∧ y.exit = x.exit
    (s.gate_ ini pGREEN true = none →
      (∀ bits : Word, bits.toNat < 256 → ∃ t es, exec (.greenSw ini bits) s = .next t ∧ s.wrote t pGREEN [] ∧
        t = { s with regs := t.regs, rot := t.rot, reply := t.reply, fresh := t.fresh
                     green := { s.green with flight := s.green.flight ++ es, ins := t.green.ins } } ∧
        (∀ x ∈ es, ∃ n < 8, bit bits n = true ∧ x.prod = 184 + n) ∧
        (∀ n < 8, bit bits n = true → (∀ x ∈ s.green.ins, x.prod = 184 + n → x.exit ≤ s.time.edge) → entered (184 + n) s.ps es)) ∧
      (s.day.active = false → ¬ (s.run.st = .start ∧ s.run.warm = true ∧ s.run.step ≤ 7) →
        (∀ (tsel idx : Nat) (w : Word), (tsel = 0 ∧ idx < 1024) ∨ (tsel = 1 ∧ idx < 128) →
          (s.checkGreen tsel idx w = none →
            ∃ t, exec (.greenTableWrite ini tsel idx [w]) s = .next t ∧ s.wrote t pGREEN [] ∧
              t.tab pGREEN tsel idx = (if tsel = 1 then w &&& 0xFF0000 else w) ∧ s.keepsTabs t pGREEN tsel idx 1 ∧ stiled t ∧
              t = { s with regs := t.regs, rot := t.rot, reply := t.reply, tabs := t.tabs, waits := t.waits, green := t.green }) ∧
          (s.checkGreen tsel idx w = some .loop →
            ∃ t, exec (.greenTableWrite ini tsel idx [w]) s = .next t ∧ t.reply = ⟨Err.loop.code, []⟩ ∧
              t.reg pGREEN GREEN_LOOP = word (2 ^ 23 + if tsel = 0 then idx / 8 else idx) ∧
              s.keepsRegs t [(pGREEN, PG_ERR), (pGREEN, GREEN_LOOP)] ∧
              t = { s with regs := t.regs, rot := t.rot, reply := t.reply })) ∧
        (∀ (idx : Nat) (w : Word), idx < 64 →
          ∃ t, exec (.greenTableWrite ini 2 idx [w]) s = .next t ∧ s.wrote t pGREEN [] ∧
            t.tab pGREEN 2 idx = s.tab pGREEN 2 idx &&& ~~~(w &&& 0xC00000) ∧ s.keepsTabs t pGREEN 2 idx 1 ∧
            t = { s with regs := t.regs, rot := t.rot, reply := t.reply, tabs := t.tabs, waits := t.waits }))) ∧
    (s.bitR pGREEN PG_INJ 0 = false → exec (.greenPar true) s = .next s ∧
      exec (.greenPar false) s = .next { s with
        green := { s.green with bad := s.green.bad + 1 }
        watch := { s.watch with raised := s.watch.raised ++ [{ cls := .h, code := 0x0B0, page := pGREEN : Raised }] } }) ∧
    (s.bitR pGREEN PG_INJ 0 = true → ∀ ok, ∃ t, exec (.greenPar ok) s = .next t ∧
      t.reg pGREEN PG_INJ = putBit (s.reg pGREEN PG_INJ) 0 false ∧ s.keepsRegs t [(pGREEN, PG_INJ)] ∧
      t = { s with regs := t.regs, watch := { s.watch with raised := s.watch.raised ++
        [{ cls := .h, code := 0x0B0, page := pGREEN, inj := true : Raised }] } }) ∧
    (s.bitR pPTP PTP_STAT 19 = false → exec .pps s = .next s) ∧
    (s.bitR pPTP PTP_STAT 19 = true → ∃ es, exec .pps s =
      .next { s with time := (s.toEdge s.ppsEdge).time, green := { s.green with flight := s.green.flight ++ es } } ∧
        (∀ x ∈ es, x.prod = 178) ∧ entered 178 (s.ppsEdge * 625) es)

/-! ### Guard monitors, sensors, faults -/

/-- R49, R280, R348 to R354, R358 to R361, R374 (Tables 13.1, 13.3): a monitor that does not sample does nothing. A sample
of a site rail is the voltage seen at RAILSNS, and one of VPE_HI or VPE_LO outside Table 2.8 isolates every channel
and puts every rail off. A sampling monitor on its fault side leaves it by a good sample; on its good side the (GLITCH
+ 1)-th beyond sample in a row trips it, TRIPS counts, and the trip raises its fault: class H for a chip supply, class
N or D on the site by ACTION, N GUARD_NOSITE elsewhere; the trip of a site's monitor fires producer GUARD. A parity
error of its entry raises GUARD_PAR instead, and two failed self-checks in a row GUARD_CHK. A reading is stored for
every sensor; with no threshold met and no sensor out of family nothing else changes but the self-heating correction.
REVALID returns a sensor to service. Commands whose completion it states: monitorSample, monitorSelfCheck,
sensorReading, revalid. -/
def Obligations.MonitorsAndSensorsAreRead : Prop :=
  ∀ (s : State) (m : Nat),
    let v := s.mon m
    let others (t : State) : Prop := ∀ j, j ≠ m → t.mon j = s.mon j
    let monOnly (u : State) (c : Instr) (w : Mon) : Prop := ∃ t, exec c s = .next t ∧ t.mon m = w ∧ others t ∧ t = { u with mons := t.mons }
    let guard (u : State) (c : Instr) (code : Nat) (inj : Bool) : Prop := ∃ t r, exec c s = .next t ∧ others t ∧
      s.keepsRegs t (if inj then [(pGUARD, PG_INJ)] else []) ∧ (inj = true → t.bitR pGUARD PG_INJ 0 = false) ∧
      r.code = code ∧ r.detail = m ∧ r.inj = inj ∧
      (576 ≤ m → r.cls = .h ∧ r.page = pGUARD ∧ r.unit = .none) ∧
      (∀ n, m < 576 → s.siteOf (monOct m) = some n → r.cls = .d ∧ r.page = pSITE n ∧ r.unit = .site n) ∧
      (m < 576 → s.siteOf (monOct m) = none → r.cls = .d ∧ r.page = pGUARD ∧ r.unit = .none) ∧
      t = { u with regs := t.regs, mons := t.mons, watch := { s.watch with raised := s.watch.raised ++ [r] } }
    (s.monAction m = 0 ∨ 592 ≤ m →
      (∀ x ok, exec (.monitorSample m x ok) s = .next s) ∧ (∀ a b sw, exec (.monitorSelfCheck m a b sw) s = .next s)) ∧
    (s.monAction m ≠ 0 → m < 592 →
      (∀ x : Int,
        let u := s.monInput m x
        (m < 64 → u = s.setOct m { s.oct m with sns := x }) ∧ (64 ≤ m → (m < 586 ∨ 590 ≤ m) → u = s) ∧
        (586 ≤ m → m < 590 →
          let out : Prop := x < (supplyLimits m).1 ∨ (supplyLimits m).2 < x
          (¬ out → u = { s with pins := { s.pins with vpeOut := s.pins.vpeOut.filter (· != m) } }) ∧
          (out → m ∈ u.pins.vpeOut ∧ u.pinsOff = true ∧ (∀ c, u.chan c = { s.chan c with edges := [], drv := 2 }) ∧
            (∀ o < 64, u.fldR (pOCTPE o) OCTPE_STAT 15 8 = 0) ∧
            u = { s with pins := u.pins, chans := u.chans, octets := u.octets, regs := u.regs })) ∧
        (m < 586 ∨ 590 ≤ m →
          (s.bitR pGUARD PG_INJ 0 = true → ∀ ok, guard u (.monitorSample m x ok) 0x016 true) ∧
          (s.bitR pGUARD PG_INJ 0 = false → guard u (.monitorSample m x false) 0x016 false)) ∧
        (s.bitR pGUARD PG_INJ 0 = false →
          let c := s.classify m x
          let side := if x < signed 24 (s.monW m 0).toNat then 0 else if signed 24 (s.monW m 1).toNat < x then 1 else 2
          let trips := v.beyond + 1 > fld (s.monW m 3) 21 19
          let tripped : Mon := { v with last := 2, fault := true, beyond := 0, trips := min 0xFFFF (v.trips + 1) }
          let raises (r : Raised) (es : List GEvent) : Prop := ∃ t, exec (.monitorSample m x true) s = .next t ∧
            t.mon m = tripped ∧ others t ∧ t = { u with
              mons := t.mons, green := { s.green with flight := s.green.flight ++ es, ins := t.green.ins }, fresh := t.fresh
              watch := { s.watch with raised := s.watch.raised ++ [r] } }
          (v.fault = true → monOnly u (.monitorSample m x true) { v with last := c, fault := c != 0, beyond := 0 }) ∧
          (v.fault = false → c ≠ 2 → monOnly u (.monitorSample m x true) { v with last := c, beyond := 0 }) ∧
          (v.fault = false → c = 2 → ¬ trips → monOnly u (.monitorSample m x true) { v with last := 2, beyond := v.beyond + 1 }) ∧
          (v.fault = false → c = 2 → trips →
            (576 ≤ m → raises { cls := .h, code := 0x018 + side % 2, page := pGUARD, detail := m } []) ∧
            (m < 576 → s.siteOf (monOct m) = none → raises { cls := .n, code := 0x01A, page := pGUARD, detail := m } []) ∧
            (∀ n, m < 576 → s.siteOf (monOct m) = some n → s.canHedge n = true →
              ∃ es, (∀ e ∈ es, e.prod = n) ∧ raises
                { cls := if s.monAction m = 2 then .d else .n
                  code := if m < 64 then 0x010 + side % 2 else 0x012 + side
                  page := pSITE n, detail := m, unit := if s.monAction m = 2 then .site n else .none } es)))) ∧
      (∀ (a b : Int) (sw : Bool),
        let good : Prop := s.isBeyond m a = true ∧ s.isBeyond m b = true ∧ sw = true
        (good → monOnly s (.monitorSelfCheck m a b sw) { v with chkFail := false, chkRun := 0 }) ∧
        (¬ good → v.chkRun ≠ 1 → monOnly s (.monitorSelfCheck m a b sw) { v with chkFail := true, chkRun := 1 }) ∧
        (¬ good → v.chkRun = 1 → guard s (.monitorSelfCheck m a b sw) 0x015 false ∧
          ∀ t, exec (.monitorSelfCheck m a b sw) s = .next t → t.mon m = { v with chkFail := true, chkRun := 0 }))) ∧
    (∀ temps : List Int, s.bitR pTHERM PG_INJ 0 = false → s.bitR pTHERM THERM_STAT 23 = false →
      s.bitR pTHERM THERM_STAT 22 = false →
      (∀ k < 16, (s.sensor k).valid = true ∧ (s.sensor k).met = 0 ∧ temps.getD k 0 < 64 * (s.fldR pTHERM THERM_CFG 23 16 : Int) ∧
        temps.getD k 0 < 6720 ∧ ∃ j ∈ neighbours k, (temps.getD k 0 - temps.getD j 0).natAbs ≤ 512) →
      ∃ t, exec (.sensorReading temps []) s = .next t ∧
        (∀ k < 16, t.sensor k = { s.sensor k with t := temps.getD k 0, suspect := false, dcnt := 0 }) ∧
        (∀ b < 16, t.comp b = s.comp b + max (-10) (min 10 (Config.compAt b (temps.getD (compSensor b) 0) - s.comp b))) ∧
        s.keepsRegs t [] ∧ t = { s with regs := t.regs, sensors := t.sensors, comps := t.comps }) ∧
    (∀ (temps : List Int) (k : Fin 16), s.bitR pTHERM PG_INJ 0 = false → (s.sensor k).valid = true → (s.sensor k).dcnt < 2 →
      (∀ j < 16, j ≠ k.val → (s.sensor j).dcnt = 0) → s.bitR pTHERM THERM_STAT 23 = false → s.bitR pTHERM THERM_STAT 22 = false →
      (∀ j < 16, (s.sensor j).valid = true ∧ (s.sensor j).met = 0 ∧ temps.getD j 0 < 64 * (s.fldR pTHERM THERM_CFG 23 16 : Int) ∧
        temps.getD j 0 < 6720 ∧ ∃ i ∈ neighbours j, (temps.getD j 0 - temps.getD i 0).natAbs ≤ 512) →
      ∃ t, exec (.sensorReading temps [k]) s = .next t ∧
        t.sensor k = { s.sensor k with t := temps.getD k 0, suspect := true, dcnt := (s.sensor k).dcnt + 1 } ∧
        t.watch = s.watch ∧ (∀ j, (t.sensor j).valid = (s.sensor j).valid)) ∧
    (∀ (ini : Ini) (k : Fin 16), s.gate_ ini pTHERM true = none →
      ∃ t, exec (.revalid ini k) s = .next t ∧ s.wrote t pTHERM [] ∧
        t.sensor k = { s.sensor k with valid := true, suspect := false, dcnt := 0, met := 0 } ∧
        (∀ j, j ≠ k.val → t.sensor j = s.sensor j) ∧
        t = { s with regs := t.regs, rot := t.rot, reply := t.reply, sensors := t.sensors })

/-- R133, R215, R355 to R357, R362 to R369, R371 (Tables 13.4 to 13.6): the oldest raised fault reaches the Watchhouse:
its class latches, PG_FLT of its page tells it, and its record is kept, or where its unit's fault is still handled it
merges. Class N fires producer 179; class D orders the hedge of its site and fires 180; class H and class G stop every
stream, end every operation, isolate every channel and enter HALTED or DEAD. An ordered hedge isolates the site's
channels, ends what runs on its octets and takes it from the stream's mask; a hedge that is not confirmed raises
HEDGE_FAIL. WATCH_CLEAR clears PG_FLT of class N and D, and is STATE for H and G. Commands whose completion it states:
siteHedge, hedgeConfirm, faultLatch, watchClear. -/
def Obligations.FaultsAreLatchedAndSitesHedged : Prop :=
  ∀ s : State,
    (s.watch.raised = [] → exec .faultLatch s = .next s.followStreams) ∧
    (∀ (r h : Raised) (rest : List Raised), s.watch.raised = r :: rest → s.watch.handling = [h] → r.unit = h.unit →
      (∀ o, r.unit ≠ .octet o) → r.unit ≠ .none → r.cls = .d → h.cls = .d → r.fbit = none → h.pages = [h.page] →
      ∃ t, exec .faultLatch s = .next t ∧ s.runFollows t ∧ t.bitR pWATCH WATCH_STAT 15 = true ∧ t.bitR h.page PG_FLT 19 = true ∧
        s.keepsRegs t [(pWATCH, WATCH_STAT), (h.page, PG_FLT)] ∧
        t = { s with regs := t.regs, run := t.run, watch := { s.watch with raised := rest } }) ∧
    (∀ (r : Raised) (rest : List Raised), s.watch.raised = r :: rest → s.watch.handling = [] → r.fbit = none →
      (∀ o, r.unit ≠ .octet o) → r.pages = [r.page] → s.fldR r.page PG_FLT 23 21 = 0 → s.bitR pWATCH PG_INJ 0 = false →
      s.bitR pWATCH WATCH_STAT (latchBit r.cls) = true → s.regionEn 14 = false → s.watch.buffer.length < 16 →
      let code : RunState := if r.cls = .h then .halted else if r.cls = .g then .dead else s.run.st
      let recorded (t : State) (e : Nat) : Prop := (e = s.time.edge + 1 ∨ e = s.time.edge + 2) ∧
        (let ws := [word (at_ 21 r.cls.code + at_ 18 r.inj.toNat + r.code % 4096), word (at_ 12 r.page + r.detail % 4096)] ++
           unwide 3 (s.baseAtEdge e) ++ [word (at_ 20 code.code + s.watch.seq % 65536)]
         t.watch.buffer = s.watch.buffer ++ [{ kind := 3, unit := r.cls.code, words := ws : Rec }]) ∧
        t.watch.seq = (s.watch.seq + 1) % 65536 ∧
        t.reg r.page PG_FLT = word (at_ 21 r.cls.code + r.code % 4096) ∧
        t.bitR pWATCH WATCH_STAT (latchBit r.cls) = true ∧ t.bitR pWATCH WATCH_STAT (latchBit r.cls - 4) = true
      (r.cls = .n → ∃ t e es, exec .faultLatch s = .next t ∧ recorded t e ∧ s.runFollows t ∧
        s.keepsRegs t [(pWATCH, WATCH_STAT), (r.page, PG_FLT)] ∧ (∀ x ∈ es, x.prod = 179) ∧
        t = { s with regs := t.regs, run := t.run, fresh := t.fresh,
                     green := { s.green with flight := s.green.flight ++ es, ins := t.green.ins },
                     watch := { s.watch with raised := rest, buffer := t.watch.buffer, seq := t.watch.seq } }) ∧
      (∀ n, r.cls = .d → r.unit = .site n → s.canHedge n = true → s.fldR pWATCH WATCH_CFG 22 16 = 0 →
        ∃ t e es, exec .faultLatch s = .next t ∧ recorded t e ∧ s.runFollows t ∧
          s.keepsRegs t [(pWATCH, WATCH_STAT), (r.page, PG_FLT)] ∧ (∀ x ∈ es, x.prod = 180) ∧
          t.watch.orders = s.watch.orders ++ [n] ∧ t.watch.handling = [r] ∧
          t = { s with regs := t.regs, run := t.run, fresh := t.fresh,
                       green := { s.green with flight := s.green.flight ++ es, ins := t.green.ins },
                       watch := { t.watch with raised := rest, confirm := s.watch.confirm } }) ∧
      (r.cls = .h ∨ r.cls = .g → rest = [] → s.anyBusy = false → s.run.st = .ready →
        (∀ x ∈ s.ops, x.2.st ≠ .queued ∧ x.2.st ≠ .running) → (∀ u < 68, s.acqSt u = 0) → s.glean.borrow = none →
        ∃ t e, exec .faultLatch s = .next t ∧ recorded t e ∧
          t.run.st = (if r.cls = .h then .halted else .dead) ∧ t.run.safe = true ∧
          t.pins = (if r.cls = .g then { s.pins with gLatch := true } else s.pins) ∧
          (∀ c, t.chan c = { s.chan c with edges := [], drv := 2 }) ∧
          (∀ o < 64, t.bitR (pOCTPE o) OCTPE_RAILCFG 8 = false ∧ (t.oct o).tone.en = false ∧
            t.fldR (pOCTPE o) OCTPE_STAT 15 8 = 0) ∧
          (∀ k, t.stream k = s.stream k) ∧
          (∀ p o, o < 256 → (p, o) ∉ [(pWATCH, WATCH_STAT), (r.page, PG_FLT), (pGLEAN, GLEAN_STAT)] →
            (∀ c < 64, p ≠ pOCTPE c ∨ (o ≠ OCTPE_RAILCFG ∧ o ≠ OCTPE_RAILSTAT ∧ o ≠ OCTPE_STAT)) → t.reg p o = s.reg p o) ∧
          t = { s with regs := t.regs, run := t.run, pins := t.pins, chans := t.chans, octets := t.octets, watch := t.watch,
                       green := t.green, fresh := t.fresh, glean := t.glean, streams := t.streams })) ∧
    (∀ n : SiteN, (n.val ∉ s.watch.orders → exec (.siteHedge n) s = .next s.followStreams) ∧
      (n.val ∈ s.watch.orders → s.siteSt n = tASSIGNED → s.day.active = false →
        s.strSt (s.siteStream n) = sIDLE ∨ s.strSt (s.siteStream n) = sSTOPPED →
        (∀ x ∈ s.ops, x.2.st ≠ .queued ∧ x.2.st ≠ .running) → (∀ o ∈ s.octetsOf n, s.acqSt o = 0) → s.glean.borrow = none →
        let k := s.siteStream n
        let mine (r : BankReq) : Bool := r.cls == 1 && (s.octetsOf n).contains r.who
        ∃ t, exec (.siteHedge n) s = .next t ∧ t.siteSt n = tRETIRED ∧
          (t.site n).stopped = true ∧ (∀ m, m ≠ n.val → t.site m = s.site m) ∧
          t.bitR (pSTREAM k) (STREAM_MASK0 + n / 24) (n % 24) = false ∧
          t.reg pWATCH WATCH_HEDGES = s.reg pWATCH WATCH_HEDGES + 1 ∧ t.bitR (pSITE n) PG_CTL 22 = false ∧
          (∀ c, t.chan c = if c / 8 ∈ s.octetsOf n then { s.chan c with edges := [], drv := 2 } else s.chan c) ∧
          (∀ o, t.oct o = if o ∈ s.octetsOf n
            then { s.oct o with ramp := none, lim := (List.range 8).foldl (fun l i => l.set i 0) (s.oct o).lim } else s.oct o) ∧
          (∀ o ∈ s.octetsOf n, t.bitR (pOCTPE o) OCTPE_RAILCFG 8 = false ∧ t.bitR (pOCTPE o) OCTPE_RAILSTAT 22 = false ∧
            t.fldR (pOCTPE o) OCTPE_STAT 15 8 = 0) ∧
          (∀ b, t.bank b = { s.bank b with waiting := (s.bank b).waiting.filter (fun r => !mine r) }) ∧ s.runFollows t ∧
          t.watch = { s.watch with orders := s.watch.orders.filter (· != n.val)
                                   handling := s.watch.handling.filter (fun h => h.unit != .site n)
                                   confirm := s.watch.confirm ++ [n.val] } ∧
          (∀ p o, o < 256 → (p, o) ≠ (pSTREAM k, STREAM_MASK0 + n / 24) → (p, o) ≠ (pWATCH, WATCH_HEDGES) →
            (p, o) ≠ (pSITE n, PG_CTL) → (∀ m ∈ s.sitesOf k, (p, o) ≠ (pSITE m, SITE_STAT)) →
            (∀ c ∈ s.octetsOf n, p ≠ pOCTPE c ∨ (o ≠ OCTPE_RAILCFG ∧ o ≠ OCTPE_RAILSTAT ∧ o ≠ OCTPE_STAT)) → t.reg p o = s.reg p o) ∧
          t = { s with regs := t.regs, sites := t.sites, chans := t.chans, octets := t.octets, watch := t.watch, fresh := t.fresh,
                       waits := t.waits, banks := t.banks, run := t.run }) ∧
      (∀ good, (n.val ∉ s.watch.confirm → exec (.hedgeConfirm n good) s = .next s) ∧
        (n.val ∈ s.watch.confirm → exec (.hedgeConfirm n good) s = .next { s with watch := { s.watch with
          confirm := s.watch.confirm.filter (· != n.val)
          raised := s.watch.raised ++
            (if good then [] else [{ cls := .h, code := 0x022, page := pWATCH : Raised }]) } }))) ∧
    (∀ (ini : Ini) (p : Nat), s.gate_ ini pWATCH true = none → p < 4096 → (kindOf p).isSome = true →
      (s.fldR p PG_FLT 23 21 ≤ 2 → ∃ t, exec (.watchClear ini (word p)) s = .next t ∧ t.reply = ⟨0, []⟩ ∧
        t.reg p PG_FLT = 0 ∧ t.reg pWATCH PG_SEQ = s.reg pWATCH PG_SEQ + 1 ∧
        s.keepsRegs t [(pWATCH, PG_SEQ), (p, PG_FLT)] ∧ t = { s with regs := t.regs, rot := t.rot, reply := t.reply }) ∧
      (3 ≤ s.fldR p PG_FLT 23 21 → ∃ t, exec (.watchClear ini (word p)) s = .next t ∧ t.reply = ⟨Err.state.code, []⟩ ∧
        s.keepsRegs t [(pWATCH, PG_ERR)] ∧ t = { s with regs := t.regs, rot := t.rot, reply := t.reply }))

/-! ### Calibration and gleaning -/

/-- R376, R380 to R383, R386 to R388, R390, R391, R394: FULL isolates every channel, and its end gives targets and active
words alike what was measured, with one more sequence number; TDR writes CARD of every channel of the octet as half
its round trip, or CALBAD beyond 40,000 ps; STORE writes the active table to the inactive image and the boot header
names it, or SERM_FWERR counts. The gleaner borrows a channel for a task where the channel lends it at once or in an X
window that takes it; a good measurement of the task becomes the target, which an octet that runs nothing takes at
once; a bad one sets CALBAD; an aborted borrowing is counted. Commands whose completion it states: full,
fullCalibrationComplete, tdr, store, storeComplete, borrowing, gleanTaskComplete, gleanAbort. -/
def Obligations.CalibrationIsMeasuredStoredAndApplied : Prop :=
  ∀ (s : State) (ini : Ini), s.day.active = false →
    let idx (o w : Nat) : Nat := 576 * o + w
    let stat (t : State) (hi lo v : Nat) : Prop := t.reg pGLEAN GLEAN_STAT = putFld (s.reg pGLEAN GLEAN_STAT) hi lo v
    let good (m : Meas) (legg : Bool) : Prop := m.oct < 64 ∧ measWord legg m.word = true ∧ m.ok = true ∧ measGood m.word m.val = true
    let stamped (m : Meas) (i : Nat) : Prop := ∃ c, measChan m.oct m.word = some c ∧ idx (c / 8) (64 * (c % 8) + 48) ≤ i ∧
      i < idx (c / 8) (64 * (c % 8) + 52)
    (s.gate_ ini pGLEAN true = none → ¬ (s.run.st = .start ∧ s.run.warm = true ∧ s.run.step ≤ 7) →
      (s.checkGleanCmd 0x400000 = none → s.glean.borrow = none →
        ∃ t, exec (.full ini) s = .next t ∧ t.reply = ⟨0, []⟩ ∧ t.reg pGLEAN PG_SEQ = s.reg pGLEAN PG_SEQ + 1 ∧ stat t 22 22 1 ∧
          (∀ c, t.chan c = { s.chan c with edges := [], drv := 2 }) ∧
          (∀ o < 64, t.oct o = { s.oct o with lim := List.replicate 8 0 } ∧
            t.reg (pOCTPE o) OCTPE_STAT = putFld (s.reg (pOCTPE o) OCTPE_STAT) 15 8 0) ∧
          s.keepsRegs t ((pGLEAN, PG_SEQ) :: (pGLEAN, GLEAN_STAT) :: (List.range 64).map (fun o => (pOCTPE o, OCTPE_STAT))) ∧
          t = { s with regs := t.regs, rot := t.rot, reply := t.reply, chans := t.chans, octets := t.octets,
                       glean := { s.glean with borrow := some .full } }) ∧
      (s.checkGleanCmd 0x800000 = none →
        ∃ t, exec (.store ini) s = .next t ∧ s.wrote t pGLEAN [GLEAN_STAT] ∧ stat t 20 20 1 ∧
          t = { s with regs := t.regs, rot := t.rot, reply := t.reply }) ∧
      (∀ (o : Oct) (rtt : List Nat), s.checkGleanCmd (word (0xC00000 + o * 2 ^ 16)) = none → rtt.length = 8 →
        ∃ t, exec (.tdr ini o rtt) s = .next t ∧ s.wrote t pGLEAN [GLEAN_SEQ0, GLEAN_SEQ1, GLEAN_STAT] ∧
          (∀ i < 8, (rtt.getD i 0 ≤ 40000 →
              t.calW o (64 * i + 4) = word ((rtt.getD i 0 + 1) / 2) ∧ t.calT o (64 * i + 4) = word ((rtt.getD i 0 + 1) / 2)) ∧
            (40000 < rtt.getD i 0 → 8 * o.val + i ∈ t.glean.bad ∧
              t.calW o (64 * i + 4) = s.calW o (64 * i + 4) ∧ t.calT o (64 * i + 4) = s.calT o (64 * i + 4))) ∧
          (∀ p u i, i < 2 ^ 19 → u < 16 → ¬ (p = pGLEAN ∧ u ≤ 1 ∧ ∃ j < 8, i = idx o (64 * j + 4)) →
            ¬ (p = pGLEAN ∧ u = 0 ∧ i = idx o 573) → t.tab p u i = s.tab p u i) ∧
          t = { s with regs := t.regs, rot := t.rot, reply := t.reply, tabs := t.tabs, glean := t.glean })) ∧
    (s.bitR pGLEAN GLEAN_STAT 22 = false → ∀ ms, exec (.fullCalibrationComplete ms) s = .next s) ∧
    (s.bitR pGLEAN GLEAN_STAT 22 = true →
      (∀ ms, ∃ t, exec (.fullCalibrationComplete ms) s = .next t ∧ t.calSeq = (s.calSeq + 1) % 2 ^ 48 ∧
        (∀ o < 64, ∀ w ∈ calWords, t.calW o w = t.calT o w) ∧ t.glean.borrow = none ∧
        t.bitR pGLEAN GLEAN_STAT 22 = false ∧ t.fldR pGLEAN GLEAN_STAT 19 18 = 1 ∧
        s.keepsRegs t [(pGLEAN, GLEAN_SEQ0), (pGLEAN, GLEAN_SEQ1), (pGLEAN, GLEAN_STAT)] ∧
        t = { s with regs := t.regs, tabs := t.tabs, glean := t.glean, fresh := t.fresh }) ∧
      (∀ m : Meas, good m false → ∃ t, exec (.fullCalibrationComplete [m]) s = .next t ∧
        t.calT m.oct m.word = m.val ∧ t.calW m.oct m.word = m.val)) ∧
    (s.bitR pGLEAN GLEAN_STAT 20 = false ∨ s.pins.pwrwarnN = false → ∀ ok, exec (.storeComplete ok) s = .next s) ∧
    (s.bitR pGLEAN GLEAN_STAT 20 = true → s.pins.pwrwarnN = true →
      (∃ t, exec (.storeComplete true) s = .next t ∧ stat t 20 20 0 ∧ s.keepsRegs t [(pGLEAN, GLEAN_STAT)] ∧
        t = { s with regs := t.regs, fmap := { s.fmap with
          cal := s.fmap.cal.set (!s.fmap.calB).toNat (some (s.fuses.uniq, s.calTable))
          calB := !s.fmap.calB, seq := s.fmap.seq + 1 } }) ∧
      (∃ t, exec (.storeComplete false) s = .next t ∧ stat t 20 20 0 ∧
        t.reg pSERM SERM_FWERR = s.reg pSERM SERM_FWERR + 1 ∧
        s.keepsRegs t [(pGLEAN, GLEAN_STAT), (pSERM, SERM_FWERR)] ∧ t = { s with regs := t.regs })) ∧
    (∀ (c : Fin 512) (task : GleanTask) (len : Nat),
      let lent (left : Option Nat) : Prop :=
        exec (.borrowing c task len) s = .next { s with glean := { s.glean with borrow := some (.chan c task left) } }
      (s.gleanMay = true → s.gleanFree c task = true →
        (s.gleanOpen c task = true → lent none) ∧
        (s.gleanOpen c task = false → s.fitsWindow c task len = true → lent (some (len + 4)))) ∧
      (s.gleanMay = false ∨ s.gleanFree c task = false ∨ (s.gleanOpen c task = false ∧ s.fitsWindow c task len = false) →
        exec (.borrowing c task len) s = .next s)) ∧
    ((∀ c task l, s.glean.borrow ≠ some (.chan c task l)) →
      exec .gleanAbort s = .next s ∧ ∀ ms, exec (.gleanTaskComplete ms) s = .next s) ∧
    (∀ c task l, s.glean.borrow = some (.chan c task l) →
      (∃ t, exec .gleanAbort s = .next t ∧ t.reg pGLEAN GLEAN_ABORT = s.reg pGLEAN GLEAN_ABORT + 1 ∧
        s.keepsRegs t [(pGLEAN, GLEAN_ABORT)] ∧ t = { s with regs := t.regs, glean := { s.glean with borrow := none } }) ∧
      (∀ m : Meas, let legg := s.bitR pGLEAN GLEAN_CFG 22
        let mine : Bool := m.oct == c / 8 && taskWord legg task (c % 8) m.word
        (mine = false → ∃ t, exec (.gleanTaskComplete [m]) s = .next t ∧
          t.reg pGLEAN GLEAN_BORROW = s.reg pGLEAN GLEAN_BORROW + 1 ∧ s.keepsRegs t [(pGLEAN, GLEAN_BORROW)] ∧
          t = { s with regs := t.regs, glean := { s.glean with borrow := none } }) ∧
        (mine = true → good m legg → ∃ t, exec (.gleanTaskComplete [m]) s = .next t ∧ t.calT m.oct m.word = m.val ∧
          t.reg pGLEAN GLEAN_BORROW = s.reg pGLEAN GLEAN_BORROW + 1 ∧ t.glean.borrow = none ∧
          (s.octBusy m.oct = true → (∀ o w, w < 576 → o < 64 → t.calW o w = s.calW o w) ∧ t.calSeq = s.calSeq) ∧
          (s.octBusy m.oct = false → t.calW m.oct m.word = m.val ∧ ∀ w ∈ calWords, t.calW m.oct w = t.calT m.oct w) ∧
          (∀ i, i < 2 ^ 19 → i ≠ idx m.oct m.word → ¬ stamped m i → t.tab pGLEAN 1 i = s.tab pGLEAN 1 i) ∧
          s.keepsRegs t [(pGLEAN, GLEAN_BORROW), (pGLEAN, GLEAN_SEQ0), (pGLEAN, GLEAN_SEQ1), (pGLEAN, GLEAN_STAT)] ∧
          t = { s with regs := t.regs, tabs := t.tabs, glean := t.glean }) ∧
        (∀ ch, mine = true → m.oct < 64 → measWord legg m.word = true → (m.ok = false ∨ measGood m.word m.val = false) →
          measChan m.oct m.word = some ch → (s.octBusy m.oct = true ∨ ∀ w ∈ calWords, s.calT m.oct w = s.calW m.oct w) →
          ∃ t, exec (.gleanTaskComplete [m]) s = .next t ∧ ch ∈ t.glean.bad ∧
            t.reg pGLEAN GLEAN_BORROW = s.reg pGLEAN GLEAN_BORROW + 1 ∧ s.keepsRegs t [(pGLEAN, GLEAN_BORROW)] ∧
            t = { s with regs := t.regs, glean := { s.glean with borrow := none, bad := t.glean.bad } })))

/-! ### The Daybook -/

/-- R399 to R404, R412, R415, R416 (Tables 15.4, 15.5): nothing is written while PWRWARN_N is low. The oldest queued
record is programmed; a SEAL whose group holds no torn record seals it; PG_INJ tears the record; a flash failure ends
the journal with DAYBOOK_FAIL. A group closes by SEAL or 250 ms after its first record; COMPACT closes it and prepares
the checkpoint, which replaces the records it reflects once what waited is programmed, or is dropped where its group
could not be sealed. DB_SIZE starts the formatting of a new area, whose end puts it in use. JOURNAL STAT, READ and
COMPACT answer as R415 says. Commands whose completion it states: daybookProgram, sealTimer, dbSeal, dbCompact,
compactionComplete, dbAreaWrite, daybookFormatComplete, journalStat, journalRead, journalCompact. -/
def Obligations.DaybookRecordsAreProgrammedAndSealed : Prop :=
  ∀ (s : State) (ini : Ini) (org : Org),
    let d := s.day
    let failed (c : Instr) (d' : Daybook) : Prop := exec c s = .next { s with
      day := { d' with mode := .failed, queue := [], group := [], compacting := false, ckpt := [] }
      watch := { s.watch with raised := s.watch.raised ++ [{ cls := .n, code := 0x0E3, page := pDAY : Raised }] } }
    let bound (t : Nat) : DayRec := { typ := t, rseq := d.lastRec, time := s.time.base }
    let closed : Daybook := match d.group with
      | [] => d
      | r :: rs => { d with group := [], queue := d.queue ++ [{ typ := 0x10, rseq := r.rseq, time := s.time.base
                                                                count := (r :: rs).length, gcrc := groupCrc (r :: rs) }] }
    let compacted (t : State) : Daybook := { closed with
      compacting := true, ckpt := bound 0x12 :: (ckptRuns false t.regs ++ ckptRuns true s.tabs) ++ [bound 0x13] }
    let answers (c : Instr) (e : Nat) (ws : List Word) : Prop := exec c s = .next { s with reply := ⟨e, ws⟩ }
    (d.queue = [] ∨ s.pins.pwrwarnN = false → ∀ ok, exec (.daybookProgram ok) s = .next s) ∧
    (∀ r q, d.queue = r :: q → s.pins.pwrwarnN = true → failed (.daybookProgram false) d ∧
      (let inj := s.bitR pDAY PG_INJ 0
       let log := d.log ++ [{ r with torn := inj }]
       let d' : Daybook := { d with queue := q, log := log }
       d'.fill < 75 ∨ d.compacting = true ∨ d.mode ≠ .on →
         ∃ t, exec (.daybookProgram true) s = .next t ∧ t.bitR pDAY PG_INJ 0 = false ∧
           (∀ b, 1 ≤ b → b < 24 → t.bitR pDAY PG_INJ b = s.bitR pDAY PG_INJ b) ∧ s.keepsRegs t [(pDAY, PG_INJ)] ∧
           t = { s with regs := t.regs, day := t.day } ∧
           (r.typ ≠ 0x10 ∨ inj = true → t.day = d') ∧
           (r.typ = 0x10 → inj = false →
             (∀ x ∈ log, x.typ ≤ 2 → x.torn = true → x.rseq < r.rseq ∨ r.rseq + r.count ≤ x.rseq) →
             t.day = { d' with sealedRec := r.rseq + r.count - 1, lastW := lastDurable log (r.rseq + r.count - 1)
                               groups := (d.groups + 1) % 2 ^ 24 }))) ∧
    (d.group ≠ [] ∧ 250000000000 ≤ (s.time.base + 2 ^ 64 - d.opened) % 2 ^ 64 →
      exec .sealTimer s = .next { s with day := closed }) ∧
    (d.group = [] ∨ (s.time.base + 2 ^ 64 - d.opened) % 2 ^ 64 < 250000000000 → exec .sealTimer s = .next s) ∧
    (s.gate_ ini pDAY true = none →
      (d.mode = .on →
        (∃ t, exec (.dbSeal ini) s = .next t ∧ s.wrote t pDAY [] ∧
          t = { s with regs := t.regs, rot := t.rot, reply := t.reply, day := closed }) ∧
        (d.compacting = false → ∃ t, exec (.dbCompact ini) s = .next t ∧ s.wrote t pDAY [] ∧
          t = { s with regs := t.regs, rot := t.rot, reply := t.reply, day := compacted t })) ∧
      (∀ (lo hi : Word), s.lockMine pDAY ini = true →
        lo = (match s.waits.find? (fun x => x.ini == ini.val && x.page == pDAY && x.place == 0 && x.off == DB_SIZE0) with
          | some x => x.val
          | none => s.reg pDAY DB_SIZE0) →
        s.checkDbSize (lo.toNat + 2 ^ 24 * hi.toNat) = none →
        ∃ t, exec (.dbAreaWrite ini hi) s = .next t ∧ s.wrote t pDAY [DB_SIZE0, DB_SIZE1] ∧
          t.reg pDAY DB_SIZE0 = lo ∧ t.reg pDAY DB_SIZE1 = hi ∧
          t = { s with regs := t.regs, rot := t.rot, reply := t.reply, waits := t.waits, day := { d with
            mode := .formatting, newArea := some (s.wideR pDAY DB_BASE0 2, lo.toNat + 2 ^ 24 * hi.toNat) } })) ∧
    (d.compacting = false ∨ s.pins.pwrwarnN = false → ∀ ok, exec (.compactionComplete ok) s = .next s) ∧
    (d.compacting = true → s.pins.pwrwarnN = true → failed (.compactionComplete false) d ∧
      (let u := s.dayDrain 0
       let upto := (d.ckpt.head?.map (·.rseq)).getD 0
       u.day.queue = [] ∧ (d.queue = [] → u = s) ∧
       (max u.day.sealedRec u.day.abandoned < upto →
         exec (.compactionComplete true) s = .next { u with day := { u.day with ckpt := [], compacting := false } }) ∧
       (upto ≤ max u.day.sealedRec u.day.abandoned →
         exec (.compactionComplete true) s = .next { u with day := { u.day with
           log := d.ckpt ++ u.day.log.filter (fun r => decide (upto < r.rseq)), ckpt := [], compacting := false, full := false } }))) ∧
    (d.mode ≠ .formatting ∨ s.pins.pwrwarnN = false → ∀ ok, exec (.daybookFormatComplete ok) s = .next s) ∧
    (d.mode = .formatting → s.pins.pwrwarnN = true → failed (.daybookFormatComplete false) { d with newArea := none } ∧
      exec (.daybookFormatComplete true) s = .next { s with day := { d with
        mode := .on, area := d.newArea, newArea := none, compacting := false, ckpt := [], full := false
        log := bound 0x12 :: (ckptRuns false s.regs ++ ckptRuns true s.tabs) ++ [bound 0x13] } }) ∧
    (s.hostGate org.ini = none →
      answers (.journalStat org) 0 ((List.range 9).map (fun i => s.readReg org.ini pDAY .daybook (DB_STAT + i))) ∧
      (∀ (w1 w2 w3 : Word), fld w3 23 8 = 0 →
        let n := fld w3 7 0
        let a := w1.toNat + 2 ^ 24 * w2.toNat
        let rec_ (i : Nat) : Option DayRec := (d.log ++ d.queue).find? (fun r => decide (r.typ ≤ 2) && r.rseq == a + i)
        (s.journalMax (orgPort org) < n → answers (.journalRead org w1 w2 w3) Err.limit.code []) ∧
        (n ≤ s.journalMax (orgPort org) →
          (n = 0 ∨ (∃ i < n, rec_ i = none) → answers (.journalRead org w1 w2 w3) Err.range.code []) ∧
          (0 < n → (∀ i < n, rec_ i ≠ none) → answers (.journalRead org w1 w2 w3) 0
            ((List.range n).flatMap (fun i => ((rec_ i).map DayRec.words).getD []))))) ∧
      (d.compacting = true → answers (.journalCompact org) Err.busy.code []) ∧
      (d.compacting = false → d.mode ≠ .on → answers (.journalCompact org) Err.state.code []) ∧
      (d.compacting = false → d.mode = .on →
        exec (.journalCompact org) s = .next { s with reply := ⟨0, []⟩, day := compacted s }))

/-! ### The Reeve, the serial master and the flash window -/

/-- R418: a single-bit error of Reeve RAM counts in CE; the correction that makes the count 16 raises class N REEVE_CE. An
uncorrectable one counts in UE, raises class H REEVE_UE and ends an update in progress. PG_INJ makes the next error
one of either kind, and marks what it raises as injected (R76). Nothing else changes. Commands whose completion it
states: reeveRamError. -/
def Obligations.ReeveRamErrorsCountAndRaise : Prop :=
  ∀ (s : State) (ue : Bool),
    let busy := s.fldR pUPD UPD_STAT 23 22 = 1 ∨ s.fldR pUPD UPD_STAT 23 22 = 2
    let ended (t : State) : Prop :=
      (busy → t.reg pUPD UPD_STAT = putFld (putFld (s.reg pUPD UPD_STAT) 23 22 0) 17 14 6 ∧ t.upd = { s.upd with staged := [] }) ∧
      (¬ busy → t.reg pUPD UPD_STAT = s.reg pUPD UPD_STAT ∧ t.upd = s.upd)
    let raised (rs : List Raised) : Watch := { s.watch with raised := s.watch.raised ++ rs }
    let st (w : Word) (b v : Nat) : Word := putFld w b b v
    let two := s.bitR pREEVE PG_INJ 1
    let one := s.bitR pREEVE PG_INJ 0
    let bad := two || (ue && !one)
    let ce := s.fldR pREEVE REEVE_RAMERR 23 12
    ∃ t, exec (.reeveRamError ue) s = .next t ∧
      t.reg pREEVE PG_INJ = (if two then st (s.reg pREEVE PG_INJ) 1 0 else if one then st (s.reg pREEVE PG_INJ) 0 0
        else s.reg pREEVE PG_INJ) ∧
      (bad = true → t.fldR pREEVE REEVE_RAMERR 11 0 = min 4095 (s.fldR pREEVE REEVE_RAMERR 11 0 + 1) ∧
        t.fldR pREEVE REEVE_RAMERR 23 12 = ce ∧ ended t ∧
        t.watch = raised [{ cls := .h, code := 0x0D2, page := pREEVE, inj := two }]) ∧
      (bad = false → t.fldR pREEVE REEVE_RAMERR 23 12 = min 4095 (ce + 1) ∧
        t.fldR pREEVE REEVE_RAMERR 11 0 = s.fldR pREEVE REEVE_RAMERR 11 0 ∧ t.upd = s.upd ∧
        t.reg pUPD UPD_STAT = s.reg pUPD UPD_STAT ∧
        t.watch = raised (if ce = 15 then [{ cls := .n, code := 0x0D3, page := pREEVE, inj := one }] else [])) ∧
      s.keepsRegs t [(pREEVE, PG_INJ), (pREEVE, REEVE_RAMERR), (pUPD, UPD_STAT)] ∧
      t = { s with regs := t.regs, upd := t.upd, watch := t.watch }

/-- R419, R423 to R426, R450 (Tables 16.1, 16.3): a missed watchdog raises class H REEVE_WDOG, ends an update and has the
firmware reloaded, which makes it alive again. GO starts a host transfer; at its end TX has gone out most significant
bit first and RX has its bits, its time-out is class N. A window operation runs when no transfer is in progress and
every select is high, and waits otherwise: it sends the flash its command, a read answers its bytes, a program clears
bits, an erase sets its block. SELFORCE drives the selects high. Commands whose completion it states: reeveWdog, go,
sermTransferDone, sermTmo, flashWindowOperation, selforce, firmwareReloadComplete. -/
def Obligations.ReeveSerialMasterAndWindow : Prop :=
  ∀ (s : State) (ini : Ini),
    let busy := s.fldR pUPD UPD_STAT 23 22 = 1 ∨ s.fldR pUPD UPD_STAT 23 22 = 2
    let ended (t : State) : Prop :=
      (busy → t.reg pUPD UPD_STAT = putFld (putFld (s.reg pUPD UPD_STAT) 23 22 0) 17 14 6 ∧ t.upd = { s.upd with staged := [] }) ∧
      (¬ busy → t.reg pUPD UPD_STAT = s.reg pUPD UPD_STAT ∧ t.upd = s.upd)
    let raised (rs : List Raised) : Watch := { s.watch with raised := s.watch.raised ++ rs }
    let st (w : Word) (b v : Nat) : Word := putFld w b b v
    let stat := s.reg pSERM SERM_STAT
    let version : Nat := match s.fmap.fw.getD s.fmap.fwB.toNat none with
      | some img => (imgWord img 1).toNat + 2 ^ 24 * (imgWord img 2).toNat
      | none => Config.fwVersion s.fmap.fwB % 2 ^ 48
    (s.bitR pREEVE REEVE_STAT 23 = false → exec .reeveWdog s = .next s) ∧
    (s.bitR pREEVE REEVE_STAT 23 = true → ∃ t, exec .reeveWdog s = .next t ∧ ended t ∧
      t.reg pREEVE REEVE_STAT = st (s.reg pREEVE REEVE_STAT) 23 0 ∧
      s.keepsRegs t [(pREEVE, REEVE_STAT), (pUPD, UPD_STAT)] ∧
      t = { s with regs := t.regs, upd := t.upd, reeve := { s.reeve with reload := true }
                   watch := raised [{ cls := .h, code := 0x0D1, page := pREEVE }] }) ∧
    (∀ ok, (s.reeve.reload = false ∨ ok = false → exec (.firmwareReloadComplete ok) s = .next s) ∧
      (s.reeve.reload = true → ok = true → ∃ t, exec (.firmwareReloadComplete ok) s = .next t ∧
        t.reg pREEVE REEVE_STAT = word (2 ^ 23 + s.fmap.fwB.toNat * 2 ^ 21) ∧ s.keepsRegs t [(pREEVE, REEVE_STAT)] ∧
        t = { s with regs := t.regs, reeve := { s.reeve with reload := false, fwver := version } })) ∧
    (s.gate_ ini pSERM true = none →
      (s.bitR pSERM SERM_STAT 22 = false → s.bitR pSERM SERM_STAT 23 = false →
        ∃ t, exec (.go ini) s = .next t ∧ s.wrote t pSERM [SERM_STAT] ∧ t.reg pSERM SERM_STAT = st stat 23 1 ∧
          t = { s with regs := t.regs, rot := t.rot, reply := t.reply }) ∧
      (s.bitR pSERM SERM_STAT 22 = true ∨ s.bitR pSERM SERM_STAT 23 = true →
        ∃ t, exec (.go ini) s = .next t ∧ t.reply = ⟨Err.busy.code, []⟩ ∧ s.keepsRegs t [(pSERM, PG_ERR)] ∧
          t = { s with regs := t.regs, rot := t.rot, reply := t.reply })) ∧
    (s.bitR pSERM SERM_STAT 23 = false →
      (∀ sdi, exec (.sermTransferDone sdi) s = .next s) ∧ exec .sermTmo s = .next s) ∧
    (s.bitR pSERM SERM_STAT 23 = true → s.reeve.winWait = none →
      (∀ sdi, ∃ t, exec (.sermTransferDone sdi) s = .next t ∧
        t.wideR pSERM SERM_RX0 2 = sdi % 2 ^ s.fldR pSERM SERM_XCFG 21 16 % 2 ^ 48 ∧
        t.reg pSERM SERM_STAT = st (st stat 23 0) 21 1 ∧
        s.keepsRegs t [(pSERM, SERM_RX0), (pSERM, SERM_RX0 + 1), (pSERM, SERM_STAT)] ∧
        (let n := s.fldR pSERM SERM_XCFG 21 16
         t = { s with regs := t.regs, reeve := { s.reeve with sdo := (List.range n).map (fun i =>
           nbit (s.wideR pSERM SERM_TX0 2) (n - 1 - i)) } })) ∧
      (s.bitR pSERM SERM_XCFG 7 = false → exec .sermTmo s = .next s) ∧
      (s.bitR pSERM SERM_XCFG 7 = true → ∃ t, exec .sermTmo s = .next t ∧
        t.reg pSERM SERM_STAT = st (st stat 23 0) 20 1 ∧ s.keepsRegs t [(pSERM, SERM_STAT)] ∧
        t = { s with regs := t.regs, watch := raised [{ cls := .n, code := 0x0D4, page := pSERM }] })) ∧
    (∀ (op : FlashOp) (ok : Bool),
      let sent : Reeve := { s.reeve with sent := s.flashFrames op }
      let runs (c : Instr) (regs : List (Nat × Nat)) : Prop :=
        (∀ a n, op = .read a n → ∃ t, exec c s = .next t ∧ s.keepsRegs t ((pSERM, SERM_STAT) :: regs) ∧
          t = { s with regs := t.regs, reeve := sent, reply := ⟨0, bytesWords ((List.range (3 * n)).map (fun i => s.flashByte (a + i)))⟩ }) ∧
        (∀ a ds, op = .program a ds → ok = true → ∃ t, exec c s = .next t ∧
          (∀ i < ds.length, t.flashByte (a + i) = s.flashByte (a + i) &&& ds.getD i 0) ∧
          (∀ x, x < a ∨ a + ds.length ≤ x → t.flashByte x = s.flashByte x) ∧
          (if ∀ i < ds.length, s.flashByte (a + i) &&& ds.getD i 0 = ds.getD i 0 then
            t.reply = ⟨0, []⟩ ∧ s.keepsRegs t ((pSERM, SERM_STAT) :: regs)
           else t.reply = ⟨Err.state.code, []⟩ ∧ t.reg pSERM SERM_FWERR = s.reg pSERM SERM_FWERR + 1 ∧
            s.keepsRegs t ((pSERM, SERM_STAT) :: (pSERM, SERM_FWERR) :: regs)) ∧
          t = { s with regs := t.regs, reeve := sent, reply := t.reply, flash := t.flash }) ∧
        (∀ a big, op = .erase a big → ok = true → ∃ t, exec c s = .next t ∧
          (let n := if big then 65536 else 4096
           ∀ x, t.flashByte x = if a / n * n ≤ x ∧ x < a / n * n + n then 0xFF else s.flashByte x) ∧
          s.keepsRegs t ((pSERM, SERM_STAT) :: regs) ∧
          t = { s with regs := t.regs, reeve := sent, reply := ⟨0, []⟩, flash := t.flash })
      (s.reeve.winWait = none →
        (s.bitR pSERM SERM_STAT 23 = false → s.selectsHigh = true → runs (.flashWindowOperation op ok) []) ∧
        (s.bitR pSERM SERM_STAT 23 = true ∨ s.selectsHigh = false → ∃ t, exec (.flashWindowOperation op ok) s = .next t ∧
          t.reg pSERM SERM_STAT = st stat 22 1 ∧ s.keepsRegs t [(pSERM, SERM_STAT)] ∧
          t = { s with regs := t.regs, reeve := { s.reeve with winWait := some (op, ok) } }) ∧
        (s.bitR pSERM SERM_STAT 23 = false → s.selectsHigh = false → (s.reg pSERM SERM_SELMASK).toNat < 65536 →
          runs (.selforce op ok) [(pSERM, SERM_GPIO_OUT), (pSERM, SERM_GPIO_OE)] ∧
          ∃ t, exec (.selforce op ok) s = .next t ∧ t.bitR pSERM SERM_STAT 19 = true ∧ t.selectsHigh = true ∧
            ∀ b < 16, bit (s.reg pSERM SERM_SELMASK) b = false →
              t.bitR pSERM SERM_GPIO_OE b = s.bitR pSERM SERM_GPIO_OE b ∧
              t.bitR pSERM SERM_GPIO_OUT b = s.bitR pSERM SERM_GPIO_OUT b)) ∧
      (s.reeve.winWait ≠ none → exec (.flashWindowOperation op ok) s = .next s))

/-! ### The Gate port -/

/-- R10, R80, R428 to R432, R449 (Table 16.5): a Gate command executes as initiator 2, and its answer is filed in the
reply buffer; a write that the port refuses is recorded in PG_ERR of its page. A frame shifts out the reply buffer,
and what waited for a whole reply takes effect; one that comes early, is malformed or fails its CRC is ignored,
counted in GATE_BAD and flagged; one whose alive counter repeats is counted in GATE_DUP and does nothing; any other
executes its command, with its counter kept, a skipped count flagged and counted. Commands whose completion it states:
gateFrame, gateNop, gateRead, gateWrite, ident, gateStatus. -/
def Obligations.GateFramesExecuteOnce : Prop :=
  ∀ s : State,
    let filed (u : State) (op alive : Nat) : State := { u with gate := { u.gate with buf :=
      { op := op, status := u.reply.status, data := u.reply.data.flatMap wordBytes, alive := alive } } }
    let last := s.fldR pGATE GATE_STAT 23 20
    let file (u : State) (op : Nat) : State := filed u op (last * 16)
    let replies (e : Nat) (ws : List Word) : State := { s with reply := ⟨e, ws⟩ }
    let refused (addr : Word) (ws : List Word) (e : Err) : Prop :=
      ∃ u, exec (.gateWrite addr ws) s = .next (file u 2) ∧ u.reply = ⟨e.code, []⟩ ∧
        s.keepsRegs u [(addr.toNat / 256 % 4096, PG_ERR)] ∧ u = { s with regs := u.regs, reply := u.reply }
    (s.run.st ≠ .cold →
      exec .gateNop s = .next (file (replies 0 []) 0) ∧
      exec .ident s = .next (file (replies 0 ((List.range 11).map (fun i => s.readReg 2 pID .id (ID_PART + i)) ++
        [s.readReg 2 pTOP .top TOP_STATE, s.readReg 2 pTOP .top TOP_CHIPNO])) 3) ∧
      (∀ (addr : Word) (n : Nat), (2 ^ 20 ≤ addr.toNat ∨ n = 0 ∨ 16 < n → exec (.gateRead addr n) s =
          .next (file (replies Err.range.code []) 1)) ∧
        (addr.toNat < 2 ^ 20 → 1 ≤ n → n ≤ 16 →
          ∃ t, exec (.gateRead addr n) s = .next t ∧ (let u := s.readBurst 2 addr.toNat n
            t = filed (if u.reply.status = Err.wiping.code
              then { u with reply := ⟨Err.wiping.code, List.replicate n 0⟩ } else u) 1 (u.fldR pGATE GATE_STAT 23 20 * 16)))) ∧
      (s.run.st ≠ .dead →
        exec .gateStatus s = .next (file (replies 0 ([s.readReg 2 pTOP .top TOP_STATE, s.readReg 2 pWATCH .watch WATCH_STAT] ++
          (List.range 4).flatMap (fun c => [s.readTab pWATCH .watch 0 (6 * c), s.readTab pWATCH .watch 0 (6 * c + 1)]))) 4) ∧
        (∀ (addr : Word) (ws : List Word), ws ≠ [] → ws.length ≤ 16 →
          (s.fuses.life = 3 → refused addr ws .auth) ∧
          (s.fuses.life ≠ 3 → s.bitR pGATE GATE_CFG 23 = false → refused addr ws .state) ∧
          (s.fuses.life ≠ 3 → s.bitR pGATE GATE_CFG 23 = true → addr.toNat < 2 ^ 20 →
            ∃ t, exec (.gateWrite addr ws) s = .next t ∧ (let u := s.writeBurst {} 2 addr.toNat 0xFFFFFF ws none
              t = filed u 2 (u.fldR pGATE GATE_STAT 23 20 * 16)))))) ∧
    (s.run.st = .cold →
      exec .gateNop s = .next (file (replies Err.state.code []) 0) ∧ exec .ident s = .next (file (replies Err.state.code []) 3) ∧
      exec .gateStatus s = .next (file (replies Err.state.code []) 4) ∧ ∀ addr ws, refused addr ws .state) ∧
    (s.run.st = .dead → ∀ addr ws, refused addr ws .state) ∧
    (∀ (bits : Nat) (bytes : List Byte) (early : Bool),
      let n := bits / 8
      let b := padTo n bytes
      let len := (b.getD 1 0).toNat
      let alive := (b.getD (len + 2) 0).toNat
      let malformed := bits % 8 ≠ 0 ∨ n < 4 ∨ 51 < len ∨ n < len + 4 ∨ alive % 16 ≠ 0
      let flags := if 3 ≤ n then 0 else s.gate.flags
      let s1 : State := { s with gate := { s.gate with out := padTo n s.gate.replyBytes, flags := flags } }
      let w : State := if s.gate.replyBytes.length ≤ n then s1.replied (· == 2) else s1
      let bad (v : State) (f : Nat) : Prop := ∃ t, exec (.gateFrame bits bytes early) s = .next t ∧
        t.reg pGATE GATE_BAD = s.reg pGATE GATE_BAD + 1 ∧ v.keepsRegs t [(pGATE, GATE_BAD), (pGATE, PG_INJ)] ∧
        t = { v with regs := t.regs, gate := { v.gate with flags := setNbit v.gate.flags f true } }
      ((∀ x ∈ s.abt.settles, x.1 ≠ 2) → w = s1) ∧
      (early = true ∨ s.run.st = .cold → bad { s with gate := { s.gate with out := [] } } 5) ∧
      (early = false → s.run.st ≠ .cold →
        (malformed → bad w 6) ∧
        (¬ malformed → (crc8 (b.take (len + 3)) == (b.getD (len + 3) 0).toNat) = s.bitR pGATE PG_INJ 0 → bad w 7) ∧
        (¬ malformed → s.bitR pGATE PG_INJ 0 = false → crc8 (b.take (len + 3)) = (b.getD (len + 3) 0).toNat →
          let synced := s.bitR pGATE GATE_STAT 19
          let skip := synced && alive / 16 != (last + 1) % 16
          (synced = true → alive / 16 = last → ∃ t, exec (.gateFrame bits bytes early) s = .next t ∧
            t.reg pGATE GATE_DUP = s.reg pGATE GATE_DUP + 1 ∧ w.keepsRegs t [(pGATE, GATE_DUP)] ∧
            t = { w with regs := t.regs, gate := { w.gate with flags := setNbit flags 4 true } }) ∧
          (synced = false ∨ alive / 16 ≠ last → ∃ u, exec (.gateFrame bits bytes early) s =
              .next (filed (u.gateCmd (b.getD 0 0).toNat ((b.drop 2).take len)) (b.getD 0 0).toNat alive) ∧
            u.reg pGATE GATE_STAT = word (alive / 16 * 2 ^ 20 + 2 ^ 19) ∧ u.reg pGATE GATE_FRAMES = s.reg pGATE GATE_FRAMES + 1 ∧
            u.reg pGATE GATE_SKIP = s.reg pGATE GATE_SKIP + word skip.toNat ∧
            w.keepsRegs u [(pGATE, GATE_STAT), (pGATE, GATE_FRAMES), (pGATE, GATE_SKIP)] ∧
            u = { w with regs := u.regs, gate := { w.gate with flags := if skip then setNbit flags 3 true else flags } }))))

/-! ### The Chest and the lifecycle -/

/-- R433 to R441, R453, R454: a wipe, by command, tamper or ADVANCE, empties the Chest, blows one EPOCH fuse while one is
left, counts and tells its cause; its end erases both images. A seal puts the Chest into the image area that does not
hold the newest valid one; it follows 1 s after the last write by itself. ADVANCE makes a permitted change of the
lifecycle state wait for the fuses, whose failure is class G; PROG_MKEY fuses the maker key hash. Commands whose
completion it states: advance, progMkey, chestSeal, chestAutoSeal, wipe, tamper, wipeComplete,
lifecycleChangeComplete. -/
def Obligations.ChestIsSealedAndWipedAndLifeAdvances : Prop :=
  ∀ (s : State) (ini : Ini),
    let cause (v : Nat) : Word := word (v * 2 ^ 20)
    let wiped (t : State) : Prop :=
      (∀ m i, m < 16 → i < 2 ^ 19 → t.tab pCHEST m i = if m ≤ 1 then tabDefault (tkey pCHEST m i) else s.tab pCHEST m i) ∧
      (∀ p m i, p ≠ pCHEST → m < 16 → i < 2 ^ 19 → t.tab p m i = s.tab p m i) ∧
      t.fuses = { s.fuses with epoch := min 64 (s.fuses.epoch + 1) } ∧
      t.bitR pCHEST CHEST_STAT 23 = true ∧ t.bitR pCHEST CHEST_STAT 22 = false ∧
      t.reg pCHEST CHEST_WIPES = s.reg pCHEST CHEST_WIPES + 1
    let lastFuse : List Raised := if s.fuses.epoch = 63 then [{ cls := .n, code := 0x0D8, page := pCHEST }] else []
    let raised (rs : List Raised) : Watch := { s.watch with raised := s.watch.raised ++ rs }
    let offs : List Nat := [CHEST_STAT, CHEST_WIPES, CHEST_LAST]
    let sealed : Chest :=
      let img : Sealed := { epoch := s.fuses.epoch, order := s.chest.order + 1, data := s.chestWords 0, attrs := s.chestWords 1 }
      if s.newestImage = some 0 then { s.chest with order := s.chest.order + 1, imgB := some img }
      else { s.chest with order := s.chest.order + 1, imgA := some img }
    (s.gate_ ini pCHEST true = none →
      (s.checkChestCmd 1 = none → ∃ t, exec (.wipe ini) s = .next t ∧ s.wrote t pCHEST offs ∧ wiped t ∧
        t.reg pCHEST CHEST_LAST = cause 6 ∧
        t = { s with regs := t.regs, rot := t.rot, reply := t.reply, tabs := t.tabs, fuses := t.fuses
                     watch := raised lastFuse }) ∧
      (s.checkChestCmd 2 = none →
        (∃ t, exec (.chestSeal ini true) s = .next t ∧ s.wrote t pCHEST [CHEST_STAT] ∧
          t.reg pCHEST CHEST_STAT = putFld (s.reg pCHEST CHEST_STAT) 22 22 0 ∧
          t = { s with regs := t.regs, rot := t.rot, reply := t.reply, chest := sealed }) ∧
        (∃ t, exec (.chestSeal ini false) s = .next t ∧ t.reply = ⟨0, []⟩ ∧
          t.reg pSERM SERM_FWERR = s.reg pSERM SERM_FWERR + 1 ∧ t.reg pCHEST PG_SEQ = s.reg pCHEST PG_SEQ + 1 ∧
          s.keepsRegs t [(pCHEST, PG_SEQ), (pSERM, SERM_FWERR)] ∧
          t = { s with regs := t.regs, rot := t.rot, reply := t.reply
                       watch := raised [{ cls := .n, code := 0x0D8, page := pCHEST }] }))) ∧
    (s.pins.porstN = false → exec (.tamper 1) s = .next s) ∧
    (∀ c, c < 16 → (c = 1 → s.pins.porstN = true) → ∃ t, exec (.tamper c) s = .next t ∧ s.keepsRegs t (offs.map (pCHEST, ·)) ∧ wiped t ∧
      t.reg pCHEST CHEST_LAST = cause c ∧
      t = { s with regs := t.regs, tabs := t.tabs, fuses := t.fuses
                   watch := raised (lastFuse ++ [{ cls := .g, code := 0x0D0, page := pCHEST, detail := c }]) }) ∧
    (s.bitR pCHEST CHEST_STAT 23 = false → exec .wipeComplete s = .next s) ∧
    (s.bitR pCHEST CHEST_STAT 23 = true → ∃ t, exec .wipeComplete s = .next t ∧
      t.reg pCHEST CHEST_STAT = putFld (s.reg pCHEST CHEST_STAT) 23 23 0 ∧ s.keepsRegs t [(pCHEST, CHEST_STAT)] ∧
      t = { s with regs := t.regs, chest := { s.chest with imgA := none, imgB := none } }) ∧
    (let due : Prop := s.run.st ≠ .cold ∧ s.bitR pCHEST CHEST_STAT 22 = true ∧ s.canSeal = true ∧
       10 ^ 12 ≤ (s.time.base + 2 ^ 64 - s.chest.touched) % 2 ^ 64
     (due → ∃ t, exec (.chestAutoSeal true) s = .next t ∧
       t.reg pCHEST CHEST_STAT = putFld (s.reg pCHEST CHEST_STAT) 22 22 0 ∧ s.keepsRegs t [(pCHEST, CHEST_STAT)] ∧
       t = { s with regs := t.regs, chest := sealed }) ∧
     (¬ due → ∀ ok, exec (.chestAutoSeal ok) s = .next s)) ∧
    (s.gate_ ini pLIFE true = none → s.lockMine pLIFE ini = true → s.reg pLIFE LIFE_CMD = 0 →
      (∀ target, target < 8 → s.checkLifeCmd (word (2 ^ 20 + target * 2 ^ 17)) = none →
        ∃ t, exec (.advance ini target) s = .next t ∧ t.reply = ⟨0, []⟩ ∧ wiped t ∧ t.reg pCHEST CHEST_LAST = cause 5 ∧
          t.reg pLIFE PG_SEQ = s.reg pLIFE PG_SEQ + 1 ∧
          s.keepsRegs t ((pLIFE, PG_SEQ) :: offs.map (pCHEST, ·)) ∧
          t = { s with regs := t.regs, rot := t.rot, reply := t.reply, tabs := t.tabs, fuses := t.fuses
                       watch := raised lastFuse, reeve := { s.reeve with change := some target } }) ∧
      (s.checkLifeCmd 0x200000 = none → ∃ t, exec (.progMkey ini) s = .next t ∧ s.wrote t pLIFE [] ∧
        t = { s with regs := t.regs, rot := t.rot, reply := t.reply
                     fuses := { s.fuses with mkeySet := true, mkey := (List.range 11).map (fun i => s.reg pLIFE (LIFE_MKEY0 + i)) } })) ∧
    (s.reeve.change = none → ∀ ok, exec (.lifecycleChangeComplete ok) s = .next s) ∧
    (∀ l, s.reeve.change = some l →
      exec (.lifecycleChangeComplete true) s = .next { s with
        reeve := { s.reeve with change := none }, fuses := { s.fuses with life := l } } ∧
      exec (.lifecycleChangeComplete false) s = .next { s with
        reeve := { s.reeve with change := none }, fuses := { s.fuses with life := l, ok := false }
        watch := raised [{ cls := .g, code := 0x0C2, page := pID }] })

/-! ### Updates and settings -/

/-- R442 to R448, R455 (Tables 16.9, 16.10): BEGIN opens an update for its OWNER; DATA in order is staged and counted;
FINISH verifies the image and makes it the active one of its kind, with the SVN fuses of its own, or ends with the
RESULT that names the check it failed; ABORT, a failed flash and 60 s without DATA end it. STATUS answers its words;
SAVE and REEVE_CMD.SAVE keep the settings. Commands whose completion it states: updateBegin, updateData, updateFinish,
updateAbort, updateStatus, updateSave, updateIdleTimeout, updCmdAbort, reeveSave. -/
def Obligations.UpdatesAreStagedVerifiedAndCommitted : Prop :=
  ∀ (s : State) (org : Org) (ini : Ini),
    let state := s.fldR pUPD UPD_STAT 23 22
    let total := s.wideR pUPD UPD_TOTAL0 2
    let recv := s.wideR pUPD UPD_RECV0 2
    let answers (c : Instr) (e : Err) : Prop := exec c s = .next { s with reply := ⟨e.code, []⟩ }
    let ended (result : Nat) (t : State) : Prop :=
      t.reg pUPD UPD_STAT = putFld (putFld (s.reg pUPD UPD_STAT) 23 22 0) 17 14 result
    let discarded : Upd := { s.upd with staged := [] }
    let saved : FlashMap := { s.fmap with
      settings := some [s.reg pSERM SERM_CFG &&& 0xFDFE00, s.reg pSERM SERM_SELMASK, s.reg pGATE GATE_CFG] }
    (s.hostGate org.ini = none →
      (∀ kind len, kind < 16 → len < 2 ^ 48 →
        (state ≠ 0 → answers (.updateBegin org kind len) .busy) ∧
        (state = 0 → s.fuses.life ≠ 4 → (s.run.st = .ready ∨ s.run.st = .run ∨ s.run.st = .test) →
          (len < 61 ∨ areaWords kind < len → answers (.updateBegin org kind len) .range) ∧
          (61 ≤ len → len ≤ areaWords kind → ∃ t, exec (.updateBegin org kind len) s = .next t ∧
            t.reg pUPD UPD_STAT = word (2 ^ 22 + kind * 2 ^ 18 + org.ini * 2 ^ 12) ∧
            t.wideR pUPD UPD_TOTAL0 2 = len ∧ t.wideR pUPD UPD_RECV0 2 = 0 ∧
            s.keepsRegs t [(pUPD, UPD_STAT), (pUPD, UPD_TOTAL0), (pUPD, UPD_TOTAL0 + 1), (pUPD, UPD_RECV0), (pUPD, UPD_RECV0 + 1)] ∧
            t = { s with regs := t.regs, reply := ⟨0, []⟩, upd := { s.upd with staged := [], last := s.time.base } }))) ∧
      (∀ (off : Nat) (data : List Word), data ≠ [] → data.length ≤ s.bulkMax (orgPort org) →
        (s.updMine org.ini = false → ∀ ok, answers (.updateData org off data ok) .state) ∧
        (s.updMine org.ini = true →
          (off ≠ recv ∨ total < off + data.length → ∀ ok, answers (.updateData org off data ok) .range) ∧
          (off = recv → off + data.length ≤ total →
            (∃ t, exec (.updateData org off data true) s = .next t ∧ t.wideR pUPD UPD_RECV0 2 = recv + data.length ∧
              s.keepsRegs t [(pUPD, UPD_RECV0), (pUPD, UPD_RECV0 + 1)] ∧
              t = { s with regs := t.regs, reply := ⟨0, []⟩
                           upd := { s.upd with staged := s.upd.staged ++ data, last := s.time.base } }) ∧
            (∃ t, exec (.updateData org off data false) s = .next t ∧ ended 5 t ∧
              t.reg pSERM SERM_FWERR = s.reg pSERM SERM_FWERR + 1 ∧ s.keepsRegs t [(pUPD, UPD_STAT), (pSERM, SERM_FWERR)] ∧
              t = { s with regs := t.regs, reply := ⟨Err.state.code, []⟩, upd := discarded })))) ∧
      (s.updMine org.ini = false → ∀ ok, answers (.updateFinish org ok) .state) ∧
      (s.updMine org.ini = true → recv ≠ total → ∀ ok, answers (.updateFinish org ok) .range) ∧
      (s.updMine org.ini = true → recv = total → s.bitR pUPD PG_INJ 0 = false →
        let kind := s.fldR pUPD UPD_STAT 21 18
        let r := s.verifyImage kind total s.upd.staged false
        let svn := fld (imgWord s.upd.staged 0) 5 0
        (r = 2 → ∀ ok, ∃ t, exec (.updateFinish org ok) s = .next t ∧ ended 2 t ∧ s.keepsRegs t [(pUPD, UPD_STAT)] ∧
          t = { s with regs := t.regs, reply := ⟨Err.range.code, []⟩, upd := discarded }) ∧
        (r = 3 ∨ r = 4 → ∀ ok, ∃ t, exec (.updateFinish org ok) s = .next t ∧ ended r t ∧ s.keepsRegs t [(pUPD, UPD_STAT)] ∧
          t = { s with regs := t.regs, reply := ⟨Err.auth.code, []⟩, upd := discarded, watch := { s.watch with
            raised := s.watch.raised ++ [{ cls := .n, code := 0x0D7, page := pUPD : Raised }] } }) ∧
        (r = 1 → (∃ t, exec (.updateFinish org false) s = .next t ∧ ended 5 t ∧
            t.reg pSERM SERM_FWERR = s.reg pSERM SERM_FWERR + 1 ∧ s.keepsRegs t [(pUPD, UPD_STAT), (pSERM, SERM_FWERR)] ∧
            t = { s with regs := t.regs, reply := ⟨Err.state.code, []⟩, upd := discarded }) ∧
          (kind = 1 ∨ kind = 3 → ∃ t, exec (.updateFinish org true) s = .next t ∧ ended 1 t ∧ s.keepsRegs t [(pUPD, UPD_STAT)] ∧
            t.fmap = (s.commitImage kind s.upd.staged).fmap ∧
            t = { s with regs := t.regs, reply := ⟨0, [word (2 ^ 20)]⟩, upd := discarded, fmap := t.fmap
                         fuses := if kind = 1 ∧ s.fuses.svn < svn then { s.fuses with svn := svn } else s.fuses }))) ∧
      (state = 0 → answers (.updateAbort org) .state) ∧ (state = 3 → answers (.updateAbort org) .busy) ∧
      (state ≠ 0 → state ≠ 3 → ∃ t, exec (.updateAbort org) s = .next t ∧ ended 6 t ∧ s.keepsRegs t [(pUPD, UPD_STAT)] ∧
        t = { s with regs := t.regs, reply := ⟨0, []⟩, upd := discarded }) ∧
      exec (.updateStatus org) s = .next { s with reply :=
        ⟨0, [s.reg pUPD UPD_STAT, s.reg pUPD UPD_RECV0, s.reg pUPD (UPD_RECV0 + 1), word s.fuses.svn]⟩ } ∧
      (s.canSave = true → exec (.updateSave org) s = .next { s with reply := ⟨0, []⟩, fmap := saved }) ∧
      (s.canSave = false → answers (.updateSave org) .state)) ∧
    (let due : Prop := state = 1 ∧ 60 * 10 ^ 12 ≤ (s.time.base + 2 ^ 64 - s.upd.last) % 2 ^ 64
     (due → ∃ t, exec .updateIdleTimeout s = .next t ∧ ended 6 t ∧ s.keepsRegs t [(pUPD, UPD_STAT)] ∧
       t = { s with regs := t.regs, upd := discarded }) ∧
     (¬ due → exec .updateIdleTimeout s = .next s)) ∧
    (s.gate_ ini pUPD true = none → state ≠ 0 → state ≠ 3 →
      ∃ t, exec (.updCmdAbort ini) s = .next t ∧ s.wrote t pUPD [UPD_STAT] ∧ ended 6 t ∧
        t = { s with regs := t.regs, rot := t.rot, reply := t.reply, upd := discarded }) ∧
    (s.gate_ ini pREEVE true = none → s.canSave = true →
      ∃ t, exec (.reeveSave ini) s = .next t ∧ s.wrote t pREEVE [] ∧
        t = { s with regs := t.regs, rot := t.rot, reply := t.reply, fmap := saved })
end

