-- ==== Sys2Proof/Laws/Bits.lean ====
section
/-!
SUPPORT. Fields of a word: what a field reads after a field is written, and wide quantities.
-/
namespace Sys2Proof.Machine

theorem fld_lt (w : Word) (hi lo : Nat) : fld w hi lo < 2 ^ (hi + 1 - lo) := Nat.mod_lt _ (by positivity)

/-- A word from a number below 2^24 holds that number. -/
theorem word_toNat {n : Nat} (h : n < 2 ^ 24) : (word n).toNat = n := by
  rw [word, BitVec.toNat_ofNat, Nat.mod_eq_of_lt h]

/-- A word as what lies above a field, the field, and what lies below it. -/
theorem word_split (W a n : Nat) : W = (W / 2 ^ a / 2 ^ n) * (2 ^ n * 2 ^ a) + (W / 2 ^ a % 2 ^ n) * 2 ^ a + W % 2 ^ a := by
  have h1 := Nat.div_add_mod W (2 ^ a)
  have h2 := Nat.div_add_mod (W / 2 ^ a) (2 ^ n)
  calc W = 2 ^ a * (W / 2 ^ a) + W % 2 ^ a := h1.symm
    _ = 2 ^ a * (2 ^ n * (W / 2 ^ a / 2 ^ n) + W / 2 ^ a % 2 ^ n) + W % 2 ^ a := by rw [h2]
    _ = _ := by ring

/-- The number a field write leaves: the field replaced, the rest as it was. -/
theorem putFld_toNat {hi lo : Nat} (w : Word) (v : Nat) (h : lo ≤ hi) (h24 : hi < 24) :
    (putFld w hi lo v).toNat = (w.toNat / 2 ^ lo / 2 ^ (hi + 1 - lo)) * (2 ^ (hi + 1 - lo) * 2 ^ lo)
      + (v % 2 ^ (hi + 1 - lo)) * 2 ^ lo + w.toNat % 2 ^ lo := by
  set n := hi + 1 - lo with hn
  have hs := word_split w.toNat lo n
  have hpow : 2 ^ n * 2 ^ lo = 2 ^ (hi + 1) := by rw [← pow_add]; congr 1; omega
  have hv : v % 2 ^ n < 2 ^ n := Nat.mod_lt _ (by positivity)
  have hr : w.toNat % 2 ^ lo < 2 ^ lo := Nat.mod_lt _ (by positivity)
  have hq : w.toNat / 2 ^ lo / 2 ^ n < 2 ^ (23 - hi) := by
    rw [Nat.div_div_eq_div_mul, Nat.div_lt_iff_lt_mul (by positivity)]
    calc w.toNat < 2 ^ 24 := w.isLt
      _ = 2 ^ (23 - hi) * (2 ^ lo * 2 ^ n) := by rw [mul_comm (2 ^ lo), hpow, ← pow_add]; congr 1; omega
  have hlow : (v % 2 ^ n) * 2 ^ lo + w.toNat % 2 ^ lo < 2 ^ n * 2 ^ lo := by
    calc (v % 2 ^ n) * 2 ^ lo + w.toNat % 2 ^ lo < (v % 2 ^ n) * 2 ^ lo + 2 ^ lo := by omega
      _ = (v % 2 ^ n + 1) * 2 ^ lo := by ring
      _ ≤ 2 ^ n * 2 ^ lo := Nat.mul_le_mul_right _ hv
  have hsum : (w.toNat / 2 ^ lo / 2 ^ n) * (2 ^ n * 2 ^ lo) + (v % 2 ^ n) * 2 ^ lo + w.toNat % 2 ^ lo < 2 ^ 24 := by
    calc _ < (w.toNat / 2 ^ lo / 2 ^ n) * (2 ^ n * 2 ^ lo) + 2 ^ n * 2 ^ lo := by omega
      _ = (w.toNat / 2 ^ lo / 2 ^ n + 1) * (2 ^ n * 2 ^ lo) := by ring
      _ ≤ 2 ^ (23 - hi) * (2 ^ n * 2 ^ lo) := Nat.mul_le_mul_right _ hq
      _ = 2 ^ 24 := by rw [hpow, ← pow_add]; congr 1; omega
  have hnum : w.toNat - fld w hi lo * 2 ^ lo + v % 2 ^ (hi + 1 - lo) * 2 ^ lo =
      (w.toNat / 2 ^ lo / 2 ^ n) * (2 ^ n * 2 ^ lo) + (v % 2 ^ n) * 2 ^ lo + w.toNat % 2 ^ lo := by
    unfold fld
    rw [← hn]
    omega
  rw [putFld, BitVec.toNat_ofNat, hnum, Nat.mod_eq_of_lt hsum]

/-- A field reads what was written to it, modulo its width. -/
theorem fld_putFld_self {hi lo : Nat} (w : Word) (v : Nat) (h : lo ≤ hi) (h24 : hi < 24) :
    fld (putFld w hi lo v) hi lo = v % 2 ^ (hi + 1 - lo) := by
  unfold fld
  rw [putFld_toNat w v h h24]
  set n := hi + 1 - lo
  have hr : w.toNat % 2 ^ lo < 2 ^ lo := Nat.mod_lt _ (by positivity)
  have e : (w.toNat / 2 ^ lo / 2 ^ n) * (2 ^ n * 2 ^ lo) + (v % 2 ^ n) * 2 ^ lo + w.toNat % 2 ^ lo
      = 2 ^ lo * ((w.toNat / 2 ^ lo / 2 ^ n) * 2 ^ n + v % 2 ^ n) + w.toNat % 2 ^ lo := by ring
  rw [e, Nat.mul_add_div (by positivity), Nat.div_eq_of_lt hr, Nat.add_zero, Nat.mul_comm _ (2 ^ n), Nat.mul_add_mod, Nat.mod_mod]

/-- A field that lies above the one written is unchanged. -/
theorem fld_putFld_above {hi lo h l : Nat} (w : Word) (v : Nat) (hlo : lo ≤ hi) (h24 : hi < 24) (hl : hi < l) :
    fld (putFld w hi lo v) h l = fld w h l := by
  have key : (putFld w hi lo v).toNat / 2 ^ (hi + 1) = w.toNat / 2 ^ (hi + 1) := by
    rw [putFld_toNat w v hlo h24]
    set n := hi + 1 - lo with hn
    have hpow : 2 ^ n * 2 ^ lo = 2 ^ (hi + 1) := by rw [← pow_add]; congr 1; omega
    have hv : v % 2 ^ n < 2 ^ n := Nat.mod_lt _ (by positivity)
    have hr : w.toNat % 2 ^ lo < 2 ^ lo := Nat.mod_lt _ (by positivity)
    have hlow : (v % 2 ^ n) * 2 ^ lo + w.toNat % 2 ^ lo < 2 ^ (hi + 1) := by
      calc (v % 2 ^ n) * 2 ^ lo + w.toNat % 2 ^ lo < (v % 2 ^ n) * 2 ^ lo + 2 ^ lo := by omega
        _ = (v % 2 ^ n + 1) * 2 ^ lo := by ring
        _ ≤ 2 ^ n * 2 ^ lo := Nat.mul_le_mul_right _ hv
        _ = 2 ^ (hi + 1) := hpow
    rw [hpow, Nat.add_assoc, Nat.mul_comm _ (2 ^ (hi + 1)), Nat.mul_add_div (by positivity), Nat.div_eq_of_lt hlow,
      Nat.add_zero, Nat.div_div_eq_div_mul, ← pow_add]
    congr 2; omega
  unfold fld
  have e : ∀ x : Nat, x / 2 ^ l = x / 2 ^ (hi + 1) / 2 ^ (l - (hi + 1)) := by
    intro x
    rw [Nat.div_div_eq_div_mul, ← pow_add]
    congr 2; omega
  rw [e, key, ← e]

/-- A field that lies below the one written is unchanged. -/
theorem fld_putFld_below {hi lo h l : Nat} (w : Word) (v : Nat) (hlo : lo ≤ hi) (h24 : hi < 24) (hh : h < lo) (hl : l ≤ h) :
    fld (putFld w hi lo v) h l = fld w h l := by
  have key : (putFld w hi lo v).toNat % 2 ^ lo = w.toNat % 2 ^ lo := by
    rw [putFld_toNat w v hlo h24]
    set n := hi + 1 - lo
    have e : (w.toNat / 2 ^ lo / 2 ^ n) * (2 ^ n * 2 ^ lo) + (v % 2 ^ n) * 2 ^ lo + w.toNat % 2 ^ lo
        = 2 ^ lo * ((w.toNat / 2 ^ lo / 2 ^ n) * 2 ^ n + v % 2 ^ n) + w.toNat % 2 ^ lo := by ring
    rw [e, Nat.mul_add_mod, Nat.mod_mod]
  have split : ∀ x : Nat, x / 2 ^ l % 2 ^ (h + 1 - l) = x % 2 ^ lo / 2 ^ l % 2 ^ (h + 1 - l) := by
    intro x
    have hp : 2 ^ lo = 2 ^ l * (2 ^ (h + 1 - l) * 2 ^ (lo - h - 1)) := by
      rw [← pow_add, ← pow_add]; congr 1; omega
    rw [hp, Nat.mod_mul_right_div_self, Nat.mod_mul_right_mod]
  unfold fld
  rw [split, key, ← split]

/-- A bit reads what was written to it. -/
theorem fld_putBit_self {i : Nat} (w : Word) (b : Bool) (h : i < 24) : fld (putBit w i b) i i = b.toNat := by
  rw [putBit, fld_putFld_self w _ (Nat.le_refl i) h]
  cases b <;> simp

@[simp] theorem wide_nil : wide [] = 0 := rfl
@[simp] theorem wide_cons (w : Word) (ws : List Word) : wide (w :: ws) = w.toNat + 2 ^ 24 * wide ws := rfl

theorem unwide_length (n v : Nat) : (unwide n v).length = n := by
  induction n generalizing v with
  | zero => rfl
  | succ n ih => simp [unwide, ih]

/-- A wide quantity written in `n` words reads back modulo their width (R3). -/
theorem wide_unwide (n v : Nat) : wide (unwide n v) = v % 2 ^ (24 * n) := by
  induction n generalizing v with
  | zero => simp [unwide, Nat.mod_one]
  | succ n ih =>
    have h : (2 : Nat) ^ (24 * (n + 1)) = 2 ^ 24 * 2 ^ (24 * n) := by rw [← pow_add]; ring_nf
    rw [unwide, wide_cons, ih, h, Nat.mod_mul]
    simp [word, BitVec.toNat_ofNat]

end Sys2Proof.Machine
end

