-- ==== Sys2Proof/Laws/Store.lean ====
section
/-!
SUPPORT. Sparse storage: what a read finds after a write, and that every operation keeps the canonical form.
-/
namespace Sys2Proof.Machine

variable {α : Type} (d : Nat → α)

@[simp] theorem Store.get_nil (k : Nat) : Store.get d [] k = d k := rfl

theorem Store.get_cons (j : Nat) (v : α) (m : Store α) (k : Nat) :
    Store.get d ((j, v) :: m) k = if j = k then v else Store.get d m k := rfl

theorem Store.get_erase_self (m : Store α) (k : Nat) : Store.get d (Store.erase m k) k = d k := by
  induction m with
  | nil => rfl
  | cons e m ih =>
    obtain ⟨j, v⟩ := e
    by_cases h : j = k
    · simpa [Store.erase, h] using ih
    · simpa [Store.erase, h, Store.get_cons] using ih

theorem Store.get_erase_ne {m : Store α} {k q : Nat} (h : k ≠ q) : Store.get d (Store.erase m k) q = Store.get d m q := by
  induction m with
  | nil => rfl
  | cons e m ih =>
    obtain ⟨j, v⟩ := e
    by_cases hj : j = k
    · subst hj; simpa [Store.erase, Store.get_cons, h] using ih
    · rw [Store.erase, if_neg hj, Store.get_cons, Store.get_cons, ih]

theorem Store.get_insert_self {m : Store α} {k : Nat} (v : α) (h : ∀ e ∈ m, e.1 ≠ k) :
    Store.get d (Store.insert m k v) k = v := by
  induction m with
  | nil => simp [Store.insert, Store.get_cons]
  | cons e m ih =>
    obtain ⟨j, w⟩ := e
    have hj : j ≠ k := h (j, w) (by simp)
    have hm : ∀ e ∈ m, e.1 ≠ k := fun e he => h e (by simp [he])
    by_cases hk : k < j
    · simp [Store.insert, hk, Store.get_cons]
    · simp [Store.insert, hk, Store.get_cons, hj, ih hm]

theorem Store.get_insert_ne {m : Store α} {k q : Nat} (v : α) (h : k ≠ q) :
    Store.get d (Store.insert m k v) q = Store.get d m q := by
  induction m with
  | nil => simp [Store.insert, Store.get_cons, h]
  | cons e m ih =>
    obtain ⟨j, w⟩ := e
    by_cases hk : k < j
    · simp [Store.insert, hk, Store.get_cons, h]
    · rw [Store.insert, if_neg hk, Store.get_cons, Store.get_cons, ih]

theorem Store.erase_keys {m : Store α} {k : Nat} : ∀ e ∈ Store.erase m k, e.1 ≠ k := by
  induction m with
  | nil => simp [Store.erase]
  | cons e m ih =>
    obtain ⟨j, v⟩ := e
    intro x hx
    by_cases hj : j = k
    · simp only [Store.erase, if_pos hj] at hx
      exact ih x hx
    · simp only [Store.erase, if_neg hj, List.mem_cons] at hx
      rcases hx with rfl | hx
      · exact hj
      · exact ih x hx

/-- A write drops the entry of its key and puts the new value in its place, unless that is the default. -/
theorem Store.put_eq [DecidableEq α] (m : Store α) (k : Nat) (v : α) :
    Store.put d m k v = if v = d k then Store.erase m k else Store.insert (Store.erase m k) k v := by
  cases m <;> rfl

/-- A read at the key of a write finds what was written. -/
@[simp] theorem Store.get_put_self [DecidableEq α] (m : Store α) (k : Nat) (v : α) :
    Store.get d (Store.put d m k v) k = v := by
  rw [Store.put_eq]
  split
  · next h => rw [h]; exact Store.get_erase_self d m k
  · exact Store.get_insert_self d v Store.erase_keys

/-- A write leaves every other key as it was. -/
theorem Store.get_put_ne [DecidableEq α] {m : Store α} {k q : Nat} (v : α) (h : k ≠ q) :
    Store.get d (Store.put d m k v) q = Store.get d m q := by
  rw [Store.put_eq]
  split
  · exact Store.get_erase_ne d h
  · rw [Store.get_insert_ne d v h, Store.get_erase_ne d h]

/-- A read after a write. -/
theorem Store.get_put [DecidableEq α] (m : Store α) (k q : Nat) (v : α) :
    Store.get d (Store.put d m k v) q = if k = q then v else Store.get d m q := by
  by_cases h : k = q
  · subst h; simp
  · simp [h, Store.get_put_ne d v h]

/-! ### The canonical form -/

section
variable [DecidableEq α]

theorem Store.wfFrom_cons (b j : Nat) (v : α) (m : Store α) :
    Store.wfFrom d b ((j, v) :: m) = true ↔ b ≤ j ∧ v ≠ d j ∧ Store.wfFrom d (j + 1) m = true := by
  simp [Store.wfFrom, and_assoc]

theorem Store.wfFrom_mono {b c : Nat} (h : c ≤ b) : {m : Store α} → Store.wfFrom d b m = true → Store.wfFrom d c m = true
  | [], _ => rfl
  | (j, v) :: m, hm => by
    rw [Store.wfFrom_cons] at hm ⊢
    exact ⟨Nat.le_trans h hm.1, hm.2⟩

theorem Store.wfFrom_erase (k : Nat) : {b : Nat} → {m : Store α} → Store.wfFrom d b m = true →
    Store.wfFrom d b (Store.erase m k) = true
  | _, [], _ => rfl
  | b, (j, v) :: m, hm => by
    rw [Store.wfFrom_cons] at hm
    by_cases h : j = k
    · simp only [Store.erase, if_pos h]
      exact Store.wfFrom_mono d (by omega) (Store.wfFrom_erase k hm.2.2)
    · simp only [Store.erase, if_neg h]
      exact (Store.wfFrom_cons d b j v _).2 ⟨hm.1, hm.2.1, Store.wfFrom_erase k hm.2.2⟩

theorem Store.wfFrom_insert {k : Nat} {v : α} (hv : v ≠ d k) : {b : Nat} → {m : Store α} → b ≤ k →
    (∀ e ∈ m, e.1 ≠ k) → Store.wfFrom d b m = true → Store.wfFrom d b (Store.insert m k v) = true
  | b, [], hb, _, _ => (Store.wfFrom_cons d b k v []).2 ⟨hb, hv, rfl⟩
  | b, (j, w) :: m, hb, hk, hm => by
    have hj : j ≠ k := hk (j, w) (by simp)
    rw [Store.wfFrom_cons] at hm
    by_cases h : k < j
    · simp only [Store.insert, if_pos h]
      exact (Store.wfFrom_cons d b k v _).2 ⟨hb, hv, (Store.wfFrom_cons d (k + 1) j w m).2 ⟨h, hm.2⟩⟩
    · simp only [Store.insert, if_neg h]
      exact (Store.wfFrom_cons d b j w _).2 ⟨hm.1, hm.2.1,
        Store.wfFrom_insert hv (by omega) (fun e he => hk e (by simp [he])) hm.2.2⟩

/-- A write keeps the canonical form. -/
theorem Store.wf_put {m : Store α} (h : Store.wf d m = true) (k : Nat) (v : α) : Store.wf d (Store.put d m k v) = true := by
  rw [Store.put_eq]
  unfold Store.wf
  split
  · exact Store.wfFrom_erase d k h
  · next hv => exact Store.wfFrom_insert d hv (Nat.zero_le k) Store.erase_keys (Store.wfFrom_erase d k h)

/-- A run of writes keeps the canonical form. -/
theorem Store.wf_putList : {m : Store α} → Store.wf d m = true → (k : Nat) → (vs : List α) →
    Store.wf d (Store.putList d m k vs) = true
  | _, h, _, [] => h
  | _, h, k, v :: vs => Store.wf_putList (Store.wf_put d h k v) (k + 1) vs

theorem Store.wfFrom_filter (p : Nat × α → Bool) : {b : Nat} → {m : Store α} → Store.wfFrom d b m = true →
    Store.wfFrom d b (m.filter p) = true
  | _, [], _ => rfl
  | b, (j, v) :: m, hm => by
    rw [Store.wfFrom_cons] at hm
    by_cases h : p (j, v) = true
    · rw [List.filter_cons_of_pos h]
      exact (Store.wfFrom_cons d b j v _).2 ⟨hm.1, hm.2.1, Store.wfFrom_filter p hm.2.2⟩
    · rw [List.filter_cons_of_neg h]
      exact Store.wfFrom_mono d (by omega) (Store.wfFrom_filter p hm.2.2)

/-- Dropping entries keeps the canonical form. -/
theorem Store.wf_keep {m : Store α} (h : Store.wf d m = true) (p : Nat → Bool) : Store.wf d (Store.keep p m) = true :=
  Store.wfFrom_filter d (fun e => p e.1) h

/-- Mapping the listed values maps what every key reads as, where the unlisted ones are fixed. -/
theorem Store.get_mapVals {f : Nat → α → α} (hf : ∀ k, f k (d k) = d k) : (m : Store α) → (k : Nat) →
    Store.get d (Store.mapVals d f m) k = f k (Store.get d m k)
  | [], k => (hf k).symm
  | (j, v) :: m, k => by
    rw [Store.mapVals, Store.get_put, Store.get_cons, Store.get_mapVals hf m k]
    by_cases h : j = k
    · subst h; simp
    · simp [h]

/-- It is in canonical form, whatever it is applied to. -/
theorem Store.wf_mapVals (f : Nat → α → α) : (m : Store α) → Store.wf d (Store.mapVals d f m) = true
  | [] => rfl
  | (j, v) :: m => Store.wf_put d (Store.wf_mapVals f m) j (f j v)

theorem Store.wf_nil : Store.wf d ([] : Store α) = true := rfl

end

end Sys2Proof.Machine
end

