-- ==== Sys2Proof/Laws/Regs.lean ====
section
/-!
SUPPORT. Registers, tables and units: what a read finds after a write.
-/
namespace Sys2Proof.Machine

@[simp] theorem State.reg_setReg_self (s : State) (p o : Nat) (w : Word) : (s.setReg p o w).reg p o = w := by
  simp [State.reg, State.setReg]

theorem State.reg_setReg (s : State) (p o q r : Nat) (w : Word) :
    (s.setReg p o w).reg q r = if rkey p o = rkey q r then w else s.reg q r := by
  simp [State.reg, State.setReg, Store.get_put]

/-- A register write leaves every register at another key as it was. -/
theorem State.reg_setReg_ne {s : State} {p o q r : Nat} (w : Word) (h : rkey p o ≠ rkey q r) :
    (s.setReg p o w).reg q r = s.reg q r := by simp [State.reg_setReg, h]

/-- Two registers of a page with offsets below 256 share a key only where they are the same. -/
theorem rkey_inj {p q o r : Nat} (ho : o < 256) (hr : r < 256) : rkey p o = rkey q r ↔ p = q ∧ o = r := by
  unfold rkey; omega

@[simp] theorem State.tab_setTab_self (s : State) (p t i : Nat) (w : Word) : (s.setTab p t i w).tab p t i = w := by
  simp [State.tab, State.setTab]

theorem State.tab_setTab (s : State) (p t i q u j : Nat) (w : Word) :
    (s.setTab p t i w).tab q u j = if tkey p t i = tkey q u j then w else s.tab q u j := by
  simp [State.tab, State.setTab, Store.get_put]

@[simp] theorem State.tab_setReg (s : State) (p o q t i : Nat) (w : Word) : (s.setReg p o w).tab q t i = s.tab q t i := rfl
@[simp] theorem State.reg_setTab (s : State) (p t i q o : Nat) (w : Word) : (s.setTab p t i w).reg q o = s.reg q o := rfl

@[simp] theorem State.stream_setStream_self (s : State) (k : Nat) (v : Stream) : (s.setStream k v).stream k = v := by
  simp [State.stream, State.setStream]
@[simp] theorem State.site_setSite_self (s : State) (n : Nat) (v : Site) : (s.setSite n v).site n = v := by
  simp [State.site, State.setSite]
@[simp] theorem State.oct_setOct_self (s : State) (n : Nat) (v : Octet) : (s.setOct n v).oct n = v := by
  simp [State.oct, State.setOct]
@[simp] theorem State.chan_setChan_self (s : State) (n : Nat) (v : Chan) : (s.setChan n v).chan n = v := by
  simp [State.chan, State.setChan]
@[simp] theorem State.bank_setBank_self (s : State) (n : Nat) (v : Bank) : (s.setBank n v).bank n = v := by
  simp [State.bank, State.setBank]
@[simp] theorem State.slot_setSlot_self (s : State) (n : Nat) (v : Slot) : (s.setSlot n v).slot n = v := by
  simp [State.slot, State.setSlot]
@[simp] theorem State.rfl_setRefill_self (s : State) (k : Nat) (v : Refill) : (s.setRefill k v).rfl_ k = v := by
  simp [State.rfl_, State.setRefill]
@[simp] theorem State.mon_setMon_self (s : State) (m : Nat) (v : Mon) : (s.setMon m v).mon m = v := by
  simp [State.mon, State.setMon]
@[simp] theorem State.sensor_setSensor_self (s : State) (k : Nat) (v : Sensor) : (s.setSensor k v).sensor k = v := by
  simp [State.sensor, State.setSensor]
@[simp] theorem State.comp_setComp_self (s : State) (b : Nat) (v : Int) : (s.setComp b v).comp b = v := by
  simp [State.comp, State.setComp]
@[simp] theorem State.op_setOp_self (s : State) (t : Nat) (v : Op) : (s.setOp t v).op t = v := by
  simp [State.op, State.setOp]

/-! ### The canonical form -/

/-- A register write keeps the canonical form of the registers. -/
theorem State.wf_setReg {s : State} (h : Store.wf regDefault s.regs = true) (p o : Nat) (w : Word) :
    Store.wf regDefault (s.setReg p o w).regs = true := Store.wf_put regDefault h _ w

/-- A table write keeps the canonical form of the tables. -/
theorem State.wf_setTab {s : State} (h : Store.wf tabDefault s.tabs = true) (p t i : Nat) (w : Word) :
    Store.wf tabDefault (s.setTab p t i w).tabs = true := Store.wf_put tabDefault h _ w

end Sys2Proof.Machine
end

