-- ==== Sys2Proof/Laws/Fabric.lean ====
section
/-!
SUPPORT. The access fabric: what an accepted write of one register does, and what a rejected access does.
-/
namespace Sys2Proof.Machine

/-! ### An access reaches and leaves its page (R20, R21, R64) -/

/-- Moving the clock to an edge changes the clock alone. -/
theorem State.toEdge_with (s : State) (e : Nat) : s.toEdge e = { s with time := (s.toEdge e).time } := by
  unfold State.toEdge; split <;> rfl

/-- An access that reaches its page moves the clock and the free values taken, and nothing else. -/
theorem State.enterPage_with (s : State) (page : Nat) :
    s.enterPage page = { s with time := (s.enterPage page).time, fresh := (s.enterPage page).fresh } := by
  unfold State.enterPage; split
  · simp only [State.captureEdge, State.takeFree]
    rw [State.toEdge_with]
  · rfl

/-- An access that leaves its page moves the clock alone. -/
theorem State.leavePage_with (s : State) (page : Nat) : s.leavePage page = { s with time := (s.leavePage page).time } := by
  unfold State.leavePage; split <;> rfl

/-- A page outside the timing domain has no register stile (R20). -/
theorem State.enterPage_of {s : State} {page : Nat} (h : timingPage page = false) : s.enterPage page = s := by
  simp [State.enterPage, h]

theorem State.leavePage_of {s : State} {page : Nat} (h : timingPage page = false) : s.leavePage page = s := by
  simp [State.leavePage, h]

@[simp] theorem State.enterPage_reg (s : State) (page p o : Nat) : (s.enterPage page).reg p o = s.reg p o := by
  rw [State.enterPage_with]; rfl
@[simp] theorem State.enterPage_tab (s : State) (page p t i : Nat) : (s.enterPage page).tab p t i = s.tab p t i := by
  rw [State.enterPage_with]; rfl
@[simp] theorem State.enterPage_run (s : State) (page : Nat) : (s.enterPage page).run = s.run := by
  rw [State.enterPage_with]
@[simp] theorem State.leavePage_reg (s : State) (page p o : Nat) : (s.leavePage page).reg p o = s.reg p o := by
  rw [State.leavePage_with]; rfl
@[simp] theorem State.leavePage_tab (s : State) (page p t i : Nat) : (s.leavePage page).tab p t i = s.tab p t i := by
  rw [State.leavePage_with]; rfl
@[simp] theorem State.leavePage_reply (s : State) (page : Nat) : (s.leavePage page).reply = s.reply := by
  rw [State.leavePage_with]

@[simp] theorem State.serve_run (s : State) (ini page : Nat) : (s.serve ini page).run = s.run := State.enterPage_run _ _
@[simp] theorem State.serve_reg (s : State) (ini page p o : Nat) : (s.serve ini page).reg p o = s.reg p o :=
  State.enterPage_reg _ _ _ _
@[simp] theorem State.serve_tab (s : State) (ini page p t i : Nat) : (s.serve ini page).tab p t i = s.tab p t i :=
  State.enterPage_tab _ _ _ _ _

/-- Outside the timing domain, a page that serves an access moves its rotation pointer and nothing else (R64). -/
theorem State.serve_of {s : State} {ini page : Nat} (h : timingPage page = false) :
    s.serve ini page = { s with rot := s.rot.put (unitDefault 0) page ((ini + 1) % 4) } := State.enterPage_of h

theorem addr_page {page off : Nat} (hp : page < 4096) (ho : off < 256) : (page * 256 + off) / 256 % 4096 = page := by omega
theorem addr_off {page off : Nat} (ho : off < 256) : (page * 256 + off) % 256 = off := by omega

/-- A write that the run state refuses changes nothing but the record of its rejection and the reply (R10, R78). -/
theorem State.writeBurst_gated {s : State} {h : Hint} {ini addr : Nat} {mask : Word} {ws : List Word} {q : Option Word}
    {e : Err} (hg : s.gate_ ini (addr / 256 % 4096) true = some e) :
    s.writeBurst h ini addr mask ws q = s.reject ini (addr / 256 % 4096) (addr % 256) e := by
  simp [State.writeBurst, State.writeGate, hg]

/-- A write to a page that is not implemented is rejected with BAD_ADDR (R63). -/
theorem State.writeBurst_noPage {s : State} {h : Hint} {ini addr : Nat} {mask : Word} {ws : List Word} {q : Option Word}
    (hg : s.gate_ ini (addr / 256 % 4096) true = none) (hk : kindOf (addr / 256 % 4096) = none) :
    s.writeBurst h ini addr mask ws q = s.reject ini (addr / 256 % 4096) (addr % 256) .badAddr := by
  simp [State.writeBurst, State.writeGate, hg, hk]

/-- The highest word of a quantity, or its only one, never waits: a masked write keeps the bits in effect (R69). -/
@[simp] theorem State.waitingWord_last (s : State) (ini page place off : Nat) (live : Word) :
    s.waitingWord ini page place off true live = live := by
  unfold State.waitingWord; split <;> rfl

/-- What a write of a whole single-word register makes of it. -/
def State.putWhole (s : State) (page : Nat) (r : RegInfo) (w : Word) : Put :=
  putOf (s.reg page r.off) (r.rw ||| r.lk) (r.w1c ||| r.w1s ||| r.wo) 0xFFFFFF w (fun v => [v]) true

/-- A write of a single-word register that the page's checks let in: the page serves it, PG_SEQ counts, the register takes
its effect, and the write is finished, with a Daybook record where the register is journalled (R8, R63, R77, R399). -/
theorem State.writeReg_finish {s : State} {h : Hint} {ini page off : Nat} {k : Kind} {r : RegInfo} {w : Word}
    (hp : page < 4096) (ho : off < 256) (hg : s.gate_ ini page true = none) (hk : kindOf page = some k)
    (hlast : off ≤ lastOff k) (hta : ¬ (off = TBL_ADDR ∧ hasTables k = true)) (htd : ¬ (off = TBL_DATA ∧ hasTables k = true))
    (hr : regInfo k off = some r) (hoff : r.off = off) (hbase : r.base = off) (hn : r.n = 1) (hw : r.writable ≠ 0)
    (hl : ¬ ((0xFFFFFF : Word) &&& r.lk ≠ 0 ∧ (!(s.served ini page).lockMine page ini) = true))
    (hs : s.writesStaged ini page k off 1 = false)
    (hc : (s.served ini page).checkReg ini page k off ((s.served ini page).putWhole page r w) = none) :
    s.writeReg h ini page off w = ((s.serve ini page).finishWrite ini page off
      (.ok ((s.served ini page).putReg h ini page k r ((s.served ini page).putWhole page r w),
        if (0xFFFFFF : Word) &&& journalMask k off = 0 then [] else [(0, off)]))).leavePage page := by
  have hgw : (s.served ini page).groupWords ini page 0 off 1 0 = fun v => [v] := by
    funext v; simp [State.groupWords, List.range_succ]
  have hword : (s.served ini page).writeWord h ini page k off 0xFFFFFF w =
      .ok ((s.served ini page).putReg h ini page k r ((s.served ini page).putWhole page r w),
        if (0xFFFFFF : Word) &&& journalMask k off = 0 then [] else [(0, off)]) := by
    have hnl : ¬ lastOff k < off := by omega
    have hp' : putOf ((s.served ini page).reg page off) (r.rw ||| r.lk) (r.w1c ||| r.w1s ||| r.wo) 0xFFFFFF w (fun v => [v]) true
        = (s.served ini page).putWhole page r w := by rw [State.putWhole, hoff]
    simp only [State.writeWord, if_neg hnl, if_neg hta, if_neg htd, State.writeRegWord, hr, if_neg hw, if_neg hl]
    simp only [hbase, hn, Nat.sub_self, Nat.zero_add, hgw, decide_true, if_true]
    simp only [State.waitingWord_last, hp', hc, List.range_one, List.map_cons, List.map_nil, Nat.add_zero]
  simp only [State.writeReg, State.writeBurst, State.writeGate, addr_page hp ho, addr_off ho, hg, hk]
  have hb : ∀ t : State, t.burstBound ini page k off 1 = none := fun t => by simp [State.burstBound]
  have hbo : burstOffsets k off 1 = [off] := by
    unfold burstOffsets
    split <;> simp [List.range_succ]
  simp only [List.length_singleton, hs, State.crossStaged, Bool.false_eq_true, if_false, State.seqBound, hb, hbo, List.zip_cons_cons, List.zip_nil_right, writeWords]
  have e : (s.serve ini page).inc page PG_SEQ = s.served ini page := rfl
  rw [e, hword]
  simp

/-- An accepted write of a single-word register that is not journalled: the page serves it, PG_SEQ counts, the register
takes its effect, and the answer is OK (R8, R10, R63, R77). -/
theorem State.writeReg_accepted {s : State} {h : Hint} {ini page off : Nat} {k : Kind} {r : RegInfo} {w : Word}
    (hp : page < 4096) (ho : off < 256) (hg : s.gate_ ini page true = none) (hk : kindOf page = some k)
    (hlast : off ≤ lastOff k) (hta : ¬ (off = TBL_ADDR ∧ hasTables k = true)) (htd : ¬ (off = TBL_DATA ∧ hasTables k = true))
    (hr : regInfo k off = some r) (hoff : r.off = off) (hbase : r.base = off) (hn : r.n = 1) (hw : r.writable ≠ 0)
    (hl : ¬ ((0xFFFFFF : Word) &&& r.lk ≠ 0 ∧ (!(s.served ini page).lockMine page ini) = true))
    (hs : s.writesStaged ini page k off 1 = false)
    (hc : (s.served ini page).checkReg ini page k off ((s.served ini page).putWhole page r w) = none)
    (hj : (0xFFFFFF : Word) &&& journalMask k off = 0) :
    s.writeReg h ini page off w =
      ((((s.served ini page).putReg h ini page k r ((s.served ini page).putWhole page r w))).ok).leavePage page := by
  rw [State.writeReg_finish hp ho hg hk hlast hta htd hr hoff hbase hn hw hl hs hc, if_pos hj]
  have hno : recordsOf page [] = 0 := by simp [recordsOf, placesOf]
  simp [State.finishWrite, hno, State.journalWrite, placesOf]

/-! ### Commands: registers of write-only bits that act -/

/-- What an accepted write of a command register hands to its page: the word, which acts. -/
def putCmd (w : Word) : Put := { w := w, act := w, mask := 0xFFFFFF, ws := [w], commit := true }

/-- The page's register words are the same in the state an access is judged in, but for PG_SEQ. -/
theorem State.served_reg {s : State} {ini page p o : Nat} (ho : o < 256) (h : ¬ (p = page ∧ o = PG_SEQ)) :
    (s.served ini page).reg p o = s.reg p o := by
  rw [State.served, State.inc, State.reg_setReg_ne]
  · simp
  · rw [ne_eq, rkey_inj (by decide) ho]
    exact fun e => h ⟨e.1.symm, e.2.symm⟩

/-- An accepted write of a command register: the page serves it, PG_SEQ counts, the command acts, and the answer is OK. -/
theorem State.writeReg_command {s : State} {h : Hint} {ini page off : Nat} {k : Kind} {w m : Word}
    (hp : page < 4096) (h10 : 0x10 ≤ off) (ho : off < 256) (hg : s.gate_ ini page true = none) (hk : kindOf page = some k)
    (hlast : off ≤ lastOff k) (hr : regInfo k off = some { off := off, wo := m }) (hm : m ≠ 0) (hwm : w &&& m = w)
    (hs : s.writesStaged ini page k off 1 = false)
    (hc : (s.served ini page).checkReg ini page k off (putCmd w) = none)
    (hj : (0xFFFFFF : Word) &&& journalMask k off = 0) :
    s.writeReg h ini page off w =
      (((s.served ini page).actReg (s.served ini page) h ini page k off (putCmd w)).ok).leavePage page := by
  have hfull (v : Word) : v &&& (0xFFFFFF : Word) = v := by
    have : (0xFFFFFF : Word) = BitVec.allOnes 24 := by decide
    rw [this, BitVec.and_allOnes]
  have hput : (s.served ini page).putWhole page { off := off, wo := m } w = putCmd w := by
    simp only [State.putWhole, putOf, putCmd, hfull]
    simp [hwm]
  have hta : off ≠ TBL_ADDR := by intro e; subst e; exact absurd h10 (by decide)
  have htd : off ≠ TBL_DATA := by intro e; subst e; exact absurd h10 (by decide)
  rw [State.writeReg_accepted hp ho hg hk hlast (fun e => hta e.1) (fun e => htd e.1) hr rfl rfl rfl
    (by simpa [RegInfo.writable] using hm) (by simp) hs (by rw [hput]; exact hc) hj, hput]
  have h10' : ¬ off < 0x0A := by omega
  have hstore : (s.served ini page).storeReg page { off := off, wo := m } (putCmd w) = s.served ini page := by
    simp [State.storeReg]
  simp only [State.putReg, if_neg h10', hstore]

end Sys2Proof.Machine
end

