-- ==== Sys2Proof/Laws/State.lean ====
section
/-!
SUPPORT. One lemma per field per update of the state, each true by unfolding the update: what an update leaves alone.
-/
namespace Sys2Proof.Machine

variable (s : State)

section setReg
variable (p o : Nat) (w : Word)
@[simp] theorem State.setReg_pending : (s.setReg p o w).pending = s.pending := rfl
@[simp] theorem State.setReg_reply : (s.setReg p o w).reply = s.reply := rfl
@[simp] theorem State.setReg_fresh : (s.setReg p o w).fresh = s.fresh := rfl
@[simp] theorem State.setReg_run : (s.setReg p o w).run = s.run := rfl
@[simp] theorem State.setReg_pins : (s.setReg p o w).pins = s.pins := rfl
@[simp] theorem State.setReg_fuses : (s.setReg p o w).fuses = s.fuses := rfl
@[simp] theorem State.setReg_env : (s.setReg p o w).env = s.env := rfl
@[simp] theorem State.setReg_tabs : (s.setReg p o w).tabs = s.tabs := rfl
@[simp] theorem State.setReg_tblAddr : (s.setReg p o w).tblAddr = s.tblAddr := rfl
@[simp] theorem State.setReg_snaps : (s.setReg p o w).snaps = s.snaps := rfl
@[simp] theorem State.setReg_waits : (s.setReg p o w).waits = s.waits := rfl
@[simp] theorem State.setReg_rot : (s.setReg p o w).rot = s.rot := rfl
@[simp] theorem State.setReg_time : (s.setReg p o w).time = s.time := rfl
@[simp] theorem State.setReg_tx : (s.setReg p o w).tx = s.tx := rfl
@[simp] theorem State.setReg_abt : (s.setReg p o w).abt = s.abt := rfl
@[simp] theorem State.setReg_slots : (s.setReg p o w).slots = s.slots := rfl
@[simp] theorem State.setReg_recs : (s.setReg p o w).recs = s.recs := rfl
@[simp] theorem State.setReg_ptp : (s.setReg p o w).ptp = s.ptp := rfl
@[simp] theorem State.setReg_banks : (s.setReg p o w).banks = s.banks := rfl
@[simp] theorem State.setReg_bankMem : (s.setReg p o w).bankMem = s.bankMem := rfl
@[simp] theorem State.setReg_dram : (s.setReg p o w).dram = s.dram := rfl
@[simp] theorem State.setReg_refill : (s.setReg p o w).refill = s.refill := rfl
@[simp] theorem State.setReg_dramRun : (s.setReg p o w).dramRun = s.dramRun := rfl
@[simp] theorem State.setReg_streams : (s.setReg p o w).streams = s.streams := rfl
@[simp] theorem State.setReg_sites : (s.setReg p o w).sites = s.sites := rfl
@[simp] theorem State.setReg_stile : (s.setReg p o w).stile = s.stile := rfl
@[simp] theorem State.setReg_chans : (s.setReg p o w).chans = s.chans := rfl
@[simp] theorem State.setReg_octets : (s.setReg p o w).octets = s.octets := rfl
@[simp] theorem State.setReg_mons : (s.setReg p o w).mons = s.mons := rfl
@[simp] theorem State.setReg_sensors : (s.setReg p o w).sensors = s.sensors := rfl
@[simp] theorem State.setReg_comps : (s.setReg p o w).comps = s.comps := rfl
@[simp] theorem State.setReg_watch : (s.setReg p o w).watch = s.watch := rfl
@[simp] theorem State.setReg_ops : (s.setReg p o w).ops = s.ops := rfl
@[simp] theorem State.setReg_mse : (s.setReg p o w).mse = s.mse := rfl
@[simp] theorem State.setReg_day : (s.setReg p o w).day = s.day := rfl
@[simp] theorem State.setReg_flash : (s.setReg p o w).flash = s.flash := rfl
@[simp] theorem State.setReg_green : (s.setReg p o w).green = s.green := rfl
@[simp] theorem State.setReg_units : (s.setReg p o w).units = s.units := rfl
@[simp] theorem State.setReg_siteWr : (s.setReg p o w).siteWr = s.siteWr := rfl
@[simp] theorem State.setReg_extWr : (s.setReg p o w).extWr = s.extWr := rfl
@[simp] theorem State.setReg_glean : (s.setReg p o w).glean = s.glean := rfl
@[simp] theorem State.setReg_gate : (s.setReg p o w).gate = s.gate := rfl
@[simp] theorem State.setReg_chest : (s.setReg p o w).chest = s.chest := rfl
@[simp] theorem State.setReg_fmap : (s.setReg p o w).fmap = s.fmap := rfl
@[simp] theorem State.setReg_upd : (s.setReg p o w).upd = s.upd := rfl
@[simp] theorem State.setReg_reeve : (s.setReg p o w).reeve = s.reeve := rfl
end setReg

section setTab
variable (p t i : Nat) (w : Word)
@[simp] theorem State.setTab_pending : (s.setTab p t i w).pending = s.pending := rfl
@[simp] theorem State.setTab_reply : (s.setTab p t i w).reply = s.reply := rfl
@[simp] theorem State.setTab_fresh : (s.setTab p t i w).fresh = s.fresh := rfl
@[simp] theorem State.setTab_run : (s.setTab p t i w).run = s.run := rfl
@[simp] theorem State.setTab_pins : (s.setTab p t i w).pins = s.pins := rfl
@[simp] theorem State.setTab_fuses : (s.setTab p t i w).fuses = s.fuses := rfl
@[simp] theorem State.setTab_env : (s.setTab p t i w).env = s.env := rfl
@[simp] theorem State.setTab_regs : (s.setTab p t i w).regs = s.regs := rfl
@[simp] theorem State.setTab_tblAddr : (s.setTab p t i w).tblAddr = s.tblAddr := rfl
@[simp] theorem State.setTab_snaps : (s.setTab p t i w).snaps = s.snaps := rfl
@[simp] theorem State.setTab_waits : (s.setTab p t i w).waits = s.waits := rfl
@[simp] theorem State.setTab_rot : (s.setTab p t i w).rot = s.rot := rfl
@[simp] theorem State.setTab_time : (s.setTab p t i w).time = s.time := rfl
@[simp] theorem State.setTab_tx : (s.setTab p t i w).tx = s.tx := rfl
@[simp] theorem State.setTab_abt : (s.setTab p t i w).abt = s.abt := rfl
@[simp] theorem State.setTab_slots : (s.setTab p t i w).slots = s.slots := rfl
@[simp] theorem State.setTab_recs : (s.setTab p t i w).recs = s.recs := rfl
@[simp] theorem State.setTab_ptp : (s.setTab p t i w).ptp = s.ptp := rfl
@[simp] theorem State.setTab_banks : (s.setTab p t i w).banks = s.banks := rfl
@[simp] theorem State.setTab_bankMem : (s.setTab p t i w).bankMem = s.bankMem := rfl
@[simp] theorem State.setTab_dram : (s.setTab p t i w).dram = s.dram := rfl
@[simp] theorem State.setTab_refill : (s.setTab p t i w).refill = s.refill := rfl
@[simp] theorem State.setTab_dramRun : (s.setTab p t i w).dramRun = s.dramRun := rfl
@[simp] theorem State.setTab_streams : (s.setTab p t i w).streams = s.streams := rfl
@[simp] theorem State.setTab_sites : (s.setTab p t i w).sites = s.sites := rfl
@[simp] theorem State.setTab_stile : (s.setTab p t i w).stile = s.stile := rfl
@[simp] theorem State.setTab_chans : (s.setTab p t i w).chans = s.chans := rfl
@[simp] theorem State.setTab_octets : (s.setTab p t i w).octets = s.octets := rfl
@[simp] theorem State.setTab_mons : (s.setTab p t i w).mons = s.mons := rfl
@[simp] theorem State.setTab_sensors : (s.setTab p t i w).sensors = s.sensors := rfl
@[simp] theorem State.setTab_comps : (s.setTab p t i w).comps = s.comps := rfl
@[simp] theorem State.setTab_watch : (s.setTab p t i w).watch = s.watch := rfl
@[simp] theorem State.setTab_ops : (s.setTab p t i w).ops = s.ops := rfl
@[simp] theorem State.setTab_mse : (s.setTab p t i w).mse = s.mse := rfl
@[simp] theorem State.setTab_day : (s.setTab p t i w).day = s.day := rfl
@[simp] theorem State.setTab_flash : (s.setTab p t i w).flash = s.flash := rfl
@[simp] theorem State.setTab_green : (s.setTab p t i w).green = s.green := rfl
@[simp] theorem State.setTab_units : (s.setTab p t i w).units = s.units := rfl
@[simp] theorem State.setTab_siteWr : (s.setTab p t i w).siteWr = s.siteWr := rfl
@[simp] theorem State.setTab_extWr : (s.setTab p t i w).extWr = s.extWr := rfl
@[simp] theorem State.setTab_glean : (s.setTab p t i w).glean = s.glean := rfl
@[simp] theorem State.setTab_gate : (s.setTab p t i w).gate = s.gate := rfl
@[simp] theorem State.setTab_chest : (s.setTab p t i w).chest = s.chest := rfl
@[simp] theorem State.setTab_fmap : (s.setTab p t i w).fmap = s.fmap := rfl
@[simp] theorem State.setTab_upd : (s.setTab p t i w).upd = s.upd := rfl
@[simp] theorem State.setTab_reeve : (s.setTab p t i w).reeve = s.reeve := rfl
end setTab

section setTabs
variable (p t i : Nat) (ws : List Word)
@[simp] theorem State.setTabs_pending : (s.setTabs p t i ws).pending = s.pending := rfl
@[simp] theorem State.setTabs_reply : (s.setTabs p t i ws).reply = s.reply := rfl
@[simp] theorem State.setTabs_fresh : (s.setTabs p t i ws).fresh = s.fresh := rfl
@[simp] theorem State.setTabs_run : (s.setTabs p t i ws).run = s.run := rfl
@[simp] theorem State.setTabs_pins : (s.setTabs p t i ws).pins = s.pins := rfl
@[simp] theorem State.setTabs_fuses : (s.setTabs p t i ws).fuses = s.fuses := rfl
@[simp] theorem State.setTabs_env : (s.setTabs p t i ws).env = s.env := rfl
@[simp] theorem State.setTabs_regs : (s.setTabs p t i ws).regs = s.regs := rfl
@[simp] theorem State.setTabs_tblAddr : (s.setTabs p t i ws).tblAddr = s.tblAddr := rfl
@[simp] theorem State.setTabs_snaps : (s.setTabs p t i ws).snaps = s.snaps := rfl
@[simp] theorem State.setTabs_waits : (s.setTabs p t i ws).waits = s.waits := rfl
@[simp] theorem State.setTabs_rot : (s.setTabs p t i ws).rot = s.rot := rfl
@[simp] theorem State.setTabs_time : (s.setTabs p t i ws).time = s.time := rfl
@[simp] theorem State.setTabs_tx : (s.setTabs p t i ws).tx = s.tx := rfl
@[simp] theorem State.setTabs_abt : (s.setTabs p t i ws).abt = s.abt := rfl
@[simp] theorem State.setTabs_slots : (s.setTabs p t i ws).slots = s.slots := rfl
@[simp] theorem State.setTabs_recs : (s.setTabs p t i ws).recs = s.recs := rfl
@[simp] theorem State.setTabs_ptp : (s.setTabs p t i ws).ptp = s.ptp := rfl
@[simp] theorem State.setTabs_banks : (s.setTabs p t i ws).banks = s.banks := rfl
@[simp] theorem State.setTabs_bankMem : (s.setTabs p t i ws).bankMem = s.bankMem := rfl
@[simp] theorem State.setTabs_dram : (s.setTabs p t i ws).dram = s.dram := rfl
@[simp] theorem State.setTabs_refill : (s.setTabs p t i ws).refill = s.refill := rfl
@[simp] theorem State.setTabs_dramRun : (s.setTabs p t i ws).dramRun = s.dramRun := rfl
@[simp] theorem State.setTabs_streams : (s.setTabs p t i ws).streams = s.streams := rfl
@[simp] theorem State.setTabs_sites : (s.setTabs p t i ws).sites = s.sites := rfl
@[simp] theorem State.setTabs_stile : (s.setTabs p t i ws).stile = s.stile := rfl
@[simp] theorem State.setTabs_chans : (s.setTabs p t i ws).chans = s.chans := rfl
@[simp] theorem State.setTabs_octets : (s.setTabs p t i ws).octets = s.octets := rfl
@[simp] theorem State.setTabs_mons : (s.setTabs p t i ws).mons = s.mons := rfl
@[simp] theorem State.setTabs_sensors : (s.setTabs p t i ws).sensors = s.sensors := rfl
@[simp] theorem State.setTabs_comps : (s.setTabs p t i ws).comps = s.comps := rfl
@[simp] theorem State.setTabs_watch : (s.setTabs p t i ws).watch = s.watch := rfl
@[simp] theorem State.setTabs_ops : (s.setTabs p t i ws).ops = s.ops := rfl
@[simp] theorem State.setTabs_mse : (s.setTabs p t i ws).mse = s.mse := rfl
@[simp] theorem State.setTabs_day : (s.setTabs p t i ws).day = s.day := rfl
@[simp] theorem State.setTabs_flash : (s.setTabs p t i ws).flash = s.flash := rfl
@[simp] theorem State.setTabs_green : (s.setTabs p t i ws).green = s.green := rfl
@[simp] theorem State.setTabs_units : (s.setTabs p t i ws).units = s.units := rfl
@[simp] theorem State.setTabs_siteWr : (s.setTabs p t i ws).siteWr = s.siteWr := rfl
@[simp] theorem State.setTabs_extWr : (s.setTabs p t i ws).extWr = s.extWr := rfl
@[simp] theorem State.setTabs_glean : (s.setTabs p t i ws).glean = s.glean := rfl
@[simp] theorem State.setTabs_gate : (s.setTabs p t i ws).gate = s.gate := rfl
@[simp] theorem State.setTabs_chest : (s.setTabs p t i ws).chest = s.chest := rfl
@[simp] theorem State.setTabs_fmap : (s.setTabs p t i ws).fmap = s.fmap := rfl
@[simp] theorem State.setTabs_upd : (s.setTabs p t i ws).upd = s.upd := rfl
@[simp] theorem State.setTabs_reeve : (s.setTabs p t i ws).reeve = s.reeve := rfl
end setTabs

section setStream
variable (k : Nat) (v : Stream)
@[simp] theorem State.setStream_pending : (s.setStream k v).pending = s.pending := rfl
@[simp] theorem State.setStream_reply : (s.setStream k v).reply = s.reply := rfl
@[simp] theorem State.setStream_fresh : (s.setStream k v).fresh = s.fresh := rfl
@[simp] theorem State.setStream_run : (s.setStream k v).run = s.run := rfl
@[simp] theorem State.setStream_pins : (s.setStream k v).pins = s.pins := rfl
@[simp] theorem State.setStream_fuses : (s.setStream k v).fuses = s.fuses := rfl
@[simp] theorem State.setStream_env : (s.setStream k v).env = s.env := rfl
@[simp] theorem State.setStream_regs : (s.setStream k v).regs = s.regs := rfl
@[simp] theorem State.setStream_tabs : (s.setStream k v).tabs = s.tabs := rfl
@[simp] theorem State.setStream_tblAddr : (s.setStream k v).tblAddr = s.tblAddr := rfl
@[simp] theorem State.setStream_snaps : (s.setStream k v).snaps = s.snaps := rfl
@[simp] theorem State.setStream_waits : (s.setStream k v).waits = s.waits := rfl
@[simp] theorem State.setStream_rot : (s.setStream k v).rot = s.rot := rfl
@[simp] theorem State.setStream_time : (s.setStream k v).time = s.time := rfl
@[simp] theorem State.setStream_tx : (s.setStream k v).tx = s.tx := rfl
@[simp] theorem State.setStream_abt : (s.setStream k v).abt = s.abt := rfl
@[simp] theorem State.setStream_slots : (s.setStream k v).slots = s.slots := rfl
@[simp] theorem State.setStream_recs : (s.setStream k v).recs = s.recs := rfl
@[simp] theorem State.setStream_ptp : (s.setStream k v).ptp = s.ptp := rfl
@[simp] theorem State.setStream_banks : (s.setStream k v).banks = s.banks := rfl
@[simp] theorem State.setStream_bankMem : (s.setStream k v).bankMem = s.bankMem := rfl
@[simp] theorem State.setStream_dram : (s.setStream k v).dram = s.dram := rfl
@[simp] theorem State.setStream_refill : (s.setStream k v).refill = s.refill := rfl
@[simp] theorem State.setStream_dramRun : (s.setStream k v).dramRun = s.dramRun := rfl
@[simp] theorem State.setStream_sites : (s.setStream k v).sites = s.sites := rfl
@[simp] theorem State.setStream_stile : (s.setStream k v).stile = s.stile := rfl
@[simp] theorem State.setStream_chans : (s.setStream k v).chans = s.chans := rfl
@[simp] theorem State.setStream_octets : (s.setStream k v).octets = s.octets := rfl
@[simp] theorem State.setStream_mons : (s.setStream k v).mons = s.mons := rfl
@[simp] theorem State.setStream_sensors : (s.setStream k v).sensors = s.sensors := rfl
@[simp] theorem State.setStream_comps : (s.setStream k v).comps = s.comps := rfl
@[simp] theorem State.setStream_watch : (s.setStream k v).watch = s.watch := rfl
@[simp] theorem State.setStream_ops : (s.setStream k v).ops = s.ops := rfl
@[simp] theorem State.setStream_mse : (s.setStream k v).mse = s.mse := rfl
@[simp] theorem State.setStream_day : (s.setStream k v).day = s.day := rfl
@[simp] theorem State.setStream_flash : (s.setStream k v).flash = s.flash := rfl
@[simp] theorem State.setStream_green : (s.setStream k v).green = s.green := rfl
@[simp] theorem State.setStream_units : (s.setStream k v).units = s.units := rfl
@[simp] theorem State.setStream_siteWr : (s.setStream k v).siteWr = s.siteWr := rfl
@[simp] theorem State.setStream_extWr : (s.setStream k v).extWr = s.extWr := rfl
@[simp] theorem State.setStream_glean : (s.setStream k v).glean = s.glean := rfl
@[simp] theorem State.setStream_gate : (s.setStream k v).gate = s.gate := rfl
@[simp] theorem State.setStream_chest : (s.setStream k v).chest = s.chest := rfl
@[simp] theorem State.setStream_fmap : (s.setStream k v).fmap = s.fmap := rfl
@[simp] theorem State.setStream_upd : (s.setStream k v).upd = s.upd := rfl
@[simp] theorem State.setStream_reeve : (s.setStream k v).reeve = s.reeve := rfl
end setStream

section setSite
variable (n : Nat) (v : Site)
@[simp] theorem State.setSite_pending : (s.setSite n v).pending = s.pending := rfl
@[simp] theorem State.setSite_reply : (s.setSite n v).reply = s.reply := rfl
@[simp] theorem State.setSite_fresh : (s.setSite n v).fresh = s.fresh := rfl
@[simp] theorem State.setSite_run : (s.setSite n v).run = s.run := rfl
@[simp] theorem State.setSite_pins : (s.setSite n v).pins = s.pins := rfl
@[simp] theorem State.setSite_fuses : (s.setSite n v).fuses = s.fuses := rfl
@[simp] theorem State.setSite_env : (s.setSite n v).env = s.env := rfl
@[simp] theorem State.setSite_regs : (s.setSite n v).regs = s.regs := rfl
@[simp] theorem State.setSite_tabs : (s.setSite n v).tabs = s.tabs := rfl
@[simp] theorem State.setSite_tblAddr : (s.setSite n v).tblAddr = s.tblAddr := rfl
@[simp] theorem State.setSite_snaps : (s.setSite n v).snaps = s.snaps := rfl
@[simp] theorem State.setSite_waits : (s.setSite n v).waits = s.waits := rfl
@[simp] theorem State.setSite_rot : (s.setSite n v).rot = s.rot := rfl
@[simp] theorem State.setSite_time : (s.setSite n v).time = s.time := rfl
@[simp] theorem State.setSite_tx : (s.setSite n v).tx = s.tx := rfl
@[simp] theorem State.setSite_abt : (s.setSite n v).abt = s.abt := rfl
@[simp] theorem State.setSite_slots : (s.setSite n v).slots = s.slots := rfl
@[simp] theorem State.setSite_recs : (s.setSite n v).recs = s.recs := rfl
@[simp] theorem State.setSite_ptp : (s.setSite n v).ptp = s.ptp := rfl
@[simp] theorem State.setSite_banks : (s.setSite n v).banks = s.banks := rfl
@[simp] theorem State.setSite_bankMem : (s.setSite n v).bankMem = s.bankMem := rfl
@[simp] theorem State.setSite_dram : (s.setSite n v).dram = s.dram := rfl
@[simp] theorem State.setSite_refill : (s.setSite n v).refill = s.refill := rfl
@[simp] theorem State.setSite_dramRun : (s.setSite n v).dramRun = s.dramRun := rfl
@[simp] theorem State.setSite_streams : (s.setSite n v).streams = s.streams := rfl
@[simp] theorem State.setSite_stile : (s.setSite n v).stile = s.stile := rfl
@[simp] theorem State.setSite_chans : (s.setSite n v).chans = s.chans := rfl
@[simp] theorem State.setSite_octets : (s.setSite n v).octets = s.octets := rfl
@[simp] theorem State.setSite_mons : (s.setSite n v).mons = s.mons := rfl
@[simp] theorem State.setSite_sensors : (s.setSite n v).sensors = s.sensors := rfl
@[simp] theorem State.setSite_comps : (s.setSite n v).comps = s.comps := rfl
@[simp] theorem State.setSite_watch : (s.setSite n v).watch = s.watch := rfl
@[simp] theorem State.setSite_ops : (s.setSite n v).ops = s.ops := rfl
@[simp] theorem State.setSite_mse : (s.setSite n v).mse = s.mse := rfl
@[simp] theorem State.setSite_day : (s.setSite n v).day = s.day := rfl
@[simp] theorem State.setSite_flash : (s.setSite n v).flash = s.flash := rfl
@[simp] theorem State.setSite_green : (s.setSite n v).green = s.green := rfl
@[simp] theorem State.setSite_units : (s.setSite n v).units = s.units := rfl
@[simp] theorem State.setSite_siteWr : (s.setSite n v).siteWr = s.siteWr := rfl
@[simp] theorem State.setSite_extWr : (s.setSite n v).extWr = s.extWr := rfl
@[simp] theorem State.setSite_glean : (s.setSite n v).glean = s.glean := rfl
@[simp] theorem State.setSite_gate : (s.setSite n v).gate = s.gate := rfl
@[simp] theorem State.setSite_chest : (s.setSite n v).chest = s.chest := rfl
@[simp] theorem State.setSite_fmap : (s.setSite n v).fmap = s.fmap := rfl
@[simp] theorem State.setSite_upd : (s.setSite n v).upd = s.upd := rfl
@[simp] theorem State.setSite_reeve : (s.setSite n v).reeve = s.reeve := rfl
end setSite

section setOct
variable (n : Nat) (v : Octet)
@[simp] theorem State.setOct_pending : (s.setOct n v).pending = s.pending := rfl
@[simp] theorem State.setOct_reply : (s.setOct n v).reply = s.reply := rfl
@[simp] theorem State.setOct_fresh : (s.setOct n v).fresh = s.fresh := rfl
@[simp] theorem State.setOct_run : (s.setOct n v).run = s.run := rfl
@[simp] theorem State.setOct_pins : (s.setOct n v).pins = s.pins := rfl
@[simp] theorem State.setOct_fuses : (s.setOct n v).fuses = s.fuses := rfl
@[simp] theorem State.setOct_env : (s.setOct n v).env = s.env := rfl
@[simp] theorem State.setOct_regs : (s.setOct n v).regs = s.regs := rfl
@[simp] theorem State.setOct_tabs : (s.setOct n v).tabs = s.tabs := rfl
@[simp] theorem State.setOct_tblAddr : (s.setOct n v).tblAddr = s.tblAddr := rfl
@[simp] theorem State.setOct_snaps : (s.setOct n v).snaps = s.snaps := rfl
@[simp] theorem State.setOct_waits : (s.setOct n v).waits = s.waits := rfl
@[simp] theorem State.setOct_rot : (s.setOct n v).rot = s.rot := rfl
@[simp] theorem State.setOct_time : (s.setOct n v).time = s.time := rfl
@[simp] theorem State.setOct_tx : (s.setOct n v).tx = s.tx := rfl
@[simp] theorem State.setOct_abt : (s.setOct n v).abt = s.abt := rfl
@[simp] theorem State.setOct_slots : (s.setOct n v).slots = s.slots := rfl
@[simp] theorem State.setOct_recs : (s.setOct n v).recs = s.recs := rfl
@[simp] theorem State.setOct_ptp : (s.setOct n v).ptp = s.ptp := rfl
@[simp] theorem State.setOct_banks : (s.setOct n v).banks = s.banks := rfl
@[simp] theorem State.setOct_bankMem : (s.setOct n v).bankMem = s.bankMem := rfl
@[simp] theorem State.setOct_dram : (s.setOct n v).dram = s.dram := rfl
@[simp] theorem State.setOct_refill : (s.setOct n v).refill = s.refill := rfl
@[simp] theorem State.setOct_dramRun : (s.setOct n v).dramRun = s.dramRun := rfl
@[simp] theorem State.setOct_streams : (s.setOct n v).streams = s.streams := rfl
@[simp] theorem State.setOct_sites : (s.setOct n v).sites = s.sites := rfl
@[simp] theorem State.setOct_stile : (s.setOct n v).stile = s.stile := rfl
@[simp] theorem State.setOct_chans : (s.setOct n v).chans = s.chans := rfl
@[simp] theorem State.setOct_mons : (s.setOct n v).mons = s.mons := rfl
@[simp] theorem State.setOct_sensors : (s.setOct n v).sensors = s.sensors := rfl
@[simp] theorem State.setOct_comps : (s.setOct n v).comps = s.comps := rfl
@[simp] theorem State.setOct_watch : (s.setOct n v).watch = s.watch := rfl
@[simp] theorem State.setOct_ops : (s.setOct n v).ops = s.ops := rfl
@[simp] theorem State.setOct_mse : (s.setOct n v).mse = s.mse := rfl
@[simp] theorem State.setOct_day : (s.setOct n v).day = s.day := rfl
@[simp] theorem State.setOct_flash : (s.setOct n v).flash = s.flash := rfl
@[simp] theorem State.setOct_green : (s.setOct n v).green = s.green := rfl
@[simp] theorem State.setOct_units : (s.setOct n v).units = s.units := rfl
@[simp] theorem State.setOct_siteWr : (s.setOct n v).siteWr = s.siteWr := rfl
@[simp] theorem State.setOct_extWr : (s.setOct n v).extWr = s.extWr := rfl
@[simp] theorem State.setOct_glean : (s.setOct n v).glean = s.glean := rfl
@[simp] theorem State.setOct_gate : (s.setOct n v).gate = s.gate := rfl
@[simp] theorem State.setOct_chest : (s.setOct n v).chest = s.chest := rfl
@[simp] theorem State.setOct_fmap : (s.setOct n v).fmap = s.fmap := rfl
@[simp] theorem State.setOct_upd : (s.setOct n v).upd = s.upd := rfl
@[simp] theorem State.setOct_reeve : (s.setOct n v).reeve = s.reeve := rfl
end setOct

section setChan
variable (n : Nat) (v : Chan)
@[simp] theorem State.setChan_pending : (s.setChan n v).pending = s.pending := rfl
@[simp] theorem State.setChan_reply : (s.setChan n v).reply = s.reply := rfl
@[simp] theorem State.setChan_fresh : (s.setChan n v).fresh = s.fresh := rfl
@[simp] theorem State.setChan_run : (s.setChan n v).run = s.run := rfl
@[simp] theorem State.setChan_pins : (s.setChan n v).pins = s.pins := rfl
@[simp] theorem State.setChan_fuses : (s.setChan n v).fuses = s.fuses := rfl
@[simp] theorem State.setChan_env : (s.setChan n v).env = s.env := rfl
@[simp] theorem State.setChan_regs : (s.setChan n v).regs = s.regs := rfl
@[simp] theorem State.setChan_tabs : (s.setChan n v).tabs = s.tabs := rfl
@[simp] theorem State.setChan_tblAddr : (s.setChan n v).tblAddr = s.tblAddr := rfl
@[simp] theorem State.setChan_snaps : (s.setChan n v).snaps = s.snaps := rfl
@[simp] theorem State.setChan_waits : (s.setChan n v).waits = s.waits := rfl
@[simp] theorem State.setChan_rot : (s.setChan n v).rot = s.rot := rfl
@[simp] theorem State.setChan_time : (s.setChan n v).time = s.time := rfl
@[simp] theorem State.setChan_tx : (s.setChan n v).tx = s.tx := rfl
@[simp] theorem State.setChan_abt : (s.setChan n v).abt = s.abt := rfl
@[simp] theorem State.setChan_slots : (s.setChan n v).slots = s.slots := rfl
@[simp] theorem State.setChan_recs : (s.setChan n v).recs = s.recs := rfl
@[simp] theorem State.setChan_ptp : (s.setChan n v).ptp = s.ptp := rfl
@[simp] theorem State.setChan_banks : (s.setChan n v).banks = s.banks := rfl
@[simp] theorem State.setChan_bankMem : (s.setChan n v).bankMem = s.bankMem := rfl
@[simp] theorem State.setChan_dram : (s.setChan n v).dram = s.dram := rfl
@[simp] theorem State.setChan_refill : (s.setChan n v).refill = s.refill := rfl
@[simp] theorem State.setChan_dramRun : (s.setChan n v).dramRun = s.dramRun := rfl
@[simp] theorem State.setChan_streams : (s.setChan n v).streams = s.streams := rfl
@[simp] theorem State.setChan_sites : (s.setChan n v).sites = s.sites := rfl
@[simp] theorem State.setChan_stile : (s.setChan n v).stile = s.stile := rfl
@[simp] theorem State.setChan_octets : (s.setChan n v).octets = s.octets := rfl
@[simp] theorem State.setChan_mons : (s.setChan n v).mons = s.mons := rfl
@[simp] theorem State.setChan_sensors : (s.setChan n v).sensors = s.sensors := rfl
@[simp] theorem State.setChan_comps : (s.setChan n v).comps = s.comps := rfl
@[simp] theorem State.setChan_watch : (s.setChan n v).watch = s.watch := rfl
@[simp] theorem State.setChan_ops : (s.setChan n v).ops = s.ops := rfl
@[simp] theorem State.setChan_mse : (s.setChan n v).mse = s.mse := rfl
@[simp] theorem State.setChan_day : (s.setChan n v).day = s.day := rfl
@[simp] theorem State.setChan_flash : (s.setChan n v).flash = s.flash := rfl
@[simp] theorem State.setChan_green : (s.setChan n v).green = s.green := rfl
@[simp] theorem State.setChan_units : (s.setChan n v).units = s.units := rfl
@[simp] theorem State.setChan_siteWr : (s.setChan n v).siteWr = s.siteWr := rfl
@[simp] theorem State.setChan_extWr : (s.setChan n v).extWr = s.extWr := rfl
@[simp] theorem State.setChan_glean : (s.setChan n v).glean = s.glean := rfl
@[simp] theorem State.setChan_gate : (s.setChan n v).gate = s.gate := rfl
@[simp] theorem State.setChan_chest : (s.setChan n v).chest = s.chest := rfl
@[simp] theorem State.setChan_fmap : (s.setChan n v).fmap = s.fmap := rfl
@[simp] theorem State.setChan_upd : (s.setChan n v).upd = s.upd := rfl
@[simp] theorem State.setChan_reeve : (s.setChan n v).reeve = s.reeve := rfl
end setChan

section setBank
variable (n : Nat) (v : Bank)
@[simp] theorem State.setBank_pending : (s.setBank n v).pending = s.pending := rfl
@[simp] theorem State.setBank_reply : (s.setBank n v).reply = s.reply := rfl
@[simp] theorem State.setBank_fresh : (s.setBank n v).fresh = s.fresh := rfl
@[simp] theorem State.setBank_run : (s.setBank n v).run = s.run := rfl
@[simp] theorem State.setBank_pins : (s.setBank n v).pins = s.pins := rfl
@[simp] theorem State.setBank_fuses : (s.setBank n v).fuses = s.fuses := rfl
@[simp] theorem State.setBank_env : (s.setBank n v).env = s.env := rfl
@[simp] theorem State.setBank_regs : (s.setBank n v).regs = s.regs := rfl
@[simp] theorem State.setBank_tabs : (s.setBank n v).tabs = s.tabs := rfl
@[simp] theorem State.setBank_tblAddr : (s.setBank n v).tblAddr = s.tblAddr := rfl
@[simp] theorem State.setBank_snaps : (s.setBank n v).snaps = s.snaps := rfl
@[simp] theorem State.setBank_waits : (s.setBank n v).waits = s.waits := rfl
@[simp] theorem State.setBank_rot : (s.setBank n v).rot = s.rot := rfl
@[simp] theorem State.setBank_time : (s.setBank n v).time = s.time := rfl
@[simp] theorem State.setBank_tx : (s.setBank n v).tx = s.tx := rfl
@[simp] theorem State.setBank_abt : (s.setBank n v).abt = s.abt := rfl
@[simp] theorem State.setBank_slots : (s.setBank n v).slots = s.slots := rfl
@[simp] theorem State.setBank_recs : (s.setBank n v).recs = s.recs := rfl
@[simp] theorem State.setBank_ptp : (s.setBank n v).ptp = s.ptp := rfl
@[simp] theorem State.setBank_bankMem : (s.setBank n v).bankMem = s.bankMem := rfl
@[simp] theorem State.setBank_dram : (s.setBank n v).dram = s.dram := rfl
@[simp] theorem State.setBank_refill : (s.setBank n v).refill = s.refill := rfl
@[simp] theorem State.setBank_dramRun : (s.setBank n v).dramRun = s.dramRun := rfl
@[simp] theorem State.setBank_streams : (s.setBank n v).streams = s.streams := rfl
@[simp] theorem State.setBank_sites : (s.setBank n v).sites = s.sites := rfl
@[simp] theorem State.setBank_stile : (s.setBank n v).stile = s.stile := rfl
@[simp] theorem State.setBank_chans : (s.setBank n v).chans = s.chans := rfl
@[simp] theorem State.setBank_octets : (s.setBank n v).octets = s.octets := rfl
@[simp] theorem State.setBank_mons : (s.setBank n v).mons = s.mons := rfl
@[simp] theorem State.setBank_sensors : (s.setBank n v).sensors = s.sensors := rfl
@[simp] theorem State.setBank_comps : (s.setBank n v).comps = s.comps := rfl
@[simp] theorem State.setBank_watch : (s.setBank n v).watch = s.watch := rfl
@[simp] theorem State.setBank_ops : (s.setBank n v).ops = s.ops := rfl
@[simp] theorem State.setBank_mse : (s.setBank n v).mse = s.mse := rfl
@[simp] theorem State.setBank_day : (s.setBank n v).day = s.day := rfl
@[simp] theorem State.setBank_flash : (s.setBank n v).flash = s.flash := rfl
@[simp] theorem State.setBank_green : (s.setBank n v).green = s.green := rfl
@[simp] theorem State.setBank_units : (s.setBank n v).units = s.units := rfl
@[simp] theorem State.setBank_siteWr : (s.setBank n v).siteWr = s.siteWr := rfl
@[simp] theorem State.setBank_extWr : (s.setBank n v).extWr = s.extWr := rfl
@[simp] theorem State.setBank_glean : (s.setBank n v).glean = s.glean := rfl
@[simp] theorem State.setBank_gate : (s.setBank n v).gate = s.gate := rfl
@[simp] theorem State.setBank_chest : (s.setBank n v).chest = s.chest := rfl
@[simp] theorem State.setBank_fmap : (s.setBank n v).fmap = s.fmap := rfl
@[simp] theorem State.setBank_upd : (s.setBank n v).upd = s.upd := rfl
@[simp] theorem State.setBank_reeve : (s.setBank n v).reeve = s.reeve := rfl
end setBank

section setSlot
variable (n : Nat) (v : Slot)
@[simp] theorem State.setSlot_pending : (s.setSlot n v).pending = s.pending := rfl
@[simp] theorem State.setSlot_reply : (s.setSlot n v).reply = s.reply := rfl
@[simp] theorem State.setSlot_fresh : (s.setSlot n v).fresh = s.fresh := rfl
@[simp] theorem State.setSlot_run : (s.setSlot n v).run = s.run := rfl
@[simp] theorem State.setSlot_pins : (s.setSlot n v).pins = s.pins := rfl
@[simp] theorem State.setSlot_fuses : (s.setSlot n v).fuses = s.fuses := rfl
@[simp] theorem State.setSlot_env : (s.setSlot n v).env = s.env := rfl
@[simp] theorem State.setSlot_regs : (s.setSlot n v).regs = s.regs := rfl
@[simp] theorem State.setSlot_tabs : (s.setSlot n v).tabs = s.tabs := rfl
@[simp] theorem State.setSlot_tblAddr : (s.setSlot n v).tblAddr = s.tblAddr := rfl
@[simp] theorem State.setSlot_snaps : (s.setSlot n v).snaps = s.snaps := rfl
@[simp] theorem State.setSlot_waits : (s.setSlot n v).waits = s.waits := rfl
@[simp] theorem State.setSlot_rot : (s.setSlot n v).rot = s.rot := rfl
@[simp] theorem State.setSlot_time : (s.setSlot n v).time = s.time := rfl
@[simp] theorem State.setSlot_tx : (s.setSlot n v).tx = s.tx := rfl
@[simp] theorem State.setSlot_abt : (s.setSlot n v).abt = s.abt := rfl
@[simp] theorem State.setSlot_recs : (s.setSlot n v).recs = s.recs := rfl
@[simp] theorem State.setSlot_ptp : (s.setSlot n v).ptp = s.ptp := rfl
@[simp] theorem State.setSlot_banks : (s.setSlot n v).banks = s.banks := rfl
@[simp] theorem State.setSlot_bankMem : (s.setSlot n v).bankMem = s.bankMem := rfl
@[simp] theorem State.setSlot_dram : (s.setSlot n v).dram = s.dram := rfl
@[simp] theorem State.setSlot_refill : (s.setSlot n v).refill = s.refill := rfl
@[simp] theorem State.setSlot_dramRun : (s.setSlot n v).dramRun = s.dramRun := rfl
@[simp] theorem State.setSlot_streams : (s.setSlot n v).streams = s.streams := rfl
@[simp] theorem State.setSlot_sites : (s.setSlot n v).sites = s.sites := rfl
@[simp] theorem State.setSlot_stile : (s.setSlot n v).stile = s.stile := rfl
@[simp] theorem State.setSlot_chans : (s.setSlot n v).chans = s.chans := rfl
@[simp] theorem State.setSlot_octets : (s.setSlot n v).octets = s.octets := rfl
@[simp] theorem State.setSlot_mons : (s.setSlot n v).mons = s.mons := rfl
@[simp] theorem State.setSlot_sensors : (s.setSlot n v).sensors = s.sensors := rfl
@[simp] theorem State.setSlot_comps : (s.setSlot n v).comps = s.comps := rfl
@[simp] theorem State.setSlot_watch : (s.setSlot n v).watch = s.watch := rfl
@[simp] theorem State.setSlot_ops : (s.setSlot n v).ops = s.ops := rfl
@[simp] theorem State.setSlot_mse : (s.setSlot n v).mse = s.mse := rfl
@[simp] theorem State.setSlot_day : (s.setSlot n v).day = s.day := rfl
@[simp] theorem State.setSlot_flash : (s.setSlot n v).flash = s.flash := rfl
@[simp] theorem State.setSlot_green : (s.setSlot n v).green = s.green := rfl
@[simp] theorem State.setSlot_units : (s.setSlot n v).units = s.units := rfl
@[simp] theorem State.setSlot_siteWr : (s.setSlot n v).siteWr = s.siteWr := rfl
@[simp] theorem State.setSlot_extWr : (s.setSlot n v).extWr = s.extWr := rfl
@[simp] theorem State.setSlot_glean : (s.setSlot n v).glean = s.glean := rfl
@[simp] theorem State.setSlot_gate : (s.setSlot n v).gate = s.gate := rfl
@[simp] theorem State.setSlot_chest : (s.setSlot n v).chest = s.chest := rfl
@[simp] theorem State.setSlot_fmap : (s.setSlot n v).fmap = s.fmap := rfl
@[simp] theorem State.setSlot_upd : (s.setSlot n v).upd = s.upd := rfl
@[simp] theorem State.setSlot_reeve : (s.setSlot n v).reeve = s.reeve := rfl
end setSlot

section setRefill
variable (k : Nat) (v : Refill)
@[simp] theorem State.setRefill_pending : (s.setRefill k v).pending = s.pending := rfl
@[simp] theorem State.setRefill_reply : (s.setRefill k v).reply = s.reply := rfl
@[simp] theorem State.setRefill_fresh : (s.setRefill k v).fresh = s.fresh := rfl
@[simp] theorem State.setRefill_run : (s.setRefill k v).run = s.run := rfl
@[simp] theorem State.setRefill_pins : (s.setRefill k v).pins = s.pins := rfl
@[simp] theorem State.setRefill_fuses : (s.setRefill k v).fuses = s.fuses := rfl
@[simp] theorem State.setRefill_env : (s.setRefill k v).env = s.env := rfl
@[simp] theorem State.setRefill_regs : (s.setRefill k v).regs = s.regs := rfl
@[simp] theorem State.setRefill_tabs : (s.setRefill k v).tabs = s.tabs := rfl
@[simp] theorem State.setRefill_tblAddr : (s.setRefill k v).tblAddr = s.tblAddr := rfl
@[simp] theorem State.setRefill_snaps : (s.setRefill k v).snaps = s.snaps := rfl
@[simp] theorem State.setRefill_waits : (s.setRefill k v).waits = s.waits := rfl
@[simp] theorem State.setRefill_rot : (s.setRefill k v).rot = s.rot := rfl
@[simp] theorem State.setRefill_time : (s.setRefill k v).time = s.time := rfl
@[simp] theorem State.setRefill_tx : (s.setRefill k v).tx = s.tx := rfl
@[simp] theorem State.setRefill_abt : (s.setRefill k v).abt = s.abt := rfl
@[simp] theorem State.setRefill_slots : (s.setRefill k v).slots = s.slots := rfl
@[simp] theorem State.setRefill_recs : (s.setRefill k v).recs = s.recs := rfl
@[simp] theorem State.setRefill_ptp : (s.setRefill k v).ptp = s.ptp := rfl
@[simp] theorem State.setRefill_banks : (s.setRefill k v).banks = s.banks := rfl
@[simp] theorem State.setRefill_bankMem : (s.setRefill k v).bankMem = s.bankMem := rfl
@[simp] theorem State.setRefill_dram : (s.setRefill k v).dram = s.dram := rfl
@[simp] theorem State.setRefill_dramRun : (s.setRefill k v).dramRun = s.dramRun := rfl
@[simp] theorem State.setRefill_streams : (s.setRefill k v).streams = s.streams := rfl
@[simp] theorem State.setRefill_sites : (s.setRefill k v).sites = s.sites := rfl
@[simp] theorem State.setRefill_stile : (s.setRefill k v).stile = s.stile := rfl
@[simp] theorem State.setRefill_chans : (s.setRefill k v).chans = s.chans := rfl
@[simp] theorem State.setRefill_octets : (s.setRefill k v).octets = s.octets := rfl
@[simp] theorem State.setRefill_mons : (s.setRefill k v).mons = s.mons := rfl
@[simp] theorem State.setRefill_sensors : (s.setRefill k v).sensors = s.sensors := rfl
@[simp] theorem State.setRefill_comps : (s.setRefill k v).comps = s.comps := rfl
@[simp] theorem State.setRefill_watch : (s.setRefill k v).watch = s.watch := rfl
@[simp] theorem State.setRefill_ops : (s.setRefill k v).ops = s.ops := rfl
@[simp] theorem State.setRefill_mse : (s.setRefill k v).mse = s.mse := rfl
@[simp] theorem State.setRefill_day : (s.setRefill k v).day = s.day := rfl
@[simp] theorem State.setRefill_flash : (s.setRefill k v).flash = s.flash := rfl
@[simp] theorem State.setRefill_green : (s.setRefill k v).green = s.green := rfl
@[simp] theorem State.setRefill_units : (s.setRefill k v).units = s.units := rfl
@[simp] theorem State.setRefill_siteWr : (s.setRefill k v).siteWr = s.siteWr := rfl
@[simp] theorem State.setRefill_extWr : (s.setRefill k v).extWr = s.extWr := rfl
@[simp] theorem State.setRefill_glean : (s.setRefill k v).glean = s.glean := rfl
@[simp] theorem State.setRefill_gate : (s.setRefill k v).gate = s.gate := rfl
@[simp] theorem State.setRefill_chest : (s.setRefill k v).chest = s.chest := rfl
@[simp] theorem State.setRefill_fmap : (s.setRefill k v).fmap = s.fmap := rfl
@[simp] theorem State.setRefill_upd : (s.setRefill k v).upd = s.upd := rfl
@[simp] theorem State.setRefill_reeve : (s.setRefill k v).reeve = s.reeve := rfl
end setRefill

section setMon
variable (m : Nat) (v : Mon)
@[simp] theorem State.setMon_pending : (s.setMon m v).pending = s.pending := rfl
@[simp] theorem State.setMon_reply : (s.setMon m v).reply = s.reply := rfl
@[simp] theorem State.setMon_fresh : (s.setMon m v).fresh = s.fresh := rfl
@[simp] theorem State.setMon_run : (s.setMon m v).run = s.run := rfl
@[simp] theorem State.setMon_pins : (s.setMon m v).pins = s.pins := rfl
@[simp] theorem State.setMon_fuses : (s.setMon m v).fuses = s.fuses := rfl
@[simp] theorem State.setMon_env : (s.setMon m v).env = s.env := rfl
@[simp] theorem State.setMon_regs : (s.setMon m v).regs = s.regs := rfl
@[simp] theorem State.setMon_tabs : (s.setMon m v).tabs = s.tabs := rfl
@[simp] theorem State.setMon_tblAddr : (s.setMon m v).tblAddr = s.tblAddr := rfl
@[simp] theorem State.setMon_snaps : (s.setMon m v).snaps = s.snaps := rfl
@[simp] theorem State.setMon_waits : (s.setMon m v).waits = s.waits := rfl
@[simp] theorem State.setMon_rot : (s.setMon m v).rot = s.rot := rfl
@[simp] theorem State.setMon_time : (s.setMon m v).time = s.time := rfl
@[simp] theorem State.setMon_tx : (s.setMon m v).tx = s.tx := rfl
@[simp] theorem State.setMon_abt : (s.setMon m v).abt = s.abt := rfl
@[simp] theorem State.setMon_slots : (s.setMon m v).slots = s.slots := rfl
@[simp] theorem State.setMon_recs : (s.setMon m v).recs = s.recs := rfl
@[simp] theorem State.setMon_ptp : (s.setMon m v).ptp = s.ptp := rfl
@[simp] theorem State.setMon_banks : (s.setMon m v).banks = s.banks := rfl
@[simp] theorem State.setMon_bankMem : (s.setMon m v).bankMem = s.bankMem := rfl
@[simp] theorem State.setMon_dram : (s.setMon m v).dram = s.dram := rfl
@[simp] theorem State.setMon_refill : (s.setMon m v).refill = s.refill := rfl
@[simp] theorem State.setMon_dramRun : (s.setMon m v).dramRun = s.dramRun := rfl
@[simp] theorem State.setMon_streams : (s.setMon m v).streams = s.streams := rfl
@[simp] theorem State.setMon_sites : (s.setMon m v).sites = s.sites := rfl
@[simp] theorem State.setMon_stile : (s.setMon m v).stile = s.stile := rfl
@[simp] theorem State.setMon_chans : (s.setMon m v).chans = s.chans := rfl
@[simp] theorem State.setMon_octets : (s.setMon m v).octets = s.octets := rfl
@[simp] theorem State.setMon_sensors : (s.setMon m v).sensors = s.sensors := rfl
@[simp] theorem State.setMon_comps : (s.setMon m v).comps = s.comps := rfl
@[simp] theorem State.setMon_watch : (s.setMon m v).watch = s.watch := rfl
@[simp] theorem State.setMon_ops : (s.setMon m v).ops = s.ops := rfl
@[simp] theorem State.setMon_mse : (s.setMon m v).mse = s.mse := rfl
@[simp] theorem State.setMon_day : (s.setMon m v).day = s.day := rfl
@[simp] theorem State.setMon_flash : (s.setMon m v).flash = s.flash := rfl
@[simp] theorem State.setMon_green : (s.setMon m v).green = s.green := rfl
@[simp] theorem State.setMon_units : (s.setMon m v).units = s.units := rfl
@[simp] theorem State.setMon_siteWr : (s.setMon m v).siteWr = s.siteWr := rfl
@[simp] theorem State.setMon_extWr : (s.setMon m v).extWr = s.extWr := rfl
@[simp] theorem State.setMon_glean : (s.setMon m v).glean = s.glean := rfl
@[simp] theorem State.setMon_gate : (s.setMon m v).gate = s.gate := rfl
@[simp] theorem State.setMon_chest : (s.setMon m v).chest = s.chest := rfl
@[simp] theorem State.setMon_fmap : (s.setMon m v).fmap = s.fmap := rfl
@[simp] theorem State.setMon_upd : (s.setMon m v).upd = s.upd := rfl
@[simp] theorem State.setMon_reeve : (s.setMon m v).reeve = s.reeve := rfl
end setMon

section setSensor
variable (k : Nat) (v : Sensor)
@[simp] theorem State.setSensor_pending : (s.setSensor k v).pending = s.pending := rfl
@[simp] theorem State.setSensor_reply : (s.setSensor k v).reply = s.reply := rfl
@[simp] theorem State.setSensor_fresh : (s.setSensor k v).fresh = s.fresh := rfl
@[simp] theorem State.setSensor_run : (s.setSensor k v).run = s.run := rfl
@[simp] theorem State.setSensor_pins : (s.setSensor k v).pins = s.pins := rfl
@[simp] theorem State.setSensor_fuses : (s.setSensor k v).fuses = s.fuses := rfl
@[simp] theorem State.setSensor_env : (s.setSensor k v).env = s.env := rfl
@[simp] theorem State.setSensor_regs : (s.setSensor k v).regs = s.regs := rfl
@[simp] theorem State.setSensor_tabs : (s.setSensor k v).tabs = s.tabs := rfl
@[simp] theorem State.setSensor_tblAddr : (s.setSensor k v).tblAddr = s.tblAddr := rfl
@[simp] theorem State.setSensor_snaps : (s.setSensor k v).snaps = s.snaps := rfl
@[simp] theorem State.setSensor_waits : (s.setSensor k v).waits = s.waits := rfl
@[simp] theorem State.setSensor_rot : (s.setSensor k v).rot = s.rot := rfl
@[simp] theorem State.setSensor_time : (s.setSensor k v).time = s.time := rfl
@[simp] theorem State.setSensor_tx : (s.setSensor k v).tx = s.tx := rfl
@[simp] theorem State.setSensor_abt : (s.setSensor k v).abt = s.abt := rfl
@[simp] theorem State.setSensor_slots : (s.setSensor k v).slots = s.slots := rfl
@[simp] theorem State.setSensor_recs : (s.setSensor k v).recs = s.recs := rfl
@[simp] theorem State.setSensor_ptp : (s.setSensor k v).ptp = s.ptp := rfl
@[simp] theorem State.setSensor_banks : (s.setSensor k v).banks = s.banks := rfl
@[simp] theorem State.setSensor_bankMem : (s.setSensor k v).bankMem = s.bankMem := rfl
@[simp] theorem State.setSensor_dram : (s.setSensor k v).dram = s.dram := rfl
@[simp] theorem State.setSensor_refill : (s.setSensor k v).refill = s.refill := rfl
@[simp] theorem State.setSensor_dramRun : (s.setSensor k v).dramRun = s.dramRun := rfl
@[simp] theorem State.setSensor_streams : (s.setSensor k v).streams = s.streams := rfl
@[simp] theorem State.setSensor_sites : (s.setSensor k v).sites = s.sites := rfl
@[simp] theorem State.setSensor_stile : (s.setSensor k v).stile = s.stile := rfl
@[simp] theorem State.setSensor_chans : (s.setSensor k v).chans = s.chans := rfl
@[simp] theorem State.setSensor_octets : (s.setSensor k v).octets = s.octets := rfl
@[simp] theorem State.setSensor_mons : (s.setSensor k v).mons = s.mons := rfl
@[simp] theorem State.setSensor_comps : (s.setSensor k v).comps = s.comps := rfl
@[simp] theorem State.setSensor_watch : (s.setSensor k v).watch = s.watch := rfl
@[simp] theorem State.setSensor_ops : (s.setSensor k v).ops = s.ops := rfl
@[simp] theorem State.setSensor_mse : (s.setSensor k v).mse = s.mse := rfl
@[simp] theorem State.setSensor_day : (s.setSensor k v).day = s.day := rfl
@[simp] theorem State.setSensor_flash : (s.setSensor k v).flash = s.flash := rfl
@[simp] theorem State.setSensor_green : (s.setSensor k v).green = s.green := rfl
@[simp] theorem State.setSensor_units : (s.setSensor k v).units = s.units := rfl
@[simp] theorem State.setSensor_siteWr : (s.setSensor k v).siteWr = s.siteWr := rfl
@[simp] theorem State.setSensor_extWr : (s.setSensor k v).extWr = s.extWr := rfl
@[simp] theorem State.setSensor_glean : (s.setSensor k v).glean = s.glean := rfl
@[simp] theorem State.setSensor_gate : (s.setSensor k v).gate = s.gate := rfl
@[simp] theorem State.setSensor_chest : (s.setSensor k v).chest = s.chest := rfl
@[simp] theorem State.setSensor_fmap : (s.setSensor k v).fmap = s.fmap := rfl
@[simp] theorem State.setSensor_upd : (s.setSensor k v).upd = s.upd := rfl
@[simp] theorem State.setSensor_reeve : (s.setSensor k v).reeve = s.reeve := rfl
end setSensor

section setOp
variable (t : Nat) (v : Op)
@[simp] theorem State.setOp_pending : (s.setOp t v).pending = s.pending := rfl
@[simp] theorem State.setOp_reply : (s.setOp t v).reply = s.reply := rfl
@[simp] theorem State.setOp_fresh : (s.setOp t v).fresh = s.fresh := rfl
@[simp] theorem State.setOp_run : (s.setOp t v).run = s.run := rfl
@[simp] theorem State.setOp_pins : (s.setOp t v).pins = s.pins := rfl
@[simp] theorem State.setOp_fuses : (s.setOp t v).fuses = s.fuses := rfl
@[simp] theorem State.setOp_env : (s.setOp t v).env = s.env := rfl
@[simp] theorem State.setOp_regs : (s.setOp t v).regs = s.regs := rfl
@[simp] theorem State.setOp_tabs : (s.setOp t v).tabs = s.tabs := rfl
@[simp] theorem State.setOp_tblAddr : (s.setOp t v).tblAddr = s.tblAddr := rfl
@[simp] theorem State.setOp_snaps : (s.setOp t v).snaps = s.snaps := rfl
@[simp] theorem State.setOp_waits : (s.setOp t v).waits = s.waits := rfl
@[simp] theorem State.setOp_rot : (s.setOp t v).rot = s.rot := rfl
@[simp] theorem State.setOp_time : (s.setOp t v).time = s.time := rfl
@[simp] theorem State.setOp_tx : (s.setOp t v).tx = s.tx := rfl
@[simp] theorem State.setOp_abt : (s.setOp t v).abt = s.abt := rfl
@[simp] theorem State.setOp_slots : (s.setOp t v).slots = s.slots := rfl
@[simp] theorem State.setOp_recs : (s.setOp t v).recs = s.recs := rfl
@[simp] theorem State.setOp_ptp : (s.setOp t v).ptp = s.ptp := rfl
@[simp] theorem State.setOp_banks : (s.setOp t v).banks = s.banks := rfl
@[simp] theorem State.setOp_bankMem : (s.setOp t v).bankMem = s.bankMem := rfl
@[simp] theorem State.setOp_dram : (s.setOp t v).dram = s.dram := rfl
@[simp] theorem State.setOp_refill : (s.setOp t v).refill = s.refill := rfl
@[simp] theorem State.setOp_dramRun : (s.setOp t v).dramRun = s.dramRun := rfl
@[simp] theorem State.setOp_streams : (s.setOp t v).streams = s.streams := rfl
@[simp] theorem State.setOp_sites : (s.setOp t v).sites = s.sites := rfl
@[simp] theorem State.setOp_stile : (s.setOp t v).stile = s.stile := rfl
@[simp] theorem State.setOp_chans : (s.setOp t v).chans = s.chans := rfl
@[simp] theorem State.setOp_octets : (s.setOp t v).octets = s.octets := rfl
@[simp] theorem State.setOp_mons : (s.setOp t v).mons = s.mons := rfl
@[simp] theorem State.setOp_sensors : (s.setOp t v).sensors = s.sensors := rfl
@[simp] theorem State.setOp_comps : (s.setOp t v).comps = s.comps := rfl
@[simp] theorem State.setOp_watch : (s.setOp t v).watch = s.watch := rfl
@[simp] theorem State.setOp_mse : (s.setOp t v).mse = s.mse := rfl
@[simp] theorem State.setOp_day : (s.setOp t v).day = s.day := rfl
@[simp] theorem State.setOp_flash : (s.setOp t v).flash = s.flash := rfl
@[simp] theorem State.setOp_green : (s.setOp t v).green = s.green := rfl
@[simp] theorem State.setOp_units : (s.setOp t v).units = s.units := rfl
@[simp] theorem State.setOp_siteWr : (s.setOp t v).siteWr = s.siteWr := rfl
@[simp] theorem State.setOp_extWr : (s.setOp t v).extWr = s.extWr := rfl
@[simp] theorem State.setOp_glean : (s.setOp t v).glean = s.glean := rfl
@[simp] theorem State.setOp_gate : (s.setOp t v).gate = s.gate := rfl
@[simp] theorem State.setOp_chest : (s.setOp t v).chest = s.chest := rfl
@[simp] theorem State.setOp_fmap : (s.setOp t v).fmap = s.fmap := rfl
@[simp] theorem State.setOp_upd : (s.setOp t v).upd = s.upd := rfl
@[simp] theorem State.setOp_reeve : (s.setOp t v).reeve = s.reeve := rfl
end setOp

section setComp
variable (b : Nat) (v : Int)
@[simp] theorem State.setComp_pending : (s.setComp b v).pending = s.pending := rfl
@[simp] theorem State.setComp_reply : (s.setComp b v).reply = s.reply := rfl
@[simp] theorem State.setComp_fresh : (s.setComp b v).fresh = s.fresh := rfl
@[simp] theorem State.setComp_run : (s.setComp b v).run = s.run := rfl
@[simp] theorem State.setComp_pins : (s.setComp b v).pins = s.pins := rfl
@[simp] theorem State.setComp_fuses : (s.setComp b v).fuses = s.fuses := rfl
@[simp] theorem State.setComp_env : (s.setComp b v).env = s.env := rfl
@[simp] theorem State.setComp_regs : (s.setComp b v).regs = s.regs := rfl
@[simp] theorem State.setComp_tabs : (s.setComp b v).tabs = s.tabs := rfl
@[simp] theorem State.setComp_tblAddr : (s.setComp b v).tblAddr = s.tblAddr := rfl
@[simp] theorem State.setComp_snaps : (s.setComp b v).snaps = s.snaps := rfl
@[simp] theorem State.setComp_waits : (s.setComp b v).waits = s.waits := rfl
@[simp] theorem State.setComp_rot : (s.setComp b v).rot = s.rot := rfl
@[simp] theorem State.setComp_time : (s.setComp b v).time = s.time := rfl
@[simp] theorem State.setComp_tx : (s.setComp b v).tx = s.tx := rfl
@[simp] theorem State.setComp_abt : (s.setComp b v).abt = s.abt := rfl
@[simp] theorem State.setComp_slots : (s.setComp b v).slots = s.slots := rfl
@[simp] theorem State.setComp_recs : (s.setComp b v).recs = s.recs := rfl
@[simp] theorem State.setComp_ptp : (s.setComp b v).ptp = s.ptp := rfl
@[simp] theorem State.setComp_banks : (s.setComp b v).banks = s.banks := rfl
@[simp] theorem State.setComp_bankMem : (s.setComp b v).bankMem = s.bankMem := rfl
@[simp] theorem State.setComp_dram : (s.setComp b v).dram = s.dram := rfl
@[simp] theorem State.setComp_refill : (s.setComp b v).refill = s.refill := rfl
@[simp] theorem State.setComp_dramRun : (s.setComp b v).dramRun = s.dramRun := rfl
@[simp] theorem State.setComp_streams : (s.setComp b v).streams = s.streams := rfl
@[simp] theorem State.setComp_sites : (s.setComp b v).sites = s.sites := rfl
@[simp] theorem State.setComp_stile : (s.setComp b v).stile = s.stile := rfl
@[simp] theorem State.setComp_chans : (s.setComp b v).chans = s.chans := rfl
@[simp] theorem State.setComp_octets : (s.setComp b v).octets = s.octets := rfl
@[simp] theorem State.setComp_mons : (s.setComp b v).mons = s.mons := rfl
@[simp] theorem State.setComp_sensors : (s.setComp b v).sensors = s.sensors := rfl
@[simp] theorem State.setComp_watch : (s.setComp b v).watch = s.watch := rfl
@[simp] theorem State.setComp_ops : (s.setComp b v).ops = s.ops := rfl
@[simp] theorem State.setComp_mse : (s.setComp b v).mse = s.mse := rfl
@[simp] theorem State.setComp_day : (s.setComp b v).day = s.day := rfl
@[simp] theorem State.setComp_flash : (s.setComp b v).flash = s.flash := rfl
@[simp] theorem State.setComp_green : (s.setComp b v).green = s.green := rfl
@[simp] theorem State.setComp_units : (s.setComp b v).units = s.units := rfl
@[simp] theorem State.setComp_siteWr : (s.setComp b v).siteWr = s.siteWr := rfl
@[simp] theorem State.setComp_extWr : (s.setComp b v).extWr = s.extWr := rfl
@[simp] theorem State.setComp_glean : (s.setComp b v).glean = s.glean := rfl
@[simp] theorem State.setComp_gate : (s.setComp b v).gate = s.gate := rfl
@[simp] theorem State.setComp_chest : (s.setComp b v).chest = s.chest := rfl
@[simp] theorem State.setComp_fmap : (s.setComp b v).fmap = s.fmap := rfl
@[simp] theorem State.setComp_upd : (s.setComp b v).upd = s.upd := rfl
@[simp] theorem State.setComp_reeve : (s.setComp b v).reeve = s.reeve := rfl
end setComp

section ok
variable (d : List Word)
@[simp] theorem State.ok_pending : (s.ok d).pending = s.pending := rfl
@[simp] theorem State.ok_fresh : (s.ok d).fresh = s.fresh := rfl
@[simp] theorem State.ok_run : (s.ok d).run = s.run := rfl
@[simp] theorem State.ok_pins : (s.ok d).pins = s.pins := rfl
@[simp] theorem State.ok_fuses : (s.ok d).fuses = s.fuses := rfl
@[simp] theorem State.ok_env : (s.ok d).env = s.env := rfl
@[simp] theorem State.ok_regs : (s.ok d).regs = s.regs := rfl
@[simp] theorem State.ok_tabs : (s.ok d).tabs = s.tabs := rfl
@[simp] theorem State.ok_tblAddr : (s.ok d).tblAddr = s.tblAddr := rfl
@[simp] theorem State.ok_snaps : (s.ok d).snaps = s.snaps := rfl
@[simp] theorem State.ok_waits : (s.ok d).waits = s.waits := rfl
@[simp] theorem State.ok_rot : (s.ok d).rot = s.rot := rfl
@[simp] theorem State.ok_time : (s.ok d).time = s.time := rfl
@[simp] theorem State.ok_tx : (s.ok d).tx = s.tx := rfl
@[simp] theorem State.ok_abt : (s.ok d).abt = s.abt := rfl
@[simp] theorem State.ok_slots : (s.ok d).slots = s.slots := rfl
@[simp] theorem State.ok_recs : (s.ok d).recs = s.recs := rfl
@[simp] theorem State.ok_ptp : (s.ok d).ptp = s.ptp := rfl
@[simp] theorem State.ok_banks : (s.ok d).banks = s.banks := rfl
@[simp] theorem State.ok_bankMem : (s.ok d).bankMem = s.bankMem := rfl
@[simp] theorem State.ok_dram : (s.ok d).dram = s.dram := rfl
@[simp] theorem State.ok_refill : (s.ok d).refill = s.refill := rfl
@[simp] theorem State.ok_dramRun : (s.ok d).dramRun = s.dramRun := rfl
@[simp] theorem State.ok_streams : (s.ok d).streams = s.streams := rfl
@[simp] theorem State.ok_sites : (s.ok d).sites = s.sites := rfl
@[simp] theorem State.ok_stile : (s.ok d).stile = s.stile := rfl
@[simp] theorem State.ok_chans : (s.ok d).chans = s.chans := rfl
@[simp] theorem State.ok_octets : (s.ok d).octets = s.octets := rfl
@[simp] theorem State.ok_mons : (s.ok d).mons = s.mons := rfl
@[simp] theorem State.ok_sensors : (s.ok d).sensors = s.sensors := rfl
@[simp] theorem State.ok_comps : (s.ok d).comps = s.comps := rfl
@[simp] theorem State.ok_watch : (s.ok d).watch = s.watch := rfl
@[simp] theorem State.ok_ops : (s.ok d).ops = s.ops := rfl
@[simp] theorem State.ok_mse : (s.ok d).mse = s.mse := rfl
@[simp] theorem State.ok_day : (s.ok d).day = s.day := rfl
@[simp] theorem State.ok_flash : (s.ok d).flash = s.flash := rfl
@[simp] theorem State.ok_green : (s.ok d).green = s.green := rfl
@[simp] theorem State.ok_units : (s.ok d).units = s.units := rfl
@[simp] theorem State.ok_siteWr : (s.ok d).siteWr = s.siteWr := rfl
@[simp] theorem State.ok_extWr : (s.ok d).extWr = s.extWr := rfl
@[simp] theorem State.ok_glean : (s.ok d).glean = s.glean := rfl
@[simp] theorem State.ok_gate : (s.ok d).gate = s.gate := rfl
@[simp] theorem State.ok_chest : (s.ok d).chest = s.chest := rfl
@[simp] theorem State.ok_fmap : (s.ok d).fmap = s.fmap := rfl
@[simp] theorem State.ok_upd : (s.ok d).upd = s.upd := rfl
@[simp] theorem State.ok_reeve : (s.ok d).reeve = s.reeve := rfl
end ok

section err
variable (e : Err)
@[simp] theorem State.err_pending : (s.err e).pending = s.pending := rfl
@[simp] theorem State.err_fresh : (s.err e).fresh = s.fresh := rfl
@[simp] theorem State.err_run : (s.err e).run = s.run := rfl
@[simp] theorem State.err_pins : (s.err e).pins = s.pins := rfl
@[simp] theorem State.err_fuses : (s.err e).fuses = s.fuses := rfl
@[simp] theorem State.err_env : (s.err e).env = s.env := rfl
@[simp] theorem State.err_regs : (s.err e).regs = s.regs := rfl
@[simp] theorem State.err_tabs : (s.err e).tabs = s.tabs := rfl
@[simp] theorem State.err_tblAddr : (s.err e).tblAddr = s.tblAddr := rfl
@[simp] theorem State.err_snaps : (s.err e).snaps = s.snaps := rfl
@[simp] theorem State.err_waits : (s.err e).waits = s.waits := rfl
@[simp] theorem State.err_rot : (s.err e).rot = s.rot := rfl
@[simp] theorem State.err_time : (s.err e).time = s.time := rfl
@[simp] theorem State.err_tx : (s.err e).tx = s.tx := rfl
@[simp] theorem State.err_abt : (s.err e).abt = s.abt := rfl
@[simp] theorem State.err_slots : (s.err e).slots = s.slots := rfl
@[simp] theorem State.err_recs : (s.err e).recs = s.recs := rfl
@[simp] theorem State.err_ptp : (s.err e).ptp = s.ptp := rfl
@[simp] theorem State.err_banks : (s.err e).banks = s.banks := rfl
@[simp] theorem State.err_bankMem : (s.err e).bankMem = s.bankMem := rfl
@[simp] theorem State.err_dram : (s.err e).dram = s.dram := rfl
@[simp] theorem State.err_refill : (s.err e).refill = s.refill := rfl
@[simp] theorem State.err_dramRun : (s.err e).dramRun = s.dramRun := rfl
@[simp] theorem State.err_streams : (s.err e).streams = s.streams := rfl
@[simp] theorem State.err_sites : (s.err e).sites = s.sites := rfl
@[simp] theorem State.err_stile : (s.err e).stile = s.stile := rfl
@[simp] theorem State.err_chans : (s.err e).chans = s.chans := rfl
@[simp] theorem State.err_octets : (s.err e).octets = s.octets := rfl
@[simp] theorem State.err_mons : (s.err e).mons = s.mons := rfl
@[simp] theorem State.err_sensors : (s.err e).sensors = s.sensors := rfl
@[simp] theorem State.err_comps : (s.err e).comps = s.comps := rfl
@[simp] theorem State.err_watch : (s.err e).watch = s.watch := rfl
@[simp] theorem State.err_ops : (s.err e).ops = s.ops := rfl
@[simp] theorem State.err_mse : (s.err e).mse = s.mse := rfl
@[simp] theorem State.err_day : (s.err e).day = s.day := rfl
@[simp] theorem State.err_flash : (s.err e).flash = s.flash := rfl
@[simp] theorem State.err_green : (s.err e).green = s.green := rfl
@[simp] theorem State.err_units : (s.err e).units = s.units := rfl
@[simp] theorem State.err_siteWr : (s.err e).siteWr = s.siteWr := rfl
@[simp] theorem State.err_extWr : (s.err e).extWr = s.extWr := rfl
@[simp] theorem State.err_glean : (s.err e).glean = s.glean := rfl
@[simp] theorem State.err_gate : (s.err e).gate = s.gate := rfl
@[simp] theorem State.err_chest : (s.err e).chest = s.chest := rfl
@[simp] theorem State.err_fmap : (s.err e).fmap = s.fmap := rfl
@[simp] theorem State.err_upd : (s.err e).upd = s.upd := rfl
@[simp] theorem State.err_reeve : (s.err e).reeve = s.reeve := rfl
end err

section raise
variable (r : Raised)
@[simp] theorem State.raise_pending : (s.raise r).pending = s.pending := rfl
@[simp] theorem State.raise_reply : (s.raise r).reply = s.reply := rfl
@[simp] theorem State.raise_fresh : (s.raise r).fresh = s.fresh := rfl
@[simp] theorem State.raise_run : (s.raise r).run = s.run := rfl
@[simp] theorem State.raise_pins : (s.raise r).pins = s.pins := rfl
@[simp] theorem State.raise_fuses : (s.raise r).fuses = s.fuses := rfl
@[simp] theorem State.raise_env : (s.raise r).env = s.env := rfl
@[simp] theorem State.raise_regs : (s.raise r).regs = s.regs := rfl
@[simp] theorem State.raise_tabs : (s.raise r).tabs = s.tabs := rfl
@[simp] theorem State.raise_tblAddr : (s.raise r).tblAddr = s.tblAddr := rfl
@[simp] theorem State.raise_snaps : (s.raise r).snaps = s.snaps := rfl
@[simp] theorem State.raise_waits : (s.raise r).waits = s.waits := rfl
@[simp] theorem State.raise_rot : (s.raise r).rot = s.rot := rfl
@[simp] theorem State.raise_time : (s.raise r).time = s.time := rfl
@[simp] theorem State.raise_tx : (s.raise r).tx = s.tx := rfl
@[simp] theorem State.raise_abt : (s.raise r).abt = s.abt := rfl
@[simp] theorem State.raise_slots : (s.raise r).slots = s.slots := rfl
@[simp] theorem State.raise_recs : (s.raise r).recs = s.recs := rfl
@[simp] theorem State.raise_ptp : (s.raise r).ptp = s.ptp := rfl
@[simp] theorem State.raise_banks : (s.raise r).banks = s.banks := rfl
@[simp] theorem State.raise_bankMem : (s.raise r).bankMem = s.bankMem := rfl
@[simp] theorem State.raise_dram : (s.raise r).dram = s.dram := rfl
@[simp] theorem State.raise_refill : (s.raise r).refill = s.refill := rfl
@[simp] theorem State.raise_dramRun : (s.raise r).dramRun = s.dramRun := rfl
@[simp] theorem State.raise_streams : (s.raise r).streams = s.streams := rfl
@[simp] theorem State.raise_sites : (s.raise r).sites = s.sites := rfl
@[simp] theorem State.raise_stile : (s.raise r).stile = s.stile := rfl
@[simp] theorem State.raise_chans : (s.raise r).chans = s.chans := rfl
@[simp] theorem State.raise_octets : (s.raise r).octets = s.octets := rfl
@[simp] theorem State.raise_mons : (s.raise r).mons = s.mons := rfl
@[simp] theorem State.raise_sensors : (s.raise r).sensors = s.sensors := rfl
@[simp] theorem State.raise_comps : (s.raise r).comps = s.comps := rfl
@[simp] theorem State.raise_ops : (s.raise r).ops = s.ops := rfl
@[simp] theorem State.raise_mse : (s.raise r).mse = s.mse := rfl
@[simp] theorem State.raise_day : (s.raise r).day = s.day := rfl
@[simp] theorem State.raise_flash : (s.raise r).flash = s.flash := rfl
@[simp] theorem State.raise_green : (s.raise r).green = s.green := rfl
@[simp] theorem State.raise_units : (s.raise r).units = s.units := rfl
@[simp] theorem State.raise_siteWr : (s.raise r).siteWr = s.siteWr := rfl
@[simp] theorem State.raise_extWr : (s.raise r).extWr = s.extWr := rfl
@[simp] theorem State.raise_glean : (s.raise r).glean = s.glean := rfl
@[simp] theorem State.raise_gate : (s.raise r).gate = s.gate := rfl
@[simp] theorem State.raise_chest : (s.raise r).chest = s.chest := rfl
@[simp] theorem State.raise_fmap : (s.raise r).fmap = s.fmap := rfl
@[simp] theorem State.raise_upd : (s.raise r).upd = s.upd := rfl
@[simp] theorem State.raise_reeve : (s.raise r).reeve = s.reeve := rfl
end raise

section ticks
variable (n : Nat)
@[simp] theorem State.ticks_pending : (s.ticks n).pending = s.pending := rfl
@[simp] theorem State.ticks_reply : (s.ticks n).reply = s.reply := rfl
@[simp] theorem State.ticks_fresh : (s.ticks n).fresh = s.fresh := rfl
@[simp] theorem State.ticks_run : (s.ticks n).run = s.run := rfl
@[simp] theorem State.ticks_pins : (s.ticks n).pins = s.pins := rfl
@[simp] theorem State.ticks_fuses : (s.ticks n).fuses = s.fuses := rfl
@[simp] theorem State.ticks_env : (s.ticks n).env = s.env := rfl
@[simp] theorem State.ticks_regs : (s.ticks n).regs = s.regs := rfl
@[simp] theorem State.ticks_tabs : (s.ticks n).tabs = s.tabs := rfl
@[simp] theorem State.ticks_tblAddr : (s.ticks n).tblAddr = s.tblAddr := rfl
@[simp] theorem State.ticks_snaps : (s.ticks n).snaps = s.snaps := rfl
@[simp] theorem State.ticks_waits : (s.ticks n).waits = s.waits := rfl
@[simp] theorem State.ticks_rot : (s.ticks n).rot = s.rot := rfl
@[simp] theorem State.ticks_tx : (s.ticks n).tx = s.tx := rfl
@[simp] theorem State.ticks_abt : (s.ticks n).abt = s.abt := rfl
@[simp] theorem State.ticks_slots : (s.ticks n).slots = s.slots := rfl
@[simp] theorem State.ticks_recs : (s.ticks n).recs = s.recs := rfl
@[simp] theorem State.ticks_ptp : (s.ticks n).ptp = s.ptp := rfl
@[simp] theorem State.ticks_banks : (s.ticks n).banks = s.banks := rfl
@[simp] theorem State.ticks_bankMem : (s.ticks n).bankMem = s.bankMem := rfl
@[simp] theorem State.ticks_dram : (s.ticks n).dram = s.dram := rfl
@[simp] theorem State.ticks_refill : (s.ticks n).refill = s.refill := rfl
@[simp] theorem State.ticks_dramRun : (s.ticks n).dramRun = s.dramRun := rfl
@[simp] theorem State.ticks_streams : (s.ticks n).streams = s.streams := rfl
@[simp] theorem State.ticks_sites : (s.ticks n).sites = s.sites := rfl
@[simp] theorem State.ticks_stile : (s.ticks n).stile = s.stile := rfl
@[simp] theorem State.ticks_chans : (s.ticks n).chans = s.chans := rfl
@[simp] theorem State.ticks_octets : (s.ticks n).octets = s.octets := rfl
@[simp] theorem State.ticks_mons : (s.ticks n).mons = s.mons := rfl
@[simp] theorem State.ticks_sensors : (s.ticks n).sensors = s.sensors := rfl
@[simp] theorem State.ticks_comps : (s.ticks n).comps = s.comps := rfl
@[simp] theorem State.ticks_watch : (s.ticks n).watch = s.watch := rfl
@[simp] theorem State.ticks_ops : (s.ticks n).ops = s.ops := rfl
@[simp] theorem State.ticks_mse : (s.ticks n).mse = s.mse := rfl
@[simp] theorem State.ticks_day : (s.ticks n).day = s.day := rfl
@[simp] theorem State.ticks_flash : (s.ticks n).flash = s.flash := rfl
@[simp] theorem State.ticks_green : (s.ticks n).green = s.green := rfl
@[simp] theorem State.ticks_units : (s.ticks n).units = s.units := rfl
@[simp] theorem State.ticks_siteWr : (s.ticks n).siteWr = s.siteWr := rfl
@[simp] theorem State.ticks_extWr : (s.ticks n).extWr = s.extWr := rfl
@[simp] theorem State.ticks_glean : (s.ticks n).glean = s.glean := rfl
@[simp] theorem State.ticks_gate : (s.ticks n).gate = s.gate := rfl
@[simp] theorem State.ticks_chest : (s.ticks n).chest = s.chest := rfl
@[simp] theorem State.ticks_fmap : (s.ticks n).fmap = s.fmap := rfl
@[simp] theorem State.ticks_upd : (s.ticks n).upd = s.upd := rfl
@[simp] theorem State.ticks_reeve : (s.ticks n).reeve = s.reeve := rfl
end ticks

section setFld
variable (p o h l v : Nat)
@[simp] theorem State.setFld_pending : (s.setFld p o h l v).pending = s.pending := rfl
@[simp] theorem State.setFld_reply : (s.setFld p o h l v).reply = s.reply := rfl
@[simp] theorem State.setFld_fresh : (s.setFld p o h l v).fresh = s.fresh := rfl
@[simp] theorem State.setFld_run : (s.setFld p o h l v).run = s.run := rfl
@[simp] theorem State.setFld_pins : (s.setFld p o h l v).pins = s.pins := rfl
@[simp] theorem State.setFld_fuses : (s.setFld p o h l v).fuses = s.fuses := rfl
@[simp] theorem State.setFld_env : (s.setFld p o h l v).env = s.env := rfl
@[simp] theorem State.setFld_tabs : (s.setFld p o h l v).tabs = s.tabs := rfl
@[simp] theorem State.setFld_tblAddr : (s.setFld p o h l v).tblAddr = s.tblAddr := rfl
@[simp] theorem State.setFld_snaps : (s.setFld p o h l v).snaps = s.snaps := rfl
@[simp] theorem State.setFld_waits : (s.setFld p o h l v).waits = s.waits := rfl
@[simp] theorem State.setFld_rot : (s.setFld p o h l v).rot = s.rot := rfl
@[simp] theorem State.setFld_time : (s.setFld p o h l v).time = s.time := rfl
@[simp] theorem State.setFld_tx : (s.setFld p o h l v).tx = s.tx := rfl
@[simp] theorem State.setFld_abt : (s.setFld p o h l v).abt = s.abt := rfl
@[simp] theorem State.setFld_slots : (s.setFld p o h l v).slots = s.slots := rfl
@[simp] theorem State.setFld_recs : (s.setFld p o h l v).recs = s.recs := rfl
@[simp] theorem State.setFld_ptp : (s.setFld p o h l v).ptp = s.ptp := rfl
@[simp] theorem State.setFld_banks : (s.setFld p o h l v).banks = s.banks := rfl
@[simp] theorem State.setFld_bankMem : (s.setFld p o h l v).bankMem = s.bankMem := rfl
@[simp] theorem State.setFld_dram : (s.setFld p o h l v).dram = s.dram := rfl
@[simp] theorem State.setFld_refill : (s.setFld p o h l v).refill = s.refill := rfl
@[simp] theorem State.setFld_dramRun : (s.setFld p o h l v).dramRun = s.dramRun := rfl
@[simp] theorem State.setFld_streams : (s.setFld p o h l v).streams = s.streams := rfl
@[simp] theorem State.setFld_sites : (s.setFld p o h l v).sites = s.sites := rfl
@[simp] theorem State.setFld_stile : (s.setFld p o h l v).stile = s.stile := rfl
@[simp] theorem State.setFld_chans : (s.setFld p o h l v).chans = s.chans := rfl
@[simp] theorem State.setFld_octets : (s.setFld p o h l v).octets = s.octets := rfl
@[simp] theorem State.setFld_mons : (s.setFld p o h l v).mons = s.mons := rfl
@[simp] theorem State.setFld_sensors : (s.setFld p o h l v).sensors = s.sensors := rfl
@[simp] theorem State.setFld_comps : (s.setFld p o h l v).comps = s.comps := rfl
@[simp] theorem State.setFld_watch : (s.setFld p o h l v).watch = s.watch := rfl
@[simp] theorem State.setFld_ops : (s.setFld p o h l v).ops = s.ops := rfl
@[simp] theorem State.setFld_mse : (s.setFld p o h l v).mse = s.mse := rfl
@[simp] theorem State.setFld_day : (s.setFld p o h l v).day = s.day := rfl
@[simp] theorem State.setFld_flash : (s.setFld p o h l v).flash = s.flash := rfl
@[simp] theorem State.setFld_green : (s.setFld p o h l v).green = s.green := rfl
@[simp] theorem State.setFld_units : (s.setFld p o h l v).units = s.units := rfl
@[simp] theorem State.setFld_siteWr : (s.setFld p o h l v).siteWr = s.siteWr := rfl
@[simp] theorem State.setFld_extWr : (s.setFld p o h l v).extWr = s.extWr := rfl
@[simp] theorem State.setFld_glean : (s.setFld p o h l v).glean = s.glean := rfl
@[simp] theorem State.setFld_gate : (s.setFld p o h l v).gate = s.gate := rfl
@[simp] theorem State.setFld_chest : (s.setFld p o h l v).chest = s.chest := rfl
@[simp] theorem State.setFld_fmap : (s.setFld p o h l v).fmap = s.fmap := rfl
@[simp] theorem State.setFld_upd : (s.setFld p o h l v).upd = s.upd := rfl
@[simp] theorem State.setFld_reeve : (s.setFld p o h l v).reeve = s.reeve := rfl
end setFld

section setBit
variable (p o i : Nat) (b : Bool)
@[simp] theorem State.setBit_pending : (s.setBit p o i b).pending = s.pending := rfl
@[simp] theorem State.setBit_reply : (s.setBit p o i b).reply = s.reply := rfl
@[simp] theorem State.setBit_fresh : (s.setBit p o i b).fresh = s.fresh := rfl
@[simp] theorem State.setBit_run : (s.setBit p o i b).run = s.run := rfl
@[simp] theorem State.setBit_pins : (s.setBit p o i b).pins = s.pins := rfl
@[simp] theorem State.setBit_fuses : (s.setBit p o i b).fuses = s.fuses := rfl
@[simp] theorem State.setBit_env : (s.setBit p o i b).env = s.env := rfl
@[simp] theorem State.setBit_tabs : (s.setBit p o i b).tabs = s.tabs := rfl
@[simp] theorem State.setBit_tblAddr : (s.setBit p o i b).tblAddr = s.tblAddr := rfl
@[simp] theorem State.setBit_snaps : (s.setBit p o i b).snaps = s.snaps := rfl
@[simp] theorem State.setBit_waits : (s.setBit p o i b).waits = s.waits := rfl
@[simp] theorem State.setBit_rot : (s.setBit p o i b).rot = s.rot := rfl
@[simp] theorem State.setBit_time : (s.setBit p o i b).time = s.time := rfl
@[simp] theorem State.setBit_tx : (s.setBit p o i b).tx = s.tx := rfl
@[simp] theorem State.setBit_abt : (s.setBit p o i b).abt = s.abt := rfl
@[simp] theorem State.setBit_slots : (s.setBit p o i b).slots = s.slots := rfl
@[simp] theorem State.setBit_recs : (s.setBit p o i b).recs = s.recs := rfl
@[simp] theorem State.setBit_ptp : (s.setBit p o i b).ptp = s.ptp := rfl
@[simp] theorem State.setBit_banks : (s.setBit p o i b).banks = s.banks := rfl
@[simp] theorem State.setBit_bankMem : (s.setBit p o i b).bankMem = s.bankMem := rfl
@[simp] theorem State.setBit_dram : (s.setBit p o i b).dram = s.dram := rfl
@[simp] theorem State.setBit_refill : (s.setBit p o i b).refill = s.refill := rfl
@[simp] theorem State.setBit_dramRun : (s.setBit p o i b).dramRun = s.dramRun := rfl
@[simp] theorem State.setBit_streams : (s.setBit p o i b).streams = s.streams := rfl
@[simp] theorem State.setBit_sites : (s.setBit p o i b).sites = s.sites := rfl
@[simp] theorem State.setBit_stile : (s.setBit p o i b).stile = s.stile := rfl
@[simp] theorem State.setBit_chans : (s.setBit p o i b).chans = s.chans := rfl
@[simp] theorem State.setBit_octets : (s.setBit p o i b).octets = s.octets := rfl
@[simp] theorem State.setBit_mons : (s.setBit p o i b).mons = s.mons := rfl
@[simp] theorem State.setBit_sensors : (s.setBit p o i b).sensors = s.sensors := rfl
@[simp] theorem State.setBit_comps : (s.setBit p o i b).comps = s.comps := rfl
@[simp] theorem State.setBit_watch : (s.setBit p o i b).watch = s.watch := rfl
@[simp] theorem State.setBit_ops : (s.setBit p o i b).ops = s.ops := rfl
@[simp] theorem State.setBit_mse : (s.setBit p o i b).mse = s.mse := rfl
@[simp] theorem State.setBit_day : (s.setBit p o i b).day = s.day := rfl
@[simp] theorem State.setBit_flash : (s.setBit p o i b).flash = s.flash := rfl
@[simp] theorem State.setBit_green : (s.setBit p o i b).green = s.green := rfl
@[simp] theorem State.setBit_units : (s.setBit p o i b).units = s.units := rfl
@[simp] theorem State.setBit_siteWr : (s.setBit p o i b).siteWr = s.siteWr := rfl
@[simp] theorem State.setBit_extWr : (s.setBit p o i b).extWr = s.extWr := rfl
@[simp] theorem State.setBit_glean : (s.setBit p o i b).glean = s.glean := rfl
@[simp] theorem State.setBit_gate : (s.setBit p o i b).gate = s.gate := rfl
@[simp] theorem State.setBit_chest : (s.setBit p o i b).chest = s.chest := rfl
@[simp] theorem State.setBit_fmap : (s.setBit p o i b).fmap = s.fmap := rfl
@[simp] theorem State.setBit_upd : (s.setBit p o i b).upd = s.upd := rfl
@[simp] theorem State.setBit_reeve : (s.setBit p o i b).reeve = s.reeve := rfl
end setBit

section inc
variable (p o n : Nat)
@[simp] theorem State.inc_pending : (s.inc p o n).pending = s.pending := rfl
@[simp] theorem State.inc_reply : (s.inc p o n).reply = s.reply := rfl
@[simp] theorem State.inc_fresh : (s.inc p o n).fresh = s.fresh := rfl
@[simp] theorem State.inc_run : (s.inc p o n).run = s.run := rfl
@[simp] theorem State.inc_pins : (s.inc p o n).pins = s.pins := rfl
@[simp] theorem State.inc_fuses : (s.inc p o n).fuses = s.fuses := rfl
@[simp] theorem State.inc_env : (s.inc p o n).env = s.env := rfl
@[simp] theorem State.inc_tabs : (s.inc p o n).tabs = s.tabs := rfl
@[simp] theorem State.inc_tblAddr : (s.inc p o n).tblAddr = s.tblAddr := rfl
@[simp] theorem State.inc_snaps : (s.inc p o n).snaps = s.snaps := rfl
@[simp] theorem State.inc_waits : (s.inc p o n).waits = s.waits := rfl
@[simp] theorem State.inc_rot : (s.inc p o n).rot = s.rot := rfl
@[simp] theorem State.inc_time : (s.inc p o n).time = s.time := rfl
@[simp] theorem State.inc_tx : (s.inc p o n).tx = s.tx := rfl
@[simp] theorem State.inc_abt : (s.inc p o n).abt = s.abt := rfl
@[simp] theorem State.inc_slots : (s.inc p o n).slots = s.slots := rfl
@[simp] theorem State.inc_recs : (s.inc p o n).recs = s.recs := rfl
@[simp] theorem State.inc_ptp : (s.inc p o n).ptp = s.ptp := rfl
@[simp] theorem State.inc_banks : (s.inc p o n).banks = s.banks := rfl
@[simp] theorem State.inc_bankMem : (s.inc p o n).bankMem = s.bankMem := rfl
@[simp] theorem State.inc_dram : (s.inc p o n).dram = s.dram := rfl
@[simp] theorem State.inc_refill : (s.inc p o n).refill = s.refill := rfl
@[simp] theorem State.inc_dramRun : (s.inc p o n).dramRun = s.dramRun := rfl
@[simp] theorem State.inc_streams : (s.inc p o n).streams = s.streams := rfl
@[simp] theorem State.inc_sites : (s.inc p o n).sites = s.sites := rfl
@[simp] theorem State.inc_stile : (s.inc p o n).stile = s.stile := rfl
@[simp] theorem State.inc_chans : (s.inc p o n).chans = s.chans := rfl
@[simp] theorem State.inc_octets : (s.inc p o n).octets = s.octets := rfl
@[simp] theorem State.inc_mons : (s.inc p o n).mons = s.mons := rfl
@[simp] theorem State.inc_sensors : (s.inc p o n).sensors = s.sensors := rfl
@[simp] theorem State.inc_comps : (s.inc p o n).comps = s.comps := rfl
@[simp] theorem State.inc_watch : (s.inc p o n).watch = s.watch := rfl
@[simp] theorem State.inc_ops : (s.inc p o n).ops = s.ops := rfl
@[simp] theorem State.inc_mse : (s.inc p o n).mse = s.mse := rfl
@[simp] theorem State.inc_day : (s.inc p o n).day = s.day := rfl
@[simp] theorem State.inc_flash : (s.inc p o n).flash = s.flash := rfl
@[simp] theorem State.inc_green : (s.inc p o n).green = s.green := rfl
@[simp] theorem State.inc_units : (s.inc p o n).units = s.units := rfl
@[simp] theorem State.inc_siteWr : (s.inc p o n).siteWr = s.siteWr := rfl
@[simp] theorem State.inc_extWr : (s.inc p o n).extWr = s.extWr := rfl
@[simp] theorem State.inc_glean : (s.inc p o n).glean = s.glean := rfl
@[simp] theorem State.inc_gate : (s.inc p o n).gate = s.gate := rfl
@[simp] theorem State.inc_chest : (s.inc p o n).chest = s.chest := rfl
@[simp] theorem State.inc_fmap : (s.inc p o n).fmap = s.fmap := rfl
@[simp] theorem State.inc_upd : (s.inc p o n).upd = s.upd := rfl
@[simp] theorem State.inc_reeve : (s.inc p o n).reeve = s.reeve := rfl
end inc

section incSat
variable (p o n : Nat)
@[simp] theorem State.incSat_pending : (s.incSat p o n).pending = s.pending := rfl
@[simp] theorem State.incSat_reply : (s.incSat p o n).reply = s.reply := rfl
@[simp] theorem State.incSat_fresh : (s.incSat p o n).fresh = s.fresh := rfl
@[simp] theorem State.incSat_run : (s.incSat p o n).run = s.run := rfl
@[simp] theorem State.incSat_pins : (s.incSat p o n).pins = s.pins := rfl
@[simp] theorem State.incSat_fuses : (s.incSat p o n).fuses = s.fuses := rfl
@[simp] theorem State.incSat_env : (s.incSat p o n).env = s.env := rfl
@[simp] theorem State.incSat_tabs : (s.incSat p o n).tabs = s.tabs := rfl
@[simp] theorem State.incSat_tblAddr : (s.incSat p o n).tblAddr = s.tblAddr := rfl
@[simp] theorem State.incSat_snaps : (s.incSat p o n).snaps = s.snaps := rfl
@[simp] theorem State.incSat_waits : (s.incSat p o n).waits = s.waits := rfl
@[simp] theorem State.incSat_rot : (s.incSat p o n).rot = s.rot := rfl
@[simp] theorem State.incSat_time : (s.incSat p o n).time = s.time := rfl
@[simp] theorem State.incSat_tx : (s.incSat p o n).tx = s.tx := rfl
@[simp] theorem State.incSat_abt : (s.incSat p o n).abt = s.abt := rfl
@[simp] theorem State.incSat_slots : (s.incSat p o n).slots = s.slots := rfl
@[simp] theorem State.incSat_recs : (s.incSat p o n).recs = s.recs := rfl
@[simp] theorem State.incSat_ptp : (s.incSat p o n).ptp = s.ptp := rfl
@[simp] theorem State.incSat_banks : (s.incSat p o n).banks = s.banks := rfl
@[simp] theorem State.incSat_bankMem : (s.incSat p o n).bankMem = s.bankMem := rfl
@[simp] theorem State.incSat_dram : (s.incSat p o n).dram = s.dram := rfl
@[simp] theorem State.incSat_refill : (s.incSat p o n).refill = s.refill := rfl
@[simp] theorem State.incSat_dramRun : (s.incSat p o n).dramRun = s.dramRun := rfl
@[simp] theorem State.incSat_streams : (s.incSat p o n).streams = s.streams := rfl
@[simp] theorem State.incSat_sites : (s.incSat p o n).sites = s.sites := rfl
@[simp] theorem State.incSat_stile : (s.incSat p o n).stile = s.stile := rfl
@[simp] theorem State.incSat_chans : (s.incSat p o n).chans = s.chans := rfl
@[simp] theorem State.incSat_octets : (s.incSat p o n).octets = s.octets := rfl
@[simp] theorem State.incSat_mons : (s.incSat p o n).mons = s.mons := rfl
@[simp] theorem State.incSat_sensors : (s.incSat p o n).sensors = s.sensors := rfl
@[simp] theorem State.incSat_comps : (s.incSat p o n).comps = s.comps := rfl
@[simp] theorem State.incSat_watch : (s.incSat p o n).watch = s.watch := rfl
@[simp] theorem State.incSat_ops : (s.incSat p o n).ops = s.ops := rfl
@[simp] theorem State.incSat_mse : (s.incSat p o n).mse = s.mse := rfl
@[simp] theorem State.incSat_day : (s.incSat p o n).day = s.day := rfl
@[simp] theorem State.incSat_flash : (s.incSat p o n).flash = s.flash := rfl
@[simp] theorem State.incSat_green : (s.incSat p o n).green = s.green := rfl
@[simp] theorem State.incSat_units : (s.incSat p o n).units = s.units := rfl
@[simp] theorem State.incSat_siteWr : (s.incSat p o n).siteWr = s.siteWr := rfl
@[simp] theorem State.incSat_extWr : (s.incSat p o n).extWr = s.extWr := rfl
@[simp] theorem State.incSat_glean : (s.incSat p o n).glean = s.glean := rfl
@[simp] theorem State.incSat_gate : (s.incSat p o n).gate = s.gate := rfl
@[simp] theorem State.incSat_chest : (s.incSat p o n).chest = s.chest := rfl
@[simp] theorem State.incSat_fmap : (s.incSat p o n).fmap = s.fmap := rfl
@[simp] theorem State.incSat_upd : (s.incSat p o n).upd = s.upd := rfl
@[simp] theorem State.incSat_reeve : (s.incSat p o n).reeve = s.reeve := rfl
end incSat

section incFld
variable (p o h l n : Nat)
@[simp] theorem State.incFld_pending : (s.incFld p o h l n).pending = s.pending := rfl
@[simp] theorem State.incFld_reply : (s.incFld p o h l n).reply = s.reply := rfl
@[simp] theorem State.incFld_fresh : (s.incFld p o h l n).fresh = s.fresh := rfl
@[simp] theorem State.incFld_run : (s.incFld p o h l n).run = s.run := rfl
@[simp] theorem State.incFld_pins : (s.incFld p o h l n).pins = s.pins := rfl
@[simp] theorem State.incFld_fuses : (s.incFld p o h l n).fuses = s.fuses := rfl
@[simp] theorem State.incFld_env : (s.incFld p o h l n).env = s.env := rfl
@[simp] theorem State.incFld_tabs : (s.incFld p o h l n).tabs = s.tabs := rfl
@[simp] theorem State.incFld_tblAddr : (s.incFld p o h l n).tblAddr = s.tblAddr := rfl
@[simp] theorem State.incFld_snaps : (s.incFld p o h l n).snaps = s.snaps := rfl
@[simp] theorem State.incFld_waits : (s.incFld p o h l n).waits = s.waits := rfl
@[simp] theorem State.incFld_rot : (s.incFld p o h l n).rot = s.rot := rfl
@[simp] theorem State.incFld_time : (s.incFld p o h l n).time = s.time := rfl
@[simp] theorem State.incFld_tx : (s.incFld p o h l n).tx = s.tx := rfl
@[simp] theorem State.incFld_abt : (s.incFld p o h l n).abt = s.abt := rfl
@[simp] theorem State.incFld_slots : (s.incFld p o h l n).slots = s.slots := rfl
@[simp] theorem State.incFld_recs : (s.incFld p o h l n).recs = s.recs := rfl
@[simp] theorem State.incFld_ptp : (s.incFld p o h l n).ptp = s.ptp := rfl
@[simp] theorem State.incFld_banks : (s.incFld p o h l n).banks = s.banks := rfl
@[simp] theorem State.incFld_bankMem : (s.incFld p o h l n).bankMem = s.bankMem := rfl
@[simp] theorem State.incFld_dram : (s.incFld p o h l n).dram = s.dram := rfl
@[simp] theorem State.incFld_refill : (s.incFld p o h l n).refill = s.refill := rfl
@[simp] theorem State.incFld_dramRun : (s.incFld p o h l n).dramRun = s.dramRun := rfl
@[simp] theorem State.incFld_streams : (s.incFld p o h l n).streams = s.streams := rfl
@[simp] theorem State.incFld_sites : (s.incFld p o h l n).sites = s.sites := rfl
@[simp] theorem State.incFld_stile : (s.incFld p o h l n).stile = s.stile := rfl
@[simp] theorem State.incFld_chans : (s.incFld p o h l n).chans = s.chans := rfl
@[simp] theorem State.incFld_octets : (s.incFld p o h l n).octets = s.octets := rfl
@[simp] theorem State.incFld_mons : (s.incFld p o h l n).mons = s.mons := rfl
@[simp] theorem State.incFld_sensors : (s.incFld p o h l n).sensors = s.sensors := rfl
@[simp] theorem State.incFld_comps : (s.incFld p o h l n).comps = s.comps := rfl
@[simp] theorem State.incFld_watch : (s.incFld p o h l n).watch = s.watch := rfl
@[simp] theorem State.incFld_ops : (s.incFld p o h l n).ops = s.ops := rfl
@[simp] theorem State.incFld_mse : (s.incFld p o h l n).mse = s.mse := rfl
@[simp] theorem State.incFld_day : (s.incFld p o h l n).day = s.day := rfl
@[simp] theorem State.incFld_flash : (s.incFld p o h l n).flash = s.flash := rfl
@[simp] theorem State.incFld_green : (s.incFld p o h l n).green = s.green := rfl
@[simp] theorem State.incFld_units : (s.incFld p o h l n).units = s.units := rfl
@[simp] theorem State.incFld_siteWr : (s.incFld p o h l n).siteWr = s.siteWr := rfl
@[simp] theorem State.incFld_extWr : (s.incFld p o h l n).extWr = s.extWr := rfl
@[simp] theorem State.incFld_glean : (s.incFld p o h l n).glean = s.glean := rfl
@[simp] theorem State.incFld_gate : (s.incFld p o h l n).gate = s.gate := rfl
@[simp] theorem State.incFld_chest : (s.incFld p o h l n).chest = s.chest := rfl
@[simp] theorem State.incFld_fmap : (s.incFld p o h l n).fmap = s.fmap := rfl
@[simp] theorem State.incFld_upd : (s.incFld p o h l n).upd = s.upd := rfl
@[simp] theorem State.incFld_reeve : (s.incFld p o h l n).reeve = s.reeve := rfl
end incFld

section setStrSt
variable (k v : Nat)
@[simp] theorem State.setStrSt_pending : (s.setStrSt k v).pending = s.pending := by rw [State.setStrSt, State.setFld_pending]
@[simp] theorem State.setStrSt_reply : (s.setStrSt k v).reply = s.reply := by rw [State.setStrSt, State.setFld_reply]
@[simp] theorem State.setStrSt_fresh : (s.setStrSt k v).fresh = s.fresh := by rw [State.setStrSt, State.setFld_fresh]
@[simp] theorem State.setStrSt_run : (s.setStrSt k v).run = s.run := by rw [State.setStrSt, State.setFld_run]
@[simp] theorem State.setStrSt_pins : (s.setStrSt k v).pins = s.pins := by rw [State.setStrSt, State.setFld_pins]
@[simp] theorem State.setStrSt_fuses : (s.setStrSt k v).fuses = s.fuses := by rw [State.setStrSt, State.setFld_fuses]
@[simp] theorem State.setStrSt_env : (s.setStrSt k v).env = s.env := by rw [State.setStrSt, State.setFld_env]
@[simp] theorem State.setStrSt_tabs : (s.setStrSt k v).tabs = s.tabs := by rw [State.setStrSt, State.setFld_tabs]
@[simp] theorem State.setStrSt_tblAddr : (s.setStrSt k v).tblAddr = s.tblAddr := by rw [State.setStrSt, State.setFld_tblAddr]
@[simp] theorem State.setStrSt_snaps : (s.setStrSt k v).snaps = s.snaps := by rw [State.setStrSt, State.setFld_snaps]
@[simp] theorem State.setStrSt_waits : (s.setStrSt k v).waits = s.waits := by rw [State.setStrSt, State.setFld_waits]
@[simp] theorem State.setStrSt_rot : (s.setStrSt k v).rot = s.rot := by rw [State.setStrSt, State.setFld_rot]
@[simp] theorem State.setStrSt_time : (s.setStrSt k v).time = s.time := by rw [State.setStrSt, State.setFld_time]
@[simp] theorem State.setStrSt_tx : (s.setStrSt k v).tx = s.tx := by rw [State.setStrSt, State.setFld_tx]
@[simp] theorem State.setStrSt_abt : (s.setStrSt k v).abt = s.abt := by rw [State.setStrSt, State.setFld_abt]
@[simp] theorem State.setStrSt_slots : (s.setStrSt k v).slots = s.slots := by rw [State.setStrSt, State.setFld_slots]
@[simp] theorem State.setStrSt_recs : (s.setStrSt k v).recs = s.recs := by rw [State.setStrSt, State.setFld_recs]
@[simp] theorem State.setStrSt_ptp : (s.setStrSt k v).ptp = s.ptp := by rw [State.setStrSt, State.setFld_ptp]
@[simp] theorem State.setStrSt_banks : (s.setStrSt k v).banks = s.banks := by rw [State.setStrSt, State.setFld_banks]
@[simp] theorem State.setStrSt_bankMem : (s.setStrSt k v).bankMem = s.bankMem := by rw [State.setStrSt, State.setFld_bankMem]
@[simp] theorem State.setStrSt_dram : (s.setStrSt k v).dram = s.dram := by rw [State.setStrSt, State.setFld_dram]
@[simp] theorem State.setStrSt_refill : (s.setStrSt k v).refill = s.refill := by rw [State.setStrSt, State.setFld_refill]
@[simp] theorem State.setStrSt_dramRun : (s.setStrSt k v).dramRun = s.dramRun := by rw [State.setStrSt, State.setFld_dramRun]
@[simp] theorem State.setStrSt_streams : (s.setStrSt k v).streams = s.streams := by rw [State.setStrSt, State.setFld_streams]
@[simp] theorem State.setStrSt_sites : (s.setStrSt k v).sites = s.sites := by rw [State.setStrSt, State.setFld_sites]
@[simp] theorem State.setStrSt_stile : (s.setStrSt k v).stile = s.stile := by rw [State.setStrSt, State.setFld_stile]
@[simp] theorem State.setStrSt_chans : (s.setStrSt k v).chans = s.chans := by rw [State.setStrSt, State.setFld_chans]
@[simp] theorem State.setStrSt_octets : (s.setStrSt k v).octets = s.octets := by rw [State.setStrSt, State.setFld_octets]
@[simp] theorem State.setStrSt_mons : (s.setStrSt k v).mons = s.mons := by rw [State.setStrSt, State.setFld_mons]
@[simp] theorem State.setStrSt_sensors : (s.setStrSt k v).sensors = s.sensors := by rw [State.setStrSt, State.setFld_sensors]
@[simp] theorem State.setStrSt_comps : (s.setStrSt k v).comps = s.comps := by rw [State.setStrSt, State.setFld_comps]
@[simp] theorem State.setStrSt_watch : (s.setStrSt k v).watch = s.watch := by rw [State.setStrSt, State.setFld_watch]
@[simp] theorem State.setStrSt_ops : (s.setStrSt k v).ops = s.ops := by rw [State.setStrSt, State.setFld_ops]
@[simp] theorem State.setStrSt_mse : (s.setStrSt k v).mse = s.mse := by rw [State.setStrSt, State.setFld_mse]
@[simp] theorem State.setStrSt_day : (s.setStrSt k v).day = s.day := by rw [State.setStrSt, State.setFld_day]
@[simp] theorem State.setStrSt_flash : (s.setStrSt k v).flash = s.flash := by rw [State.setStrSt, State.setFld_flash]
@[simp] theorem State.setStrSt_green : (s.setStrSt k v).green = s.green := by rw [State.setStrSt, State.setFld_green]
@[simp] theorem State.setStrSt_units : (s.setStrSt k v).units = s.units := by rw [State.setStrSt, State.setFld_units]
@[simp] theorem State.setStrSt_siteWr : (s.setStrSt k v).siteWr = s.siteWr := by rw [State.setStrSt, State.setFld_siteWr]
@[simp] theorem State.setStrSt_extWr : (s.setStrSt k v).extWr = s.extWr := by rw [State.setStrSt, State.setFld_extWr]
@[simp] theorem State.setStrSt_glean : (s.setStrSt k v).glean = s.glean := by rw [State.setStrSt, State.setFld_glean]
@[simp] theorem State.setStrSt_gate : (s.setStrSt k v).gate = s.gate := by rw [State.setStrSt, State.setFld_gate]
@[simp] theorem State.setStrSt_chest : (s.setStrSt k v).chest = s.chest := by rw [State.setStrSt, State.setFld_chest]
@[simp] theorem State.setStrSt_fmap : (s.setStrSt k v).fmap = s.fmap := by rw [State.setStrSt, State.setFld_fmap]
@[simp] theorem State.setStrSt_upd : (s.setStrSt k v).upd = s.upd := by rw [State.setStrSt, State.setFld_upd]
@[simp] theorem State.setStrSt_reeve : (s.setStrSt k v).reeve = s.reeve := by rw [State.setStrSt, State.setFld_reeve]
end setStrSt

section setSiteSt
variable (n v : Nat)
@[simp] theorem State.setSiteSt_pending : (s.setSiteSt n v).pending = s.pending := by rw [State.setSiteSt, State.setFld_pending]
@[simp] theorem State.setSiteSt_reply : (s.setSiteSt n v).reply = s.reply := by rw [State.setSiteSt, State.setFld_reply]
@[simp] theorem State.setSiteSt_fresh : (s.setSiteSt n v).fresh = s.fresh := by rw [State.setSiteSt, State.setFld_fresh]
@[simp] theorem State.setSiteSt_run : (s.setSiteSt n v).run = s.run := by rw [State.setSiteSt, State.setFld_run]
@[simp] theorem State.setSiteSt_pins : (s.setSiteSt n v).pins = s.pins := by rw [State.setSiteSt, State.setFld_pins]
@[simp] theorem State.setSiteSt_fuses : (s.setSiteSt n v).fuses = s.fuses := by rw [State.setSiteSt, State.setFld_fuses]
@[simp] theorem State.setSiteSt_env : (s.setSiteSt n v).env = s.env := by rw [State.setSiteSt, State.setFld_env]
@[simp] theorem State.setSiteSt_tabs : (s.setSiteSt n v).tabs = s.tabs := by rw [State.setSiteSt, State.setFld_tabs]
@[simp] theorem State.setSiteSt_tblAddr : (s.setSiteSt n v).tblAddr = s.tblAddr := by rw [State.setSiteSt, State.setFld_tblAddr]
@[simp] theorem State.setSiteSt_snaps : (s.setSiteSt n v).snaps = s.snaps := by rw [State.setSiteSt, State.setFld_snaps]
@[simp] theorem State.setSiteSt_waits : (s.setSiteSt n v).waits = s.waits := by rw [State.setSiteSt, State.setFld_waits]
@[simp] theorem State.setSiteSt_rot : (s.setSiteSt n v).rot = s.rot := by rw [State.setSiteSt, State.setFld_rot]
@[simp] theorem State.setSiteSt_time : (s.setSiteSt n v).time = s.time := by rw [State.setSiteSt, State.setFld_time]
@[simp] theorem State.setSiteSt_tx : (s.setSiteSt n v).tx = s.tx := by rw [State.setSiteSt, State.setFld_tx]
@[simp] theorem State.setSiteSt_abt : (s.setSiteSt n v).abt = s.abt := by rw [State.setSiteSt, State.setFld_abt]
@[simp] theorem State.setSiteSt_slots : (s.setSiteSt n v).slots = s.slots := by rw [State.setSiteSt, State.setFld_slots]
@[simp] theorem State.setSiteSt_recs : (s.setSiteSt n v).recs = s.recs := by rw [State.setSiteSt, State.setFld_recs]
@[simp] theorem State.setSiteSt_ptp : (s.setSiteSt n v).ptp = s.ptp := by rw [State.setSiteSt, State.setFld_ptp]
@[simp] theorem State.setSiteSt_banks : (s.setSiteSt n v).banks = s.banks := by rw [State.setSiteSt, State.setFld_banks]
@[simp] theorem State.setSiteSt_bankMem : (s.setSiteSt n v).bankMem = s.bankMem := by rw [State.setSiteSt, State.setFld_bankMem]
@[simp] theorem State.setSiteSt_dram : (s.setSiteSt n v).dram = s.dram := by rw [State.setSiteSt, State.setFld_dram]
@[simp] theorem State.setSiteSt_refill : (s.setSiteSt n v).refill = s.refill := by rw [State.setSiteSt, State.setFld_refill]
@[simp] theorem State.setSiteSt_dramRun : (s.setSiteSt n v).dramRun = s.dramRun := by rw [State.setSiteSt, State.setFld_dramRun]
@[simp] theorem State.setSiteSt_streams : (s.setSiteSt n v).streams = s.streams := by rw [State.setSiteSt, State.setFld_streams]
@[simp] theorem State.setSiteSt_sites : (s.setSiteSt n v).sites = s.sites := by rw [State.setSiteSt, State.setFld_sites]
@[simp] theorem State.setSiteSt_stile : (s.setSiteSt n v).stile = s.stile := by rw [State.setSiteSt, State.setFld_stile]
@[simp] theorem State.setSiteSt_chans : (s.setSiteSt n v).chans = s.chans := by rw [State.setSiteSt, State.setFld_chans]
@[simp] theorem State.setSiteSt_octets : (s.setSiteSt n v).octets = s.octets := by rw [State.setSiteSt, State.setFld_octets]
@[simp] theorem State.setSiteSt_mons : (s.setSiteSt n v).mons = s.mons := by rw [State.setSiteSt, State.setFld_mons]
@[simp] theorem State.setSiteSt_sensors : (s.setSiteSt n v).sensors = s.sensors := by rw [State.setSiteSt, State.setFld_sensors]
@[simp] theorem State.setSiteSt_comps : (s.setSiteSt n v).comps = s.comps := by rw [State.setSiteSt, State.setFld_comps]
@[simp] theorem State.setSiteSt_watch : (s.setSiteSt n v).watch = s.watch := by rw [State.setSiteSt, State.setFld_watch]
@[simp] theorem State.setSiteSt_ops : (s.setSiteSt n v).ops = s.ops := by rw [State.setSiteSt, State.setFld_ops]
@[simp] theorem State.setSiteSt_mse : (s.setSiteSt n v).mse = s.mse := by rw [State.setSiteSt, State.setFld_mse]
@[simp] theorem State.setSiteSt_day : (s.setSiteSt n v).day = s.day := by rw [State.setSiteSt, State.setFld_day]
@[simp] theorem State.setSiteSt_flash : (s.setSiteSt n v).flash = s.flash := by rw [State.setSiteSt, State.setFld_flash]
@[simp] theorem State.setSiteSt_green : (s.setSiteSt n v).green = s.green := by rw [State.setSiteSt, State.setFld_green]
@[simp] theorem State.setSiteSt_units : (s.setSiteSt n v).units = s.units := by rw [State.setSiteSt, State.setFld_units]
@[simp] theorem State.setSiteSt_siteWr : (s.setSiteSt n v).siteWr = s.siteWr := by rw [State.setSiteSt, State.setFld_siteWr]
@[simp] theorem State.setSiteSt_extWr : (s.setSiteSt n v).extWr = s.extWr := by rw [State.setSiteSt, State.setFld_extWr]
@[simp] theorem State.setSiteSt_glean : (s.setSiteSt n v).glean = s.glean := by rw [State.setSiteSt, State.setFld_glean]
@[simp] theorem State.setSiteSt_gate : (s.setSiteSt n v).gate = s.gate := by rw [State.setSiteSt, State.setFld_gate]
@[simp] theorem State.setSiteSt_chest : (s.setSiteSt n v).chest = s.chest := by rw [State.setSiteSt, State.setFld_chest]
@[simp] theorem State.setSiteSt_fmap : (s.setSiteSt n v).fmap = s.fmap := by rw [State.setSiteSt, State.setFld_fmap]
@[simp] theorem State.setSiteSt_upd : (s.setSiteSt n v).upd = s.upd := by rw [State.setSiteSt, State.setFld_upd]
@[simp] theorem State.setSiteSt_reeve : (s.setSiteSt n v).reeve = s.reeve := by rw [State.setSiteSt, State.setFld_reeve]
end setSiteSt

section raiseN
variable (p c d : Nat)
@[simp] theorem State.raiseN_pending : (s.raiseN p c d).pending = s.pending := rfl
@[simp] theorem State.raiseN_reply : (s.raiseN p c d).reply = s.reply := rfl
@[simp] theorem State.raiseN_fresh : (s.raiseN p c d).fresh = s.fresh := rfl
@[simp] theorem State.raiseN_run : (s.raiseN p c d).run = s.run := rfl
@[simp] theorem State.raiseN_pins : (s.raiseN p c d).pins = s.pins := rfl
@[simp] theorem State.raiseN_fuses : (s.raiseN p c d).fuses = s.fuses := rfl
@[simp] theorem State.raiseN_env : (s.raiseN p c d).env = s.env := rfl
@[simp] theorem State.raiseN_regs : (s.raiseN p c d).regs = s.regs := rfl
@[simp] theorem State.raiseN_tabs : (s.raiseN p c d).tabs = s.tabs := rfl
@[simp] theorem State.raiseN_tblAddr : (s.raiseN p c d).tblAddr = s.tblAddr := rfl
@[simp] theorem State.raiseN_snaps : (s.raiseN p c d).snaps = s.snaps := rfl
@[simp] theorem State.raiseN_waits : (s.raiseN p c d).waits = s.waits := rfl
@[simp] theorem State.raiseN_rot : (s.raiseN p c d).rot = s.rot := rfl
@[simp] theorem State.raiseN_time : (s.raiseN p c d).time = s.time := rfl
@[simp] theorem State.raiseN_tx : (s.raiseN p c d).tx = s.tx := rfl
@[simp] theorem State.raiseN_abt : (s.raiseN p c d).abt = s.abt := rfl
@[simp] theorem State.raiseN_slots : (s.raiseN p c d).slots = s.slots := rfl
@[simp] theorem State.raiseN_recs : (s.raiseN p c d).recs = s.recs := rfl
@[simp] theorem State.raiseN_ptp : (s.raiseN p c d).ptp = s.ptp := rfl
@[simp] theorem State.raiseN_banks : (s.raiseN p c d).banks = s.banks := rfl
@[simp] theorem State.raiseN_bankMem : (s.raiseN p c d).bankMem = s.bankMem := rfl
@[simp] theorem State.raiseN_dram : (s.raiseN p c d).dram = s.dram := rfl
@[simp] theorem State.raiseN_refill : (s.raiseN p c d).refill = s.refill := rfl
@[simp] theorem State.raiseN_dramRun : (s.raiseN p c d).dramRun = s.dramRun := rfl
@[simp] theorem State.raiseN_streams : (s.raiseN p c d).streams = s.streams := rfl
@[simp] theorem State.raiseN_sites : (s.raiseN p c d).sites = s.sites := rfl
@[simp] theorem State.raiseN_stile : (s.raiseN p c d).stile = s.stile := rfl
@[simp] theorem State.raiseN_chans : (s.raiseN p c d).chans = s.chans := rfl
@[simp] theorem State.raiseN_octets : (s.raiseN p c d).octets = s.octets := rfl
@[simp] theorem State.raiseN_mons : (s.raiseN p c d).mons = s.mons := rfl
@[simp] theorem State.raiseN_sensors : (s.raiseN p c d).sensors = s.sensors := rfl
@[simp] theorem State.raiseN_comps : (s.raiseN p c d).comps = s.comps := rfl
@[simp] theorem State.raiseN_ops : (s.raiseN p c d).ops = s.ops := rfl
@[simp] theorem State.raiseN_mse : (s.raiseN p c d).mse = s.mse := rfl
@[simp] theorem State.raiseN_day : (s.raiseN p c d).day = s.day := rfl
@[simp] theorem State.raiseN_flash : (s.raiseN p c d).flash = s.flash := rfl
@[simp] theorem State.raiseN_green : (s.raiseN p c d).green = s.green := rfl
@[simp] theorem State.raiseN_units : (s.raiseN p c d).units = s.units := rfl
@[simp] theorem State.raiseN_siteWr : (s.raiseN p c d).siteWr = s.siteWr := rfl
@[simp] theorem State.raiseN_extWr : (s.raiseN p c d).extWr = s.extWr := rfl
@[simp] theorem State.raiseN_glean : (s.raiseN p c d).glean = s.glean := rfl
@[simp] theorem State.raiseN_gate : (s.raiseN p c d).gate = s.gate := rfl
@[simp] theorem State.raiseN_chest : (s.raiseN p c d).chest = s.chest := rfl
@[simp] theorem State.raiseN_fmap : (s.raiseN p c d).fmap = s.fmap := rfl
@[simp] theorem State.raiseN_upd : (s.raiseN p c d).upd = s.upd := rfl
@[simp] theorem State.raiseN_reeve : (s.raiseN p c d).reeve = s.reeve := rfl
end raiseN

section raiseH
variable (p c d : Nat)
@[simp] theorem State.raiseH_pending : (s.raiseH p c d).pending = s.pending := rfl
@[simp] theorem State.raiseH_reply : (s.raiseH p c d).reply = s.reply := rfl
@[simp] theorem State.raiseH_fresh : (s.raiseH p c d).fresh = s.fresh := rfl
@[simp] theorem State.raiseH_run : (s.raiseH p c d).run = s.run := rfl
@[simp] theorem State.raiseH_pins : (s.raiseH p c d).pins = s.pins := rfl
@[simp] theorem State.raiseH_fuses : (s.raiseH p c d).fuses = s.fuses := rfl
@[simp] theorem State.raiseH_env : (s.raiseH p c d).env = s.env := rfl
@[simp] theorem State.raiseH_regs : (s.raiseH p c d).regs = s.regs := rfl
@[simp] theorem State.raiseH_tabs : (s.raiseH p c d).tabs = s.tabs := rfl
@[simp] theorem State.raiseH_tblAddr : (s.raiseH p c d).tblAddr = s.tblAddr := rfl
@[simp] theorem State.raiseH_snaps : (s.raiseH p c d).snaps = s.snaps := rfl
@[simp] theorem State.raiseH_waits : (s.raiseH p c d).waits = s.waits := rfl
@[simp] theorem State.raiseH_rot : (s.raiseH p c d).rot = s.rot := rfl
@[simp] theorem State.raiseH_time : (s.raiseH p c d).time = s.time := rfl
@[simp] theorem State.raiseH_tx : (s.raiseH p c d).tx = s.tx := rfl
@[simp] theorem State.raiseH_abt : (s.raiseH p c d).abt = s.abt := rfl
@[simp] theorem State.raiseH_slots : (s.raiseH p c d).slots = s.slots := rfl
@[simp] theorem State.raiseH_recs : (s.raiseH p c d).recs = s.recs := rfl
@[simp] theorem State.raiseH_ptp : (s.raiseH p c d).ptp = s.ptp := rfl
@[simp] theorem State.raiseH_banks : (s.raiseH p c d).banks = s.banks := rfl
@[simp] theorem State.raiseH_bankMem : (s.raiseH p c d).bankMem = s.bankMem := rfl
@[simp] theorem State.raiseH_dram : (s.raiseH p c d).dram = s.dram := rfl
@[simp] theorem State.raiseH_refill : (s.raiseH p c d).refill = s.refill := rfl
@[simp] theorem State.raiseH_dramRun : (s.raiseH p c d).dramRun = s.dramRun := rfl
@[simp] theorem State.raiseH_streams : (s.raiseH p c d).streams = s.streams := rfl
@[simp] theorem State.raiseH_sites : (s.raiseH p c d).sites = s.sites := rfl
@[simp] theorem State.raiseH_stile : (s.raiseH p c d).stile = s.stile := rfl
@[simp] theorem State.raiseH_chans : (s.raiseH p c d).chans = s.chans := rfl
@[simp] theorem State.raiseH_octets : (s.raiseH p c d).octets = s.octets := rfl
@[simp] theorem State.raiseH_mons : (s.raiseH p c d).mons = s.mons := rfl
@[simp] theorem State.raiseH_sensors : (s.raiseH p c d).sensors = s.sensors := rfl
@[simp] theorem State.raiseH_comps : (s.raiseH p c d).comps = s.comps := rfl
@[simp] theorem State.raiseH_ops : (s.raiseH p c d).ops = s.ops := rfl
@[simp] theorem State.raiseH_mse : (s.raiseH p c d).mse = s.mse := rfl
@[simp] theorem State.raiseH_day : (s.raiseH p c d).day = s.day := rfl
@[simp] theorem State.raiseH_flash : (s.raiseH p c d).flash = s.flash := rfl
@[simp] theorem State.raiseH_green : (s.raiseH p c d).green = s.green := rfl
@[simp] theorem State.raiseH_units : (s.raiseH p c d).units = s.units := rfl
@[simp] theorem State.raiseH_siteWr : (s.raiseH p c d).siteWr = s.siteWr := rfl
@[simp] theorem State.raiseH_extWr : (s.raiseH p c d).extWr = s.extWr := rfl
@[simp] theorem State.raiseH_glean : (s.raiseH p c d).glean = s.glean := rfl
@[simp] theorem State.raiseH_gate : (s.raiseH p c d).gate = s.gate := rfl
@[simp] theorem State.raiseH_chest : (s.raiseH p c d).chest = s.chest := rfl
@[simp] theorem State.raiseH_fmap : (s.raiseH p c d).fmap = s.fmap := rfl
@[simp] theorem State.raiseH_upd : (s.raiseH p c d).upd = s.upd := rfl
@[simp] theorem State.raiseH_reeve : (s.raiseH p c d).reeve = s.reeve := rfl
end raiseH

section raiseD
variable (p c : Nat) (u : FUnit) (d : Nat)
@[simp] theorem State.raiseD_pending : (s.raiseD p c u d).pending = s.pending := rfl
@[simp] theorem State.raiseD_reply : (s.raiseD p c u d).reply = s.reply := rfl
@[simp] theorem State.raiseD_fresh : (s.raiseD p c u d).fresh = s.fresh := rfl
@[simp] theorem State.raiseD_run : (s.raiseD p c u d).run = s.run := rfl
@[simp] theorem State.raiseD_pins : (s.raiseD p c u d).pins = s.pins := rfl
@[simp] theorem State.raiseD_fuses : (s.raiseD p c u d).fuses = s.fuses := rfl
@[simp] theorem State.raiseD_env : (s.raiseD p c u d).env = s.env := rfl
@[simp] theorem State.raiseD_regs : (s.raiseD p c u d).regs = s.regs := rfl
@[simp] theorem State.raiseD_tabs : (s.raiseD p c u d).tabs = s.tabs := rfl
@[simp] theorem State.raiseD_tblAddr : (s.raiseD p c u d).tblAddr = s.tblAddr := rfl
@[simp] theorem State.raiseD_snaps : (s.raiseD p c u d).snaps = s.snaps := rfl
@[simp] theorem State.raiseD_waits : (s.raiseD p c u d).waits = s.waits := rfl
@[simp] theorem State.raiseD_rot : (s.raiseD p c u d).rot = s.rot := rfl
@[simp] theorem State.raiseD_time : (s.raiseD p c u d).time = s.time := rfl
@[simp] theorem State.raiseD_tx : (s.raiseD p c u d).tx = s.tx := rfl
@[simp] theorem State.raiseD_abt : (s.raiseD p c u d).abt = s.abt := rfl
@[simp] theorem State.raiseD_slots : (s.raiseD p c u d).slots = s.slots := rfl
@[simp] theorem State.raiseD_recs : (s.raiseD p c u d).recs = s.recs := rfl
@[simp] theorem State.raiseD_ptp : (s.raiseD p c u d).ptp = s.ptp := rfl
@[simp] theorem State.raiseD_banks : (s.raiseD p c u d).banks = s.banks := rfl
@[simp] theorem State.raiseD_bankMem : (s.raiseD p c u d).bankMem = s.bankMem := rfl
@[simp] theorem State.raiseD_dram : (s.raiseD p c u d).dram = s.dram := rfl
@[simp] theorem State.raiseD_refill : (s.raiseD p c u d).refill = s.refill := rfl
@[simp] theorem State.raiseD_dramRun : (s.raiseD p c u d).dramRun = s.dramRun := rfl
@[simp] theorem State.raiseD_streams : (s.raiseD p c u d).streams = s.streams := rfl
@[simp] theorem State.raiseD_sites : (s.raiseD p c u d).sites = s.sites := rfl
@[simp] theorem State.raiseD_stile : (s.raiseD p c u d).stile = s.stile := rfl
@[simp] theorem State.raiseD_chans : (s.raiseD p c u d).chans = s.chans := rfl
@[simp] theorem State.raiseD_octets : (s.raiseD p c u d).octets = s.octets := rfl
@[simp] theorem State.raiseD_mons : (s.raiseD p c u d).mons = s.mons := rfl
@[simp] theorem State.raiseD_sensors : (s.raiseD p c u d).sensors = s.sensors := rfl
@[simp] theorem State.raiseD_comps : (s.raiseD p c u d).comps = s.comps := rfl
@[simp] theorem State.raiseD_ops : (s.raiseD p c u d).ops = s.ops := rfl
@[simp] theorem State.raiseD_mse : (s.raiseD p c u d).mse = s.mse := rfl
@[simp] theorem State.raiseD_day : (s.raiseD p c u d).day = s.day := rfl
@[simp] theorem State.raiseD_flash : (s.raiseD p c u d).flash = s.flash := rfl
@[simp] theorem State.raiseD_green : (s.raiseD p c u d).green = s.green := rfl
@[simp] theorem State.raiseD_units : (s.raiseD p c u d).units = s.units := rfl
@[simp] theorem State.raiseD_siteWr : (s.raiseD p c u d).siteWr = s.siteWr := rfl
@[simp] theorem State.raiseD_extWr : (s.raiseD p c u d).extWr = s.extWr := rfl
@[simp] theorem State.raiseD_glean : (s.raiseD p c u d).glean = s.glean := rfl
@[simp] theorem State.raiseD_gate : (s.raiseD p c u d).gate = s.gate := rfl
@[simp] theorem State.raiseD_chest : (s.raiseD p c u d).chest = s.chest := rfl
@[simp] theorem State.raiseD_fmap : (s.raiseD p c u d).fmap = s.fmap := rfl
@[simp] theorem State.raiseD_upd : (s.raiseD p c u d).upd = s.upd := rfl
@[simp] theorem State.raiseD_reeve : (s.raiseD p c u d).reeve = s.reeve := rfl
end raiseD

@[simp] theorem State.ok_reply (d : List Word) : (s.ok d).reply = ⟨0, d⟩ := rfl
@[simp] theorem State.err_reply (e : Err) : (s.err e).reply = ⟨e.code, []⟩ := rfl
@[simp] theorem State.raise_watch (r : Raised) : (s.raise r).watch = { s.watch with raised := s.watch.raised ++ [r] } := rfl
@[simp] theorem State.ticks_edge (n : Nat) : (s.ticks n).time.edge = s.time.edge + n := rfl
@[simp] theorem State.ticks_base (n : Nat) : (s.ticks n).time.base = (s.time.base + 625 * n) % 2 ^ 64 := rfl

end Sys2Proof.Machine
end

