-- ==== Sys2Proof/WellFormed.lean ====
section
/-!
DEFINITION. Well-formed commands: the operands a constructor's types leave too wide, held to the widths and ranges the
spec gives them (R4, R15, R94, R96, R105, R126, R286, R312, R348, R358). An ill-formed command spells nothing that can
arrive; the machine is total on it all the same.
-/
namespace Sys2Proof

/-- The operand checks of a command. -/
def wellFormed (i : Instr) : Bool :=
  match i with
  | .porstReset _ => true
  | .coldStart _ => true
  | .pwrwarn _ _ => true
  | .pwrwarnRise _ => true
  | .gLatchClear => true
  | .tapLoad _ _ _ => true
  | .registerWrite _ addr _ => decide (addr < 2 ^ 20)
  | .snapshotRead _ addr => decide (addr < 2 ^ 20)
  | .tblDataAccess _ page _ => decide (page < 2 ^ 12)
  | .pgLockOpen _ page => decide (page < 2 ^ 12)
  | .pgLockClose _ page => decide (page < 2 ^ 12)
  | .pgErrClr _ page => decide (page < 2 ^ 12)
  | .hedgeReq _ page => decide (page < 2 ^ 12)
  | .pgForce _ page _ => decide (page < 2 ^ 12)
  | .pgInj _ page _ => decide (page < 2 ^ 12)
  | .warmStart _ _ => true
  | .recover _ => true
  | .recoveryComplete => true
  | .enterTest _ => true
  | .leaveTest _ _ => true
  | .chipnoWrite _ _ => true
  | .frameReceive _ frame => decide (frame.len < 2 ^ 16)
  | .arpRequest _ ip _ _ => decide (ip < 2 ^ 32)
  | .icmpEchoRequest _ _ _ ident seqn _ => decide (ident < 2 ^ 16) && decide (seqn < 2 ^ 16)
  | .abtRequestFrame _ dg => decide (dg.srcIp < 2 ^ 32) && decide (dg.dstIp < 2 ^ 32) && decide (dg.srcPort < 2 ^ 16) &&
      decide (dg.dstPort < 2 ^ 16) && decide (dg.sum < 2 ^ 16) && decide (dg.srcMac < 2 ^ 48)
  | .heldFrameExecute _ grp => decide (grp ≤ 16)
  | .gapTimeout _ grp => decide (grp ≤ 16)
  | .sourceExpiry _ => true
  | .abtReplySend _ grp => decide (grp ≤ 16)
  | .read _ addr n => decide (addr < 2 ^ 20) && decide (1 ≤ n)
  | .write _ addr data _ => decide (addr < 2 ^ 20) && decide (data ≠ [])
  | .mwrite _ addr _ _ _ => decide (addr < 2 ^ 20)
  | .bulkRead _ desc => decide (desc.n < 2 ^ 12) && decide (desc.addr < 2 ^ 48) && decide (desc.space < 16)
  | .bulkWrite _ desc data _ => decide (desc.n = data.length) && decide (desc.n < 2 ^ 12) && decide (desc.addr < 2 ^ 48) && decide (desc.space < 16)
  | .bulkWriteComplete => true
  | .fence _ _ _ => true
  | .fenceComplete => true
  | .time _ sfd => decide (sfd < 2 ^ 64)
  | .subscribeOpen _ _ _ _ _ => true
  | .subscribeClose _ _ => true
  | .subscribeAck _ _ _ => true
  | .streamFrameSend _ => true
  | .streamResendTimeout _ => true
  | .linkUp _ => true
  | .linkdown _ _ _ => true
  | .hiber _ => true
  | .linkIpWrite _ _ _ _ => true
  | .retrain _ _ _ => true
  | .linkClrcnt _ _ => true
  | .forget _ => true
  | .abtClrcnt _ => true
  | .ptpSyncReceive sync => decide (sync.head.domain < 256)
  | .ptpFollowUpReceive _ _ _ => true
  | .ptpDelayRespReceive _ _ _ _ => true
  | .ptpAnnounceReceive ann => decide (ann.head.domain < 256) && decide (ann.gmid < 2 ^ 64)
  | .ptpDelayReqSend => true
  | .ptpDelayReqReceive _ _ => true
  | .ptpSyncSend => true
  | .ptpAnnounceSend => true
  | .ptplost => true
  | .ptpOfsWrite _ _ _ _ => true
  | .pps => true
  | .bankAccess _ reqs _ => reqs.all (fun r => r.cls < 8 && r.row < 21846)
  | .retest _ _ => true
  | .storeClrcnt _ => true
  | .regionTableWrite _ index _ => decide (index < 128)
  | .dramTrack _ => true
  | .dramRefresh _ _ => true
  | .dramRetrain _ _ => true
  | .dramClrcnt _ => true
  | .refillWindowFetch => true
  | .refillWindowComplete _ _ _ _ _ => true
  | .refillClrcnt _ => true
  | .snapall _ _ => true
  | .conflClear _ => true
  | .vec _ path => decide (path < 2 ^ 16)
  | .rpt _ path => decide (path < 2 ^ 16)
  | .run _ path => decide (path < 2 ^ 16)
  | .loop _ path => decide (path < 2 ^ 16)
  | .endl _ path => decide (path < 2 ^ 16)
  | .match_ _ path => decide (path < 2 ^ 16)
  | .endm _ path => decide (path < 2 ^ 16)
  | .seg _ path => decide (path < 2 ^ 16)
  | .jseg _ path => decide (path < 2 ^ 16)
  | .call _ path => decide (path < 2 ^ 16)
  | .ret _ path => decide (path < 2 ^ 16)
  | .tsw _ path => decide (path < 2 ^ 16)
  | .subp _ path => decide (path < 2 ^ 16)
  | .pauseBegin _ path => decide (path < 2 ^ 16)
  | .pauseEnd _ path => decide (path < 2 ^ 16)
  | .align _ path => decide (path < 2 ^ 16)
  | .halt _ path => decide (path < 2 ^ 16)
  | .nop _ path => decide (path < 2 ^ 16)
  | .invalidWord _ _ => true
  | .execArm _ _ _ _ => true
  | .execJump _ _ => true
  | .execStop _ _ => true
  | .execReset _ _ => true
  | .execRelease _ _ => true
  | .commandStileExit => true
  | .streamPrimed _ => true
  | .streamStart _ => true
  | .firstCycleStart _ => true
  | .vectorCommit _ pins _ => pins.all PinIn.ordered
  | .matchDecision _ => true
  | .holdResume _ => true
  | .streamDrainComplete _ => true
  | .segmentRecordClose _ => true
  | .siteAssign _ _ _ => true
  | .siteUnassign _ _ => true
  | .streamClrcnt _ _ => true
  | .slipSnap _ => true
  | .clrmax _ => true
  | .timingSetWrite _ _ index data => decide (index < 2048) && decide (data ≠ [])
  | .pllUnlock _ => true
  | .bellPulse width => decide (1 ≤ width)
  | .bellRegistration => true
  | .genBell _ => true
  | .genEpoch _ => true
  | .belloGenerate => true
  | .send _ _ => true
  | .listen _ _ => true
  | .skewSendEdge => true
  | .skewTrgWrite _ _ => true
  | .trgReceive _ _ => true
  | .levelTableWrite _ _ index data => decide (index < 128) && decide (data ≠ [])
  | .load _ _ => true
  | .conv _ _ _ => true
  | .loadStrobe _ _ => true
  | .spanSequenceStep _ _ => true
  | .convResult _ _ _ => true
  | .toneSample _ _ => true
  | .pmuClamp _ _ _ => true
  | .octpePinWrite _ _ _ _ => true
  | .railOn _ _ _ => true
  | .railOff _ _ => true
  | .railRampEnd _ _ => true
  | .operationSubmit _ tag _ => decide (tag < 4096)
  | .operationDispatch _ => true
  | .microNext tag _ => decide (tag < 3072)
  | .microCall tag _ => decide (tag < 3072)
  | .microRet tag _ => decide (tag < 3072)
  | .microBr tag _ => decide (tag < 3072)
  | .microLoop tag _ => decide (tag < 3072)
  | .microWait tag _ => decide (tag < 3072)
  | .microEnd tag _ => decide (tag < 3072)
  | .microDispatch tag _ => decide (tag < 3072)
  | .settleTimerExpiry tag => decide (tag < 3072)
  | .sampleRunDone tag samples => decide (tag < 3072) && decide (samples ≠ [])
  | .adcWaitTimeout tag => decide (tag < 3072)
  | .mseAck _ _ => true
  | .mseAbort _ _ => true
  | .mseClrcnt _ => true
  | .switch _ => true
  | .acqArm _ unit => decide (unit < 68)
  | .acqDisarm _ unit => decide (unit < 68)
  | .windowOpen unit => decide (unit < 68)
  | .windowClose unit => decide (unit < 68)
  | .captureSample unit inp => decide (unit < 68) && inp.edges.all (fun e => decide (e.fine < 1024))
  | .pendingGapWrite unit => decide (unit < 192)
  | .spill unit => decide (unit < 192)
  | .xlenWrite _ _ _ => true
  | .acqgClrcnt _ => true
  | .greenEvent _ => true
  | .delayLineFire _ => true
  | .watchIn _ => true
  | .greenSw _ _ => true
  | .greenTableWrite _ tsel index data => decide (tsel < 16) && decide (index < 2 ^ 19) && decide (data ≠ [])
  | .greenPar _ => true
  | .clrflg _ => true
  | .greenClrcnt _ => true
  | .monitorSample mon _ _ => decide (mon < 592)
  | .monitorSelfCheck mon _ _ _ => decide (mon < 592)
  | .guardClrcnt _ => true
  | .siteHedge _ => true
  | .hedgeConfirm _ _ => true
  | .sensorReading temps _ => decide (temps.length = 16)
  | .revalid _ _ => true
  | .faultLatch => true
  | .watchClear _ _ => true
  | .watchClrcnt _ => true
  | .full _ => true
  | .fullCalibrationComplete _ => true
  | .tdr _ _ rtt => decide (rtt.length = 8)
  | .store _ => true
  | .storeComplete _ => true
  | .borrowing _ _ _ => true
  | .gleanTaskComplete _ => true
  | .gleanAbort => true
  | .daybookProgram _ => true
  | .sealTimer => true
  | .dbSeal _ => true
  | .dbCompact _ => true
  | .compactionComplete _ => true
  | .dbAreaWrite _ _ => true
  | .daybookFormatComplete _ => true
  | .journalStat _ => true
  | .journalRead _ _ _ _ => true
  | .journalCompact _ => true
  | .reeveWdog => true
  | .reeveRamError _ => true
  | .go _ => true
  | .sermTransferDone _ => true
  | .sermTmo => true
  | .sermClrcnt _ => true
  | .flashWindowOperation op _ => op.ok
  | .selforce op _ => op.ok
  | .gateFrame _ _ _ => true
  | .gateNop => true
  | .gateRead _ _ => true
  | .gateWrite _ _ => true
  | .ident => true
  | .gateStatus => true
  | .gateClrcnt _ => true
  | .advance _ target => decide (target < 8)
  | .progMkey _ => true
  | .chestSeal _ _ => true
  | .chestAutoSeal _ => true
  | .wipe _ => true
  | .tamper cause => decide (1 ≤ cause) && decide (cause ≤ 4)
  | .updateBegin _ kind _ => decide (kind < 16)
  | .updateData _ _ _ _ => true
  | .updateFinish _ _ => true
  | .updateAbort _ => true
  | .updateStatus _ => true
  | .updateSave _ => true
  | .updateIdleTimeout => true
  | .updCmdAbort _ => true
  | .reeveSave _ => true
  | .reeveClrcnt _ => true
  | .pwrwarnNRiseInCold _ => true
  | .wipeComplete => true
  | .lifecycleChangeComplete _ => true
  | .firmwareReloadComplete _ => true

end Sys2Proof
end

