-- ==== Sys2Proof/Tests/Slice0.lean ====
section
/-!
SUPPORT. Tests: an ill-formed command for each check of WellFormed, commands on small states against the spec's own
numbers, and for each statement of Certificates/Slice0/Obligations.lean states and operands that meet its hypotheses, clause
by clause.
-/
namespace Sys2Proof.Tests

set_option Elab.async false
open Sys2Proof Sys2Proof.Machine

/-! ### Small states -/

/-- The device in a run state, everything else as after reset. -/
def at_ (r : RunState) : State := { State.reset with run := { st := r } }

/-- READY. -/
def rdy : State := at_ .ready

/-- With registers set: page, offset, word. -/
def regs (s : State) (l : List (Nat × Nat × Word)) : State := l.foldl (fun s x => s.setReg x.1 x.2.1 x.2.2) s

/-- With table words set: page, table, index, word. -/
def tabs (s : State) (l : List (Nat × Nat × Nat × Word)) : State := l.foldl (fun s x => s.setTab x.1 x.2.1 x.2.2.1 x.2.2.2) s

/-- The next state of a command, the state after reset where there is none. -/
def nx (c : Instr) (s : State) : State :=
  match exec c s with
  | .next t => t
  | _ => State.reset

/-- An origin of ABT commands. -/
def org : Org := { ini := 0, src := 1, grp := 16, num := 5 }

/-! ### WellFormed refuses -/

/-- Is every command of a list ill formed? -/
def illFormed (l : List Instr) : Bool := l.all (fun c => !wellFormed c)

/-- Addresses beyond 20 bits, pages beyond 12 (R4). -/
theorem test_ill_formed_addresses : illFormed [.registerWrite 0 (2 ^ 20) 0, .snapshotRead 0 (2 ^ 20), .tblDataAccess 0 4096 none,
    .pgLockOpen 0 4096, .pgLockClose 0 4096, .pgErrClr 0 4096, .hedgeReq 0 4096, .pgForce 0 4096 0, .pgInj 0 4096 0,
    .read org (2 ^ 20) 1, .read org 0 0, .write org (2 ^ 20) [0] none, .write org 0 [] none,
    .mwrite org (2 ^ 20) 0 0 none] = true := by decide +kernel

/-- Frames, addresses and messages wider than their fields (R88, R94, R96, R105). -/
theorem test_ill_formed_frames : illFormed [.frameReceive 0 ⟨true, 2 ^ 16, false, 0, 0, none, 0, 0⟩, .arpRequest 0 (2 ^ 32) 0 0,
    .icmpEchoRequest 0 0 0 (2 ^ 16) 0 [], .icmpEchoRequest 0 0 0 0 (2 ^ 16) [], .abtRequestFrame 0 ⟨2 ^ 48, 0, 0, 0, 0, 0, []⟩,
    .abtRequestFrame 0 ⟨0, 2 ^ 32, 0, 0, 0, 0, []⟩, .abtRequestFrame 0 ⟨0, 0, 2 ^ 32, 0, 0, 0, []⟩,
    .abtRequestFrame 0 ⟨0, 0, 0, 2 ^ 16, 0, 0, []⟩, .abtRequestFrame 0 ⟨0, 0, 0, 0, 2 ^ 16, 0, []⟩,
    .abtRequestFrame 0 ⟨0, 0, 0, 0, 0, 2 ^ 16, []⟩, .heldFrameExecute 0 17, .gapTimeout 0 17,
    .abtReplySend 0 17, .time org (2 ^ 64), .ptpSyncReceive ⟨⟨0, true, 256, false, 0⟩, false, 0, 0, 0⟩,
    .ptpAnnounceReceive ⟨⟨0, true, 256, false, 0⟩, 0, 0, 0, 0, 0, 0, 0⟩,
    .ptpAnnounceReceive ⟨⟨0, true, 0, false, 0⟩, 0, 0, 0, 0, 0, 2 ^ 64, 0⟩] = true := by decide +kernel

/-- Bulk transfers whose descriptor and data disagree or exceed the descriptor's fields (Table 4.4). -/
theorem test_ill_formed_bulk : illFormed [.bulkRead org ⟨2, 0, 0, 0, 4096⟩, .bulkRead org ⟨2, 0, 0, 2 ^ 48, 1⟩,
    .bulkRead org ⟨16, 0, 0, 0, 1⟩, .bulkWrite org ⟨2, 0, 0, 0, 2⟩ [0] none, .bulkWrite org ⟨2, 0, 0, 2 ^ 48, 1⟩ [0] none,
    .bulkWrite org ⟨16, 0, 0, 0, 1⟩ [0] none] = true ∧
    wellFormed (.bulkWrite org ⟨2, 0, 0, 0, 4096⟩ (List.replicate 4096 0) none) = false := by decide +kernel

/-- Bank requests, tables, paths and pins out of range (R126, R195, R229, R258). -/
theorem test_ill_formed_pattern : illFormed [.bankAccess 0 [⟨8, 0, 0, none⟩] .none, .bankAccess 0 [⟨0, 0, 21846, none⟩] .none,
    .regionTableWrite 0 128 0, .vec 0 (2 ^ 16), .rpt 0 (2 ^ 16), .run 0 (2 ^ 16), .loop 0 (2 ^ 16), .endl 0 (2 ^ 16),
    .match_ 0 (2 ^ 16), .endm 0 (2 ^ 16), .seg 0 (2 ^ 16), .jseg 0 (2 ^ 16), .call 0 (2 ^ 16), .ret 0 (2 ^ 16), .tsw 0 (2 ^ 16),
    .subp 0 (2 ^ 16), .pauseBegin 0 (2 ^ 16), .pauseEnd 0 (2 ^ 16), .align 0 (2 ^ 16), .halt 0 (2 ^ 16), .nop 0 (2 ^ 16),
    .vectorCommit 0 [⟨[(5, 0), (5, 1)]⟩] [], .timingSetWrite 0 0 2048 [0], .timingSetWrite 0 0 0 [], .bellPulse 0,
    .levelTableWrite 0 0 128 [0], .levelTableWrite 0 0 0 []] = true := by decide +kernel

/-- Tags, units, monitors, causes and table places out of range (R286, R312, R348, R358). -/
theorem test_ill_formed_units : illFormed [.operationSubmit 0 4096 0, .microNext 3072 ⟨true, 0⟩, .microCall 3072 ⟨true, 0⟩,
    .microRet 3072 ⟨true, 0⟩, .microBr 3072 ⟨true, 0⟩, .microLoop 3072 ⟨true, 0⟩, .microWait 3072 ⟨true, 0⟩,
    .microEnd 3072 ⟨true, 0⟩, .microDispatch 3072 ⟨true, 0⟩, .settleTimerExpiry 3072, .sampleRunDone 3072 [0],
    .sampleRunDone 0 [], .adcWaitTimeout 3072, .acqArm 0 68, .acqDisarm 0 68, .windowOpen 68, .windowClose 68,
    .captureSample 68 {}, .captureSample 0 ⟨[], [⟨0, 0, 1024, 0⟩]⟩, .pendingGapWrite 192, .spill 192, .greenTableWrite 0 16 0 [0], .greenTableWrite 0 0 (2 ^ 19) [0],
    .greenTableWrite 0 0 0 [], .monitorSample 592 0 true, .monitorSelfCheck 592 0 0 true, .sensorReading [] [],
    .tdr 0 0 [], .flashWindowOperation (.read (2 ^ 32) 1) true,
    .flashWindowOperation (.program 0 [0]) true, .selforce (.program 255 [0, 0, 0]) true, .selforce (.erase (2 ^ 32) true) true, .advance 0 8,
    .tamper 0, .tamper 5, .updateBegin org 16 0] = true := by decide +kernel

/-! ### Hypotheses of the statements: queue, accesses, header registers -/

theorem hyp_StepExecutesTheFrontCommand :
    ({ State.reset with pending := [.gateNop, .ident] } : State).pending = .gateNop :: [.ident] := by decide

theorem hyp_IdleStepIsOneTimingCycle : (State.reset.pending = [] ∧ State.reset.bitR pTBASE TBASE_STAT 23 = false) ∧
    (let s := regs rdy [(pTBASE, TBASE_STAT, 0x800000)]; s.pending = [] ∧ s.bitR pTBASE TBASE_STAT 23 = true) := by
  decide +kernel

theorem hyp_StepKeepsMemoriesCanonical :
    (nx (.daybookProgram true) State.reset).memWf = true ∧ step State.reset = .next (idle State.reset) := ⟨by decide +kernel, rfl⟩

theorem hyp_StepKeepsRegistersCanonical : State.reset.regsWf = true ∧ step State.reset = .next (idle State.reset) :=
  ⟨by decide +kernel, rfl⟩

theorem hyp_StepTakesExactlyTheFrontCommand :
    ({ State.reset with pending := [.porstReset 0] } : State).pending = .porstReset 0 :: [] := by decide

/-- In COLD, in DEAD on a page that is implemented, and on a page that is not, before and after a first record. -/
theorem hyp_RejectedWriteOnlyRecordsItself :
    State.reset.gate_ 0 (0 / 256 % 4096) true = some .state ∧
    ((at_ .dead).gate_ 3 ((pTOP * 256) / 256 % 4096) true = some .state ∧ (at_ .dead).run.st ≠ .cold ∧
      (kindOf ((pTOP * 256) / 256 % 4096)).isSome = true) ∧
    (rdy.gate_ 0 (0xFFFFF / 256 % 4096) true = none ∧ kindOf (0xFFFFF / 256 % 4096) = none ∧ rdy.run.st ≠ .cold ∧
      rdy.bitR pTOP TOP_BADPG 23 = false) ∧
    (regs rdy [(pTOP, TOP_BADPG, 0x800000)]).bitR pTOP TOP_BADPG 23 = true := by decide +kernel

/-- The words of a snapshot that initiator 0 holds of TBASE_EPOCH. -/
def snapped : State := { rdy with snaps := [{ ini := 0, page := pTBASE, place := 0, base := TBASE_EPOCH0, words := [1, 2, 3] }] }

theorem hyp_RegisterReadsCaptureAndReleaseSnapshots :
    rdy.gate_ 0 pTOP false = none ∧ rdy.gate_ 3 pTBASE false = none ∧ kindOf pTOP = some .top ∧ kindOf pTBASE = some .tbase ∧
    (regInfo .top TOP_CHIPNO).map (·.n) = some 1 ∧
    (regInfo .tbase TBASE_EPOCH0).map (fun r => (r.n, r.base)) = some (3, TBASE_EPOCH0) ∧
    (regInfo .tbase (TBASE_EPOCH0 + 2)).map (fun r => (r.n, r.base)) = some (3, TBASE_EPOCH0) ∧
    TBASE_EPOCH0 + 2 ≤ lastOff .tbase ∧ TOP_CHIPNO ≤ lastOff .top ∧
    (snapped.snaps.find? (fun x => x.ini == 0 && x.page == pTBASE && x.place == 0 && x.base == TBASE_EPOCH0)).isSome = true ∧
    rdy.snaps.find? (fun x => x.ini == 0 && x.page == pTBASE && x.place == 0 && x.base == TBASE_EPOCH0) = none := by
  decide +kernel

/-- A window on the Watchhouse's table, at word 28. -/
def windowed (a : Word) : State := { rdy with tblAddr := [(pWATCH, a)] }

/-- The first and the last command of the Watchhouse's table, with INDEX advancing and held. -/
theorem hyp_AcceptedAccessesActAsTheirRegisters :
    rdy.day.active = false ∧ ¬ (rdy.run.st = .start ∧ rdy.run.warm = true ∧ rdy.run.step ≤ 7) ∧
    rdy.gate_ 0 pSTORE true = none ∧ rdy.gate_ 2 pTOP true = none ∧ rdy.gate_ 0 pWATCH true = none ∧
    (windowed 0x100000).window 0 pWATCH = (1, false, 0) ∧ (windowed 0x18001C).window 0 pWATCH = (1, true, 28) ∧
    (windowed 0x18001C).gate_ 0 pWATCH false = none ∧ fld (0xC00000 : Word) 21 0 = 0 := by decide +kernel

theorem hyp_HeaderRegistersHedgeAndForce :
    (rdy.gate_ 0 (pSTREAM 0) true = none ∧ kindOf (pSTREAM 0) = some .stream ∧ rdy.bitR (pSTREAM 0) PG_LOCK 0 = false ∧
      rdy.run.st = .ready) ∧
    (let s := regs rdy [((pSTREAM 0), PG_LOCK, 13)]
     s.bitR (pSTREAM 0) PG_LOCK 0 = true ∧ s.fldR (pSTREAM 0) PG_LOCK 3 2 = 3) ∧
    (rdy.gate_ 0 (pSITE 63) true = none ∧ rdy.bitR (pSITE 63) PG_CTL 22 = false ∧ rdy.bitR (pSTREAM 3) PG_CTL 22 = false) ∧
    (let s := at_ .test; s.gate_ 0 (pLINK 1) true = none ∧ s.run.st = .test ∧ s.bitR (pLINK 1) PG_FORCE 1 = false) ∧
    (regs (at_ .test) [(pLINK 1, PG_FORCE, 2)]).bitR (pLINK 1) PG_FORCE 1 = true ∧
    (let s := regs rdy [(pTBASE, TBASE_STAT, 0x800000)]
     s.gate_ 0 pTBASE true = none ∧ kindOf pTBASE = some .tbase ∧ s.locked = true ∧
       bit (s.reg pTBASE PG_INJ ||| (1 &&& injMask .tbase)) 0 = true ∧ bit (s.reg pTBASE PG_INJ ||| (2 &&& injMask .tbase)) 0 = false) := by
  decide +kernel

theorem hyp_ClearAndCopyCommandsActOnTheirCounters :
    ([pLINK 0, pLINK 1, pABT, pDRAM, pSTREAM 3, pSLIP, pMSE, pACQG, pWATCH, pREEVE, pSERM, pGATE, pSTORE, pREFILL, pGUARD,
      pCONFL, pGREEN].all (fun p => (rdy.gate_ 1 p true).isNone)) = true := by decide +kernel

/-! ### Hypotheses: power, run states, starts -/

theorem hyp_ResetBoundaryScanAndLossOfLock :
    (rdy.locked = false) ∧
    (let s := regs (at_ .run) [(pTBASE, TBASE_STAT, 0x800000)]; s.locked = true ∧ s.glean.borrow = none) ∧
    ({ borrow := some (.chan 511 .tone none) } : Glean).borrow = some (.chan 511 .tone none) := by decide +kernel

theorem hyp_PowerWarningRaisesClassHAndSeals :
    (at_ .dead).run.st = .dead ∧ (at_ .start).run.st = .start ∧
    (rdy.run.st ≠ .cold ∧ rdy.run.st ≠ .dead ∧ rdy.run.st ≠ .start ∧ rdy.watch.raised = [] ∧
      rdy.fldR pTOP PG_FLT 23 21 = 0) ∧
    ({ rdy with day := { mode := .on } } : State).day.active = true := by decide +kernel

/-- Surroundings in which nothing fails a start. -/
def fairEnv : StartEnv :=
  { badBanks := [], pll := true, temps := [], romOk := true, romSum := 0, fwOk := true, fwOtherOk := true, patchOk := true,
    flashOk := true, calOk := List.range 64, fullBad := [], chestOk := true, linkA := true, linkB := true, warnAt := none,
    dram := { fitted0 := true, fitted1 := true, dens0 := 5, dens1 := 5, ranks0 := 2, ranks1 := 2, best0 := some 2, best1 := some 0 } }

theorem hyp_StartsBeginAsTheirCauseSays :
    (State.reset.pins.porstN = false ∧ State.reset.pins.pwrwarnN = true) ∧
    ({ State.reset.pins with pwrwarnN := false } : Pins).porstN = false ∧
    (({ State.reset with run := { st := .start, waiting := true } } : State).run.waiting = true) ∧
    (({ State.reset with pins := { porstN := true } } : State).run.st = .cold) ∧
    (¬ (rdy.run.st = .start ∧ rdy.run.waiting = true) ∧ ¬ (rdy.run.st = .cold ∧ rdy.pins.porstN = true)) ∧
    (rdy.gate_ 0 pTOP true = none ∧ rdy.run.st = .ready ∧ rdy.romOnly = false) ∧
    ((at_ .halted).gate_ 3 pTOP true = none ∧ (at_ .halted).romOnly = false) ∧
    ((at_ .test).gate_ 0 pTOP true = none ∧ (at_ .test).run.st = .test) ∧
    (fairEnv.dram.dens0 = fairEnv.dram.dens1 ∧ fairEnv.dram.dens0 ≤ 5 ∧ fairEnv.dram.ranks0 = fairEnv.dram.ranks1 ∧
      fairEnv.dram.best0.isSome = true ∧ fairEnv.dram.best1.isSome = true ∧ State.reset.fuses.ok = true ∧
      State.reset.pins.gLatch = false) ∧
    (∀ r ∈ [RunState.halted, .ready, .test],
      let s : State := { State.reset with run := { st := r, replayed := true } }
      s.gate_ 0 pTOP true = none ∧ s.watch.raised = [] ∧ s.run.replayed = true) := by decide +kernel

theorem hyp_RecoveryAndTestChangeTheRunState :
    (let s := tabs (regs (at_ .halted) [(pWATCH, WATCH_STAT, 0x400000)]) [(pWATCH, 0, 12, 0x6000C0)]
     s.gate_ 0 pTOP true = none ∧ s.run.st = .halted ∧ s.run.inStart = false ∧ s.romOnly = false ∧ s.recoverable = true) ∧
    (rdy.gate_ 0 pTOP true = none ∧ rdy.run.st = .ready) ∧ (at_ .recovery).run.st = .recovery ∧ rdy.run.st ≠ .recovery := by
  decide +kernel

/-! ### Hypotheses: Ethernet and ABT -/

/-- READY with port A up. -/
def linked : State := regs rdy [(pLINK 0, LINK_STAT, 0x400000)]

theorem hyp_PortsAndAddressesChange :
    (rdy.run.st ≠ .cold ∧ rdy.bitR (pLINK 0) LINK_STAT 22 = false) ∧ linked.bitR (pLINK 0) LINK_STAT 22 = true ∧
    linked.gate_ 0 (pLINK 0) true = none ∧
    (linked.day.active = false ∧ ¬ (linked.run.st = .start ∧ linked.run.warm = true ∧ linked.run.step ≤ 7)) ∧
    badIp 0xC0A80001 = false ∧ badIp 0xE0000000 = true ∧ badIp 0 = true ∧ badIp 0xFFFFFFFF = true := by decide +kernel

theorem hyp_FramesAreCountedAndAnswered :
    rdy.bitR (pLINK 0) LINK_STAT 22 = false ∧ (linked.bitR (pLINK 0) LINK_STAT 22 = true ∧ linked.bitR (pLINK 0) PG_INJ 0 = false) ∧
    (List.replicate 1472 (0 : Byte)).length + 28 ≤ (if linked.bitR (pLINK 0) LINK_CFG 19 = true then 9000 else 1500) ∧
    1 ≠ linked.ipOf 0 := by decide +kernel

/-- A datagram of the bytes and their CRC-32C. -/
def crcd (b : List Byte) : List Byte := b ++ beBytes 4 (crc32c b)

/-- A unicast SYNC frame to chip 0 with number 7 and one TIME command (R94, R96). -/
def timeFrame : List Byte := crcd [0x10, 0x40, 0x00, 0x00, 0x00, 0x07, 0x01, 0x00, 0x09, 0x00, 0x00, 0x00]

/-- A datagram for port A's ABT port with a payload. -/
def datagram (b : List Byte) : Datagram :=
  { srcMac := 9, srcIp := 7, dstIp := rdy.ipOf 0, srcPort := 5000, dstPort := rdy.fldR pABT ABT_PORT 15 0, sum := 0, payload := b }

/-- The frame of `timeFrame` as it stands in a space. -/
def held : AbtFrame := { seq := 7, mc := false, port := 0, count := 1, rest := [{ op := 9, cflags := 0, words := [] }] }

/-- A source of one space. -/
def source (sp : Space) : Source := { id := 4, port := 0, ip := 1, udp := 2, macA := some 3, spaces := [sp] }

/-- The device with one source. -/
def heard (sp : Space) : State := { linked with abt := { linked.abt with sources := [source sp], nextId := 5 } }

/-- A frame for the port and one that is not; a short one, one with a wrong CRC, one for another chip, and a whole one. -/
theorem hyp_RequestFramesExecuteInOrder :
    ((linked.portUp 0 = true ∧ linked.run.st ≠ .cold ∧ rdy.portUp 0 = false) ∧
      (datagram timeFrame).dstIp = linked.ipOf 0 ∧ (datagram timeFrame).dstPort = linked.fldR pABT ABT_PORT 15 0 ∧
      (datagram timeFrame).sum = 0 ∧ ({ datagram timeFrame with dstPort := 0 } : Datagram).dstPort ≠ linked.fldR pABT ABT_PORT 15 0) ∧
    ([] : List Byte).length < 12 ∧
    ¬ (crc32c (timeFrame.tail.take 11) = beNat (timeFrame.tail.drop 11)) ∧
    (let b := timeFrame
     let h := abtHead b
     12 ≤ b.length ∧ crc32c (b.take (b.length - 4)) = beNat (b.drop (b.length - 4)) ∧ linked.bitR pABT PG_INJ 0 = false ∧
       h.mc = false ∧ h.sync = true ∧ h.target = linked.abt.chip ∧ abtParse h b = some held.rest ∧ (∀ c ∈ held.rest, c.op ≠ 6) ∧
       linked.sourceOf 0 7 5000 = none ∧ linked.sourcesOn 0 < 8 ∧ linked.frameLimit 0 b.length held.rest = false ∧
       (∀ x ∈ linked.abt.sources, x.id < linked.abt.nextId)) ∧
    (abtHead (crcd [0x10, 0x40, 0x03, 0xFF, 0, 0, 1, 0, 9, 0, 0, 0])).target ≠ linked.abt.chip := by decide +kernel

/-- A frame held for its turn, and one held for a later one. -/
theorem hyp_RequestFramesExecuteInOrder_2 :
    (let sp : Space := { grp := 16, next := 7, held := [held] }
     (heard sp).source 4 = some (source sp) ∧ (source sp).space 16 = some sp ∧ sp.exec = [] ∧
       sp.held.find? (fun g => g.seq == sp.next) = some held ∧ held.stale = false ∧ ∀ c ∈ held.rest, c.op ≠ 6) ∧
    (let sp : Space := { grp := 16, next := 6, held := [held] }
     (heard sp).source 4 = some (source sp) ∧ (source sp).space 16 = some sp ∧ ∀ g ∈ sp.held, g.seq ≠ sp.next) ∧
    (let sp : Space := { grp := 16, next := 7, held := [held], exec := [held] }
     (heard sp).source 4 = some (source sp) ∧ (source sp).space 16 = some sp ∧ ∃ g ∈ sp.exec, g.stale = false) := by
  decide +kernel

/-- A space whose oldest frame is answered, after which a chip number takes effect. -/
def answered (l : List Settle) : Space := { grp := 16, next := 8, ready := [{ held with rest := [], settles := l }] }

theorem hyp_SpacesAndSourcesAreAnsweredAndForgotten :
    (∀ l ∈ [[], [Settle.chip 1023]],
     let s := heard (answered l)
     s.source 4 = some (source (answered l)) ∧ (source (answered l)).space 16 = some (answered l) ∧
       (answered l).ready = { held with rest := [], settles := l } :: [] ∧ held.port = (0 : Port).val ∧
       (source (answered l)).macA = some 3 ∧ (source (answered l)).port ≠ 2 ∧ s.portUp 0 = true) ∧
    (let sp : Space := { grp := 16, next := 6, held := [held] }
     (heard sp).source 4 = some (source sp) ∧ (source sp).space 16 = some sp ∧ sp.held = held :: []) ∧
    (heard (answered [])).source 5 = none ∧ (rdy.gate_ 1 pABT true = none ∧ rdy.gate_ 3 pABT true = none) := by
  decide +kernel

theorem hyp_AbtReadsAndWritesAreAccesses :
    2 ^ 20 ≤ 2 ^ 20 ∧ 2 ^ 20 - 1 < 2 ^ 20 ∧ 256 < (List.replicate 257 (0 : Word)).length ∧ rdy.run.st ≠ .dead ∧
    (∀ p ∈ [pSTORE, pTBASE], ∃ k ∈ [Kind.store, .tbase], kindOf (p * 256 / 256 % 4096) = some k ∧
      rdy.gate_ 0 (p * 256 / 256 % 4096) true = none ∧ rdy.writesStaged 0 (p * 256 / 256 % 4096) k 0 256 = false ∧
      1 ≠ rdy.reg (p * 256 / 256 % 4096) PG_SEQ ∧ rdy.gate_ 0 (p * 256 / 256 % 4096) false = none ∧ p * 256 % 256 + 10 ≤ 10) ∧
    (rdy.gate_ org.ini pSTORE true = none ∧ rdy.day.active = false) ∧ rdy.hostGate org.ini = none := by decide +kernel

/-- READY with 64 words of external memory and region 15 of one bank word. -/
def memory : State := tabs (regs rdy [(pDRAM, DRAM_SIZE0, 64)]) [(pSTORE, 0, 120, 0x000080), (pSTORE, 0, 127, 0x800001)]

/-- A bulk write of one word to external memory, posted. -/
def post : Post := { org := org, kind := .bulk { space := 2, page := 0, tsel := 0, addr := 63, n := 1 } [7] }

/-- The same to the last word of the region. -/
def regionPost : Post := { org := org, kind := .bulk { space := 1, page := 0, tsel := 0, addr := 15 * 2 ^ 24 + 3, n := 1 } [7] }

/-- Commands posted. -/
def posted (l : List Post) : State := { memory with abt := { memory.abt with posts := l } }

theorem hyp_BulkTransfersMoveTheirWords :
    (memory.hostGate org.ini = none ∧ 1 ≤ memory.bulkMax (orgPort org) ∧ memory.dramSize = 64 ∧ 63 + 1 ≤ memory.dramSize ∧
      memory.dramSize < 64 + 1 ∧ memory.meetsImage 63 1 = false ∧ memory.gate_ org.ini pCONFL false = none ∧ 127 + 1 ≤ 128) ∧
    ((posted [post]).abt.posts = post :: [] ∧ [(7 : Word)].length = 1) ∧
    (memory.regionEn 15 = true ∧ 3 + 1 ≤ 4 * memory.regionSize 15 ∧ memory.mayWriteRegion 15 = true ∧
      (posted [regionPost]).abt.posts = regionPost :: [] ∧ memory.regionWord 15 0 = some (7, 0) ∧ (memory.bank 7).fenced = false) := by
  decide +kernel

/-- A command that failed after it was posted. -/
def failure : PostFail := { src := 1, grp := 16, num := 3, code := 10 }

/-- With the failure kept. -/
def failed : State := { rdy with abt := { rdy.abt with fails := [failure] } }

/-- A frame in execution that waits at its FENCE with a TIME behind it, and the wait. -/
def fenced : Space := { grp := 16, next := 9, exec := [{ held with results := [], count := 2 }] }

/-- The wait of that FENCE, of a source. -/
def wait (src : Nat) : FenceWait :=
  { org := { org with src := src, num := 7 }, wantDone := true, wantSeal := false, lastRec := 0 }

/-- The device with that source, and a FENCE of a source that waits. -/
def waiting (src : Nat) (l : List Post) : State := { heard fenced with abt := { (heard fenced).abt with fences := [wait src], posts := l } }

theorem hyp_FencesAnswerWhenTheirConditionsHold :
    (rdy.hostGate org.ini = none ∧ rdy.abt.posts = [] ∧ rdy.day.mode ≠ .on ∧ rdy.abt.fails = [] ∧
      rdy.abt.fails.find? (fun f => f.src == org.src && f.grp == org.grp) = none) ∧
    (failed.abt.fails.find? (fun f => f.src == org.src && f.grp == org.grp)) = some failure ∧
    (posted [post]).abt.posts = [post] ∧
    ((waiting 5 []).abt.fences = wait 5 :: [] ∧ (waiting 5 []).fenceHolds (wait 5) = true ∧ (waiting 5 []).source (wait 5).org.src = none) ∧
    (let s := waiting 4 []
     s.fenceHolds (wait 4) = true ∧ s.source (wait 4).org.src = some (source fenced) ∧
       (source fenced).space (wait 4).org.grp = some fenced ∧
       fenced.exec.find? (fun g => (g.seq + g.results.length) % 65536 == (wait 4).org.num) = some { held with count := 2 } ∧
       ({ held with count := 2 } : AbtFrame).rest = { op := 9, cflags := 0, words := [] } :: []) ∧
    (∀ w ∈ (waiting 1 [post]).abt.fences, (waiting 1 [post]).fenceHolds w = false) := by decide +kernel

/-! ### Hypotheses: result streaming and PTP -/

/-- Slot 15 open for event records with one frame sent. -/
def slotted (sent : Option (Nat × Nat)) (next resends : Nat) : State :=
  { linked with
    slots := [(15, { isOpen := true, kind := 2, dip := 1, dport := 2, macA := some 3, next := next, window := 1, resends := resends })]
    recs := [{ kind := 2, unit := 1, words := [1, 2], sent := sent }] }

/-- OPEN of a closed slot; CLOSE and ACK of an open one, of its frame and of one it has not sent. -/
theorem hyp_SubscriptionsAndStreamFrames :
    (rdy.hostGate org.ini = none ∧ fld (0x0F3000 : Word) 19 16 = 15 ∧ (rdy.slot 15).isOpen = false ∧
      fld (0x0F3000 : Word) 21 20 = 0 ∧ fld (0x0F3000 : Word) 11 0 = 0 ∧ fld (0x0F3000 : Word) 15 12 ≤ 3 ∧
      fld (0x00FFFF : Word) 23 16 = 0 ∧ fld (0x000001 : Word) 23 8 = 0 ∧ fld (0x000001 : Word) 7 0 ≠ 0) ∧
    (heard (answered [])).source 4 = some (source (answered [])) ∧
    (let s := slotted (some (15, 0)) 1 0
     let far (x : Nat) : Nat := (x + 65536 - (s.slot 15).oldest) % 65536
     s.hostGate org.ini = none ∧ (s.slot 15).isOpen = true ∧ fld (0x0F0000 : Word) 19 16 = 15 ∧ fld (0x0F0000 : Word) 21 20 = 0 ∧
       fld (0x0F0000 : Word) 15 0 = 0 ∧ fld (0x000001 : Word) 23 16 = 0 ∧ far (s.slot 15).next ≤ far (fld (0x000001 : Word) 15 0) ∧
       far (fld (0x000000 : Word) 15 0) < far (s.slot 15).next ∧ (∀ r ∈ s.recs, r.kind = 2) ∧ s.recs.Nodup) ∧
    (let r : Rec := { kind := 0, unit := 3071, words := [1], sent := some (15, 0) }
     let s : State := { slotted (some (15, 0)) 1 0 with recs := [r], ops := [(3071, { st := .done })] }
     s.recs = [r] ∧ r.kind = 0 ∧ (s.op r.unit).st = .done) := by decide +kernel

/-- A record to send, one to send again, and one whose resends are used up; a stalled slot. -/
theorem hyp_SubscriptionsAndStreamFrames_2 :
    (let s := slotted none 0 0
     let r : Rec := { kind := 2, unit := 1, words := [1, 2] }
     s.bitR (pLINK 0) LINK_STAT 22 = true ∧ s.bitR (pLINK 1) LINK_STAT 22 = false ∧ s.fldR pABT ABT_CFG 23 22 = 0 ∧
       (s.slot 15).isOpen = true ∧ (s.slot 15).stall = false ∧ (s.slot 15).macA = some 3 ∧ (s.slot 15).oldest < 65536 ∧ s.recs = [r] ∧
       (s.slot 15).next = (s.slot 15).oldest ∧ 1 ≤ (s.slot 15).window ∧ r.sent = none ∧ s.slotFor r = some 15 ∧ r.words.length ≤ 400) ∧
    (let s := slotted (some (15, 0)) 1 0
     (s.slot 15).next = (s.slot 15).oldest + 1 ∧ (s.slot 15).next < 65536 ∧ (s.slot 15).resends < s.fldR pABT ABT_CFG 5 2) ∧
    (let s := slotted (some (15, 0)) 1 8
     s.fldR pABT ABT_CFG 5 2 ≤ (s.slot 15).resends) ∧ ({ stall := true } : Slot).stall = true := by decide +kernel

/-- PTP on port A in a port state, locked or not, with bits of PTP_CFG. -/
def ptp (state : Nat) (locked : Bool) (cfg : Word) : State :=
  regs linked [(pPTP, PTP_CFG, 0x800000 ||| cfg), (pPTP, PTP_STAT, word (state * 2 ^ 20 + locked.toNat * 2 ^ 19))]

/-- A message that the port takes. -/
def head (seqn : Nat) : PtpHead := { port := 0, sumOk := true, domain := 0, unicast := false, seqn := seqn }

/-- A master's Announce. -/
def announce : PtpAnnounce := { head := head 0, prio1 := 1, clockClass := 6, accuracy := 0x20, variance := 0, prio2 := 1,
                                gmid := 5, steps := 254 }

/-- What a port keeps of a better and of a worse master: the best, whether the port's own clock wins, whether it is passive. -/
def stands (s : State) (b : PtpAnnounce) : Bool × Bool :=
  let master := s.bitR pPTP PTP_CFG 22 && before s.ptpOwn (annRank b)
  (master, s.bitR pPTP PTP_CFG 22 && !master && decide (s.fldR pPTP PTP_CFG2 15 8 < 128))

theorem hyp_PtpExchangesAndMessages :
    (rdy.ptpHears (head 0) = false) ∧ ((ptp 8 false 0).ptpSlave = true ∧ (ptp 8 false 0).ptpHears (head 0) = true) ∧
    (let s : State := { ptp 9 true 0 with ptp := { waitSync := some (1, 1000, 0), dreq := some (2, 500), sync := some 300, good := 15 } }
     s.ptpSlave = true ∧ s.ptpHears (head 1) = true ∧ s.ptp.waitSync = some ((head 1).seqn, 1000, 0) ∧
       s.ptp.dreq = some ((head 2).seqn, 500) ∧ s.ptp.sync = some 300 ∧
       (0 : Int) ≤ (300 + (((700 : Nat) : Int) - 0 - ((500 : Nat) : Int))) / 2) ∧
    (let s := ptp 4 false 0
     s.ptpHears announce.head = true ∧ announce.steps < 255 ∧ announce.gmid ≠ s.clockId ∧ announce.gmid < 2 ^ 64 ∧
       s.ptp.best = none ∧ s.bitR pPTP PTP_CFG 22 = false ∧ s.ptpSlave = false) ∧
    (let s := ptp 4 false 0x400800
     let t := regs s [(pPTP, PTP_CFG2, 0x000600)]
     let worse : PtpAnnounce := { announce with prio1 := 255 }
     stands s worse = (true, false) ∧ stands t announce = (false, true) ∧ stands s announce = (false, false)) ∧
    (let s := ptp 4 false 0x400800
     s.ptpState = 4 ∧ s.bitR pPTP PTP_CFG 22 = true ∧ s.portUp s.ptpPort = true) ∧
    ((ptp 6 false 0).portUp (ptp 6 false 0).ptpPort = true ∧ (ptp 6 false 0).ptpState = 6 ∧ (ptp 6 false 0).ptpHears (head 0) = true) ∧
    (ptp 9 true 0).bitR pPTP PTP_STAT 19 = true ∧ (rdy.gate_ 0 pPTP true = none ∧ rdy.ptpSlave = false ∧ rdy.day.active = false) := by
  decide +kernel
/-! ### Hypotheses: the pattern store -/

/-- A read and a write request at row 21845. -/
def request (cls : Nat) (wr : Option (BitVec 96)) : BankReq := { cls := cls, who := 0, row := 21845, wr := wr }

theorem hyp_BankDecisionsServeTheHighestClass :
    ((request 7 none).cls < 8 ∧ (request 7 none).row < 21846 ∧ (rdy.bank 127).waiting = [] ∧ (rdy.bank 127).fixes = [] ∧
      127 ≠ rdy.fldR pSTORE STORE_INJSEL 6 0 ∧ rdy.reg pSTORE PG_INJ = 0 ∧ (rdy.bank 127).fenced = false) ∧
    (rdy.tab pCONFL 0 (8 * (127 / 8) + 7) ≠ 0xFFFFFE ∧ rdy.tab pCONFL 0 (8 * (127 / 8) + 7) ≠ 0xFFFFFF ∧
      (rdy.bank 127).run < 15 ∧ (request 6 none).cls < (request 7 none).cls) ∧
    (let s : State := { rdy with banks := [(127, { run := 15 })] }
     15 ≤ (s.bank 127).run ∧ 3 ≤ (request 3 none).cls ∧ (request 2 none).cls < 3) ∧
    (({ rdy with banks := [(127, { fenced := true })] } : State).bank 127).fenced = true ∧
    (let v : Bank := { fixes := [request 7 none] }
     v.fenced = false ∧ v.waiting = [] ∧ v.fixes = [request 7 none]) := by decide +kernel

theorem hyp_BanksRegionsAndMemoryAreMaintained :
    (let s : State := { rdy with banks := [(0, { fenced := true })] }
     s.gate_ 0 pSTORE true = none ∧ s.run.st = .ready ∧ (s.bank (s.fldR pSTORE STORE_INJSEL 6 0)).fenced = true) ∧
    (let s := regs rdy [(pSTORE, PG_LOCK, 1)]
     s.lockMine pSTORE 0 = true ∧ s.regionEn 15 = false ∧ s.day.active = false) ∧
    (tabs rdy [(pSTORE, 0, 8 * 15 + 7, 0x800000)]).regionEn 15 = true := by decide +kernel

/-- Both channels fitted and training at best rate 2. -/
def dram : DramEnv := { fitted0 := true, fitted1 := true, dens0 := 5, dens1 := 5, ranks0 := 2, ranks1 := 2, best0 := some 2, best1 := some 0 }

/-- Stream 3 RUNNING with an image of 4,096 words and a window ring. -/
def runs3 : State := tabs (regs (at_ .run) [(pSTREAM 3, STREAM_STAT, word (sRUNNING * 2 ^ 21))])
  [(pREFILL, 0, 26, 4096), (pSTORE, 0, 56, 0x000001), (pSTORE, 0, 63, 0x800200)]

/-- A write of external memory by the host that waits for the memory controller. -/
def hostPost : Post := { org := org, kind := .bulk { space := 2, page := 0, tsel := 0, addr := 63, n := 1 } [7] }

theorem hyp_ExternalMemoryTrainsAndRefills :
    (rdy.gate_ 0 pDRAM true = none ∧ rdy.run.st = .ready ∧ dram.fitted0 = true ∧ dram.fitted1 = true ∧ dram.dens0 ≤ 5 ∧
      dram.dens1 = dram.dens0 ∧ dram.ranks0 ≤ 2 ∧ dram.ranks1 = dram.ranks0 ∧ dram.best0 = some 2 ∧ dram.best1 = some 0) ∧
    ({ dram with best1 := none } : DramEnv).best1 = none ∧ rdy.anyBusy = false ∧ (rdy.rfl_ 3).fetching = none ∧
    ((∀ j < 4, (runs3.rfl_ j).fetching = none) ∧ (∀ j < 4, j ≠ 3 → runs3.strBusy j = false) ∧ runs3.strBusy 3 = true ∧
      runs3.strSt 3 ≠ sDRAINING ∧ (runs3.stream 3).exp.ended = false ∧ (runs3.stream 3).alts = [] ∧
      (runs3.stream 3).exp.run = none ∧ (runs3.rfl_ 3).resident = [] ∧ 1 ≤ runs3.ring 3 ∧
      (runs3.stream 3).exp.pc < runs3.imageLen 3 ∧ runs3.dramRun < 15) ∧
    (let s : State := { runs3 with dramRun := 15, abt := { runs3.abt with posts := [hostPost] } }
     15 ≤ s.dramRun ∧ hostPost ∈ s.abt.posts) := by decide +kernel

/-- A window that is fetched: its write meets sound banks, or a fenced one. -/
theorem hyp_ExternalMemoryTrainsAndRefills_2 :
    let s : State := { runs3 with refill := [(3, { fetching := some (1, 0) })] }
    let t : State := { s with banks := [(0, { fenced := true })] }
    (s.rfl_ 3).fetching = some (1, 0) ∧ (s.writeRegionRun 7 0 [1]).1 = true ∧ (t.writeRegionRun 7 0 [1]).1 = false := by
  decide +kernel

/-! ### Hypotheses: the pattern language -/

/-- Stream 0 RUNNING with a resident window that starts with the words `ws`, and its expander at `e`. -/
def prog (ws : List Word) (e : Exp) : State :=
  { tabs (regs (at_ .run) [(pSTREAM 0, STREAM_STAT, word (sRUNNING * 2 ^ 21))])
      [(pREFILL, 0, 2, 4096), (pSTORE, 0, 32, 1), (pSTORE, 0, 39, 0x800200)] with
    refill := [(0, { resident := [(0, 0)] })]
    streams := [(0, { exp := e })]
    bankMem := (List.range ws.length).foldl (fun m i => m.put zeroDefault i (ws.getD i 0)) [] }

/-- The expander of stream 0 faces the word at its address, whatever the fetch leaves. -/
abbrev Faced (ws : List Word) (e : Exp) : Prop :=
  let s := prog ws e
  ((s.stream 0).path 0 = some (e, []) ∧ (s.stream 0).room 0 ≠ 0 ∧ sARMED ≤ s.strSt 0 ∧ s.strSt 0 ≤ sHOLDING ∧ e.ended = false) ∧
    e.rptLeft = 0 ∧ e.run = none ∧ e.pin = none ∧ (s.fetchFor 0 e e.pc false).1.toOption = some (ws.getD e.pc 0)

/-- Does it? -/
def faced (ws : List Word) (e : Exp) : Bool := decide (Faced ws e)

theorem faces_of_faced {ws : List Word} {e : Exp} (hd : faced ws e = true) :
    (prog ws e).faces 0 0 e [] (ws.getD e.pc 0) ((prog ws e).fetchFor 0 e e.pc false).2 := by
  have h : Faced ws e := of_decide_eq_true hd
  have hp : ∀ f, e.pin = some f → f.again = true ∨ e.pc < f.start + 21845 := by simp [h.2.2.2.1]
  have hf := h.2.2.2.2
  refine ⟨h.1, h.2.1, h.2.2.1, ?_, hp⟩
  cases hc : (prog ws e).fetchFor 0 e e.pc false with
  | mk r u => cases r <;> simp_all [Except.toOption]

/-- The data words that follow the instruction at the expander's address. -/
def dataOf (ws : List Word) (e : Exp) (n : Nat) : Option (List Word) :=
  let s := prog ws e
  match (((s.fetchFor 0 e e.pc false).2.fetchData 0 e (e.pc + 1) n).1 : Except ExpErr (List Word)) with
  | .ok ds => some ds
  | .error _ => none

/-- The two data words that follow it, fetched one after the other. -/
def dataThen (ws : List Word) (e : Exp) : Option (List Word × List Word) :=
  let s := prog ws e
  let (r, v) := (s.fetchFor 0 e e.pc false).2.fetchData 0 e (e.pc + 1) 1
  match (r : Except ExpErr (List Word)), (v.fetchData 0 e (e.pc + 2) 1).1 with
  | .ok l, .ok d => some (l, d)
  | _, _ => none

/-- In a segment of one vector, after it. -/
def inSeg : Exp := { inSeg := true, hasVec := true, segVecs := 1, raw := List.replicate 8 0, res := List.replicate 8 0, pos := 1 }

theorem hyp_OnlyTheWordAtTheFetchAddressExecutes :
    faced [0x480000] inSeg = true ∧ (.vec 0 0, 0x01) ∈ patternRows 0 0 ∧ fld (0x480000 : Word) 23 18 ≠ 0x01 ∧
    fld (0x480000 : Word) 23 18 ≤ 0x12 ∧ inSeg.jumped = none ∧ faced [0x000001] inSeg = true ∧ fld (0x000001 : Word) 23 18 = 0 ∧
    faced [0x4C0000] inSeg = true ∧ 0x12 < fld (0x4C0000 : Word) 23 18 ∧
    (match ((prog [] { inSeg with pc := 2048 }).fetchFor 0 { inSeg with pc := 2048 } 2048 false).1 with
      | .error .waits => true
      | _ => false) = true := by decide +kernel

/-- An open loop or match loop that starts at word 0. -/
def frameAt (isMatch : Bool) (left vecs : Nat) : LoopFrame :=
  { isMatch := isMatch, addr := 0, start := 1, left := left, calls := 0, vecs := vecs, strobed := isMatch }

/-- Each control instruction, at the limits of its conditions. -/
theorem hyp_ControlInstructionsMoveTheirPath :
    (inSeg.jumped = none ∧ inSeg.inSeg = true ∧ inSeg.loops.head? = none) ∧
    (faced [0x480000] inSeg = true ∧ fld (0x480000 : Word) 23 18 = 0x12) ∧
    (faced [0x33E001] inSeg = true ∧ fld (0x33E001 : Word) 23 18 = 0x0C ∧ fld (0x33E001 : Word) 12 8 = 0 ∧
      fld (0x33E001 : Word) 7 0 ≠ 0 ∧ fld (0x33E001 : Word) 7 0 < 2 ^ (prog [] inSeg).width 0) ∧
    (let e : Exp := { inSeg with pc := 3, loops := [frameAt true 1 1] }
     faced [0, 0, 0, 0x1C0000] e = true ∧ fld (0x1C0000 : Word) 23 18 = 0x07 ∧ fld (0x1C0000 : Word) 17 0 = 0 ∧
       e.loops = frameAt true 1 1 :: [] ∧ (frameAt true 1 1).isMatch = true ∧ (frameAt true 1 1).vecs ≠ 0 ∧
       (frameAt true 1 1).strobed = true) ∧
    (let e : Exp := { inSeg with loops := List.replicate 3 (frameAt false 1 1) }
     faced [0x130001] e = true ∧ fld (0x130001 : Word) 23 18 = 0x04 ∧ fld (0x130001 : Word) 16 0 ≠ 0 ∧ e.loops.length < 4 ∧
       bit (0x130001 : Word) 17 = true ∧ e.pin = none ∧ (e.loops.head?.map (·.isMatch)) = some false ∧
       faced [0x1BFFFF] e = true ∧ fld (0x1BFFFF : Word) 23 18 = 0x06 ∧ fld (0x1BFFFF : Word) 17 0 ≠ 0) ∧
    (let e (l : Nat) : Exp := { inSeg with pc := 3, loops := [frameAt false l 1] }
     faced [0, 0, 0, 0x140000] (e 2) = true ∧ fld (0x140000 : Word) 23 18 = 0x05 ∧ fld (0x140000 : Word) 17 0 = 0 ∧
       (frameAt false 2 1).calls = (e 2).calls.length ∧ (frameAt false 2 1).vecs ≠ 0 ∧ (e 2).pause = none ∧
       1 < (frameAt false 2 1).left ∧ faced [0, 0, 0, 0x140000] (e 1) = true ∧ (frameAt false 1 1).left ≤ 1) := by
  decide +kernel

/-- Those that use the window's data or the calls, and the marks. -/
theorem hyp_ControlInstructionsMoveTheirPath_2 :
    ((prog [] inSeg).bitR pREFILL REFILL_CFG 23 = true) ∧
    (let e : Exp := { inSeg with jsegs := List.replicate 3 { cond := 1, target := 0, addr := 0 } }
     faced [0x258000, 9, 0] e = true ∧ dataOf [0x258000, 9, 0] e 2 = some [9, 0] ∧ fld (0x258000 : Word) 23 18 = 0x09 ∧
       fld (0x258000 : Word) 14 0 = 0 ∧ fld (0x258000 : Word) 17 15 ≤ 3 ∧ e.loops = [] ∧ e.calls = [] ∧ e.jsegs.length < 4) ∧
    (let e : Exp := { inSeg with calls := List.replicate 7 0 }
     faced [0x280000, 4095, 0] e = true ∧ dataOf [0x280000, 4095, 0] e 2 = some [4095, 0] ∧ fld (0x280000 : Word) 23 18 = 0x0A ∧
       fld (0x280000 : Word) 17 0 = 0 ∧ e.pin = none ∧ e.calls.length < 8 ∧ 4095 + 2 ^ 24 * 0 < (prog [] e).imageLen 0) ∧
    (let e : Exp := { inSeg with calls := [9] }
     faced [0x2C0000] e = true ∧ fld (0x2C0000 : Word) 23 18 = 0x0B ∧ fld (0x2C0000 : Word) 17 0 = 0 ∧ e.calls = 9 :: [] ∧
       e.loops.head? = none) ∧
    (faced [0x345FFF] inSeg = true ∧ fld (0x345FFF : Word) 23 18 = 0x0D ∧ fld (0x345FFF : Word) 17 15 = 0 ∧
      fld (0x345FFF : Word) 14 0 ≤ 24575) ∧
    (faced [0x380000] inSeg = true ∧ fld (0x380000 : Word) 23 18 = 0x0E ∧ fld (0x380000 : Word) 17 0 = 0 ∧ inSeg.calls = [] ∧
      inSeg.pause = none) ∧
    (let e : Exp := { inSeg with pause := some (0, 0) }
     faced [0x3C0000] e = true ∧ fld (0x3C0000 : Word) 23 18 = 0x0F ∧ fld (0x3C0000 : Word) 17 0 = 0 ∧
       e.pause = some (e.loops.length, 0)) ∧
    (faced [0x420000] inSeg = true ∧ fld (0x420000 : Word) 23 18 = 0x10 ∧ fld (0x420000 : Word) 16 0 = 0 ∧ inSeg.loops = []) := by
  decide +kernel

/-- Each vector instruction, in a stream of 8 pins. -/
theorem hyp_VectorInstructionsProduceVectors :
    (prog [] inSeg).width 0 = 1 ∧ (inSeg.jumped = none ∧ inSeg.inSeg = true ∧ inSeg.loops = []) ∧
    (faced [0x04CCCC, 0xCCCC00] inSeg = true ∧ dataOf [0x04CCCC, 0xCCCC00] inSeg ((8 + 1) / 6) = some [0xCCCC00] ∧
      fld (0x04CCCC : Word) 23 18 = 0x01 ∧ bit (0x04CCCC : Word) 17 = false ∧ fullBad 8 0 0x04CCCC [0xCCCC00] = none) ∧
    (faced [0x06107C] inSeg = true ∧ bit (0x06107C : Word) 17 = true ∧ fld (0x06107C : Word) 16 12 = 1 ∧
      fld (0x06107C : Word) 11 10 = 0 ∧ fld (0x06107C : Word) 9 4 < 8 ∧ fld (0x06107C : Word) 3 0 ≤ 12) ∧
    (faced [0x0BFFFF] inSeg = true ∧ fld (0x0BFFFF : Word) 23 18 = 0x02 ∧ fld (0x0BFFFF : Word) 17 0 ≠ 0 ∧ inSeg.hasVec = true) ∧
    (faced [0x0C0000, 0x070000, 0x800000] inSeg = true ∧
      dataThen [0x0C0000, 0x070000, 0x800000] inSeg = some ([0x070000], [0x800000]) ∧ fld (0x0C0000 : Word) 23 18 = 0x03 ∧
      fld (0x0C0000 : Word) 17 14 = 0 ∧ fld (0x0C0000 : Word) 13 0 = 0 ∧ fld (0x070000 : Word) 23 22 = 0 ∧
      fld (0x070000 : Word) 21 16 < 8 ∧ fld (0x070000 : Word) 15 0 = 0 ∧ fld (0x800000 : Word) 22 0 = 0) ∧
    (let e : Exp := { inSeg with rptLeft := 3 }
     ((prog [] e).stream 0).path 0 = some (e, []) ∧ ((prog [] e).stream 0).room 0 ≠ 0 ∧ e.ended = false ∧ 0 < e.rptLeft) := by
  decide +kernel

/-- The limits of open bodies hold where no body is open. -/
theorem hyp_VectorsFitWhereNoBodyIsOpen (n : Nat) (cs : List Nat) : inSeg.fits n cs := by simp [Exp.fits, inSeg]

theorem hyp_SegmentsOpenAndClose :
    (inSeg.loops = [] ∧ inSeg.calls = [] ∧ inSeg.jumped = none) ∧
    (let e : Exp := {}
     faced [0x23FE00, 0x00FFFF] e = true ∧ dataOf [0x23FE00, 0x00FFFF] e 1 = some [0x00FFFF] ∧ fld (0x23FE00 : Word) 23 18 = 0x08 ∧
       fld (0x23FE00 : Word) 8 0 = 0 ∧ fld (0x00FFFF : Word) 23 16 = 0 ∧ e.inSeg = false) ∧
    (faced [0x23FE00, 0x00FFFF] inSeg = true ∧ inSeg.segVecs ≠ 0 ∧ inSeg.jsegs = []) ∧
    (let e : Exp := { inSeg with segVecs := 0 }
     faced [0x23FE00, 0x00FFFF] e = true ∧ e.segVecs = 0) ∧
    (let e (c : Nat) : Exp := { inSeg with jsegs := [{ cond := c, target := 0, addr := 0 }] }
     faced [0x23FE00, 0x00FFFF] (e 0) = true ∧ faced [0x23FE00, 0x00FFFF] (e 3) = true) ∧
    (faced [0x44FFFF] inSeg = true ∧ fld (0x44FFFF : Word) 23 18 = 0x11 ∧ fld (0x44FFFF : Word) 17 16 = 0) ∧
    faced [0x440000] { inSeg with segVecs := 0 } = true := by decide +kernel

/-! ### Hypotheses: streams and sites -/

/-- Site 63 of stream 0 in a site state, on octet 63, and the stream in a stream state; other registers on top. -/
def bench (r : RunState) (stream site : Nat) (more : List (Nat × Nat × Word)) : State :=
  regs { at_ r with sites := [(63, { noct := 1 })] } ([(pSTREAM 0, STREAM_STAT, word (stream * 2 ^ 21)), (pSTREAM 0, STREAM_MASK2, 0x8000),
    (pSITE 63, SITE_CFG, 0x800000), (pSITE 63, SITE_STAT, word (site * 2 ^ 21)), (pSITE 63, SITE_OCT0, 0xFC0000)] ++ more)

/-- The regions of stream 0 in banks 0 to 2, and an image of one word. -/
def armable : State := tabs (bench .ready sIDLE tASSIGNED [])
  [(pSTORE, 0, 0, 1), (pSTORE, 0, 7, 0x805556), (pSTORE, 0, 32, 2), (pSTORE, 0, 39, 0x800400), (pSTORE, 0, 64, 4),
   (pSTORE, 0, 71, 0x801556), (pREFILL, 0, 2, 1)]

theorem hyp_ArmPreparesAStream :
    armable.hostGate org.ini = none ∧ fld (0x018000 : Word) 19 16 = 2 ^ 0 ∧ fld (0x018000 : Word) 15 14 ≤ 2 ∧
    fld (0x018000 : Word) 13 0 = 0 ∧ armable.fuses.life ≠ 4 ∧ armable.run.st = .ready ∧ armable.strSt 0 = sIDLE ∧
    armable.regionsOk 0 = true ∧ armable.siteRingOk = true ∧ armable.sitesOk 0 = true ∧ 0 < armable.imageLen 0 ∧
    armable.maskSites 0 = [63] ∧ armable.inband 63 = none := by decide +kernel

theorem hyp_JumpStopResetAndRelease :
    (let s := bench .run sHOLDING tACTIVE []
     s.hostGate org.ini = none ∧ fld (0x010000 : Word) 19 16 = 2 ^ 0 ∧ sARMED ≤ s.strSt 0 ∧ s.strSt 0 ≤ sHOLDING ∧
       fld (0x010000 : Word) 15 0 = 0 ∧ fld (0x010001 : Word) 15 1 = 0) ∧
    ((bench .ready sSTOPPED tASSIGNED []).strSt 0 = sSTOPPED ∧ (bench .run sARMED tASSIGNED []).strSt 0 = sARMED) ∧
    (let s := bench .ready sIDLE tRETIRED []
     fld (0x00003F : Word) 19 16 = 0 ∧ fld (0x00003F : Word) 15 0 = 63 ∧ s.siteSt 63 = tRETIRED ∧
       s.fldR (pSITE 63) PG_FLT 23 21 = 0) := by decide +kernel

/-- The bench with one command in the stiles. -/
def stiled (s : State) (op : StileOp) : State := { s with stile := [⟨op, some 5, 1⟩] }

theorem hyp_StileCommandsTakeEffectAtTheirEdge :
    ([StileOp.jump 0, .stop 0 true, .stop 0 false, .hedge 0 3].all (fun op =>
      [sIDLE, sARMED, sRUNNING, sHOLDING, sDRAINING, sSTOPPED].all (fun st =>
        let s := stiled (bench .run st tASSIGNED []) op
        s.stileFirst == some (⟨op, some 5, 1⟩, 5) && s.strSt 0 == st && decide (s.time.edge ≤ 5 + 2)))) = true ∧
    rdy.stileFirst = none := by decide +kernel

theorem hyp_SitesAreAssignedAndFreed :
    (let s := regs (bench .ready sIDLE tFREE []) [(pSITE 0, SITE_OCT0, 0xFC0000)]
     s.gate_ 0 (pSITE 63) true = none ∧ s.day.active = false ∧ s.siteSt 63 = tFREE ∧ s.strSt 3 = sIDLE ∧
       ((List.range (s.width 3)).map (s.column 63)).Nodup ∧ (s.siteOf 63) = none) ∧
    (let s := regs (bench .ready sIDLE tASSIGNED []) [(pSITE 0, SITE_OCT0, 0xFC0000)]
     s.siteSt 0 = tFREE ∧ s.column 0 0 = 63 ∧ (s.siteOf 63).isSome = true ∧ s.siteSt 63 = tASSIGNED ∧
       s.strSt (s.siteStream 63) = sIDLE) := by decide +kernel

/-! ### Hypotheses: the running of streams -/

/-- The bench with stream 0 and site 63 as given. -/
def running (st tst : Nat) (v : Stream) (n : Site) : State :=
  { bench .run st tst [] with streams := [(0, v)], sites := [(63, { n with noct := 1 })] }

theorem hyp_StreamsPrimeAndStart :
    (rdy.primeReady 0 = false) ∧
    (let s := running sARMED tASSIGNED { exp := { ended := true } } {}
     s.primeReady 0 = true ∧ s.bitR (pSTREAM 0) STREAM_STAT 20 = false ∧ s.startMode 0 ≠ 2 ∧ (s.stream 0).startAt = none) ∧
    (let s := regs (running sARMED tASSIGNED { exp := { pos := 512 } } {}) [(pSTREAM 0, STREAM_STAT, 0x208000)]
     s.primeReady 0 = true ∧ s.bitR (pSTREAM 0) STREAM_STAT 20 = false ∧ s.startMode 0 = 2 ∧ (s.stream 0).startAt = none ∧
       (∀ j < 4, j ≠ 0 → s.strSt j ≠ sARMED ∨ s.startMode j ≠ 2)) ∧
    (let s := running sARMED tASSIGNED { startAt := some (9, true), marked := 2 ^ 63 } {}
     (s.stream 0).startAt = some (9, true) ∧ s.strSt 0 = sARMED ∧ nbit (s.stream 0).marked 63 = true ∧ s.siteSt 63 = tASSIGNED ∧
       s.siteStream 63 = 0 ∧ (s.site 63).begun = false) ∧
    (let s := running sARMED tRETIRED { startAt := some (9, true) } {}
     (s.stream 0).startAt = some (9, true) ∧ s.strSt 0 = sARMED ∧
       ∀ n < 64, s.siteStream n = 0 → s.siteSt n ≠ tACTIVE ∧ s.siteSt n ≠ tPARKED ∧ nbit (s.stream 0).marked n = false) ∧
    (running sARMED tASSIGNED { startAt := some (9, false) } {}).strSt 0 = sARMED ∧
    (let s := running sDRAINING tASSIGNED { marked := 2 ^ 63 } {}
     s.siteStream 63 = 0 ∧ s.siteSt 63 = tASSIGNED ∧ nbit (s.stream 0).marked 63 = true ∧ s.strSt 0 = sDRAINING ∧
       (s.site 63).begun = false ∧ (s.octetsOf 63).Nodup) ∧ rdy.siteSt 63 ≠ tASSIGNED := by decide +kernel

/-- A vector item of 8 pins at position 0. -/
def item : Item := .vec 0 2 (List.replicate 8 cEL) [0] false 0

/-- The bench with a slip region of one bank word in bank 48. -/
def slipping (st tst : Nat) (v : Stream) (n : Site) : State :=
  tabs (running st tst v n) [(pSTORE, 0, 2, 1), (pSTORE, 0, 7, 0x800001)]

theorem hyp_CyclesCommitVectors :
    (rdy.site 63).begun = false ∧ ({ State.reset with run := { safe := true } } : State).run.safe = true ∧
    (let s := slipping sRUNNING tACTIVE { items := [item] } { begun := true, off := 1 }
     (s.site 63).begun = true ∧ s.run.safe = false ∧ s.siteSt 63 = tACTIVE ∧ s.siteStream 63 = 0 ∧ (s.octetsOf 63).Nodup ∧
       (s.site 63).gapCycles = 0 ∧ (s.site 63).waitAt = none ∧ s.strSt 0 = sRUNNING ∧ (s.stream 0).stopAt = none ∧
       (s.stream 0).hold = none ∧ (s.site 63).stopped = false ∧ (s.site 63).overDue = false ∧
       (s.stream 0).items[(s.site 63).cur]? = some item ∧ (s.stream 0).h ≤ 0 + (s.site 63).off ∧
       0 + (s.site 63).off < 2 ^ 48 ∧ (s.storeSlip 0 (0 + (s.site 63).off) (List.replicate 8 cEL)).1 = true ∧
       (s.site 63).inMatch = false) ∧
    (let s := running sRUNNING tACTIVE { items := [.invalid 7] } { begun := true }
     (s.stream 0).items[(s.site 63).cur]? = some (.invalid 7) ∧ s.siteStream 63 = (0 : Str).val ∧ (1 : Str).val ≠ s.siteStream 63) ∧
    (let s := running sDRAINING tACTIVE {} { begun := true, stopped := true }
     (s.site 63).stopped = true ∧ s.strSt 0 = sDRAINING) ∧
    (let s := running sHOLDING tACTIVE { hold := some (100, 63) } { begun := true, tnext := 100 }
     s.strSt 0 = sHOLDING ∧ (s.stream 0).stopAt = none ∧ (s.stream 0).hold = some (100, 63) ∧ 100 ≤ (s.site 63).tnext ∧
       (s.stream 0).resume = none) := by decide +kernel

/-- A decision and an ended segment that waits for it. -/
def decided (k : DecKind) (n : Nat) : State :=
  running sRUNNING tACTIVE {} { decisions := [{ time := 5, seg := n, kind := k }], ended := [{ num := 1, stream := 0, segid := 1 }] }

/-- READY with a site ring of 64 bank words in bank 0. -/
def ringed (s : State) : State :=
  tabs (regs s [(pACQG, ACQG_SRSIZE, 64)]) [(pSTORE, 0, 96, 1), (pSTORE, 0, 103, 0x800040)]

theorem hyp_DecisionsHoldsDrainsAndRecordsFinish :
    (rdy.site 63).decisions = [] ∧
    (∀ k ∈ [DecKind.matched, .loopEnd false, .loopEnd true, .fail],
      ((decided k 1).site 63).decisions = [{ time := 5, seg := 1, kind := k }] ∧ (decided k 1).siteSt 63 = tACTIVE) ∧
    (running sRUNNING tPARKED {} {}).siteSt 63 ≠ tACTIVE ∧
    (let s := running sHOLDING tACTIVE { hold := some (7, 63), exp := { ended := true } } {}
     (s.stream 0).hold = some (7, 63) ∧ s.strSt 0 = sHOLDING ∧ (s.stream 0).exp.ended = true) ∧ rdy.strSt 0 ≠ sHOLDING ∧
    (let s := running sHOLDING tACTIVE { hold := some (7, 63) } {}
     (s.stream 0).exp.ended = false ∧ (s.stream 0).room 0 ≠ 0 ∧ s.entriesAhead 0 63 < s.fldR (pSTREAM 0) STREAM_CFG 19 13) ∧
    (let s := running sDRAINING tACTIVE {} { stopped := true }
     s.drained 0 = true ∧ (∀ m ∈ s.liveSites 0, s.preason m = 3 → (s.site m).seg = none)) ∧ rdy.drained 0 = false ∧
    (let s := regs (running sDRAINING tPARKED {} { seg := some { num := 1, stream := 0, segid := 1 } }) [(pSITE 63, SITE_STAT, word (tPARKED * 2 ^ 21 + 3 * 2 ^ 19))]
     s.drained 0 = true ∧ ∃ m ∈ s.liveSites 0, s.preason m = 3 ∧ (s.site m).seg ≠ none) ∧
    (∃ d ∈ ((decided .matched 1).site 63).decisions, d.seg ≤ 1) ∧ (∀ d ∈ ((decided .matched 2).site 63).decisions, 1 < d.seg) ∧
    (8 ≤ (ringed (decided .matched 2)).ringFree 128 ∧ (ringed (decided .matched 2)).ringFails 128 8 = false) ∧
    ((decided .matched 2).ringFree 128 < 8 ∧ ((decided .matched 2).site 63).pendGap = none) ∧ (rdy.site 63).ended = [] := by
  decide +kernel
/-! ### Hypotheses: timing -/

/-- READY with the PLL locked. -/
def lockedAt (more : List (Nat × Nat × Word)) : State := regs rdy ((pTBASE, TBASE_STAT, 0x800000) :: more)

theorem hyp_TimingSetsAndLevelsAreWritten :
    (rdy.gate_ 0 (pOCTTM 63) true = none ∧ rdy.day.active = false ∧ 2047 < 2048 ∧ rdy.checkTset 63 64 0xFFFFFF = none ∧
      rdy.octBusy 63 = false ∧ 52 ≤ 2047 % 64 ∧ (1 : Word) ≠ 0) ∧
    (bench .run sARMED tASSIGNED []).octBusy 63 = true ∧
    (rdy.gate_ 0 (pOCTPE 63) true = none ∧ (0x80 : Byte) ≠ 0 ∧ (∀ a < 8, (0x80 : Byte).getLsbD a = true → rdy.adcBusy 63 a = false)) ∧
    (∃ a < 8, (0x80 : Byte).getLsbD a = true ∧
      ({ rdy with octets := [(63, { adc := [0, 0, 0, 0, 0, 0, 0, 1] })] } : State).adcBusy 63 a = true) := by decide +kernel

/-- Whatever the stile draws, the staged word is a legal one when it leaves. -/
theorem hyp_StagedLevelsAreLegal : ∀ u, rdy.crosses u → u.dueLoads.checkLevel 63 112 0x123456 = none := by
  rintro u ⟨n, h | h, rfl⟩ <;> subst h <;> decide +kernel

theorem hyp_BellPulsesRegisterAndAreGenerated :
    rdy.locked = false ∧
    (let s := lockedAt []
     s.locked = true ∧ (∀ l, s.time.lastHigh = some l → ¬ (s.time.edge + 16) / 16 * 16 ≤ l + 128) ∧ s.time.bells = []) ∧
    (let s : State := { lockedAt [] with time := { lastHigh := some 16 } }
     ∃ l, s.time.lastHigh = some l ∧ (s.time.edge + 16) / 16 * 16 ≤ l + 128) ∧
    (let s : State := { lockedAt [] with time := { bells := [{ b0 := 16, epoch := false }] } }
     s.time.bells = { b0 := 16, epoch := false } :: []) ∧
    (let s := lockedAt [(pTBASE, TBASE_CFG, 0x800000)]
     s.gate_ 0 pTBASE true = none ∧ s.bello = 2 ∧ s.genBusy = false) ∧
    (let s : State := { lockedAt [(pTBASE, TBASE_CFG, 0x800000)] with time := { gen := some { rise := 16, width := 1 } } }
     s.time.gen = some { rise := 16, width := 1 } ∧ ({ rise := 16, width := 1 } : GenPulse).risen = false ∧ s.bello = 2 ∧
       s.locked = true) := by
  have h : ∀ l : Nat, ¬ (none : Option Nat) = some l := nofun
  refine ⟨by decide +kernel, ⟨by decide +kernel, fun l hl => absurd hl (h l), by decide +kernel⟩, ⟨16, rfl, by decide +kernel⟩, rfl, ?_⟩
  decide +kernel

theorem hyp_EpochPulsesActOnlyWhileArmed :
    (let s := lockedAt []
     s.locked = true ∧ s.time.lastHigh = none ∧ s.bello ≠ 1 ∧ s.bitR pTBASE TBASE_CFG 21 = false) ∧
    (let s : State := { lockedAt [(pTBASE, TBASE_CFG, 0x200000)] with time := { bells := [{ b0 := 16, epoch := true }] } }
     s.time.bells = { b0 := 16, epoch := true } :: [] ∧ s.bitR pTBASE TBASE_CFG 21 = true) := by decide +kernel

theorem hyp_TrgLinesSendAndReceive :
    (let s := lockedAt [(pSKEW, SKEW_TRG, 0x0008), (pSKEW, SKEW_AT0, 0x200000)]
     s.gate_ 0 pSKEW true = none ∧ s.bitR pSKEW SKEW_TRG 3 = true ∧ s.wideR pSKEW SKEW_AT0 3 < 2 ^ 64 ∧
       s.time.base + 625 * 5 + 10 ^ 6 ≤ s.wideR pSKEW SKEW_AT0 3 ∧ s.bitR pSKEW SKEW_TRG 0 = false ∧ s.day.active = false ∧
       s.locked = true ∧ nbit (s.fldR pSKEW SKEW_TRG 3 0) 3 = true) ∧
    (let s : State := { lockedAt [] with time := { send := some ⟨3, 0x200000⟩, listen := some 2 } }
     s.time.send = some ⟨3, 0x200000⟩ ∧ bit (0x07 : Word) 3 = false ∧ bit (0x08 : Word) 3 = true ∧
       nbit (s.fldR pSKEW SKEW_TRG 3 0) 2 = false ∧ s.ps ≤ 0 ∧ s.time.trgLast = [] ∧ s.time.listen = some 2) := by
  decide +kernel

/-! ### Hypotheses: pin electronics and rails -/

/-- The clock edge of a strobe of group 7: 2 after the capture of the LOAD that waits for it, or the next edge. -/
def strobeEdge (s : State) : Nat :=
  match s.stile.filter (fun c => (match c.op with | .load _ h => h == 7 | _ => false) && c.capture.isSome) with
  | [] => s.time.edge + 1
  | c :: _ => c.capture.getD 0 + 2

theorem hyp_LoadStrobesMakeStagedLevelsActive :
    (strobeEdge (stiled rdy (.load 63 7)) = 7 ∧ strobeEdge rdy = 1) ∧
    (let s := regs rdy [(pOCTPE 63, OCTPE_CFG, 0xE00000)]
     s.fldR (pOCTPE 63) OCTPE_CFG 23 21 = 7 ∧ s.bitR (pOCTPE 63) PG_INJ 0 = false ∧
       s.green.last.get (unitDefault 0) (64 + 7) ≠ strobeEdge s + 1) := by decide +kernel

/-- READY with octet 63 as given. -/
def octet (v : Octet) (more : List (Nat × Nat × Word)) : State := { regs rdy more with octets := [(63, v)] }

/-- READY with PORST_N high and the PMU of lane 7 of octet 63 connected in a mode. -/
def forcing (mode : Nat) : State :=
  { regs rdy [(pOCTPE 63, OCTPE_PIN0 + 7, word (mode * 2 ^ 21 + 2 ^ 17 + 2 ^ 12))] with pins := { porstN := true } }

theorem hyp_OctetUnitsRun :
    ((∀ k ∈ [1, 2, 3], ((octet { seqs := [⟨7, 5, k, []⟩] } []).oct 63).seqs.find? (fun q => q.lane == 7) = some ⟨7, 5, k, []⟩) ∧
      (rdy.oct 63).seqs.find? (fun q => q.lane == 7) = none) ∧
    ((octet { conv := 128, convDue := [(7, 68)] } []).oct 63).convDue.find? (fun x => x.1 == 7) = some (7, 68) ∧
    (rdy.oct 63).convDue.find? (fun x => x.1 == 7) = none ∧ (rdy.oct 63).tone.en = false ∧
    (let s := octet { tone := { en := true, lane := 7, since := 5 } } [(pOCTPE 63, OCTPE_PIN0 + 7, 0x800000)]
     (s.oct 63).tone.en = true ∧ s.time.edge < (s.oct 63).tone.since ∧ (s.toEdge 4).gridEdge (s.oct 63).tone.tdiv = some 64 ∧
       (s.pmuOf 63 7).1 = 4 ∧ (rdy.pmuOf 63 7).1 ≠ 4) ∧
    (rdy.pmuForces 63 7 = false ∧ (forcing 2).pmuForces 63 7 = true ∧ ((forcing 2).pmuOf 63 7).1 = 2 ∧
      ((forcing 2).clamps 63 7).1 ≤ ((forcing 2).clamps 63 7).2) ∧
    (forcing 1).pmuForces 63 7 = true ∧ ((forcing 1).pmuOf 63 7).1 ≠ 2 := by decide +kernel

theorem hyp_PinsAndRailsAreSwitched :
    (rdy.gate_ 0 (pOCTPE 63) true = none ∧ rdy.day.active = false ∧ rdy.octBusy 63 = false ∧ (rdy.oct 63).pmu = [] ∧
      fld (0x901000 : Word) 23 21 ≤ 4 ∧ fld (0x901000 : Word) 20 18 ≤ 4 ∧
      bit (rdy.reg (pOCTPE 63) (OCTPE_PIN0 + 7)) 17 = false ∧ bit (0x901000 : Word) 17 = false) ∧
    (let s := bench .ready sIDLE tASSIGNED [(pOCTPE 63, OCTPE_RAILCFG, 0x600200)]
     let cfg := s.reg (pOCTPE 63) OCTPE_RAILCFG
     fld cfg 23 22 = 1 ∧ fld cfg 16 9 ≠ 0 ∧ fld cfg 21 19 ≤ 4 ∧ bit cfg 8 = false ∧ s.railAllowed 63 = true) ∧
    rdy.railAllowed 63 = false ∧ bit (0x600300 : Word) 8 = true ∧ ((octet { ramp := some 0 } []).oct 63).ramp ≠ none ∧
    (rdy.oct 63).ramp = none := by decide +kernel

/-! ### Hypotheses: the measurement engine -/

/-- READY with the operation of tag 3071 as given, lane 7 with the micro-word `w` and the nano-word `n` at the first places
of the writable ranges. -/
def engine (p : Op) (w : Word) (n : Nat) : State :=
  { tabs rdy ([(pUCODE, 0, 0, w)] ++ (List.range 5).map (fun i => (pUCODE, 2, i, word (n / 2 ^ (24 * i))))) with ops := [(3071, p)] }

/-- A running operation at the first writable micro-address. -/
def context : Op := { st := .running, upc := 0xF80 }

theorem hyp_OperationsAreSubmittedDispatchedAndEnded :
    (let s := tabs rdy [(pMSE, 0, 8 * 3071, 0x040000), (pMSE, 0, 8 * 3071 + 3, 0x001000)]
     s.gate_ 0 pMSE true = none ∧ (s.op 3071).st = .free ∧ s.descState 3071 = false ∧
       s.checkDesc (fun j => if j = 7 then 0xFFFFFF else s.desc 3071 j) = true) ∧
    ((engine { st := .done } 0 0).op 3071).st = .done ∧ ((engine { st := .queued } 0 0).op 3071).st = .queued ∧
    (rdy.mse.pend = false ∧ rdy.upd.patchWait = false ∧ rdy.mse.act ≤ 1) ∧
    (let s := engine { st := .queued } 0 0
     s.laneOn 7 = true ∧ s.nextOp 7 = some 3071 ∧ s.recipe 3071 ≠ 9 ∧ s.glean.borrow = none ∧ (∀ e ∈ s.ops, e.2.st ≠ .running) ∧
       s.gate_ 0 pUCODE true = none) ∧
    (let s := tabs (engine { st := .queued } 0 0) [(pMSE, 0, 8 * 3071, 0x240000)]
     s.laneOn 7 = true ∧ s.nextOp 7 = some 3071 ∧ s.recipe 3071 = 9 ∧ (s.oct (tagOct 3071)).tone.en = false ∧
       ((octet { tone := { en := true } } []).oct (tagOct 3071)).tone.en = true) ∧
    rdy.nextOp 7 = none ∧
    (let s : State := { engine context 0 0 with mse := { act := 1, laneBank := 255 } }
     ∃ e ∈ s.ops, e.2.st = .running ∧ tagLane e.1 < 8 ∧ nbit s.mse.fenced (tagLane e.1) = false ∧
       nbit s.mse.laneBank (tagLane e.1) = (s.mse.act == 1)) ∧
    ({ rdy with mse := { pend := true } } : State).mse.pend = true := by decide +kernel

/-- The micro-word and nano-word that lane 7 executes. -/
def executes (s : State) : Word × Nat :=
  let w := s.microWord (s.laneBank 7) (s.matchAddr (s.laneBank 7) (s.op 3071).upc)
  (w, s.nanoWord (s.laneBank 7) (fld w 23 15))

theorem hyp_MicroWordsMoveTheirContexts :
    (rdy.op 3071).st ≠ .running ∧
    (let s := tabs (engine context 0x006000 0) [(pMSE, 0, 8 * 3071, 0x040000)]
     (s.op 3071).st = .running ∧ s.nextCtx (tagLane 3071) = some 3071 ∧ s.bitR pMSE PG_INJ (tagLane 3071) = false ∧
       s.mse.forceStack = false ∧ s.mse.forceInvalid = false ∧ executes s = (0x006000, 0) ∧ fld (0x006000 : Word) 14 12 = 6 ∧
       s.mse.pend = false ∧ s.upd.patchWait = false ∧ s.recipe 3071 ∈ [1, 2, 3, 5, 6]) ∧
    (executes (engine context 0x001FFF 0) = (0x001FFF, 0) ∧ fld (0x001FFF : Word) 14 12 = 1 ∧ context.stack.length < 8 ∧
      8 ≤ ({ context with stack := List.replicate 8 0 } : Op).stack.length ∧ context.stack = []) ∧
    (executes (engine context 0xF00000 (7 * 2 ^ 114 + 8 * 2 ^ 68 + 7 * 2 ^ 65 + 7 * 2 ^ 62 + 7 * 2 ^ 59)) =
        (0xF00000, 7 * 2 ^ 114 + 8 * 2 ^ 68 + 7 * 2 ^ 65 + 7 * 2 ^ 62 + 7 * 2 ^ 59) ∧ fld (0xF00000 : Word) 14 12 = 0) ∧
    fitsSigned 48 (2 ^ 47 - 1) = true := by decide +kernel

/-- A running context whose run of two samples is in progress, with ADCTMO of 100 us; acquisition holds its ADC where asked. -/
def sampling (held : Bool) : State :=
  { regs (tabs (engine { context with running := true } 0 0) [(pMSE, 0, 8 * 3071 + 5, 1)]) [(pMSE, MSE_CFG, 0x010000)] with
    octets := [(tagOct 3071, { adc := if held then List.replicate 8 2 else List.replicate 8 1 })] }

theorem hyp_MicroWordsMoveTheirContexts_2 :
    (let s := engine context 0xF00FFF (7 * 2 ^ 114 + 2 ^ 46)
     executes s = (0xF00FFF, 7 * 2 ^ 114 + 2 ^ 46) ∧ s.stileRoom (4 + tagOct 3071) = true ∧
       ({ s with stile := List.replicate 16 ⟨.load (tagOct 3071) 0, some 1, 1⟩ } : State).stileRoom (4 + tagOct 3071) = false) ∧
    (∀ c ∈ [0, 4, 7], executes (engine context 0xF03FFF (7 * 2 ^ 114 + c * 2 ^ 42)) = (0xF03FFF, 7 * 2 ^ 114 + c * 2 ^ 42)) ∧
    ({ context with timer := some 5 } : Op).timer = some 5 ∧ (rdy.op 3071).timer = none ∧
    (let s := sampling false
     (s.op 3071).st = .running ∧ [(0x7FFFFF : Word), 0x800000].length = fld (s.desc 3071 5) 15 0 + 1 ∧
       s.runStart 3071 = some (0, some 0) ∧ (s.adcLimit = 0 ∨ 0 - 0 ≤ s.adcLimit) ∧
       (let out := s.recipeScratch 3071 (s.op 3071) 0 [0x7FFFFF, 0x800000]
        (s.scratch out.1 out.2).1 = true)) ∧
    (let s := sampling true
     s.adcLimit ≠ 0 ∧ s.runStart 3071 = some (0, none)) ∧
    (rdy.runStart 3071 = none ∧ (regs rdy [(pMSE, MSE_CFG, 0)]).adcLimit = 0) := by decide +kernel
/-! ### Hypotheses: acquisition -/

/-- A state with capture unit 67 as given: its configuration word 0, its status word, its ring of 64 bank words in bank 0. -/
def unit67 (w0 stat : Word) (v : AcqUnit) : State :=
  { tabs rdy [(pACQG, 0, 48, w0), (pACQG, 0, 62, stat), (pACQG, 0, 61, 64), (pSTORE, 0, 96, 1), (pSTORE, 0, 103, 0x800040)] with
    units := [(67, v)] }

/-- OPEN under EXT, closed after LEN samples of the intervals. -/
def opened (v : AcqUnit) : State := unit67 0xC00000 0x800000 v

theorem hyp_CaptureUnitsArmOpenAndClose :
    (let s := unit67 0xC00000 0 {}
     s.gate_ 0 (acqPage 67) true = none ∧ s.checkAcqArm 67 = none ∧ s.acqSt 67 ≠ 1 ∧ s.acqSt 67 ≠ 2 ∧ s.glean.borrow = none) ∧
    rdy.checkAcqArm 0 = some .range ∧
    (let s := unit67 0xC00000 0x400000 { opens := [5 * 10 ^ 6] }
     s.acqSt 67 = 1 ∧ (s.acq 67).heldAdc = false ∧ (s.acq 67).nextOpen (s.acqF 67 21 19 == 0) = some (5 * 10 ^ 6) ∧
       (s.ticks 4).time.base < 5 * 10 ^ 6 + (s.acqW 67 3).toNat ∧ (s.ticks 3).time.base < 5 * 10 ^ 6 + (s.acqW 67 3).toNat) ∧
    (let s := opened { tclose := some (9, 0) }
     s.acqSt 67 = 2 ∧ (s.acq 67).tclose = some (9, 0) ∧ (s.acq 67).chg = [] ∧ (s.acq 67).heldAdc = false ∧
       (s.windowRecord 67 9 0).length ≤ s.ringFree 67 ∧ s.ringFails 67 (s.windowRecord 67 9 0).length = false) ∧
    (let s : State := { opened { tclose := some (9, 0), dropped := true } with
       recs := [{ kind := 1, unit := 67, words := List.replicate 256 0 }] }
     s.ringFree 67 < (s.windowRecord 67 9 0).length ∧ (s.acq 67).dropped = true) := by decide +kernel

/-- DISARM of an open window: its record has one length, which the ring has room for, whenever it closes. -/
theorem hyp_CaptureUnitsDisarm :
    let s := opened {}
    s.acqSt 67 = 2 ∧ (s.acq 67).tclose = none ∧ (s.acq 67).chg = [] ∧ (s.acq 67).heldAdc = false ∧
      ∀ tc, (s.windowRecord 67 tc 5).length ≤ s.ringFree 67 ∧ s.ringFails 67 (s.windowRecord 67 tc 5).length = false := by
  have h : ∀ tc, ((opened {}).windowRecord 67 tc 5).length = ((opened {}).windowRecord 67 0 5).length := fun _ => rfl
  refine ⟨by decide +kernel, rfl, rfl, rfl, fun tc => ?_⟩
  rw [h tc]
  decide +kernel

/-- A gap that waits to be recorded. -/
def gap : Gap := { cause := 2, tstart := 0, lenps := 1, count := 0 }

theorem hyp_SamplesGapsAndSpills :
    (let x : Sample := { tag := 5, vals := [], offered := 0 }
     let s := opened { topen := 5, stile := [x] }
     s.acqSt 67 = 2 ∧ s.acqF 67 21 19 ≠ 3 ∧ bit (s.acqW 67 0) 14 = false ∧ s.acqF 67 23 22 = 3 ∧
       (s.acq 67).stile = x :: [] ∧ (s.acq 67).tclose = none ∧ (s.acq 67).topen ≤ 5 ∧
       4 < (s.acq 67).topen ∧ (s.acq 67).n + 1 < 16777215) ∧
    ((opened {}).acqF 67 23 22 = 3 ∧ ((opened {}).acq 67).stile = []) ∧
    (let s := opened { pend := some gap }
     (s.acq 67).pend = some gap ∧ 11 ≤ s.ringFree 67 ∧ s.ringFails 67 11 = false) ∧
    (let s : State := { ringed rdy with sites := [(63, { pendGap := some gap })] }
     (s.site 63).pendGap = some gap ∧ 11 ≤ s.ringFree 128 ∧ s.ringFails 128 11 = false) ∧
    ((rdy.acq 67).pend = none ∧ (rdy.site 63).pendGap = none) ∧
    (let x : Rec := { kind := 1, unit := 67, words := List.replicate 240 0 }
     let s : State := { regs (opened {}) [(pACQG, ACQG_CFG, 0x100000), (pACQG, ACQG_XLEN0, 2048)] with recs := [x] }
     inRing 67 x = true ∧ s.fldR pACQG ACQG_CFG 23 20 ≠ 0 ∧ s.xlen ≠ 0 ∧
       s.fldR pACQG ACQG_CFG 23 20 * 4 * s.ringSize 67 < 16 * s.ringUsed 67 ∧ s.xused + x.words.length ≤ s.xlen) ∧
    (let s := regs rdy [(pACQG, PG_LOCK, 1)]
     s.gate_ 0 pACQG true = none ∧ s.lockMine pACQG 0 = true ∧ s.checkXlen 0 0 = none ∧
       s.checkXlen (s.wideR pACQG ACQG_XBASE0 2) (0 + 2 ^ 24 * 0) = none ∧ s.day.active = false) := by decide +kernel

/-- A unit of octet 63 with an open window, its configuration word 0 as given. -/
def unit63 (w0 : Word) (v : AcqUnit) : State :=
  { regs rdy [(pACQ 63, 0x10, w0), (pACQ 63, 0x1E, 0x800000)] with units := [(63, v)] }

/-- An ADC sample, first and later ones; an edge of a channel, and no edge. -/
theorem hyp_SamplesOfAdcsAndEdges :
    (let v : AcqUnit := { heldAdc := true, wanted := 0, holdFrom := 0, reds := [{}] }
     let s := unit63 0x400080 v
     s.acqSt 63 = 2 ∧ s.acqF 63 23 22 = 1 ∧ s.acqF 63 21 19 ≠ 3 ∧ bit (s.acqW 63 0) 14 = false ∧ (s.acq 63).wanted = (s.acq 63).holdFrom ∧
       [(0 : Word)].length = (s.acqChans 63).length ∧ (s.acq 63).lastGrid = none ∧ (s.acq 63).topen ≤ s.gridTag 0 ∧
       [0].any (fun c => c == 0x7FFFFF || c == 0x800000) = false) ∧
    (let s := tabs (unit63 0x820080 { reds := List.replicate 8 {} }) [(pGLEAN, 0, 576 * 63 + 453, 0x000100)]
     let b := s.bandOf 511 (s.chan 511).band 7000000
     s.acqSt 63 = 2 ∧ s.acqF 63 23 22 = 2 ∧ s.acqF 63 21 19 ≠ 3 ∧ bit (s.acqW 63 0) 14 = false ∧
       nbit (s.acqF 63 7 0) 7 = true ∧ nbit (s.acqF 63 7 0) 0 = false ∧ b ≠ (s.chan 511).band ∧ fld (s.calW 63 453) 9 0 ≠ 0 ∧
       (s.acq 63).tclose = none ∧ (s.acq 63).topen = 0 ∧ (s.acq 63).n + 1 < 16777215 ∧ s.acqF 63 18 17 ≠ 0 ∧
       (((s.acq 63).reds.getD 7 {}).edge 5 (s.chan 511).band b false).2 = false) ∧
    (rdy.acqSt 63 ≠ 1 ∧ rdy.acqSt 63 ≠ 2) := by decide +kernel

/-- A full external area, before and after XFULL is told. -/
theorem hyp_SamplesGapsAndSpills_2 :
    let x : Rec := { kind := 1, unit := 67, words := List.replicate 240 0 }
    let y : Rec := { kind := 1, unit := 66, words := List.replicate 2048 0, spilled := true }
    let s (b : Word) : State := { regs (opened {}) [(pACQG, ACQG_CFG, 0x100000), (pACQG, ACQG_XLEN0, 2048), (pACQG, ACQG_STAT, b)] with
      recs := [y, x] }
    inRing 67 y = false ∧ inRing 67 x = true ∧ (s 0).xlen < (s 0).xused + x.words.length ∧
      (s 0).bitR pACQG ACQG_STAT 23 = false ∧ (s 0x800000).bitR pACQG ACQG_STAT 23 = true := by decide +kernel

/-! ### Hypotheses: Event Green -/

/-- A clocked event of the timing domain to a consumer. -/
def event (c : Nat) : GEvent := { prod := 184, chan := 127, cons := c, clocked := true, timing := true, fired := 0 }

/-- READY with that event in flight, its consumers busy up to an edge. -/
def inFlight (c busy : Nat) : State :=
  { rdy with green := { flight := [event c], busyTo := Store.put (unitDefault 0) [] c busy, watch := [7] } }

/-- The first and the last consumer of each kind, free and busy. -/
theorem hyp_EventsReachTheirConsumers :
    rdy.green.flight = [] ∧
    ([0, 3, 4, 7, 8, 11, 20, 27, 28, 31, 32, 35, 36, 39, 40, 43, 44, 50, 52, 59, 60, 63].all (fun c =>
      let s := inFlight c 0
      let a := (event c).action 0
      s.green.flight == [event c] && s.green.last.get (unitDefault 0) c != a + 1 && !s.consBusy c a)
      && [0, 43, 60, 63].all (fun c => (inFlight c 9).consBusy c ((event c).action 0))) = true ∧
    (rdy.green.dly.get (unitDefault 0) 3 = 0) ∧
    ({ rdy with green := { dly := [(3, 10)] } } : State).green.dly.get (unitDefault 0) 3 = 9 + 1 ∧
    7 ∉ rdy.green.watch ∧ 7 ∈ (inFlight 0 0).green.watch := by decide +kernel

/-- Green triggers find units that wait for them: an armed one to open, and an open one to close. -/
theorem hyp_EventsReachTheirConsumers_2 :
    (let s := unit67 0xC80000 0x400000 {}
     s.greenUnits 0 true = [67] ∧ s.acqSt 67 = 1) ∧
    (let s := unit67 0xC40000 0x800000 {}
     s.greenUnits 0 false = [67] ∧ s.acqSt 67 = 2 ∧ (s.acq 67).tclose = none) ∧
    (let s := bench .run sIDLE tASSIGNED []
     s.strSt 0 < sARMED) := by decide +kernel

theorem hyp_GreenTablesAreWrittenAndChecked :
    (rdy.gate_ 0 pGREEN true = none ∧ (0x0000FF : Word).toNat < 256 ∧ rdy.day.active = false ∧ rdy.bitR pGREEN PG_INJ 0 = false ∧
      rdy.bitR pPTP PTP_STAT 19 = false ∧ rdy.checkGreen 0 1023 0xFFFFFF = none ∧ rdy.checkGreen 1 127 0xFF0000 = none) ∧
    (tabs rdy [(pGREEN, 0, 6, 0x400000)]).checkGreen 1 0 0xBC0000 = some .loop ∧
    (regs rdy [(pGREEN, PG_INJ, 1)]).bitR pGREEN PG_INJ 0 = true ∧ (ptp 9 true 0).bitR pPTP PTP_STAT 19 = true := by decide +kernel

/-! ### Hypotheses: guard monitors, sensors, faults -/

/-- Monitor `m` sampling with an action, over the bench with site 63 ASSIGNED. -/
def watched (m action : Nat) (v : Mon) : State :=
  { tabs (bench .ready sIDLE tASSIGNED []) [(pGUARD, 0, 4 * m + 3, word (action * 2 ^ 22))] with mons := [(m, v)] }

theorem hyp_MonitorsAndSensorsAreRead :
    (rdy.monAction 0 = 0 ∧ rdy.monAction 591 ≠ 0 ∧ rdy.bitR pGUARD PG_INJ 0 = false) ∧
    ((regs rdy [(pGUARD, PG_INJ, 1)]).bitR pGUARD PG_INJ 0 = true ∧ (watched 63 1 {}).monAction 63 ≠ 0 ∧
      (rdy.monAction 586 ≠ 0 ∧ rdy.monAction 589 ≠ 0) ∧
      ((supplyLimits 586).1 = 6800000 ∧ (supplyLimits 586).2 = 7200000 ∧ (supplyLimits 589).2 = -2400000) ∧
      ¬ ((6800000 : Int) < (supplyLimits 586).1 ∨ (supplyLimits 586).2 < (6800000 : Int)) ∧
      ((supplyLimits 586).2 < (7200001 : Int))) ∧
    (let s := watched 575 2 {}
     s.monAction 575 ≠ 0 ∧ s.classify 575 0 ≠ 2 ∧ s.siteOf (monOct 575) = some 63 ∧ s.canHedge 63 = true ∧
       (s.mon 575).fault = false ∧ (s.mon 575).chkRun ≠ 1) ∧
    (let s := tabs (watched 575 2 {}) [(pGUARD, 0, 4 * 575 + 1, 0)]
     s.classify 575 1 = 2 ∧ (s.mon 575).beyond + 1 > fld (s.monW 575 3) 21 19 ∧
       s.isBeyond 575 1 = true ∧ s.isBeyond 575 0 = false) ∧
    (let s := tabs (watched 575 2 {}) [(pGUARD, 0, 4 * 575 + 1, 0), (pGUARD, 0, 4 * 575 + 3, 0xB80000)]
     s.classify 575 1 = 2 ∧ ¬ ((s.mon 575).beyond + 1 > fld (s.monW 575 3) 21 19)) ∧
    ((watched 0 1 { fault := true }).mon 0).fault = true ∧ (watched 0 1 {}).siteOf (monOct 0) = none ∧
    ((watched 591 3 { chkRun := 1 }).mon 591).chkRun = 1 ∧ rdy.gate_ 0 pTHERM true = none := by decide +kernel

theorem hyp_MonitorsAndSensorsAreRead_2 :
    rdy.bitR pTHERM PG_INJ 0 = false ∧ rdy.bitR pTHERM THERM_STAT 23 = false ∧ rdy.bitR pTHERM THERM_STAT 22 = false ∧
    (rdy.sensor 15).dcnt < 2 ∧ (∀ j < 16, (rdy.sensor j).dcnt = 0) ∧
    (∀ k < 16, (rdy.sensor k).valid = true ∧ (rdy.sensor k).met = 0 ∧
      (List.replicate 16 (2560 : Int)).getD k 0 < 64 * (rdy.fldR pTHERM THERM_CFG 23 16 : Int) ∧
      (List.replicate 16 (2560 : Int)).getD k 0 < 6720 ∧
      ∃ j ∈ neighbours k, ((List.replicate 16 (2560 : Int)).getD k 0 - (List.replicate 16 (2560 : Int)).getD j 0).natAbs ≤ 512) := by
  decide +kernel

/-- The bench with one fault on its way and its class latched before. -/
def raised (c : FClass) (u : FUnit) : State :=
  { regs (bench .ready sIDLE tASSIGNED []) [(pWATCH, WATCH_STAT, word (2 ^ latchBit c))] with
    watch := { raised := [{ cls := c, code := 0x020, page := pSITE 63, unit := u }] } }

/-- A fault of each class at the Watchhouse, and a hedge ordered and awaiting its confirmation. -/
theorem hyp_FaultsAreLatchedAndSitesHedged :
    ([FClass.n, .d, .h, .g].all (fun c =>
      let s := raised c (if c = .d then .site 63 else .none)
      s.watch.handling == [] && s.fldR (pSITE 63) PG_FLT 23 21 == 0 && !s.bitR pWATCH PG_INJ 0 && !s.anyBusy
        && s.bitR pWATCH WATCH_STAT (latchBit c) && !s.regionEn 14 && decide (s.watch.buffer.length < 16)
        && s.watch.raised.all (fun r => r.fbit.isNone && r.pages == [r.page]) && s.canHedge 63 && s.glean.borrow.isNone
        && s.fldR pWATCH WATCH_CFG 22 16 == 0 && s.ops == [] && (List.range 68).all (fun u => s.acqSt u == 0))) = true ∧
    (let s : State := { bench .ready sIDLE tASSIGNED [] with watch := { orders := [63], confirm := [63] } }
     63 ∈ s.watch.orders ∧ s.siteSt 63 = tASSIGNED ∧ s.day.active = false ∧ s.strSt (s.siteStream 63) = sIDLE ∧
       (∀ o ∈ s.octetsOf 63, s.acqSt o = 0) ∧ 63 ∈ s.watch.confirm) ∧ 63 ∉ rdy.watch.orders ∧ 63 ∉ rdy.watch.confirm ∧
    (rdy.gate_ 0 pWATCH true = none ∧ (kindOf (pSITE 63)).isSome = true ∧ rdy.fldR (pSITE 63) PG_FLT 23 21 ≤ 2) ∧
    3 ≤ (regs rdy [(pSITE 63, PG_FLT, 0x600000)]).fldR (pSITE 63) PG_FLT 23 21 := by decide +kernel

/-- A second fault of a site whose first one is still handled. -/
theorem hyp_FaultsMerge :
    let r : Raised := { cls := .d, code := 0x020, page := pSITE 63, unit := .site 63 }
    let s : State := { raised .d (.site 63) with watch := { raised := [r], handling := [r] } }
    s.watch.raised = r :: [] ∧ s.watch.handling = [r] ∧ r.unit = r.unit ∧ (∀ o, r.unit ≠ .octet o) ∧ r.unit ≠ .none ∧
      r.cls = .d ∧ r.fbit = none ∧ r.pages = [r.page] :=
  ⟨rfl, rfl, rfl, nofun, nofun, rfl, rfl, by decide⟩

/-! ### Hypotheses: calibration, the Daybook -/

/-- A measurement of octet 7, channel 2, word 0, within its range. -/
def meas (ok : Bool) : Meas := { oct := 7, word := 64 * 2, val := 37, ok := ok }

theorem hyp_CalibrationIsMeasuredStoredAndApplied :
    (let s := at_ .test
     s.day.active = false ∧ s.gate_ 0 pGLEAN true = none ∧ s.checkGleanCmd 0x400000 = none ∧ s.glean.borrow = none ∧
       s.checkGleanCmd 0x800000 = none ∧ s.checkGleanCmd (word (0xC00000 + 63 * 2 ^ 16)) = none ∧
       s.bitR pGLEAN GLEAN_STAT 22 = false ∧ s.bitR pGLEAN GLEAN_STAT 20 = false) ∧
    ((regs (at_ .test) [(pGLEAN, GLEAN_STAT, 0x500000)]).bitR pGLEAN GLEAN_STAT 22 = true ∧
      (regs (at_ .test) [(pGLEAN, GLEAN_STAT, 0x500000)]).bitR pGLEAN GLEAN_STAT 20 = true) ∧
    (measWord false (meas true).word = true ∧ measGood (meas true).word (meas true).val = true ∧
      measChan 7 (meas true).word = some 58) ∧
    (let s : State := { rdy with glean := { borrow := some (.chan 58 .edges none) } }
     s.glean.borrow = some (.chan 58 .edges none) ∧ s.octBusy 7 = false ∧ ∀ w ∈ calWords, s.calT 7 w = s.calW 7 w) ∧
    (let s : State := { regs (bench .run sRUNNING tACTIVE [(pSITE 63, SITE_OCT0, 0x1C0000)]) [] with
       glean := { borrow := some (.chan 58 .edges none) } }
     s.octBusy 7 = true) ∧
    ((meas true).oct == 58 / 8 && taskWord false .edges (58 % 8) (meas true).word) = true ∧
    ((meas true).oct == 58 / 8 && taskWord false .levels (58 % 8) (meas true).word) = false ∧
    ((at_ .test).pins.pwrwarnN = true ∧ (({ at_ .test with pins := { pwrwarnN := false } } : State).pins.pwrwarnN = false) ∧
      [0, 1, 2, 3, 4, 5, 6, 40001].length = 8) := by
  refine ⟨?_, ?_, ?_, ?_, ?_, ?_, ?_, ?_⟩ <;> decide +kernel

/-- Site 63 ACTIVE with `n` vectors ahead that carry X on every pin, the gleaner enabled. -/
def quiet (n : Nat) : State :=
  regs (running sRUNNING tACTIVE { items := [.vec 0 n (List.replicate 8 cX) [0] false 0] } { begun := true }) [(pGLEAN, GLEAN_CFG, 0x804000)]

/-- A channel that lends itself at once, one that does in an X window, and ones that do neither. -/
theorem hyp_ChannelsAreBorrowed :
    (let s := regs rdy [(pGLEAN, GLEAN_CFG, 0x804000)]
     s.gleanMay = true ∧ s.gleanFree 511 .tone = true ∧ s.gleanOpen 511 .tone = true) ∧
    (at_ .halted).gleanMay = false ∧
    ((quiet 256).gleanMay = true ∧ (quiet 256).gleanFree 504 .edges = true ∧ (quiet 256).gleanOpen 504 .edges = false ∧
      (quiet 256).fitsWindow 504 .edges 240 = true ∧ (quiet 256).fitsWindow 504 .edges 241 = false) ∧
    (octet { adc := [1, 0, 0, 0, 0, 0, 0, 0] } []).gleanFree 504 .adc = false := by decide +kernel

/-- A record that waits to be programmed, and a group's first. -/
def record (typ : Nat) : DayRec := { typ := typ, rseq := 1, count := 1, new := [0] }

/-- READY with the journal as given. -/
def journal (d : Daybook) : State := { rdy with day := d }

theorem hyp_DaybookRecordsAreProgrammedAndSealed :
    rdy.day.queue = [] ∧
    (let s := journal { mode := .on, queue := [record 1], area := some (0, 2 ^ 26) }
     s.day.queue = record 1 :: [] ∧ s.pins.pwrwarnN = true ∧ ({ s.day with queue := [], log := s.day.log ++ [record 1] } : Daybook).fill < 75) ∧
    (journal { mode := .on, group := [record 1], opened := 2 ^ 64 - 250000000000 }).day.group ≠ [] ∧
    (let s := journal { mode := .on, group := [record 1], opened := 2 ^ 64 - 250000000000 }
     250000000000 ≤ (s.time.base + 2 ^ 64 - s.day.opened) % 2 ^ 64 ∧ s.gate_ 0 pDAY true = none ∧ s.day.compacting = false) ∧
    (let s := journal { mode := .on, compacting := true, ckpt := [record 0x12] }
     s.day.compacting = true ∧ s.pins.pwrwarnN = true ∧ max (s.dayDrain 0).day.sealedRec (s.dayDrain 0).day.abandoned < 1 ∧
       (s.day.ckpt.head?.map (·.rseq)).getD 0 = 1) ∧
    (let s := journal { mode := .on, compacting := true, ckpt := [record 0x12], sealedRec := 1 }
     1 ≤ max (s.dayDrain 0).day.sealedRec (s.dayDrain 0).day.abandoned) ∧
    ({ rdy with pins := { pwrwarnN := false } } : State).pins.pwrwarnN = false ∧
    (journal { group := [record 1], opened := 2 ^ 64 - 249999999999 }).day.group ≠ [] ∧
    (let s := journal { group := [record 1], opened := 2 ^ 64 - 249999999999 }
     (s.time.base + 2 ^ 64 - s.day.opened) % 2 ^ 64 < 250000000000) ∧
    (journal { mode := .formatting }).day.mode = .formatting ∧ rdy.day.mode ≠ .formatting ∧
    (let s : State := { rdy with day := { queue := [record 1] } }
     s.hostGate org.ini = none ∧ fld (0x000001 : Word) 23 8 = 0 ∧ s.journalMax (orgPort org) < fld (0x0000FF : Word) 7 0 ∧
       fld (0x000001 : Word) 7 0 ≤ s.journalMax (orgPort org) ∧
       (s.day.log ++ s.day.queue).find? (fun r => decide (r.typ ≤ 2) && r.rseq == 1 + 0) = some (record 1) ∧
       (s.day.log ++ s.day.queue).find? (fun r => decide (r.typ ≤ 2) && r.rseq == 2 + 0) = none) := by decide +kernel

/-- READY with the lock of page DAYBOOK held and the area's base at 16 MiB. -/
def based : State := regs rdy [(pDAY, PG_LOCK, 1), (pDAY, DB_BASE1, 1)]

theorem hyp_DaybookAreaIsWritten :
    based.gate_ 0 pDAY true = none ∧ based.lockMine pDAY 0 = true ∧ based.waits = [] ∧ based.run.st = .ready ∧
    based.day.compacting = false ∧ based.day.mode ≠ .formatting ∧ based.wideR pDAY DB_BASE0 2 = 2 ^ 24 := by decide +kernel

/-- The smallest area at 16 MiB lies in every flash, which holds 64 MiB or more (R421). -/
theorem hyp_DaybookAreaIsFormatted : based.checkDbSize (2 ^ 25) = none := by
  obtain ⟨-, -, -, a, b, c, d⟩ := hyp_DaybookAreaIsWritten
  have e : decide (Config.flashSize < 2 ^ 24 + 2 ^ 25) = false :=
    decide_eq_false (Nat.not_lt.mpr (Nat.le_trans (by decide) (Nat.le_add_right (2 ^ 26) _)))
  simp only [State.checkDbSize, a, b, d, e]
  decide +kernel
/-! ### Hypotheses: the Reeve, the Gate, the Chest, updates -/

theorem hyp_ReeveRamErrorsCountAndRaise :
    (regs rdy [(pUPD, UPD_STAT, 0x800000)]).fldR pUPD UPD_STAT 23 22 = 2 ∧ rdy.fldR pUPD UPD_STAT 23 22 = 0 := by decide +kernel

theorem hyp_ReeveSerialMasterAndWindow :
    rdy.bitR pREEVE REEVE_STAT 23 = false ∧ (regs rdy [(pREEVE, REEVE_STAT, 0x800000)]).bitR pREEVE REEVE_STAT 23 = true ∧
    ({ rdy with reeve := { reload := true } } : State).reeve.reload = true ∧
    (rdy.gate_ 0 pSERM true = none ∧ rdy.bitR pSERM SERM_STAT 22 = false ∧ rdy.bitR pSERM SERM_STAT 23 = false ∧
      rdy.reeve.winWait = none ∧ rdy.selectsHigh = true) ∧
    (let s := regs rdy [(pSERM, SERM_STAT, 0x800000), (pSERM, SERM_XCFG, 0x300080)]
     s.bitR pSERM SERM_STAT 23 = true ∧ s.bitR pSERM SERM_XCFG 7 = true ∧ s.fldR pSERM SERM_XCFG 21 16 = 48) ∧
    (let s := regs rdy [(pSERM, SERM_SELMASK, 0x00FFFF), (pSERM, SERM_GPIO_OE, 0x008000), (pSERM, SERM_GPIO_OUT, 0x007FFF)]
     s.selectsHigh = false ∧ (s.reg pSERM SERM_SELMASK).toNat < 65536) ∧
    (regs rdy [(pSERM, SERM_SELMASK, 0x007FFF)]).reg pSERM SERM_SELMASK = 0x007FFF := by decide +kernel

/-- A NOP frame with alive counter 15, its CRC right. -/
def nopFrame : List Byte := let b : List Byte := [0, 0, 0xF0]; b ++ [BitVec.ofNat 8 (crc8 b)]

theorem hyp_GateFramesExecuteOnce :
    ((at_ .dead).run.st ≠ .cold ∧ State.reset.run.st = .cold) ∧ 2 ^ 20 ≤ (0x100000 : Word).toNat ∧ (0x0FFFFF : Word).toNat < 2 ^ 20 ∧
    ({ rdy with fuses := { life := 3 } } : State).fuses.life = 3 ∧
    (rdy.run.st ≠ .dead ∧ rdy.fuses.life ≠ 3 ∧ (List.replicate 16 (0 : Word)).length ≤ 16 ∧
      (regs rdy [(pGATE, GATE_CFG, 0)]).bitR pGATE GATE_CFG 23 = false) ∧
    (regs rdy [(pGATE, GATE_CFG, 0x800000)]).bitR pGATE GATE_CFG 23 = true ∧
    (let b := padTo 4 nopFrame
     let len := (b.getD 1 0).toNat
     let alive := (b.getD (len + 2) 0).toNat
     ¬ (32 % 8 ≠ 0 ∨ 32 / 8 < 4 ∨ 51 < len ∨ 32 / 8 < len + 4 ∨ alive % 16 ≠ 0) ∧ rdy.bitR pGATE PG_INJ 0 = false ∧
       crc8 (b.take (len + 3)) = (b.getD (len + 3) 0).toNat ∧ alive / 16 = 15 ∧ rdy.bitR pGATE GATE_STAT 19 = false) ∧
    (let s := regs rdy [(pGATE, GATE_STAT, 0xF80000)]
     s.bitR pGATE GATE_STAT 19 = true ∧ s.fldR pGATE GATE_STAT 23 20 = 15) ∧
    crc8 [0, 0, 0xF0] ≠ (0 : Byte).toNat ∧ (∀ x ∈ rdy.abt.settles, x.1 ≠ 2) ∧ (0x100000 : Word).toNat / 256 % 4096 = 0 := by decide +kernel

/-- READY or TEST with fuses and the Chest changed since its last seal, a second after the last write. -/
def chest (r : RunState) (f : Fuses) : State :=
  { regs (at_ r) [(pCHEST, CHEST_STAT, 0x400000), (pLIFE, PG_LOCK, 1)] with
    fuses := f, chest := { touched := 2 ^ 64 - 10 ^ 12 } }

theorem hyp_ChestIsSealedAndWipedAndLifeAdvances :
    (let s := chest .ready { epoch := 63 }
     s.gate_ 0 pCHEST true = none ∧ s.checkChestCmd 1 = none ∧ s.checkChestCmd 2 = none ∧ s.run.st ≠ .cold ∧
       s.bitR pCHEST CHEST_STAT 22 = true ∧ s.canSeal = true ∧ 10 ^ 12 ≤ (s.time.base + 2 ^ 64 - s.chest.touched) % 2 ^ 64 ∧
       s.bitR pCHEST CHEST_STAT 23 = false) ∧
    (regs rdy [(pCHEST, CHEST_STAT, 0x800000)]).bitR pCHEST CHEST_STAT 23 = true ∧
    (let s := chest .test { life := 0 }
     s.gate_ 0 pLIFE true = none ∧ s.lockMine pLIFE 0 = true ∧ s.reg pLIFE LIFE_CMD = 0 ∧
       s.checkLifeCmd (word (2 ^ 20 + 4 * 2 ^ 17)) = none) ∧
    (chest .test { life := 1 }).checkLifeCmd 0x200000 = none ∧ rdy.reeve.change = none ∧
    ({ rdy with reeve := { change := some 4 } } : State).reeve.change = some 4 ∧
    (rdy.pins.porstN = false ∧ ({ rdy with pins := { porstN := true } } : State).pins.porstN = true) := by decide +kernel

/-- VIRGIN with an update of initiator 0 in progress: its kind, and the words received of those announced. -/
def updating (kind total recv : Nat) (img : List Word) (svn : Nat) : State :=
  { regs (at_ .ready) [(pUPD, UPD_STAT, word (2 ^ 22 + kind * 2 ^ 18)), (pUPD, UPD_TOTAL0, word total), (pUPD, UPD_RECV0, word recv)] with
    fuses := { life := 0, svn := svn }, upd := { staged := img, last := 2 ^ 64 - 60 * 10 ^ 12 } }

theorem hyp_UpdatesAreStagedVerifiedAndCommitted :
    (rdy.hostGate org.ini = none ∧ rdy.fldR pUPD UPD_STAT 23 22 = 0 ∧ rdy.fuses.life ≠ 4 ∧ rdy.run.st = .ready ∧ 60 < 61 ∧
      areaWords 1 < areaWords 1 + 1 ∧ 61 ≤ areaWords 1 ∧ rdy.updMine org.ini = false ∧ rdy.canSave = true ∧
      (at_ .halted).canSave = false) ∧
    (let s := updating 1 62 61 [] 0
     s.updMine org.ini = true ∧ s.wideR pUPD UPD_RECV0 2 = 61 ∧ 62 < 61 + [(0 : Word), 0].length ∧
       61 + [(0 : Word)].length ≤ s.wideR pUPD UPD_TOTAL0 2 ∧ s.wideR pUPD UPD_RECV0 2 ≠ s.wideR pUPD UPD_TOTAL0 2 ∧
       [(0 : Word)].length ≤ s.bulkMax (orgPort org) ∧ s.bitR pUPD PG_INJ 0 = false ∧ s.fldR pUPD UPD_STAT 23 22 = 1 ∧
       60 * 10 ^ 12 ≤ (s.time.base + 2 ^ 64 - s.upd.last) % 2 ^ 64) ∧
    (regs rdy [(pUPD, UPD_STAT, 0xC00000)]).fldR pUPD UPD_STAT 23 22 = 3 ∧
    (let s := regs rdy [(pUPD, UPD_STAT, 0x800000)]
     s.gate_ 0 pUPD true = none ∧ s.fldR pUPD UPD_STAT 23 22 = 2 ∧ s.gate_ 0 pREEVE true = none) := by decide +kernel

/-- An unsigned image of one payload word, of a kind and with an SVN (R443, R444). -/
def image (kind svn : Nat) : List Word :=
  [word (kind * 2 ^ 20 + 2 ^ 16 + svn), 0, 0, 1, 0] ++ List.replicate 11 0 ++ [5] ++ List.replicate 44 0

/-- Images that pass, and that fail by their format and by their SVN. -/
theorem hyp_UpdatesAreVerified :
    (updating 1 61 61 (image 1 63) 62).verifyImage 1 61 (image 1 63) false = 1 ∧
    (updating 1 61 61 (image 2 63) 62).verifyImage 1 61 (image 2 63) false = 2 ∧
    (updating 1 61 61 (image 1 61) 62).verifyImage 1 61 (image 1 61) false = 4 := by decide +kernel


/-! ### The spec's worked examples -/

/-- Chip 203 with port A up, ready for unicast frames. -/
def chip203 : State :=
  let s := regs rdy [(pLINK 0, LINK_STAT, 0xC00000), (pTOP, TOP_CHIPNO, 0x0000CB)]
  { s with abt := { s.abt with chip := 203 }, pins := { s.pins with cid := 203, strap := 203 } }

/-- Example 4.1 (chapter 4): the request payload without its CRC-32C. -/
def req41 : List Byte :=
  [0x10, 0x40, 0x00, 0xCB, 0x01, 0x00, 0x01, 0x00, 0x01, 0x00, 0x00, 0x02, 0x00, 0x01, 0x12, 0x00, 0x00, 0x00]

/-- Example 4.1: the reply that the space caches, and its next number. -/
theorem test_example_4_1_reply :
    let s := nx (.abtRequestFrame 0 ⟨0x02A510000001, 0xA9FE0101, chip203.ipOf 0, 5000, chip203.fldR pABT ABT_PORT 15 0, 0, withCrc req41⟩) chip203
    s.abt.sources.map (fun x => x.spaces.map (fun y => (y.next, y.cache.map (fun f => (s.replyPayload f false 0).take 15)))) =
      [[(0x0101, [[0x11, 0x00, 0x00, 0xCB, 0x01, 0x00, 0x01, 0x00, 0x01, 0x00, 0x00, 0x01, 0x0C, 0xB0, 0xCB]])]] := by
  decide +kernel

/-- Example 3.2: a table burst past LAST is rejected whole with BOUNDARY (0x06), and one that ends at LAST is accepted. -/
theorem test_example_3_2_table_bursts :
    let s := nx (.registerWrite 0 (pGREEN * 256 + 0x0A) 0x0003FC) rdy
    let a := nx (.write org (pGREEN * 256 + 0x0B) (List.replicate 8 0) none) s
    let b := nx (.write org (pGREEN * 256 + 0x0B) (List.replicate 4 0) none) s
    (s.window 0 pGREEN = (0, false, 0x3FC) ∧ a.reply.status = 6 ∧ a.window 0 pGREEN = (0, false, 0x3FC)) ∧
    b.reply.status = 0 ∧ b.window 0 pGREEN = (0, false, 0x400) ∧
    (nx (.tblDataAccess 0 pGREEN none) b).reply.status = a.reply.status := by decide +kernel

/-- Example 6.1 (b): vector 0 of the RUN, bits 0xB49: SI 1, 0, 1, 1; SO EH, EL, X, EH; SCLK CP. -/
theorem test_example_6_1_run_vector :
    runCodes [(0, 0), (0, 1), (0, 2), (0, 3), (2, 4), (2, 5), (2, 6), (2, 7), (3, 8)] (List.replicate 16 cKEEP) 12 0xB49 =
      .ok ([cD1, cD0, cD1, cD1, cEH, cEL, cX, cEH, cCP] ++ List.replicate 7 cKEEP) := by decide +kernel

/-- Example 6.1 (c): the sparse VEC with header 0x066047 sets SO0 to SO3 to X, SCLK and SE to D0. -/
theorem test_example_6_1_sparse_vec :
    sparseCodes 16 (sparseEntries 0 0x066047 [0x057067, 0x077080, 0x090000]  |>.take 6) none (List.replicate 16 cKEEP) =
      .ok (List.replicate 4 cKEEP ++ List.replicate 4 cX ++ [cD0, cD0] ++ List.replicate 6 cKEEP) := by decide +kernel

/-- Example 12.1: with CLOCKED = 0 channel 0 would close a loop of direct channels, and its write is rejected; with
CLOCKED = 1 it is accepted. -/
theorem test_example_12_1_loop :
    let s := nx (.registerWrite 0 (pGREEN * 256 + 0x0A) 0x100000) (tabs rdy [(pGREEN, 0, 6, 0x400000)])
    (nx (.tblDataAccess 0 pGREEN (some 0xBC0000)) s).reply.status = 7 ∧
    (nx (.tblDataAccess 0 pGREEN (some 0xFC0000)) s).reply.status = 0 := by decide +kernel

/-- Example 16.1, frames 1 and 2: the reply to a Gate READ of TOP_STATE in RUN, entered from READY after step 9. -/
theorem test_example_16_1_gate_read :
    let frame (b : List Byte) : List Byte := b ++ [BitVec.ofNat 8 (crc8 b)]
    let s : State := { at_ .run with run := { st := .run, prev := .ready, step := 9 } }
    let s := nx (.gateFrame 64 (frame [0x01, 0x04, 0x00, 0x01, 0x10, 0x01, 0x50]) false) s
    s.gate.replyBytes.take 8 = [0x01, 0x00, 0x00, 0x03, 0x32, 0x90, 0x00, 0x50] := by decide +kernel

/-! ### Corners of the rules -/

/-- Table 3.1: block types and numbers. -/
theorem test_block_types :
    [pID, pLINK 1, pSTREAM 1, pSLIP, pUPD, pOCTPE 5, pOCTTM 0, pACQ 63, pSITE 63].map (fun p => rdy.readReg 0 p .id 0) =
      [0x101000, 0x103001, 0x110001, 0x118000, 0x156000, 0x200005, 0x201000, 0x20203F, 0x20303F] := by decide +kernel

/-- R157, R227: ARM starts every pin from DZ with the counters of its octets cleared. -/
theorem test_arm_is_fresh :
    let s := nx (.execArm org 0x018000 0 0) (regs armable [(pOCTTM 63, 0x12, 7), (pOCTTM 63, 0x14, 9)])
    (s.stream 0).exp.res = List.replicate 8 2 ∧ s.reg (pOCTTM 63) 0x12 = 0 ∧ s.reg (pOCTTM 63) 0x14 = 0 := by decide +kernel

/-- R252: an inverted comparison of the time base's two counters is met at once while the PLL is locked. -/
theorem test_time_base_compare :
    let s := nx (.pgInj 0 pTBASE 1) (lockedAt [])
    s.reg pTBASE PG_INJ = 0 ∧ s.watch.raised.map (fun r => (r.code, r.inj)) = [(0x073, true)] ∧
    (nx (.pgInj 0 pTBASE 1) rdy).reg pTBASE PG_INJ = 1 := by decide +kernel

/-- R69: a quantity that takes its value drops the lower word that another initiator had written before. -/
theorem test_lower_words_are_dropped :
    let wr (i : Ini) (off : Nat) (w : Word) (s : State) : State := nx (.registerWrite i (pACQ 0 * 256 + off) w) s
    let s := wr 2 ACQ_LEN0 5 (wr 0 ACQ_LEN0 9 rdy)
    let s := wr 2 (ACQ_LEN0 + 1) 1 s
    s.wideR (pACQ 0) ACQ_LEN0 2 = 2 ^ 24 + 5 ∧ (wr 0 (ACQ_LEN0 + 1) 2 s).wideR (pACQ 0) ACQ_LEN0 2 = 2 * 2 ^ 24 + 5 := by
  decide +kernel

/-- R64: a page that has served the Gate looks at the Reeve first, then at port A, port B and the Gate. -/
theorem test_grant_rotates :
    ((rdy.serve 2 pTOP).grant pTOP [2, 1, 0], (rdy.serve 2 pTOP).grant pTOP [0, 3], (rdy.serve 3 pTOP).grant pTOP [2],
      rdy.grant pTOP []) = (some 0, some 3, some 2, none) := by decide +kernel

end Sys2Proof.Tests
end

section

/-! ## What every command keeps

The queue, and the canonical form of the registers, the tables, the banks, the external memory and the flash. There is
one lemma `Keeps.f` for every operation `f` of the model, and its proof follows the operation's own text: where `f`
calls `g`, the proof cites `Keeps.g`. -/

namespace Sys2Proof.Machine

theorem Store.wf_foldlPut {α : Type} [DecidableEq α] {dflt : Nat → α} {l : List (Nat × α)} {m : Store α}
    (h : Store.wf dflt m = true) : Store.wf dflt (l.foldl (fun m e => m.put dflt e.1 e.2) m) = true := by
  induction l generalizing m with
  | nil => exact h
  | cons e l ih => exact ih (Store.wf_put _ h _ _)

/-- The state `t` has the queue of `s`, and each sparse store that is canonical in `s` is canonical in `t`. -/
structure Keeps (s t : State) : Prop where
  queue : t.pending = s.pending
  regs : Store.wf regDefault s.regs = true → Store.wf regDefault t.regs = true
  tabs : Store.wf tabDefault s.tabs = true → Store.wf tabDefault t.tabs = true
  bankMem : Store.wf zeroDefault s.bankMem = true → Store.wf zeroDefault t.bankMem = true
  dram : Store.wf zeroDefault s.dram = true → Store.wf zeroDefault t.dram = true
  flash : Store.wf flashDefault s.flash = true → Store.wf flashDefault t.flash = true

/-- A command answers a next state, which keeps what `s` has. -/
def Continues (s : State) (o : Out) : Prop := ∃ t, o = .next t ∧ Keeps s t

theorem Keeps.refl (s : State) : Keeps s s := ⟨rfl, id, id, id, id, id⟩

section
variable {s₀ s : State} (h : Keeps s₀ s)
include h

theorem Keeps.next : Continues s₀ (.next s) := ⟨s, rfl, h⟩

omit h in
theorem Continues.ite {a b : Out} {c : Prop} [Decidable c] (ha : Continues s₀ a) (hb : Continues s₀ b) :
    Continues s₀ (if c then a else b) := by
  split <;> assumption

/-- A change of the other parts of the state. -/
theorem Keeps.frame {reply fresh run pins fuses env tblAddr snaps waits rot time tx abt slots recs ptp banks
    refill dramRun streams sites stile chans octets mons sensors comps watch ops mse day green units siteWr
    extWr glean gate chest fmap upd reeve} :
    Keeps s₀ ⟨s.pending, reply, fresh, run, pins, fuses, env, s.regs, s.tabs, tblAddr, snaps, waits, rot,
      time, tx, abt, slots, recs, ptp, banks, s.bankMem, s.dram, refill, dramRun, streams, sites, stile,
      chans, octets, mons, sensors, comps, watch, ops, mse, day, s.flash, green, units, siteWr, extWr,
      glean, gate, chest, fmap, upd, reeve⟩ :=
  ⟨h.queue, h.regs, h.tabs, h.bankMem, h.dram, h.flash⟩

/-! ### How operations are put together -/

theorem Keeps.ite {t : State} {c : Prop} [Decidable c] (ht : Keeps s₀ t) : Keeps s₀ (if c then s else t) := by
  split <;> assumption

/-- An operation that is done where a condition holds. -/
theorem Keeps.when {t : State} {c : Prop} [Decidable c] (ht : Keeps s₀ s → Keeps s₀ t) :
    Keeps s₀ (if c then t else s) :=
  (ht h).ite h

/-- An operation that is done where a condition does not hold. -/
theorem Keeps.unless {t : State} {c : Prop} [Decidable c] (ht : Keeps s₀ s → Keeps s₀ t) :
    Keeps s₀ (if c then s else t) :=
  h.ite (ht h)

/-- An operation repeated over a list. -/
theorem Keeps.foldl {α : Type} {f : State → α → State} {l : List α}
    (hf : ∀ {s a}, Keeps s₀ s → Keeps s₀ (f s a)) : Keeps s₀ (l.foldl f s) := by
  induction l generalizing s with
  | nil => exact h
  | cons a l ih => exact ih (hf h)

end

section
variable {s₀ : State} {α β : Type}

/-- The state of an operation that also answers a value. -/
theorem Keeps.of_eq {x : α × State} (h : Keeps s₀ x.2) {a : α} {t : State} (e : x = (a, t)) : Keeps s₀ t := by
  subst e
  exact h

theorem Keeps.iteSnd {x y : α × State} {c : Prop} [Decidable c] (hx : Keeps s₀ x.2) (hy : Keeps s₀ y.2) :
    Keeps s₀ (if c then x else y).2 := by
  split <;> assumption

/-- An operation that also answers a value, repeated over a list. -/
theorem Keeps.foldlSnd {x : β × State} {f : β × State → α → β × State} {l : List α} (h : Keeps s₀ x.2)
    (hf : ∀ {x a}, Keeps s₀ x.2 → Keeps s₀ (f x a).2) : Keeps s₀ (l.foldl f x).2 := by
  induction l generalizing x with
  | nil => exact h
  | cons a l ih => exact ih (hf h)

end

section
variable {s₀ s : State} (h : Keeps s₀ s)
include h


/-! ### Ops -/

/-- A change of the registers that keeps their canonical form. -/
theorem Keeps.withRegs {m} (hm : Store.wf regDefault s.regs = true → Store.wf regDefault m = true) :
    Keeps s₀ { s with regs := m } :=
  { h with regs := fun hw => hm (h.regs hw) }

/-- A change of the tables that keeps their canonical form. -/
theorem Keeps.withTabs {m} (hm : Store.wf tabDefault s.tabs = true → Store.wf tabDefault m = true) :
    Keeps s₀ { s with tabs := m } :=
  { h with tabs := fun hw => hm (h.tabs hw) }

/-- A change of the bank words that keeps their canonical form. -/
theorem Keeps.withBankMem {m} (hm : Store.wf zeroDefault s.bankMem = true → Store.wf zeroDefault m = true) :
    Keeps s₀ { s with bankMem := m } :=
  { h with bankMem := fun hw => hm (h.bankMem hw) }

/-- A change of the external memory that keeps its canonical form. -/
theorem Keeps.withDram {m} (hm : Store.wf zeroDefault s.dram = true → Store.wf zeroDefault m = true) :
    Keeps s₀ { s with dram := m } :=
  { h with dram := fun hw => hm (h.dram hw) }

/-- A change of the flash that keeps its canonical form. -/
theorem Keeps.withFlash {m} (hm : Store.wf flashDefault s.flash = true → Store.wf flashDefault m = true) :
    Keeps s₀ { s with flash := m } :=
  { h with flash := fun hw => hm (h.flash hw) }

theorem Keeps.setReg {page off w} : Keeps s₀ (s.setReg page off w) :=
  h.withRegs fun hw => Store.wf_put _ hw _ _

theorem Keeps.setFld {page off hi lo v} : Keeps s₀ (s.setFld page off hi lo v) := h.setReg

theorem Keeps.setBit {page off i b} : Keeps s₀ (s.setBit page off i b) := h.setFld

theorem Keeps.inc {page off n} : Keeps s₀ (s.inc page off n) := h.setReg

theorem Keeps.incSat {page off n} : Keeps s₀ (s.incSat page off n) := h.setReg

theorem Keeps.incFld {page off hi lo n} : Keeps s₀ (s.incFld page off hi lo n) := h.setFld

theorem Keeps.clearRegs {page offs} : Keeps s₀ (s.clearRegs page offs) := h.foldl (·.setReg)

theorem Keeps.setWide {page off n v} : Keeps s₀ (s.setWide page off n v) := h.foldl (·.setReg)

theorem Keeps.setTab {page tsel idx w} : Keeps s₀ (s.setTab page tsel idx w) :=
  h.withTabs fun hw => Store.wf_put _ hw _ _

theorem Keeps.setTabs {page tsel idx ws} : Keeps s₀ (s.setTabs page tsel idx ws) :=
  h.withTabs fun hw => Store.wf_putList _ hw _ _

theorem Keeps.setStream {k v} : Keeps s₀ (s.setStream k v) := h.frame

theorem Keeps.setSite {n v} : Keeps s₀ (s.setSite n v) := h.frame

theorem Keeps.setOct {n v} : Keeps s₀ (s.setOct n v) := h.frame

theorem Keeps.setChan {n v} : Keeps s₀ (s.setChan n v) := h.frame

theorem Keeps.setBank {n v} : Keeps s₀ (s.setBank n v) := h.frame

theorem Keeps.setSlot {n v} : Keeps s₀ (s.setSlot n v) := h.frame

theorem Keeps.setRefill {k v} : Keeps s₀ (s.setRefill k v) := h.frame

theorem Keeps.setMon {m v} : Keeps s₀ (s.setMon m v) := h.frame

theorem Keeps.setSensor {k v} : Keeps s₀ (s.setSensor k v) := h.frame

theorem Keeps.setComp {b v} : Keeps s₀ (s.setComp b v) := h.frame

theorem Keeps.setOp {t v} : Keeps s₀ (s.setOp t v) := h.frame

theorem Keeps.ok {data} : Keeps s₀ (s.ok data) := h.frame

theorem Keeps.err {e} : Keeps s₀ (s.err e) := h.frame

theorem Keeps.takeFree : Keeps s₀ (s.takeFree).2 := h.frame

theorem Keeps.raise {r} : Keeps s₀ (s.raise r) := h.frame

theorem Keeps.raiseN {page code detail} : Keeps s₀ (s.raiseN page code detail) := h.raise

theorem Keeps.raiseH {page code detail} : Keeps s₀ (s.raiseH page code detail) := h.raise

theorem Keeps.raiseD {page code u detail} : Keeps s₀ (s.raiseD page code u detail) := h.raise

theorem Keeps.send {port b} : Keeps s₀ (s.send port b) := h.when (·.inc.frame)

theorem Keeps.sendUdp {p toMac toIp toPort payload} : Keeps s₀ (s.sendUdp p toMac toIp toPort payload) :=
  h.send

theorem Keeps.ticks {n} : Keeps s₀ (s.ticks n) := h.frame

theorem Keeps.toEdge {e} : Keeps s₀ (s.toEdge e) := h.when (·.ticks)

theorem Keeps.toPs {t} : Keeps s₀ (s.toPs t) := h.toEdge

theorem Keeps.captureEdge : Keeps s₀ (s.captureEdge).2 := h.takeFree

theorem Keeps.enterPage {page} : Keeps s₀ (s.enterPage page) := h.when (·.captureEdge.toEdge)

theorem Keeps.leavePage {page} : Keeps s₀ (s.leavePage page) := h.when (·.ticks)

theorem Keeps.setStrSt {k v} : Keeps s₀ (s.setStrSt k v) := h.setFld

theorem Keeps.setSiteSt {n v} : Keeps s₀ (s.setSiteSt n v) := h.setFld

theorem Keeps.monsToFault {ms} : Keeps s₀ (s.monsToFault ms) := h.foldl fun h => h.unless (·.setMon)

theorem Keeps.toAssigned {n} : Keeps s₀ (s.toAssigned n) := h.setSiteSt.monsToFault

theorem Keeps.assign {n} : Keeps s₀ (s.assign n) := h.setSite.toAssigned

theorem Keeps.unassign {n} : Keeps s₀ (s.unassign n) := h.setSiteSt.setSite

theorem Keeps.endLimit {o lane} : Keeps s₀ (s.endLimit o lane) := h.setOct.setBit

theorem Keeps.endLimits : Keeps s₀ s.endLimits := h.foldl (·.setFld.setOct)

theorem Keeps.isolatePins : Keeps s₀ s.isolatePins := h.frame.endLimits

theorem Keeps.gleanStop : Keeps s₀ s.gleanStop := by
  dsimp only [State.gleanStop]
  split
  exacts [h.inc.frame, h]

theorem Keeps.gleanYield {o m} : Keeps s₀ (s.gleanYield o m) := by
  dsimp only [State.gleanYield]
  split
  exacts [h.when (·.gleanStop), h]

theorem Keeps.gleanTdc {o} : Keeps s₀ (s.gleanTdc o) := by
  dsimp only [State.gleanTdc]
  split
  exacts [h.when (·.gleanStop), h]

theorem Keeps.gleanReview : Keeps s₀ s.gleanReview := by
  dsimp only [State.gleanReview]
  split
  exacts [h.unless (·.gleanStop), h]

theorem Keeps.gleanTick {n} : Keeps s₀ (s.gleanTick n) := by
  dsimp only [State.gleanTick]
  split
  exacts [h.unless (·.inc.frame.ite h.frame), h]

/-! ### DayOps -/

theorem Keeps.applyWord {page place idx w} : Keeps s₀ (s.applyWord page place idx w) := by
  dsimp only [State.applyWord]
  split
  exacts [h, h.setReg.ite (h.when (·.setTab))]

theorem Keeps.dayClose : Keeps s₀ s.dayClose := by
  dsimp only [State.dayClose]
  split
  exacts [h, h.frame]

theorem Keeps.dayCompact : Keeps s₀ s.dayCompact := h.dayClose.frame

theorem Keeps.dayFail : Keeps s₀ s.dayFail := h.raiseN.frame

theorem Keeps.dayProgram {ok} : Keeps s₀ (s.dayProgram ok) := by
  dsimp only [State.dayProgram]
  split
  exacts [h, (((h.when (·.setBit)).frame.when (·.frame)).when (·.dayCompact)).ite h.dayFail]

theorem Keeps.dayDrain {n} : Keeps s₀ (s.dayDrain n) := h.foldl fun h => h.when (·.dayProgram)

theorem Keeps.dayPut {r} : Keeps s₀ (s.dayPut r) := (h.unless (·.dayDrain)).frame.when (·.dayClose)

theorem Keeps.journal {s0 : State} {origin page place idxs} : Keeps s₀ (s.journal s0 origin page place idxs) :=
  h.when (·.foldl (·.dayPut))

theorem Keeps.applyRec {r useOld} : Keeps s₀ (s.applyRec r useOld) := h.foldl (·.applyWord)

theorem Keeps.dayRollback : Keeps s₀ s.dayRollback := (h.foldl (·.applyRec)).frame.ite h

theorem Keeps.dayUndoTest : Keeps s₀ s.dayUndoTest :=
  ((h.foldl (·.applyRec)).foldl (·.journal)).dayClose.dayDrain

/-! ### StoreOps -/

theorem Keeps.bankCe {b r inj} : Keeps s₀ (s.bankCe b r inj) := h.setBank.when (·.raise)

theorem Keeps.bankUe {b inj} : Keeps s₀ (s.bankUe b inj) := h.setBank.raise

theorem Keeps.bankCheck {b r} : Keeps s₀ (s.bankCheck b r).2 :=
  Keeps.iteSnd h (Keeps.iteSnd (Keeps.iteSnd h.setReg.bankUe h.setReg.bankCe) h)

theorem Keeps.setCell {b row j w} : Keeps s₀ (s.setCell b row j w) := by
  unfold State.setCell
  split
  exacts [h.setTab, h.withBankMem fun hw => Store.wf_put _ hw _ _]

theorem Keeps.setRow {b row ws} : Keeps s₀ (s.setRow b row ws) := h.foldl (·.setCell)

theorem Keeps.readRegion {cls who g p} : Keeps s₀ (s.readRegion cls who g p).2 := by
  dsimp only [State.readRegion]
  split
  exacts [h, h.bankCheck]

theorem Keeps.writeRegion {g p w} : Keeps s₀ (s.writeRegion g p w).2 := by
  dsimp only [State.writeRegion]
  split
  exacts [h, Keeps.iteSnd h h.setCell]

theorem Keeps.writeRegionRun {g p ws} : Keeps s₀ (s.writeRegionRun g p ws).2 := h.foldlSnd (·.writeRegion)

theorem Keeps.writeSlip {k w v c slot} : Keeps s₀ (s.writeSlip k w v c slot).2 := by
  dsimp only [State.writeSlip]
  split
  exacts [h, Keeps.iteSnd h h.setRow]

theorem Keeps.clearBank {b} : Keeps s₀ (s.clearBank b) :=
  { h with
    bankMem := fun hw => Store.wf_keep zeroDefault (h.bankMem hw) fun k => k / 4 / 21846 != b
    tabs := fun hw => Store.wf_keep tabDefault (h.tabs hw) fun k =>
      !(k / 2 ^ 23 == pGLEAN && decide (k / 2 ^ 19 % 16 < 2) && s.keepIn b (k / 2 ^ 19 % 16) (k % 2 ^ 19)) }

theorem Keeps.setupKeep : Keeps s₀ s.setupKeep := h.unless (·.setTabs.setTabs)

theorem Keeps.lose {b c} : Keeps s₀ (s.lose b c) := h.setTab.when (·.setBit)

theorem Keeps.trainDram {e} : Keeps s₀ (s.trainDram e) := by
  dsimp only [State.trainDram]
  split
  · exact h.setReg.setBit.setFld.setFld.setBit.setWide.ite h.setReg.setBit.setFld.setWide.raiseH
  · exact h.setReg.setBit.setFld.setWide.raiseH

theorem Keeps.dramMet : Keeps s₀ s.dramMet := h.takeFree.takeFree.frame.inc.when (·.inc)

theorem Keeps.fetch {k o} : Keeps s₀ (s.fetch k o).2 := by
  dsimp only [State.fetch]
  refine Keeps.iteSnd h ?_
  split
  · exact h
  · split <;> exact h.readRegion.of_eq ‹_›

omit h in
theorem Keeps.fetchN {k n : Nat} (h : Keeps s₀ s) {o : Nat} : Keeps s₀ (s.fetchN k o n).2 := by
  induction n generalizing s o with
  | zero => exact h
  | succ n ih =>
    unfold State.fetchN
    split
    · split
      all_goals exact (ih (h.fetch.of_eq ‹_›)).of_eq ‹_›
    · exact h.fetch.of_eq ‹_›

/-! ### AcqOps -/

theorem Keeps.fire {p t tag} : Keeps s₀ (s.fire p t tag) := h.frame.ite (h.frame.ite h.takeFree.frame)

theorem Keeps.rewire : Keeps s₀ s.rewire := h.frame

theorem Keeps.setAcq {u v} : Keeps s₀ (s.setAcq u v) := h.frame

theorem Keeps.setAcqW {u i w} : Keeps s₀ (s.setAcqW u i w) := h.setReg.ite h.setTab

theorem Keeps.setAcqSt {u v} : Keeps s₀ (s.setAcqSt u v) := h.setAcqW

theorem Keeps.acqFlag {u b} : Keeps s₀ (s.acqFlag u b) :=
  h.setBit.ite (h.setBit.ite (h.setBit.ite (h.setBit.ite (h.when (·.setBit)))))

theorem Keeps.setRingWr {r w} : Keeps s₀ (s.setRingWr r w) := h.setAcq.ite h.frame

theorem Keeps.ringPut {r unit ws} : Keeps s₀ (s.ringPut r unit ws) :=
  (h.foldl (·.writeRegion)).setRingWr.inc.frame

theorem Keeps.ringRead {x} : Keeps s₀ (s.ringRead x).2 := h.foldlSnd (·.readRegion)

theorem Keeps.unitGap {u g} : Keeps s₀ (s.unitGap u g) := (h.setAcq.when (·.acqFlag)).when (·.raiseN)

theorem Keeps.siteGap {n g} : Keeps s₀ (s.siteGap n g) := h.setSite

theorem Keeps.settleHold {u t} : Keeps s₀ (s.settleHold u t) := h.when (·.setAcq.unitGap)

theorem Keeps.acqRelease {u t} : Keeps s₀ (s.acqRelease u t) := h.when (·.setOct.setAcq)

theorem Keeps.bankGap {u tag} : Keeps s₀ (s.bankGap u tag) := h.unitGap

theorem Keeps.closeBlock {u} : Keeps s₀ (s.closeBlock u).2 := by
  dsimp only [State.closeBlock]
  split
  exacts [h, Keeps.iteSnd h.setAcq.unitGap (Keeps.iteSnd h.setAcq.bankGap h.setAcq.ringPut)]

theorem Keeps.endWindow {u tc code next} : Keeps s₀ (s.endWindow u tc code next) :=
  Keeps.setAcqSt <| .setAcqW <| .setAcq <| .unless (.ite h.settleHold.unitGap <| .ite h.settleHold.bankGap <|
    h.settleHold.ringPut) (·.acqRelease)

theorem Keeps.abortUnit {u} : Keeps s₀ (s.abortUnit u) := h.endWindow.ite (h.unless (·.acqRelease.setAcqSt))

theorem Keeps.unitBankFail {u tag} : Keeps s₀ (s.unitBankFail u tag) := h.bankGap.abortUnit

theorem Keeps.closeWindow {u tc code next} : Keeps s₀ (s.closeWindow u tc code next) := by
  dsimp only [State.closeWindow]
  split
  exacts [(h.closeBlock.of_eq ‹_›).endWindow, (h.closeBlock.of_eq ‹_›).abortUnit]

theorem Keeps.endUnit {u t code} : Keeps s₀ (s.endUnit u t code) :=
  h.unless (·.closeWindow.ite h.acqRelease.setAcqSt)

theorem Keeps.setClose {u t code} : Keeps s₀ (s.setClose u t code) := by
  dsimp only [State.setClose]
  refine Keeps.ite ?_ h
  split
  exacts [h.when (·.setAcq), h.setAcq]

theorem Keeps.closeTrigger {u t code} : Keeps s₀ (s.closeTrigger u t code) :=
  h.when (·.setAcq.when (·.setClose))

theorem Keeps.openTrigger {u t} : Keeps s₀ (s.openTrigger u t) := h.setAcq.ite (h.when (·.setAcq.acqFlag))

theorem Keeps.segTrigger {n segid t} : Keeps s₀ (s.segTrigger n segid t) :=
  h.foldl fun h => h.when (·.openTrigger)

theorem Keeps.segEndTrigger {n t} : Keeps s₀ (s.segEndTrigger n t) := h.foldl fun h => h.when (·.closeTrigger)

theorem Keeps.strobeSample {u tag bands e} : Keeps s₀ (s.strobeSample u tag bands e) := h.when (·.setAcq)

theorem Keeps.markUnits {n f} : Keeps s₀ (s.markUnits n f) := h.foldl fun h => h.when (·.setAcq)

/-! ### GleanOps -/

theorem Keeps.calStamp {o source} : Keeps s₀ (s.calStamp o source) := h.setTab

theorem Keeps.calNote {o} : Keeps s₀ (s.calNote o) := h.when (·.setTabs)

theorem Keeps.calCommit {s0 : State} {o source ws} : Keeps s₀ (s.calCommit s0 o source ws) :=
  h.calStamp.journal.calNote

theorem Keeps.calSet {o source f} : Keeps s₀ (s.calSet o source f) := by
  unfold State.calSet
  extract_lets ws
  clear_value ws
  exact h.ite (h.foldl (·.setTab)).calCommit

theorem Keeps.nextSeq : Keeps s₀ s.nextSeq := h.setWide.setBit

theorem Keeps.applyCal {n t now} : Keeps s₀ (s.applyCal n t now) :=
  h.ite (h.nextSeq.foldl (·.calSet)).fire.inc

theorem Keeps.takeTargets {o} : Keeps s₀ (s.takeTargets o) := h.unless (·.when (·.nextSeq.calSet))

/-! ### ExpandOps -/

theorem Keeps.fetchFor {k e o data} : Keeps s₀ (s.fetchFor k e o data).2 := by
  dsimp only [State.fetchFor]
  split
  · refine Keeps.iteSnd ?_ ?_
    · refine Keeps.iteSnd h ?_
      split <;> exact h.readRegion.of_eq ‹_›
    · refine Keeps.iteSnd h ?_
      split
      · refine Keeps.iteSnd ?_ (h.fetch.of_eq ‹_›)
        split <;> exact ((h.fetch.of_eq ‹_›).writeRegion.of_eq ‹_›)
      · exact h.fetch.of_eq ‹_›
      · exact h.fetch.of_eq ‹_›
      · exact h.fetch.of_eq ‹_›
  · split <;> exact h.fetch.of_eq ‹_›

omit h in
theorem Keeps.fetchSome {k n : Nat} {e : Exp} (h : Keeps s₀ s) {o : Nat} : Keeps s₀ (s.fetchSome k e o n).2 := by
  induction n generalizing s o with
  | zero => exact h
  | succ n ih =>
    unfold State.fetchSome
    split
    exacts [ih (h.fetchFor.of_eq ‹_›), h.fetchFor.of_eq ‹_›]

theorem Keeps.fetchData {k e o n} : Keeps s₀ (s.fetchData k e o n).2 := by
  dsimp only [State.fetchData]
  split <;> exact h.fetchSome.of_eq ‹_›

theorem Keeps.runVector {k npin e r} : Keeps s₀ (s.runVector k npin e r).2 := by
  dsimp only [State.runVector]
  refine Keeps.iteSnd ?_ ?_
  · split <;> exact h
  · split
    · exact h.fetchData.of_eq ‹_›
    · refine Keeps.iteSnd (h.fetchData.of_eq ‹_›) ?_
      split <;> exact h.fetchData.of_eq ‹_›

omit h in
theorem Keeps.runGo {k npin n : Nat} (h : Keeps s₀ s) {e : Exp} {items : List Item} :
    Keeps s₀ (s.runGo k npin e items n).2 := by
  induction n generalizing s e items with
  | zero => exact h
  | succ n ih =>
    unfold State.runGo
    split
    · exact h
    · split
      · exact h.runVector.of_eq ‹_›
      · exact h.runVector.of_eq ‹_›
      · extract_lets e1
        split
        split
        exacts [h.runVector.of_eq ‹_›, ih (h.runVector.of_eq ‹_›)]

theorem Keeps.decVec {k w e hdr} : Keeps s₀ (decVec s k w e hdr).2 := by
  dsimp only [Machine.decVec]
  refine Keeps.iteSnd ?_ ?_
  · split <;> exact h.fetchSome
  · refine Keeps.iteSnd h ?_
    split <;> exact h.fetchSome

theorem Keeps.decRun {k w e hdr room} : Keeps s₀ (decRun s k w e hdr room).2 := by
  dsimp only [Machine.decRun]
  split
  exacts [h.fetchSome, h.fetchSome, h.fetchSome, h.fetchSome.runGo]

theorem Keeps.decSeg {k w e hdr} : Keeps s₀ (decSeg s k w e hdr).2 := by
  dsimp only [Machine.decSeg]
  refine Keeps.iteSnd h ?_
  refine Keeps.iteSnd h ?_
  split <;> exact h.fetchData.of_eq ‹_›

theorem Keeps.decJseg {k e hdr} : Keeps s₀ (decJseg s k e hdr).2 := by
  dsimp only [Machine.decJseg]
  refine Keeps.iteSnd h ?_
  split <;> exact h.fetchData.of_eq ‹_›

theorem Keeps.decCall {k e hdr} : Keeps s₀ (decCall s k e hdr).2 := by
  dsimp only [Machine.decCall]
  split
  · exact h
  · refine Keeps.iteSnd h ?_
    split
    exacts [h.fetchData.of_eq ‹_›, Keeps.iteSnd (h.fetchData.of_eq ‹_›) (h.fetchData.of_eq ‹_›)]

theorem Keeps.decodeAt {k w room own e items hdr} : Keeps s₀ (decodeAt s k w room own e items hdr).2 := by
  dsimp only [Machine.decodeAt]
  split
  · exact Keeps.iteSnd h h.decSeg
  · exact h
  · refine Keeps.iteSnd h ?_
    refine Keeps.iteSnd h ?_
    split
    exacts [h.decVec, h, h.decRun, h, h, h, h, h.decSeg, h.decJseg, h.decCall, h, h, h, h, h, h, h, h, h]

theorem Keeps.expand {k p op} : Keeps s₀ (s.expand k p op).1 := by
  unfold State.expand
  extract_lets v room st w
  split
  · exact h
  extract_lets finish
  have hfinish {d s} (h : Keeps s₀ s) : Keeps s₀ (finish d s).1 := by
    unfold finish
    split
    exacts [h, h.setStream.setRefill]
  split
  · exact h
  split
  · split
    exacts [hfinish h, h]
  split
  · split
    · split
      exact hfinish (h.runGo.of_eq ‹_›)
    · exact h
  split
  · exact hfinish (h.fetchFor.of_eq ‹_›)
  · extract_lets hop
    split
    · exact h.fetchFor.of_eq ‹_›
    split
    exact hfinish ((h.fetchFor.of_eq ‹_›).decodeAt.of_eq ‹_›)

omit h in
theorem Keeps.expandMore {k n : Nat} (h : Keeps s₀ s) : Keeps s₀ (s.expandMore k n).1 := by
  induction n generalizing s with
  | zero => exact h
  | succ n ih =>
    have h' : Keeps s₀ (s.expand k 0 none).1 := h.expand
    unfold State.expandMore
    split
    next e => exact e ▸ h'
    next e =>
      replace h' := e ▸ h'
      split
      exacts [h', ih h']

/-! ### PipeOps -/

theorem Keeps.voidSeg {n} : Keeps s₀ (s.voidSeg n) := by
  dsimp only [State.voidSeg]
  split
  exacts [h, h.setSite.setBit.markUnits]

theorem Keeps.closeSeg {n t jumped} : Keeps s₀ (s.closeSeg n t jumped) := by
  dsimp only [State.closeSeg]
  split
  exacts [h, h.setSite.segEndTrigger]

theorem Keeps.openSeg {n k segid} : Keeps s₀ (s.openSeg n k segid) := h.setSite

theorem Keeps.startSeg {n k segid t segstart} : Keeps s₀ (s.startSeg n k segid t segstart) :=
  h.openSeg.segTrigger.when (·.fire)

theorem Keeps.noteSlips {k t} : Keeps s₀ (s.noteSlips k t) :=
  h.foldl fun h => h.ite ((h.when (·.setReg)).when (·.setStream.raiseN))

theorem Keeps.overflow {k n} : Keeps s₀ (s.overflow k n) := h.setSiteSt.setFld.setBit.setBit.setSite.voidSeg

theorem Keeps.drain {k why} : Keeps s₀ (s.drain k why) := h.when (·.setStream.setStrSt.setFld.fire)

theorem Keeps.stopAll {k why t} : Keeps s₀ (s.stopAll k why t) := h.setStream.drain

theorem Keeps.voidAll {k} : Keeps s₀ (s.voidAll k) := h.foldl (·.voidSeg)

theorem Keeps.checkNoSite {k} : Keeps s₀ (s.checkNoSite k) := h.when (·.drain)

theorem Keeps.retire {k} : Keeps s₀ (s.retire k) := h.foldl fun h => h.when (·.setSiteSt)

theorem Keeps.startEvent {k e} : Keeps s₀ (s.startEvent k e) := h.when (·.setStream)

theorem Keeps.startNow : Keeps s₀ s.startNow := h.foldl (·.startEvent)

theorem Keeps.streamFail {k code} : Keeps s₀ (s.streamFail k code) :=
  h.setStream.setStrSt.setFld.retire.startNow.raiseD.ite (h.when (·.voidAll.stopAll.raiseD))

theorem Keeps.stopSite {n t void} : Keeps s₀ (s.stopSite n t void) := (h.when (·.voidSeg)).closeSeg.setSite

theorem Keeps.judgeBoundary {k idx tlast js} : Keeps s₀ (s.judgeBoundary k idx tlast js) :=
  h.inc.setStream.ite (h.inc.unless (·.setBit.inc)).setStream

theorem Keeps.cutIdle {n cyc t} : Keeps s₀ (s.cutIdle n cyc t) :=
  h.unless (·.foldl fun h => h.foldl (·.setChan))

theorem Keeps.skipSegments {n k idx t intoSeg} : Keeps s₀ (s.skipSegments n k idx t intoSeg) :=
  h.unless (·.closeSeg.setSite.setBit)

theorem Keeps.release {k t} : Keeps s₀ (s.release k t) := by
  dsimp only [State.release]
  split
  exacts [h, (h.foldl (·.skipSegments.setSite)).foldl (·.cutIdle.setSite.setSiteSt.setFld)]

theorem Keeps.checkRelease {k t} : Keeps s₀ (s.checkRelease k t) := h.unless (·.release)

theorem Keeps.arrive {k n reason t} : Keeps s₀ (s.arrive k n reason t) :=
  h.unless (·.setSite.setSiteSt.setFld.checkRelease)

theorem Keeps.endIteration {k n back t tsets} : Keeps s₀ (s.endIteration k n back t tsets) :=
  (h.unless (·.setStream.inc)).setSite.fire.ite h.setSite

theorem Keeps.reachHalt {k n code} : Keeps s₀ (s.reachHalt k n code) := h.setBit.setSite.when (·.setFld.drain)

theorem Keeps.reachInvalid {k n addr t} : Keeps s₀ (s.reachInvalid k n addr t) :=
  h.setWide.voidAll.stopAll.raiseD.stopSite.ite h.stopSite

omit h in
theorem Keeps.advance {k n t fuel : Nat} (h : Keeps s₀ s) : Keeps s₀ (s.advance k n t fuel).2 := by
  induction fuel generalizing s with
  | zero => exact h
  | succ fuel ih =>
    unfold State.advance
    refine Keeps.iteSnd h ?_
    split
    · exact h
    · exact h
    · refine Keeps.iteSnd (Keeps.iteSnd (ih h.arrive) h.arrive) ?_
      split
      · exact h
      · exact ih h.openSeg.setSite
      · exact ih (h.unless (·.applyCal)).startSeg.setSite
    · split
      · exact ih h.setSite
      · exact ih h.closeSeg.setSite
      · exact ih h.judgeBoundary
    · exact ih h.setSite.setSite
    · exact ih h.endIteration
    · exact ih h.setSite.setSite
    · exact Keeps.iteSnd (ih h.setSite) (Keeps.iteSnd (ih h.arrive.setSite) h.arrive)
    · exact ih h.reachHalt
    · exact ih h.reachInvalid

theorem Keeps.placePin {o set i code t period} : Keeps s₀ (s.placePin o set i code t period) :=
  h.setChan.ite ((h.setChan.when (·.setBit)).when (·.setBit))

theorem Keeps.placeAll {n t period tsets codes} : Keeps s₀ (s.placeAll n t period tsets codes) :=
  h.foldl (·.placePin)

theorem Keeps.notePeriods {n period tsets} : Keeps s₀ (s.notePeriods n period tsets) := by
  dsimp only [State.notePeriods]
  split
  exacts [h, (h.foldl (·.setBit)).unless (·.setSite.raiseN)]

theorem Keeps.setErrors {s0 : State} {n bad} : Keeps s₀ (s0.setErrors s n bad) := h.unless (·.foldl (·.raise))

theorem Keeps.setParity {n} : Keeps s₀ (s.setParity n) := h.foldl fun h => h.when (·.setBit.raise)

theorem Keeps.beginCycle {n t period} : Keeps s₀ (s.beginCycle n t period) := (h.foldl (·.setWide)).setSite

theorem Keeps.noteCompares {n period tsets codes} : Keeps s₀ (s.noteCompares n period tsets codes) :=
  h.foldl fun h => h.unless (·.setBit)

theorem Keeps.noteBands {n pins} : Keeps s₀ (s.noteBands n pins) := by
  dsimp only [State.noteBands]
  exact h.foldl fun h => by split; exacts [h, h.setChan]

theorem Keeps.recordFails {n pos sts} : Keeps s₀ (s.recordFails n pos sts) :=
  h.unless (·.setSite.incSat.setBit)

theorem Keeps.recordMatch {n sts} : Keeps s₀ (s.recordMatch n sts) := h.unless (·.setSite)

theorem Keeps.sampleStrobes {n t period tsets codes pins} :
    Keeps s₀ (s.sampleStrobes n t period tsets codes pins) :=
  h.foldl fun h => h.when (·.strobeSample)

theorem Keeps.storeSlip {k pos codes} : Keeps s₀ (s.storeSlip k pos codes).2 := h.foldlSnd (·.writeSlip)

theorem Keeps.readSlipWord {k n q} : Keeps s₀ (s.readSlipWord k n q).2 := by
  dsimp only [State.readSlipWord]
  exact h.foldlSnd fun h => by split; exacts [h.bankCheck, h]

theorem Keeps.readSlip {k n pos} : Keeps s₀ (s.readSlip k n pos).2 := by
  dsimp only [State.readSlip]
  exact (h.foldlSnd fun h => Keeps.iteSnd (by split <;> exact (h.readSlipWord.of_eq ‹_›)) h).setSite

theorem Keeps.movePos {k n pos t segid codes} : Keeps s₀ (s.movePos k n pos t segid codes) :=
  (h.setSite.setWide.when fun h =>
    (h.setStream.storeSlip.unless (·.streamFail)).setWide.setReg.foldl fun h => h.when (·.setSite)).noteSlips

theorem Keeps.commitVec {k n t pos codes tsets pins} : Keeps s₀ (s.commitVec k n t pos codes tsets pins) := by
  dsimp only [State.commitVec]
  refine .movePos (.gleanTick (.noteBands (.sampleStrobes (.ite (.recordMatch ?_) (.recordFails ?_)))))
  · exact h.beginCycle.setParity.notePeriods.noteCompares.placeAll.setSite.when (·.setBit)
  · exact h.beginCycle.setParity.notePeriods.noteCompares.placeAll.setSite.when (·.setBit)

theorem Keeps.commitIdle {n t form} : Keeps s₀ (s.commitIdle n t form) :=
  h.beginCycle.setParity.notePeriods.placeAll.incSat

theorem Keeps.commitHeld {n t} : Keeps s₀ (s.commitHeld n t) := by
  dsimp only [State.commitHeld]
  exact h.beginCycle.setParity.notePeriods.setSite.markUnits

theorem Keeps.endGap {n} : Keeps s₀ (s.endGap n) := h.unless (·.setSite.siteGap)

theorem Keeps.starve {k n t} : Keeps s₀ (s.starve k n t) :=
  h.setRefill.setStream.setStrSt.inc.setBit.fire.commitHeld.ite h.setRefill.voidAll.stopAll.raiseD.stopSite.commitIdle

theorem Keeps.nextTodo {k n t} : Keeps s₀ (s.nextTodo k n t).2 := by
  unfold State.nextTodo
  split
  next u e =>
    have h' : Keeps s₀ (u.expandMore k (u.imageLen k + 64)).1 := (h.advance.of_eq e).expandMore
    split
    next e => exact (e ▸ h' : Keeps s₀ (_, true).1).streamFail
    next e => exact (e ▸ h' : Keeps s₀ (_, false).1).advance
  · exact h.advance

theorem Keeps.cycle {n pins} : Keeps s₀ (s.cycle n pins) := by
  dsimp only [State.cycle]
  refine .ite h (.ite (.ite (.commitIdle (.ite (.advance ?_) (.stopSite ?_))) (.commitIdle (.stopSite ?_))) ?_)
  · exact (h.toPs.when (·.setFld.raiseD)).endGap
  · exact (h.toPs.when (·.setFld.raiseD)).endGap
  · exact (h.toPs.when (·.setFld.raiseD)).endGap
  refine .ite h.toPs.commitHeld (.ite h.toPs.overflow.checkRelease.commitIdle (.ite h.toPs.commitIdle ?_))
  have h' {k t} : Keeps s₀ (((s.toPs t).endGap n).nextTodo k n t).2 := h.toPs.endGap.nextTodo
  split
  next e => exact (h'.of_eq e).unless (·.commitIdle)
  next e => exact (h'.of_eq e).stopSite.commitIdle.ite (h'.of_eq e).starve
  next e =>
    replace h' := h'.of_eq e
    refine .ite h'.overflow.checkRelease.commitIdle <|
      .ite (.ite (.commitVec ?_) (.commitIdle (.stopSite ?_))) h'.commitVec
    · exact h'.readSlip.unless (·.streamFail)
    · exact h'.readSlip.unless (·.streamFail)

theorem Keeps.makeDecision {n} : Keeps s₀ (s.makeDecision n) := by
  dsimp only [State.makeDecision]
  split
  · exact h
  · split
    · exact h.toPs.setSite
    · exact h.toPs.setSite
    · exact h.toPs.setSite.setBit
    · exact (h.toPs.setSite.when (·.setStream)).fire.ite h.toPs.setSite

theorem Keeps.closeRecord {n} : Keeps s₀ (s.closeRecord n) := by
  dsimp only [State.closeRecord]
  split
  exacts [h, h.unless (·.setSite.siteGap.unless (·.ite h.setSite.ringPut))]

theorem Keeps.toStopped {k} : Keeps s₀ (s.toStopped k) :=
  (h.foldl (·.toAssigned.setFld)).setStrSt.setStream.retire

theorem Keeps.drainDone {k} : Keeps s₀ (s.drainDone k) :=
  h.when (·.toStopped.ite (h.foldl (·.skipSegments.setSite)))

theorem Keeps.stopForClassH {k} : Keeps s₀ (s.stopForClassH k) :=
  ((h.unless (·.foldl (·.voidSeg.endGap.closeSeg))).when (·.drain)).setFld.toStopped.ite h

/-! ### TimeOps -/

theorem Keeps.prime {k} : Keeps s₀ (s.prime k) := h.when (·.setBit.startNow)

theorem Keeps.start {k} : Keeps s₀ (s.start k) := by
  dsimp only [State.start]
  split
  · exact h
  · exact .ite h.toEdge.setStream <| .ite
      (h.toEdge.setStream.setStrSt.foldl fun h => h.when (·.setSite)).checkNoSite
      h.toEdge.setStream.setBit.raiseN

theorem Keeps.firstCycle {n} : Keeps s₀ (s.firstCycle n) := (h.toPs.setSiteSt.foldl (·.setWide)).setSite.ite h

theorem Keeps.compareTime : Keeps s₀ s.compareTime := h.when (·.setBit.raise)

theorem Keeps.lock : Keeps s₀ s.lock := h.toEdge.frame.setBit.setBit.setBit.compareTime

theorem Keeps.belloLow : Keeps s₀ s.belloLow := h.frame

theorem Keeps.bellPulse {w} : Keeps s₀ (s.bellPulse w) :=
  h.unless (·.toEdge.frame.incFld.raiseN.ite (h.toEdge.frame.when (·.incFld)).frame)

theorem Keeps.registerBell : Keeps s₀ s.registerBell := by
  dsimp only [State.registerBell]
  split
  · exact h
  · exact .ite (h.toEdge.frame.incFld.setWide.fire.foldl fun h => h.when (·.startEvent)) <| .ite
      (h.toEdge.frame.frame.setBit.setBit.setWide.when (·.frame.setBit)).fire
      h.toEdge.frame

theorem Keeps.genPulse {w} : Keeps s₀ (s.genPulse w) := h.frame

theorem Keeps.belloConfig {s0 : State} : Keeps s₀ (s0.belloConfig s) := h.unless (·.belloLow)

theorem Keeps.genRise : Keeps s₀ s.genRise := by
  dsimp only [State.genRise]
  split
  exacts [h.unless (·.toEdge.frame), h]

theorem Keeps.skewCommand {act line} : Keeps s₀ (s.skewCommand act line) := h.frame.ite h.frame

theorem Keeps.sendEdge : Keeps s₀ s.sendEdge := by
  dsimp only [State.sendEdge]
  split
  exacts [h, h.unless (·.toEdge.frame.setWide.setBit)]

theorem Keeps.cancelSend : Keeps s₀ s.cancelSend := h.when (·.frame.setBit)

theorem Keeps.trgReceive {line t} : Keeps s₀ (s.trgReceive line t) :=
  h.unless (·.ite (h.toPs.frame.when (·.frame.setWide.setBit)).fire)

theorem Keeps.strobeOctet {o e} : Keeps s₀ (s.strobeOctet o e) :=
  (((h.when (·.setBit.raise)).foldl (·.setTab)).setOct.foldl (·.setBit)).gleanReview

theorem Keeps.loadStrobe {g e} : Keeps s₀ (s.loadStrobe g e) := (h.foldl (·.strobeOctet)).fire

theorem Keeps.spanStep {o lane} : Keeps s₀ (s.spanStep o lane) := by
  dsimp only [State.spanStep]
  split
  exacts [h, h.toEdge.setOct.setBit.ite h.toEdge.setOct]

theorem Keeps.releasePmu {o lane} : Keeps s₀ (s.releasePmu o lane) :=
  (h.foldl (·.setTab)).setOct.unless (·.endLimit)

theorem Keeps.convert {o mask} : Keeps s₀ (s.convert o mask) := h.setOct.gleanYield.setFld

theorem Keeps.convStart {o mask e} : Keeps s₀ (s.convStart o mask e) := by
  dsimp only [State.convStart]
  split
  exacts [h, h.setOct]

theorem Keeps.convResult {o a code} : Keeps s₀ (s.convResult o a code) := by
  dsimp only [State.convResult]
  split
  exacts [h, h.toEdge.setOct.setReg.setBit]

theorem Keeps.toneSample {o parityOk} : Keeps s₀ (s.toneSample o parityOk) := by
  dsimp only [State.toneSample]
  refine Keeps.ite h ?_
  split
  · exact h
  · exact (h.toEdge.setBit.raise.ite (h.toEdge.unless (·.raiseD))).setOct.when (·.setOct.unless (·.setBit))

theorem Keeps.limitAt {o lane x} : Keeps s₀ (s.limitAt o lane x).2 :=
  Keeps.iteSnd h (Keeps.iteSnd h (Keeps.iteSnd h (Keeps.iteSnd h h.takeFree)))

theorem Keeps.pmuClamp {o lane x} : Keeps s₀ (s.pmuClamp o lane x) := by
  dsimp only [State.pmuClamp]
  refine Keeps.ite h.limitAt.endLimit ?_
  split
  exacts [h.limitAt.setOct.setBit.setBit.when (·.setOp), h.limitAt.setOct.setBit.setBit]

theorem Keeps.stileCapture {st} : Keeps s₀ (s.stileCapture st).2 := h.captureEdge

theorem Keeps.startRamp {o v} : Keeps s₀ (s.startRamp o v) := h.when (·.setOct.setBit)

theorem Keeps.railOff {o} : Keeps s₀ (s.railOff o) := h.setBit.setOct.setBit

theorem Keeps.rampEnd {o sns} : Keeps s₀ (s.rampEnd o sns) := h.when (·.setOct.setBit)

/-! ### MseOps -/

theorem Keeps.putDesc {idx w} : Keeps s₀ (s.putDesc idx w) := h.setTab.when (·.setOp.frame)

theorem Keeps.releaseAdc {t} : Keeps s₀ (s.releaseAdc t) := h.setOp.when (·.setOct)

theorem Keeps.releaseAll {t} : Keeps s₀ (s.releaseAll t) := (h.when (·.releasePmu)).when (·.releaseAdc)

theorem Keeps.flipLanes : Keeps s₀ s.flipLanes := h.when (·.frame.ite h.frame)

theorem Keeps.writePatch {ws} : Keeps s₀ (s.writePatch ws) :=
  h.setTabs.setTabs.setTabs.setReg.setReg.takeFree.inc.frame.flipLanes

theorem Keeps.flipBanks : Keeps s₀ s.flipBanks := h.flipLanes.when (·.frame.setFld.writePatch)

theorem Keeps.endOp {t status} : Keeps s₀ (s.endOp t status) :=
  h.when (·.releaseAll.setTabs.setOp.frame.inc.flipBanks)

theorem Keeps.endOps {status f} : Keeps s₀ (s.endOps status f) := h.foldl fun h => h.when (·.endOp)

theorem Keeps.freeOp {t} : Keeps s₀ (s.freeOp t) := h.when (·.setOp.frame)

theorem Keeps.endOpN {t status code forced} : Keeps s₀ (s.endOpN t status code forced) := h.endOp.raise

theorem Keeps.fenceLane {k} : Keeps s₀ (s.fenceLane k) := h.frame.endOps.flipBanks

theorem Keeps.dispatch {k} : Keeps s₀ (s.dispatch k) := by
  dsimp only [State.dispatch]
  refine Keeps.ite ?_ h
  split
  exacts [h, h.setOct.gleanYield.setOp.when (·.endOp)]

theorem Keeps.microAlu {t n p} : Keeps s₀ (s.microAlu t n p).2 := by
  unfold State.microAlu
  extract_lets f a b d put
  have hput {x} : Keeps s₀ (put x s).2 := .iteSnd h h.takeFree
  exact .iteSnd hput <| .iteSnd hput <| .iteSnd hput <| .iteSnd (.iteSnd hput hput) <| .iteSnd hput <| .iteSnd h <|
    .iteSnd hput <| .iteSnd h h

theorem Keeps.scratch {off ws} : Keeps s₀ (s.scratch off ws).2 := h.foldlSnd (·.writeRegion)

theorem Keeps.nanoAct {t n imm p} : Keeps s₀ (s.nanoAct t n imm p).2.2 := by
  unfold State.nanoAct
  split
  · exact h
  · extract_lets top settle us
    split
    next e =>
    replace h := (Keeps.iteSnd h.stileCapture h).of_eq e
    extract_lets p1 tone p2 aop issues
    split
    next e =>
    replace h := (Keeps.iteSnd h.releaseAdc h).of_eq e
    split
    next e =>
    replace h := h.microAlu.of_eq e
    extract_lets lcop p5 rop
    split
    next e => exact ((Keeps.iteSnd h.scratch h).of_eq e).when (·.fire)

theorem Keeps.recipeVals {t p} : Keeps s₀ (s.recipeVals t p).2 := by
  dsimp only [State.recipeVals]
  refine Keeps.iteSnd ?_ ?_
  · split
    · exact h
    · split
      exacts [h, h.takeFree]
  · split <;> exact h

theorem Keeps.recipeJudge {t p v0 v1} : Keeps s₀ (s.recipeJudge t p v0 v1).2 :=
  Keeps.iteSnd h.takeFree h.takeFree

theorem Keeps.finishOp {t p} : Keeps s₀ (s.finishOp t p) := by
  dsimp only [State.finishOp]
  refine Keeps.ite ?_ h.setOp.endOp
  split
  exacts [(h.recipeVals.of_eq ‹_›).recipeJudge.setOp.endOp, (h.recipeVals.of_eq ‹_›).setOp.endOp]

theorem Keeps.readBand {t volt p} : Keeps s₀ (s.readBand t volt p).2.2 := h.setChan

theorem Keeps.micro {t seq env} : Keeps s₀ (s.micro t seq env) := by
  unfold State.micro
  extract_lets p k b a w inj bad s0 mse t1 t2 mse' n arg q asks next
  have h2 : Keeps s₀ t2 := h.frame.when (·.setBit)
  refine Keeps.ite h (Keeps.ite h2.raise (Keeps.ite h2.frame.endOpN (Keeps.ite h2.frame.endOpN (Keeps.ite h
    (Keeps.ite h2.endOpN (Keeps.ite h2 ?_))))))
  split
  next e => exact (h2.nanoAct.of_eq (congrArg Prod.snd e)).endOpN
  next e => exact (h2.nanoAct.of_eq (congrArg Prod.snd e)).setOp.endOp
  next q t3 e =>
    have h3 : Keeps s₀ t3 := h2.nanoAct.of_eq (congrArg Prod.snd e)
    split
    next x q' t4 e' =>
    have h4 : Keeps s₀ t4 := by
      split at e' <;> cases e'
      exacts [h3.setChan, h3]
    extract_lets go
    have hgo {q a} : Keeps s₀ (go q a) := h4.setOp
    refine .ite hgo <| .ite (h4.setOp.endOpN.ite hgo) <| .ite ?_ <| .ite hgo <| .ite hgo <| .ite hgo <|
      .ite h4.finishOp hgo
    split
    exacts [h4.setOp.endOpN, hgo]

theorem Keeps.timerExpiry {t} : Keeps s₀ (s.timerExpiry t) := by
  dsimp only [State.timerExpiry]
  split
  exacts [h.toEdge, h]

theorem Keeps.mseTrigger {k e} : Keeps s₀ (s.mseTrigger k e) := h.foldl fun h => h.when (·.setOp)

theorem Keeps.runEnd {t samples} : Keeps s₀ (s.runEnd t samples) := by
  dsimp only [State.runEnd]
  refine Keeps.ite h ?_
  split
  exacts [h.endOpN.ite (h.toEdge.scratch.setOp.unless (·.endOp)), h]

theorem Keeps.adcTimeout {t} : Keeps s₀ (s.adcTimeout t) := by
  dsimp only [State.adcTimeout]
  split
  exacts [h.toEdge.endOpN, h]

theorem Keeps.switchBanks : Keeps s₀ s.switchBanks := h.frame.flipBanks

/-! ### GuardOps -/

theorem Keeps.dropRegs {offs} : Keeps s₀ (s.dropRegs offs) :=
  h.withRegs fun hw => Store.wf_keep _ hw _

theorem Keeps.closeLocks : Keeps s₀ s.closeLocks := h.dropRegs

theorem Keeps.clearTest : Keeps s₀ s.clearTest :=
  h.dropRegs.frame.withRegs fun _ => Store.wf_mapVals _ _ _

theorem Keeps.setRun {st} : Keeps s₀ (s.setRun st) := h.ite ((h.when (·.clearTest)).when (·.closeLocks)).frame

theorem Keeps.followStreams : Keeps s₀ s.followStreams := h.setRun.ite (h.when (·.setRun))

theorem Keeps.isolate {c} : Keeps s₀ (s.isolate c) := h.setChan.endLimit

theorem Keeps.safeState : Keeps s₀ s.safeState := h.frame.isolatePins.gleanStop.foldl (·.railOff.setOct)

theorem Keeps.unlock {noRef} : Keeps s₀ (s.unlock noRef) := by
  refine (h.when (·.setBit)).when fun h => .ite ?_ (.ite (.raise ?_) (.raiseH ?_))
  · exact h.setBit.setBit.safeState.belloLow.frame
  · exact h.setBit.setBit.safeState.belloLow.frame
  · exact h.setBit.setBit.safeState.belloLow.frame

theorem Keeps.hedge {n} : Keeps s₀ (s.hedge n) := by
  unfold State.hedge
  extract_lets s1 k os
  have h1 : Keeps s₀ s1 := h.setBit
  refine Keeps.ite ?_ h1
  split
  next e s2 he =>
  extract_lets tb s3 s4 live s5 s6 s7 s8 v s9 s10 s11 s12 s13 w s14 s15
  have h6 : Keeps s₀ s6 := ((((h1.captureEdge.of_eq he).foldl (·.isolate)).foldl (·.railOff)).when
    (·.endGap.voidSeg)).foldl (·.endUnit)
  have h10 : Keeps s₀ s10 := (h6.when (·.closeSeg)).setBit.journal.setSiteSt.setFld.setSite.endOps
  have h11 : Keeps s₀ s11 := by
    unfold s11
    split
    exacts [h10.when (·.gleanStop), h10]
  have h15 : Keeps s₀ s15 := h11.frame.inc.frame.when (·.retire)
  exact (h15.when (·.checkRelease)).checkNoSite

theorem Keeps.stopAllWork : Keeps s₀ s.stopAllWork :=
  ((h.captureEdge.foldl (·.stopForClassH)).endOps.safeState.foldl (·.endUnit)).frame.setBit

theorem Keeps.halt : Keeps s₀ s.halt := h.stopAllWork.ite (h.stopAllWork.when (·.frame)).setRun

theorem Keeps.die : Keeps s₀ s.die := h.stopAllWork.frame.unless (·.setRun)

theorem Keeps.ringAt {rs i r} : Keeps s₀ (s.ringAt rs i r) := by
  dsimp only [State.ringAt]
  split
  exacts [(h.writeRegionRun.of_eq ‹_›).inc.frame, h.inc]

theorem Keeps.ringRecord {r} : Keeps s₀ (s.ringRecord r) := by
  dsimp only [State.ringRecord]
  refine Keeps.ite ?_ ?_
  · split
    exacts [h.ringAt, h.inc.ite h.inc]
  · refine Keeps.ite (h.inc.ite h.inc) ?_
    split
    · exact h.ringAt
    · split
      exacts [h.ringAt, h.inc.ite h.inc]

theorem Keeps.faultRecord {cls ws} : Keeps s₀ (s.faultRecord cls ws) := by
  unfold State.faultRecord
  extract_lets bad t r
  replace h : Keeps s₀ t := h.when (·.setBit)
  exact h.ringRecord.ite (h.frame.ite (h.inc.ite h.inc))

theorem Keeps.forceDone {f} : Keeps s₀ (s.forceDone f) := by
  dsimp only [State.forceDone]
  split
  exacts [h.setBit, h]

theorem Keeps.latchPage {r p} : Keeps s₀ (s.latchPage r p) := h.setReg.ite h.setBit

theorem Keeps.latchClass {c} : Keeps s₀ (s.latchClass c) := h.setBit.ite h.setBit

theorem Keeps.classAct {c} : Keeps s₀ (s.classAct c) := by
  dsimp only [State.classAct]
  split
  exacts [h.halt, h.die, h]

theorem Keeps.mergeFault {f r} : Keeps s₀ (s.mergeFault f r).2 :=
  .iteSnd (((h.setBit.forceDone.foldl (·.setBit)).foldl (·.setFld)).latchClass.classAct.when (·.setTabs))
    (h.setBit.forceDone.foldl (·.setBit))

theorem Keeps.mergeWaiting {hdr} : Keeps s₀ (s.mergeWaiting hdr) := h.frame.foldlSnd (·.mergeFault)

theorem Keeps.countD {t} : Keeps s₀ (s.countD t) := h.frame.when (·.raiseH)

theorem Keeps.unitAct {r} : Keeps s₀ (s.unitAct r) := by
  dsimp only [State.unitAct]
  split
  exacts [h.frame.ite h.setBit, h.fenceLane, h]

theorem Keeps.latchFault : Keeps s₀ s.latchFault := by
  dsimp only [State.latchFault]
  split
  · exact h
  split
  · exact h.frame.mergeFault.frame
  · refine .when (.frame (.forceDone (.faultRecord (.when ?_ (·.setTabs))))) (·.mergeWaiting)
    split
    on_goal 1 => refine .fire ?_
    on_goal 2 => refine .countD (.unitAct (.fire ?_))
    on_goal 3 => refine .halt (.fire ?_)
    on_goal 4 => refine .die ?_
    all_goals exact h.frame.captureEdge.latchClass.foldl (·.latchPage)

theorem Keeps.doHedge {n} : Keeps s₀ (s.doHedge n) := h.when (·.frame.hedge)

theorem Keeps.confirmHedge {n good} : Keeps s₀ (s.confirmHedge n good) := h.when (·.frame.unless (·.raiseH))

theorem Keeps.watchRequest {k} : Keeps s₀ (s.watchRequest k) :=
  h.when (·.frame.raiseN.ite ((h.frame.foldl (·.raiseD)).ite (h.frame.when (·.raiseH))))

theorem Keeps.clearFlt {p} : Keeps s₀ (s.clearFlt p) := h.when (·.setReg)

theorem Keeps.clearH : Keeps s₀ s.clearH :=
  h.setBit.setTabs.withRegs fun hw => Store.wf_keep _ hw _

theorem Keeps.tripFault {m side f} : Keeps s₀ (s.tripFault m side f) := by
  dsimp only [State.tripFault]
  refine Keeps.ite h.raise ?_
  split
  exacts [h.raise, (h.fire.raise.ite h.fire.raise).ite h.fire.forceDone]

theorem Keeps.trip {m side f} : Keeps s₀ (s.trip m side f) := h.setMon.tripFault

theorem Keeps.guardFault {m code f inj} : Keeps s₀ (s.guardFault m code f inj) := by
  dsimp only [State.guardFault]
  refine Keeps.ite h.raise ?_
  split <;> exact h.raise

theorem Keeps.vpeSample {m x} : Keeps s₀ (s.vpeSample m x) := h.when (·.frame.when (·.isolatePins))

theorem Keeps.monInput {m x} : Keeps s₀ (s.monInput m x) := h.setOct.ite h.vpeSample

theorem Keeps.monSample {m x parityOk} : Keeps s₀ (s.monSample m x parityOk) :=
  .ite h <| .ite h.setBit.monInput.guardFault <| .ite h.monInput.guardFault <| .ite h.monInput.setMon <|
    .ite (h.monInput.setMon.trip.ite h.monInput.setMon) h.monInput.setMon

theorem Keeps.monCheck {m above below swap} : Keeps s₀ (s.monCheck m above below swap) :=
  h.unless (·.setMon.ite (h.setMon.guardFault.ite h.setMon))

theorem Keeps.putLimit {idx new} : Keeps s₀ (s.putLimit idx new) := h.setTab.when (·.setMon)

theorem Keeps.sensorBad {k f} : Keeps s₀ (s.sensorBad k f) := h.setSensor.raise.when (·.raiseH)

theorem Keeps.throttle {f} : Keeps s₀ (s.throttle f) := h.setBit.fire.raise

theorem Keeps.compensate : Keeps s₀ s.compensate := by
  dsimp only [State.compensate]
  exact h.foldl fun h => by split; exacts [h.setComp, h]

theorem Keeps.readSensors {temps bad} : Keeps s₀ (s.readSensors temps bad) := by
  dsimp only [State.readSensors]
  refine .compensate (.when (.when (.ite ?_ (.when ?_ (·.throttle))) (·.raiseH)) (·.raise))
  on_goal 1 => split
  on_goal 1 => refine .when ?_ (·.setBit)
  all_goals exact ((((h.when (·.setBit)).foldl (·.setSensor)).foldl fun h => h.when (·.sensorBad)).foldl
    (·.sensorBad)).setBit.when (·.raiseN)

theorem Keeps.revalidate {k} : Keeps s₀ (s.revalidate k) := h.setSensor

/-! ### GreenFx -/

theorem Keeps.restStream {k st} : Keeps s₀ (s.restStream k st) :=
  (h.setStrSt.when (·.setBit)).setStream.retire.startNow

theorem Keeps.stopNow {k t} : Keeps s₀ (s.stopNow k t) := h.restStream.ite (h.when (·.stopAll))

theorem Keeps.stopNext {k} : Keeps s₀ (s.stopNext k) := h.restStream.ite (h.when (·.setStream))

theorem Keeps.hedgeStream {k ini t} : Keeps s₀ (s.hedgeStream k ini t) :=
  (h.stopAll.ite (h.unless (·.restStream.setFld))).setBit.raiseD

theorem Keeps.hostJump {k t} : Keeps s₀ (s.hostJump k t) := h.when (·.setStream)

theorem Keeps.greenJump {k t} : Keeps s₀ (s.greenJump k t) := h.when (·.setStream)

theorem Keeps.strobeOnce {g e} : Keeps s₀ (s.strobeOnce g e) := h.unless (·.frame.loadStrobe)

theorem Keeps.toStile {op} : Keeps s₀ (s.toStile op) := by
  dsimp only [State.toStile]
  exact h.stileCapture.frame.ite h.frame

theorem Keeps.stileRefill {st} : Keeps s₀ (s.stileRefill st) := by
  dsimp only [State.stileRefill]
  split
  exacts [h, h.stileCapture.frame]

theorem Keeps.stileExit : Keeps s₀ s.stileExit := by
  dsimp only [State.stileExit]
  split
  · exact h
  · split
    · exact h.frame.toEdge.stileRefill.hostJump
    · exact h.frame.toEdge.stileRefill.stopNow.ite h.frame.toEdge.stileRefill.stopNext
    · exact h.frame.toEdge.stileRefill.hedgeStream
    · exact h.frame.toEdge.stileRefill.strobeOnce
    · exact h.frame.toEdge.stileRefill.convStart

theorem Keeps.loadExit {g} : Keeps s₀ (s.loadExit g) := by
  dsimp only [State.loadExit]
  split
  exacts [h.toEdge.strobeOnce, h.frame.toEdge.stileRefill.strobeOnce]

theorem Keeps.levelParity {g bad} : Keeps s₀ (s.levelParity g bad) := h.foldl (·.raiseD)

theorem Keeps.dueLoads : Keeps s₀ s.dueLoads := by
  dsimp only [State.dueLoads]
  exact h.foldl fun h => by split; exacts [h.loadExit, h]

theorem Keeps.arm {k mode entry} : Keeps s₀ (s.arm k mode entry) :=
  (((h.setStream.setReg.setWide.setReg.setReg.foldl (·.setSite.setFld.setReg.setWide.setReg.setReg)).foldl
    (·.setWide.setWide)).foldl (·.setBit.raiseN)).setRefill.gleanReview

theorem Keeps.resetStream {k} : Keeps s₀ (s.resetStream k) :=
  h.restStream.setStream.setFld.setReg.setWide.setWide.setReg.foldl (·.setSite.setWide)

theorem Keeps.releaseSite {n} : Keeps s₀ (s.releaseSite n) := h.setSite.toAssigned

theorem Keeps.eventRecord {n tag coin} : Keeps s₀ (s.eventRecord n tag coin) := h.frame

theorem Keeps.activate {c e tag coin} : Keeps s₀ (s.activate c e tag coin) := by
  dsimp only [State.activate]
  exact .ite (h.when (·.startEvent)) <| .ite h.greenJump <| .ite h.stopNow <| .ite h.strobeOnce <|
    .ite h.mseTrigger <|
    .ite (h.foldl (·.openTrigger)) <| .ite (h.foldl (·.closeTrigger)) <| .ite (h.frame.when (·.setAcq)) <|
    .ite (h.frame.when (·.frame)) <| .ite h.frame <| .ite h.eventRecord h.frame.frame

theorem Keeps.consFlag {c b} : Keeps s₀ (s.consFlag c b) := h.setTab

theorem Keeps.deliver {arr} : Keeps s₀ (s.deliver arr) := by
  dsimp only [State.deliver]
  split
  · exact h
  · refine .ite ?_ (.ite (.when (.consFlag ?_) (·.frame)) (.activate (.setTab (.frame ?_))))
    all_goals exact h.frame.toEdge.when (·.consFlag)

theorem Keeps.fireDelay {n} : Keeps s₀ (s.fireDelay n) := by
  dsimp only [State.fireDelay]
  split
  exacts [h, h.frame.toEdge.fire]

theorem Keeps.noteLoop {tsel idx} : Keeps s₀ (s.noteLoop tsel idx) := h.setReg

theorem Keeps.greenParity {good} : Keeps s₀ (s.greenParity good) :=
  h.setBit.raise.ite (h.unless (·.frame.raiseH))

/-! ### AcqFx -/

theorem Keeps.acqHold {u t} : Keeps s₀ (s.acqHold u t) := h.when (·.gleanYield.setOct.setAcq)

theorem Keeps.armUnit {u} : Keeps s₀ (s.armUnit u) :=
  ((h.captureEdge.toEdge.setAcq.when (·.acqFlag)).setAcqW.setAcqSt.when (·.gleanTdc)).when (·.acqHold)

theorem Keeps.openWindow {u} : Keeps s₀ (s.openWindow u) := by
  dsimp only [State.openWindow]
  split
  exacts [h, h.setAcq.setAcqSt.fire.acqHold]

theorem Keeps.closeDue {u} : Keeps s₀ (s.closeDue u) := by
  dsimp only [State.closeDue]
  split
  exacts [h.when (·.closeWindow), h]

theorem Keeps.levelSample {u tag x} : Keeps s₀ (s.levelSample u tag x) := by
  dsimp only [State.levelSample]
  split <;> exact h.setAcq

theorem Keeps.addEntry {u ch tag val} : Keeps s₀ (s.addEntry u ch tag val) := by
  unfold State.addEntry
  extract_lets far shut t
  have hshut {s} (h : Keeps s₀ s) : Keeps s₀ (shut s) := by
    unfold shut
    split
    exacts [h.closeBlock.of_eq ‹_›, (h.closeBlock.of_eq ‹_›).abortUnit]
  replace h : Keeps s₀ t := (hshut h).ite h
  exact h.ite (h.setAcq.when hshut)

theorem Keeps.reduce {u tag vals} : Keeps s₀ (s.reduce u tag vals) := by
  dsimp only [State.reduce]
  split
  · exact h.setAcq.when (·.addEntry)
  · exact (h.setAcq.when (·.acqFlag)).foldl fun h => h.when (·.addEntry)
  · exact h.foldl fun h => (((h.setAcq.when (·.acqFlag)).when (·.acqFlag)).when (·.addEntry)).ite h
  · exact (h.setAcq.ite h.setAcq).when (·.addEntry)

theorem Keeps.countSample {u tag} : Keeps s₀ (s.countSample u tag) :=
  h.setAcq.setAcq.ite (h.setAcq.when (·.setClose))

omit h in
theorem Keeps.windowsDue {u tag n : Nat} (h : Keeps s₀ s) : Keeps s₀ (s.windowsDue u tag n) := by
  induction n generalizing s with
  | zero => exact h
  | succ n ih =>
    unfold State.windowsDue
    extract_lets v
    split
    · split
      exacts [(ih h.closeDue).ite h, h]
    · split
      · split
        exacts [(ih h.openWindow).ite h, h]
      · exact h

theorem Keeps.disarm {u} : Keeps s₀ (s.disarm u) :=
  h.captureEdge.toEdge.windowsDue.closeWindow.ite h.captureEdge.toEdge.windowsDue.acqRelease.setAcqSt

theorem Keeps.judgeSample {u tag vals} : Keeps s₀ (s.judgeSample u tag vals) :=
  (h.when (·.levelSample)).windowsDue.when (·.reduce.when (·.countSample))

theorem Keeps.adcSample {u codes} : Keeps s₀ (s.adcSample u codes) :=
  (h.unless (·.openWindow)).unless (·.settleHold.toEdge.setAcq.judgeSample)

theorem Keeps.tdcTag {u e} : Keeps s₀ (s.tdcTag u e).2 := Keeps.iteSnd h.takeFree h

theorem Keeps.laneSlot {u lane es} : Keeps s₀ (s.laneSlot u lane es).2 := by
  dsimp only [State.laneSlot]
  split
  exacts [h, h.tdcTag.setChan]

theorem Keeps.edgeSample {u edges} : Keeps s₀ (s.edgeSample u edges) := by
  dsimp only [State.edgeSample]
  split
  · exact h
  · split
    · exact h.foldlSnd fun h => by split <;> exact (h.laneSlot.of_eq ‹_›)
    · exact (h.foldlSnd fun h => by split <;> exact (h.laneSlot.of_eq ‹_›)).toEdge.judgeSample

theorem Keeps.captureSample {u inp} : Keeps s₀ (s.captureSample u inp) := by
  dsimp only [State.captureSample]
  refine Keeps.ite h ?_
  refine Keeps.ite ?_ (h.unless (·.adcSample.ite h.edgeSample))
  split
  exacts [h, h.toEdge.setAcq.judgeSample]

theorem Keeps.writeGap {u} : Keeps s₀ (s.writeGap u) := by
  dsimp only [State.writeGap]
  refine Keeps.ite ?_ ?_
  · split
    exacts [h, h.unless (·.setAcq.unitBankFail.ite h.setAcq.ringPut)]
  · split
    exacts [h, h.when (·.setSite.siteGap.ite h.setSite.ringPut)]

theorem Keeps.loseRec {x} : Keeps s₀ (s.loseRec x) :=
  h.frame.unitBankFail.ite (h.frame.siteGap.ite h.frame.siteGap)

theorem Keeps.drainRec {x} : Keeps s₀ (s.drainRec x) := by
  dsimp only [State.drainRec]
  refine Keeps.ite ?_ h
  split
  exacts [h.ringRead.of_eq ‹_›, (h.ringRead.of_eq ‹_›).loseRec]

theorem Keeps.spill {r} : Keeps s₀ (s.spill r) := by
  dsimp only [State.spill]
  split
  · exact h
  · refine .ite h (.ite (h.unless (·.setBit.raiseN)) ?_)
    split
    · exact (h.ringRead.of_eq ‹_›).loseRec
    · exact ((h.ringRead.of_eq ‹_›).foldl fun h => h.withDram fun hw => Store.wf_put _ hw _ _).frame

theorem Keeps.notFull : Keeps s₀ s.notFull := h.when (·.setBit)

/-! ### GleanFx -/

theorem Keeps.setBad {c b} : Keeps s₀ (s.setBad c b) := h.frame

theorem Keeps.setTarget {o w v} : Keeps s₀ (s.setTarget o w v) := h.setTab.frame

theorem Keeps.stampChan {c} : Keeps s₀ (s.stampChan c) := h.foldl (·.setTarget)

theorem Keeps.measure {legg m} : Keeps s₀ (s.measure legg m) := by
  dsimp only [State.measure]
  refine Keeps.ite h ?_
  refine Keeps.ite ?_ ?_
  · split
    exacts [h.setTarget.stampChan, h.setTarget]
  · split
    exacts [h.setBad, h]

theorem Keeps.startBorrow {c task len} : Keeps s₀ (s.startBorrow c task len) :=
  h.unless (·.frame.ite (h.when (·.frame)))

theorem Keeps.gleanDone {ms} : Keeps s₀ (s.gleanDone ms) := by
  dsimp only [State.gleanDone]
  split
  exacts [(h.frame.foldl (·.measure)).inc.foldl (·.takeTargets), h]

theorem Keeps.startFull : Keeps s₀ s.startFull := h.gleanStop.isolatePins.setBit.frame

theorem Keeps.fullResult {ms} : Keeps s₀ (s.fullResult ms) :=
  (((h.foldl fun h => h.unless (·.setBad)).foldl (·.measure)).nextSeq.foldl (·.calSet)).setFld

theorem Keeps.endFull {ms} : Keeps s₀ (s.endFull ms) := h.when (·.frame.fullResult.setBit.frame)

theorem Keeps.putCorr {o w v} : Keeps s₀ (s.putCorr o w v) := h.setTarget.nextSeq.setTab.calStamp

theorem Keeps.tdr {o rtt} : Keeps s₀ (s.tdr o rtt) := by
  dsimp only [State.tdr]
  exact h.foldl fun h => by split; exacts [h, h.setBad.ite h.putCorr.journal.calNote]

/-! ### ReeveFx -/

theorem Keeps.setFlash {a bs} : Keeps s₀ (s.setFlash a bs) :=
  h.withFlash fun hw => Store.wf_putList _ hw _ _

theorem Keeps.doWindow {op good} : Keeps s₀ (s.doWindow op good) := by
  dsimp only [State.doWindow]
  split
  · exact h.ok
  · exact .ite (h.setFlash.ok.ite h.setFlash.inc.err) h.takeFree.setFlash.inc.err
  · exact .ite (h.withFlash fun hw => Store.wf_keep _ hw _).ok h.takeFree.setFlash.inc.err

theorem Keeps.windowTry : Keeps s₀ s.windowTry := by
  dsimp only [State.windowTry]
  split
  exacts [h.when (·.frame.setBit.doWindow), h]

theorem Keeps.windowRequest {op good} : Keeps s₀ (s.windowRequest op good) := by
  dsimp only [State.windowRequest]
  split
  exacts [h, h.frame.setBit.windowTry]

theorem Keeps.selForce : Keeps s₀ s.selForce := by
  dsimp only [State.selForce]
  split
  exacts [h.when (·.setReg.setReg.setBit.windowTry), h]

theorem Keeps.sermGo : Keeps s₀ s.sermGo := h.setBit

theorem Keeps.sermDone {sdi} : Keeps s₀ (s.sermDone sdi) := h.when (·.frame.setWide.setBit.setBit.windowTry)

theorem Keeps.sermTimeout : Keeps s₀ s.sermTimeout := h.when (·.setBit.setBit.raiseN.windowTry)

theorem Keeps.clearChest : Keeps s₀ s.clearChest :=
  h.withTabs fun hw => Store.wf_keep _ hw _

theorem Keeps.chestSeal {good} : Keeps s₀ (s.chestSeal good) := h.frame.setBit.ite h.inc.raiseN

theorem Keeps.autoSeal {good} : Keeps s₀ (s.autoSeal good) := h.when (·.chestSeal)

theorem Keeps.wipe {cause} : Keeps s₀ (s.wipe cause) :=
  h.frame.clearChest.setBit.setBit.inc.setReg.when (·.raiseN)

theorem Keeps.wipeDone : Keeps s₀ s.wipeDone := h.when (·.setBit.frame)

theorem Keeps.tamper {cause} : Keeps s₀ (s.tamper cause) := h.wipe.raise

theorem Keeps.chestRestore {good} : Keeps s₀ (s.chestRestore good) := by
  unfold State.chestRestore
  extract_lets img
  clear_value img
  split
  · exact .ite (h.clearChest.withTabs fun hw => Store.wf_foldlPut (Store.wf_foldlPut hw)).setBit h.clearChest
  · exact h.clearChest

theorem Keeps.putChest {tsel idx w} : Keeps s₀ (s.putChest tsel idx w) := h.setTab.setBit.frame

theorem Keeps.lifeCmd {w} : Keeps s₀ (s.lifeCmd w) := h.wipe.frame.ite h.frame

theorem Keeps.lifeDone {good} : Keeps s₀ (s.lifeDone good) := by
  dsimp only [State.lifeDone]
  split
  exacts [h.frame.unless (·.frame.raise), h]

theorem Keeps.endUpdate {result} : Keeps s₀ (s.endUpdate result) := h.setFld.setFld.frame

theorem Keeps.abortUpdate : Keeps s₀ s.abortUpdate := h.when (·.endUpdate)

theorem Keeps.updBegin {ini kind total t} (e : s.updBegin ini kind total = .ok t) : Keeps s₀ t := by
  unfold State.updBegin at e
  split at e
  · cases e
  · split at e
    · cases e
    · split at e
      · cases e
      · cases e
        exact h.setReg.setWide.setWide.frame

theorem Keeps.updData {ini offset data good} : Keeps s₀ (s.updData ini offset data good).2 :=
  .iteSnd h <| .iteSnd h <| .iteSnd h.setWide.frame h.inc.endUpdate
theorem Keeps.updDataOk {ini offset data good t} (e : (s.updData ini offset data good).1 = .ok t) : Keeps s₀ t := by
  unfold State.updData at e
  split at e
  · cases e
  split at e
  · cases e
  split at e
  · cases e
    exact h.setWide.frame
  · cases e

theorem Keeps.commitImage {kind img} : Keeps s₀ (s.commitImage kind img) :=
  h.frame.ite (h.setWide.frame.ite h.frame)

theorem Keeps.updFinish {ini good} : Keeps s₀ (s.updFinish ini good).2 := by
  dsimp only [State.updFinish]
  refine .iteSnd h <| .iteSnd h <| .iteSnd (.iteSnd h.setBit.endUpdate h.setBit.endUpdate.raise) <|
    .iteSnd h.setBit.inc.endUpdate <| .iteSnd (.flipBanks (.frame (.setFld ?_))) ?_
  all_goals exact (h.setBit.when (·.frame)).commitImage.endUpdate

theorem Keeps.updIdle : Keeps s₀ s.updIdle := h.when (·.endUpdate)

theorem Keeps.saveSettings : Keeps s₀ s.saveSettings := h.frame

theorem Keeps.loadSettings : Keeps s₀ s.loadSettings := by
  dsimp only [State.loadSettings]
  exact Keeps.setBit (by split; exacts [h.setReg.setReg.setReg, h])

theorem Keeps.reeveRam {ue} : Keeps s₀ (s.reeveRam ue) := by
  dsimp only [State.reeveRam]
  refine .ite (.abortUpdate (.raise (.setFld ?_))) (.when (.setFld ?_) (·.raise))
  all_goals exact h.setBit.ite (h.when (·.setBit))

theorem Keeps.reeveWdog : Keeps s₀ s.reeveWdog := h.when (·.raiseH.setBit.abortUpdate.frame)

theorem Keeps.runFirmware : Keeps s₀ s.runFirmware := by
  dsimp only [State.runFirmware]
  split <;> exact h.setReg.frame

theorem Keeps.reloadDone {good} : Keeps s₀ (s.reloadDone good) := h.when (·.runFirmware.frame)

/-! ### Start -/

theorem Keeps.coldReset : Keeps s₀ s.coldReset :=
  { h with regs := fun _ => rfl, tabs := fun _ => rfl, bankMem := fun _ => rfl, dram := fun _ => rfl }

theorem Keeps.porst : Keeps s₀ s.porst := h.coldReset.frame

theorem Keeps.linkUp {p} : Keeps s₀ (s.linkUp p) := h.setReg.send

theorem Keeps.linkDown {p lfault rfault} : Keeps s₀ (s.linkDown p lfault rfault) := h.setReg.raiseN

theorem Keeps.settle : Keeps s₀ s.settle := by
  dsimp only [State.settle]
  refine .monsToFault (.ite (.setFld ?_) (.when ?_ fun h => (h.when (·.raiseN)).setReg))
  all_goals exact h.frame.foldl fun h => h.assign.ite (h.when (·.unassign))

omit h in
theorem Keeps.replayCells {t : State} {cs : List (Nat × Nat × Nat × Word)} (h : Keeps s₀ s)
    (e : s.replayCells cs = some t) : Keeps s₀ t := by
  induction cs generalizing s with
  | nil =>
    cases e
    exact h
  | cons c cs ih =>
    unfold State.replayCells at e
    split at e
    · cases e
    · exact ih h.applyWord e

theorem Keeps.replayWrite {w} : Keeps s₀ (s.replayWrite w) := by
  unfold State.replayWrite
  split
  exacts [h.replayCells ‹_›, h.frame]

theorem Keeps.replay : Keeps s₀ s.replay := by
  dsimp only [State.replay]
  split
  · exact h.frame
  · refine .ite ?_ ?_
    on_goal 1 => split
    on_goal 1 => refine .trainDram ?_
    all_goals refine .when (.when ?_ (·.raiseN)) (·.raiseN)
    all_goals exact ((h.setWide.setWide.foldl (·.applyRec)).foldl (·.replayWrite)).frame

theorem Keeps.calFromImage {img o} : Keeps s₀ (s.calFromImage img o) := h.setTabs.setTabs.setFld.frame

theorem Keeps.calMeasure {e os} : Keeps s₀ (s.calMeasure e os) := h.unless (·.frame.fullResult)

theorem Keeps.calCold {e os imageOk} : Keeps s₀ (s.calCold e os imageOk) := by
  dsimp only [State.calCold]
  split
  exacts [(h.foldl (·.calFromImage)).calMeasure, h.calMeasure]

theorem Keeps.calRecord {num r} : Keeps s₀ (s.calRecord num r) :=
  h.foldl fun h => (h.when (·.applyWord.when (·.setTab))).ite h.applyWord

theorem Keeps.calInject : Keeps s₀ (s.calInject).2 := h.setBit

theorem Keeps.calLoad {e} : Keeps s₀ (s.calLoad e) :=
  h.calInject.calCold.when fun h =>
    ((h.foldl (·.calRecord)).foldl (·.calRecord)).foldl fun h => h.when (·.setTabs)

theorem Keeps.calRetained {e} : Keeps s₀ (s.calRetained e) := h.calInject.unless (·.frame.calCold)

omit h in
theorem Keeps.latchAll {n : Nat} (h : Keeps s₀ s) : Keeps s₀ (State.latchAll n s) := by
  induction n generalizing s with
  | zero => exact h
  | succ n ih => exact h.unless fun h => ih h.latchFault

theorem Keeps.openKeep : Keeps s₀ s.openKeep := h.setupKeep.when (·.frame.foldl (·.ringRecord))

theorem Keeps.bist {e} : Keeps s₀ (s.bist e) :=
  ((((h.withBankMem fun _ => Store.wf_nil _).foldl fun h => h.ite (h.setBank.ite h.setBank)).foldl fun h =>
    h.raiseH.ite h.raiseD).latchAll).openKeep

theorem Keeps.clockStep {e} : Keeps s₀ (s.clockStep e) :=
  (h.when (·.setBit)).lock.trainDram.ite (h.when (·.setBit)).raiseH

theorem Keeps.bootFirmware {e} : Keeps s₀ (s.bootFirmware e) :=
  (h.unless (·.frame.raiseN)).runFirmware.ite h.setReg.raiseH

theorem Keeps.romCheck {e} : Keeps s₀ (s.romCheck e) := h.setReg.frame.unless (·.raiseH)

theorem Keeps.loadPatch {e} : Keeps s₀ (s.loadPatch e) := by
  dsimp only [State.loadPatch]
  split
  exacts [h, h.setTabs.setTabs.setTabs.setReg.setReg.setWide.ite h.raiseN]

theorem Keeps.firmwareStep {e} : Keeps s₀ (s.firmwareStep e) :=
  h.bootFirmware.ite (h.bootFirmware.romCheck.loadPatch.when (·.loadSettings)).chestRestore

theorem Keeps.linkStep {e} : Keeps s₀ (s.linkStep e) :=
  (h.linkUp.ite h.linkDown).linkUp.ite (h.linkUp.ite h.linkDown).linkDown

theorem Keeps.coldWork {e n} : Keeps s₀ (s.coldWork e n) := by
  dsimp only [State.coldWork]
  split
  · exact h.unless (·.raise)
  · exact h.bist
  · exact h.clockStep
  · exact h.foldl (·.readSensors)
  · exact h.firmwareStep
  · exact (h.replay.ite h.frame).settle
  · exact h.calLoad
  · exact h.linkStep
  · exact h

theorem Keeps.romStep {e} : Keeps s₀ (s.romStep e) := h.romCheck.takeFree.frame

theorem Keeps.greenClear : Keeps s₀ s.greenClear :=
  (h.foldl fun h => h.takeFree.setTab.journal.ite h.takeFree.setTabs.journal).frame

theorem Keeps.rollStep {e undo} : Keeps s₀ (s.rollStep e undo) :=
  (h.dayRollback.when (·.dayUndoTest)).greenClear.settle.ite h.coldWork

theorem Keeps.warmWork {e undo replayed n} : Keeps s₀ (s.warmWork e undo replayed n) := by
  dsimp only [State.warmWork]
  split
  exacts [h.clockStep, h.foldl (·.readSensors), h.romStep, h.rollStep, h.calRetained.ite h.calLoad, h]

theorem Keeps.setUp {n b} : Keeps s₀ (s.setUp n b) := h.frame

omit h in
theorem Keeps.runSteps (h : Keeps s₀ s) {work : State → Nat → State} {warnAt : Option Nat} {ns : List Nat}
    (hw : ∀ {s n}, Keeps s₀ s → Keeps s₀ (work s n)) : Keeps s₀ (State.runSteps work warnAt ns s) := by
  induction ns generalizing s with
  | nil => exact h
  | cons n ns ih =>
    exact (hw (h.unless (·.setUp)).frame).latchAll.unless fun h =>
      h.setUp.die.ite (h.setUp.frame.ite (ih h.setUp))

theorem Keeps.startDone : Keeps s₀ s.startDone := (h.when (·.clearH)).frame.setRun.ite h

theorem Keeps.coldStart {e} : Keeps s₀ (s.coldStart e) :=
  Keeps.startDone <| .when
    (.runSteps (h.coldReset.frame.setFld.foldl (·.setReg.setReg)).settle.setRun.setBit (·.coldWork))
    (·.frame.linkStep.setUp.latchAll)

theorem Keeps.warmReset : Keeps s₀ s.warmReset := by
  unfold State.warmReset
  extract_lets s1 s2 drop s3 s4 s5 s6 g s7 s8 s9
  have h2 : Keeps s₀ s2 := h.clearTest.closeLocks.dropRegs.endOps.gleanStop
  have h3 : Keeps s₀ s3 := { h2 with regs := fun hw => Store.wf_keep regDefault (h2.regs hw) (!drop ·) }
  have h4 : Keeps s₀ s4 := h3.foldl fun h => .ite h.setFld (h.setFld.setSiteSt.ite h.setFld.setSiteSt)
  have h6 : Keeps s₀ s6 := (h4.foldl (·.railOff)).foldl (·.acqRelease.setAcq.setAcqSt)
  clear_value s6
  have h7 : Keeps s₀ s7 := { h6 with
    tabs := fun hw => Store.wf_keep tabDefault (h6.tabs hw)
      fun k => !decide (tkey pGREEN 2 0 ≤ k ∧ k < tkey pGREEN 3 0) }
  exact h7.setBit.frame.monsToFault

theorem Keeps.warmStart {e undo} : Keeps s₀ (s.warmStart e undo) :=
  (h.setRun.frame.warmReset.setBit.runSteps (·.warmWork)).startDone

theorem Keeps.recover : Keeps s₀ s.recover := h.dayClose.setRun

theorem Keeps.recovered : Keeps s₀ s.recovered := h.when (·.dayDrain.clearH.frame.setRun)

theorem Keeps.enterTest : Keeps s₀ s.enterTest := h.dayClose.frame.setRun

theorem Keeps.powerWarn {done} : Keeps s₀ (s.powerWarn done) := by
  dsimp only [State.powerWarn]
  split
  · exact h.frame
  · exact h.frame
  · exact h.frame.frame
  · exact h.frame.raiseH.latchAll.abortUpdate.when fun h => h.dayClose.dayDrain.ite h.dayClose.takeFree.dayDrain

theorem Keeps.warnRise {e} : Keeps s₀ (s.warnRise e) := h.frame.coldStart.ite (h.frame.when (·.coldStart))

theorem Keeps.porstRise {e} : Keeps s₀ (s.porstRise e) := h.unless (·.frame.when (·.coldStart))

/-! ### Effects -/

theorem Keeps.askBool {hint} : Keeps s₀ (s.askBool hint).2 := by
  dsimp only [State.askBool]
  split
  exacts [h, h.takeFree]

theorem Keeps.askNum {hint i} : Keeps s₀ (s.askNum hint i).2 := by
  dsimp only [State.askNum]
  split
  exacts [h, h.takeFree]

theorem Keeps.askDram {hint} : Keeps s₀ (s.askDram hint).2 := by
  dsimp only [State.askDram]
  split
  · exact h
  · split <;> exact h.takeFree.takeFree

theorem Keeps.forced {t : State} {page b} : Keeps s₀ (t.forced page b s) := h.setBit.ite h.frame

theorem Keeps.forceStream {k code why} : Keeps s₀ (s.forceStream k code why) :=
  (h.when (·.voidAll.stopAll)).raiseD

theorem Keeps.forceSource {page k b} : Keeps s₀ (s.forceSource page k b) := by
  dsimp only [State.forceSource]
  split
  · exact h.raiseN
  · exact h.raiseN
  · exact h.raiseN
  · exact h.raiseN.ite h.setBank.raiseD
  · exact h.forceStream.ite h.raiseN
  · exact h.forceStream.ite (h.forceStream.ite h.raiseN)
  · exact h.raiseN
  · exact h.raiseH.ite h.raiseN
  · exact h.raiseN
  · exact h.raiseD
  · exact h.raiseD
  · exact h.raiseD
  · exact h.raiseN
  · exact h.raiseN.ite h.raiseN
  · exact h.raiseH
  · exact h.trip.ite (h.guardFault.ite h.trip)
  · exact h.throttle.ite (h.raiseH.ite (h.raise.ite h.sensorBad))
  · exact h.raiseH
  · exact h.raiseN.ite h.raiseH
  · exact h.raiseN
  · exact h.raiseN
  · exact h.takeFree.tamper
  · exact h.raiseN
  · exact h.when (·.setSite)
  · exact h
  · exact h
  · exact h
  · exact h
  · exact h
  · exact h
  · exact h
  · exact h

theorem Keeps.forceBit {page k b} : Keeps s₀ (s.forceBit page k b) :=
  h.frame.ite (h.frame.ite h.forceSource.forced)

theorem Keeps.force {page k bits} : Keeps s₀ (s.force page k bits) := h.foldl (·.setBit.forceBit)

theorem Keeps.hedgeReq {ini page k} : Keeps s₀ (s.hedgeReq ini page k) :=
  h.unless (·.setBit.toStile.ite h.setBit.raiseD)

theorem Keeps.lockKey {ini page key} : Keeps s₀ (s.lockKey ini page key) := h.setReg.ite (h.unless (·.setReg))

theorem Keeps.pgErrWrite {page w} : Keeps s₀ (s.pgErrWrite page w) := (h.when (·.setBit)).when (·.setReg)

theorem Keeps.putHeader {ini page k off p} : Keeps s₀ (s.putHeader ini page k off p) :=
  .ite (h.setReg.when (·.hedgeReq)) <| .ite h.pgErrWrite <| .ite h.force <|
    .ite (h.setReg.when (·.compareTime)) <| h.when (·.lockKey)

theorem Keeps.storeReg {page r p} : Keeps s₀ (s.storeReg page r p) :=
  h.unless (·.setReg.ite (h.when (·.foldl (·.setReg))))

theorem Keeps.retest {pass} : Keeps s₀ (s.retest pass) := h.clearBank.setBank.ite h.setBank.raiseD

theorem Keeps.clearBankCounts : Keeps s₀ s.clearBankCounts := h.foldl (·.setBank)

theorem Keeps.retrainDram {d} : Keeps s₀ (s.retrainDram d) :=
  h.trainDram.ite (h.trainDram.withDram fun _ => Store.wf_nil _)

theorem Keeps.clearRefill : Keeps s₀ s.clearRefill := h.foldl (·.setRefill)

theorem Keeps.conflSnap : Keeps s₀ s.conflSnap := h.foldl (·.setTab)

theorem Keeps.conflClear : Keeps s₀ s.conflClear := (h.foldl (·.setTab)).setReg

theorem Keeps.conflCmd {w} : Keeps s₀ (s.conflCmd w) := (h.when (·.conflSnap)).when (·.conflClear)

theorem Keeps.slipSnap : Keeps s₀ s.slipSnap := h.foldl (·.setTab)

theorem Keeps.slipCmd {w} : Keeps s₀ (s.slipCmd w) := (h.when (·.slipSnap)).when (·.clearRegs)

theorem Keeps.assignSite {s0 : State} {n} : Keeps s₀ (s0.assignSite s n) := h.assign.ite (h.when (·.unassign))

theorem Keeps.retrainLink {p trained} : Keeps s₀ (s.retrainLink p trained) :=
  (h.when (·.linkDown)).when (·.linkUp)

theorem Keeps.settleAbt {x} : Keeps s₀ (s.settleAbt x) := by
  dsimp only [State.settleAbt]
  split
  exacts [h.frame, h.unless (·.frame.send), h.frame]

theorem Keeps.afterReply {ini x} : Keeps s₀ (s.afterReply ini x) := h.settleAbt.ite h.frame

theorem Keeps.replied {f} : Keeps s₀ (s.replied f) := h.frame.foldl (·.settleAbt)

theorem Keeps.ptpFreeze : Keeps s₀ s.ptpFreeze := h.when (·.setWide.frame)

theorem Keeps.ptpConfig {s0 : State} : Keeps s₀ (s0.ptpConfig s) :=
  h.setFld.ite (h.when (·.ptpFreeze.setReg.frame.when (·.raiseN)))

theorem Keeps.pinConfig {o i} : Keeps s₀ (s.pinConfig o i) := (h.when (·.isolate)).unless (·.endLimit)

theorem Keeps.railConfig {s0 : State} {hint o} : Keeps s₀ (s0.railConfig s hint o) := by
  dsimp only [State.railConfig]
  exact Keeps.ite (Keeps.startRamp (Keeps.setOct (by split; exacts [h, h.takeFree]))) (h.when (·.railOff))

theorem Keeps.railTarget {s0 : State} {o} : Keeps s₀ (s0.railTarget s o) :=
  h.when (·.takeFree.startRamp.ite h.startRamp)

theorem Keeps.octpeCmd {o w} : Keeps s₀ (s.octpeCmd o w) := (h.when (·.toStile)).when (·.convert.toStile)

theorem Keeps.trgConfig : Keeps s₀ s.trgConfig := by
  dsimp only [State.trgConfig]
  split
  exacts [h.unless (·.cancelSend), h]

theorem Keeps.greenSwitch {w} : Keeps s₀ (s.greenSwitch w) := h.foldl (·.fire)

theorem Keeps.greenCmd {w} : Keeps s₀ (s.greenCmd w) := h.foldl (·.setTab)

theorem Keeps.clearTrips : Keeps s₀ s.clearTrips := h.frame

theorem Keeps.watchStat {w} : Keeps s₀ (s.watchStat w) := (h.when (·.setTabs)).when (·.setTabs)

theorem Keeps.clearWatch : Keeps s₀ s.clearWatch := h.clearRegs

theorem Keeps.gleanCmd {hint w} : Keeps s₀ (s.gleanCmd hint w) := by
  unfold State.gleanCmd
  refine h.startFull.ite (h.setBit.ite ?_)
  split
  next e =>
    refine .tdr (.of_eq ?_ e)
    exact .foldlSnd h (·.askNum)

theorem Keeps.gpioWrite {s0 : State} {off} : Keeps s₀ (s0.gpioWrite s off) := h.setReg.windowTry

theorem Keeps.formatArea : Keeps s₀ s.formatArea := h.frame

theorem Keeps.dayCmd {w} : Keeps s₀ (s.dayCmd w) := h.dayCompact.ite (h.when (·.dayClose))

theorem Keeps.chestCmd {hint w} : Keeps s₀ (s.chestCmd hint w) := h.wipe.ite (h.when (·.askBool.chestSeal))

theorem Keeps.topCmd {hint w} : Keeps s₀ (s.topCmd hint w) := by
  dsimp only [State.topCmd]
  split
  exacts [h.warmStart, h.recover, h.enterTest, h.warmStart, h]

theorem Keeps.gcmd {w} : Keeps s₀ (s.gcmd w) := h.armUnit.ite h.disarm

theorem Keeps.acqCmd {u w} : Keeps s₀ (s.acqCmd u w) := h.armUnit.ite (h.when (·.disarm))

theorem Keeps.actReg {s0 : State} {hint ini page k off p} : Keeps s₀ (s0.actReg s hint ini page k off p) := by
  dsimp only [State.actReg]
  split
  · exact h.topCmd.ite (h.when (·.afterReply))
  · exact (h.when (·.afterReply)).ite (((h.when (·.clearRegs)).when (·.askBool.retrainLink)).ite h)
  · exact ((h.when (·.clearRegs)).when (·.afterReply)).ite h
  · exact h.ptpConfig.ite (h.when (·.frame))
  · exact ((h.when (·.clearBankCounts)).when (·.askBool.retest)).ite h
  · exact ((h.when (·.clearRegs)).when (·.askDram.retrainDram)).ite h
  · exact h.when (·.clearRefill)
  · exact h.when (·.conflCmd)
  · exact h.when (·.clearRegs)
  · exact h.when (·.slipCmd)
  · exact h.when (·.assignSite)
  · exact h.belloConfig.ite (h.when (·.genPulse.ite (h.when (·.genPulse))))
  · exact h.trgConfig.ite (h.when (·.skewCommand))
  · exact h.freeOp.ite (h.endOp.ite (h.when (·.setReg)))
  · exact h.when (·.switchBanks)
  · exact (h.when (·.frame)).ite (h.frame.ite (h.gcmd.ite (h.when (·.setReg))))
  · exact h.when (·.acqCmd)
  · exact h.greenSwitch.ite (h.when (·.greenCmd))
  · exact h.when (·.clearTrips)
  · exact h.when (·.revalidate)
  · exact h.watchStat.ite (h.clearFlt.ite (h.when (·.clearWatch)))
  · exact h.gleanCmd.ite (h.when (·.gleanStop))
  · exact ((h.when (·.setReg)).when (·.saveSettings)).ite h
  · exact h.gpioWrite.ite (h.windowTry.ite (((h.when (·.setReg)).when (·.sermGo)).ite h))
  · exact h.when (·.clearRegs)
  · exact (h.when (·.formatArea)).ite (h.when (·.dayCmd))
  · exact h.when (·.chestCmd)
  · exact h.when (·.setReg.lifeCmd)
  · exact h.when (·.endUpdate)
  · exact h.octpeCmd.ite (h.pinConfig.gleanReview.ite (h.railConfig.gleanReview.ite (h.when (·.railTarget))))
  · exact h
  · exact h

theorem Keeps.putReg {hint ini page k r p} : Keeps s₀ (s.putReg hint ini page k r p) :=
  h.putHeader.ite h.storeReg.actReg

theorem Keeps.putTab {page k tsel idx p} : Keeps s₀ (s.putTab page k tsel idx p) := by
  dsimp only [State.putTab]
  split
  · exact h.putDesc
  · exact h.putLimit
  · exact h.putCorr
  · exact h.putChest
  · exact h.setTab.ite h.setTab.rewire
  · exact h.setTab.ite (h.when (·.setTabs))

/-! ### Fabric -/

theorem Keeps.noteErr {ini page off e} : Keeps s₀ (s.noteErr ini page off e) :=
  h.unless (·.setReg.ite (h.when (·.setBit.ite h.setReg)))

theorem Keeps.reject {ini page off e} : Keeps s₀ (s.reject ini page off e) := h.noteErr.err

theorem Keeps.serve {ini page} : Keeps s₀ (s.serve ini page) := h.frame.enterPage

theorem Keeps.served {ini page} : Keeps s₀ (s.served ini page) := h.serve.inc

theorem Keeps.setTblAddr {ini page w} : Keeps s₀ (s.setTblAddr ini page w) := h.frame

theorem Keeps.advanceWindow {ini page} : Keeps s₀ (s.advanceWindow ini page) := h.unless (·.setTblAddr)

theorem Keeps.snapRead {ini page place base n i live} : Keeps s₀ (s.snapRead ini page place base n i live).2 := by
  dsimp only [State.snapRead]
  refine Keeps.iteSnd ?_ h
  refine Keeps.iteSnd h.frame ?_
  split
  exacts [h.when (·.frame), h]

theorem Keeps.readEntry {ini page k tsel idx w t} (e : s.readEntry ini page k tsel idx = .ok (w, t)) :
    Keeps s₀ t := by
  unfold State.readEntry at e
  split at e
  · cases e
  · injection e with e
    exact h.snapRead.of_eq e

theorem Keeps.readWord {ini page k off w t} (e : s.readWord ini page k off = .ok (w, t)) : Keeps s₀ t := by
  unfold State.readWord at e
  split at e
  · cases e
  split at e
  · split at e
    split at e
    · cases e
    split at e
    · cases e
    split at e
    · cases e
    · cases e
      exact (h.readEntry ‹_›).advanceWindow
  · split at e
    split at e
    cases e
    exact (h.snapRead.of_eq ‹_›).takeFree.ite (h.snapRead.of_eq ‹_›)

omit h in
theorem Keeps.readWords {ini page : Nat} {k : Kind} {t : State} {offs : List Nat} {ws : List Word} (h : Keeps s₀ s)
    (e : readWords ini page k offs s = .ok (ws, t)) : Keeps s₀ t := by
  induction offs generalizing s ws with
  | nil =>
    cases e
    exact h
  | cons off offs ih =>
    unfold Machine.readWords at e
    split at e
    · cases e
    split at e
    · cases e
    · cases e
      exact ih (h.readWord ‹_›) ‹_›

theorem Keeps.readBurst {ini addr n} : Keeps s₀ (s.readBurst ini addr n) := by
  unfold State.readBurst
  extract_lets page off
  split
  · exact h.reject
  · split
    · exact h.reject
    · refine Keeps.leavePage ?_
      split
      · exact h.serve.reject
      · split
        exacts [h.serve.reject, (h.serve.readWords ‹_›).ok]

theorem Keeps.dropGroup {page place base n} : Keeps s₀ (s.dropGroup page place base n) := h.frame

theorem Keeps.dropWaits {ini page place base n} : Keeps s₀ (s.dropWaits ini page place base n) := h.frame

theorem Keeps.addWait {ini page place off w} : Keeps s₀ (s.addWait ini page place off w) := h.dropWaits.frame

theorem Keeps.writeEntry {ini page k tsel idx mask data t m}
    (e : s.writeEntry ini page k tsel idx mask data = .ok (t, m)) : Keeps s₀ t := by
  unfold State.writeEntry at e
  extract_lets g i last old p t at e
  split at e
  · cases e
  split at e
  · cases e
  split at e
  · cases e
    exact h.putTab.dropGroup
  · cases e
    exact h.putTab.addWait

theorem Keeps.writeRegWord {hint ini page k off mask data t m}
    (e : s.writeRegWord hint ini page k off mask data = .ok (t, m)) : Keeps s₀ t := by
  unfold State.writeRegWord at e
  split at e
  · cases e
    exact h
  split at e
  · cases e
  split at e
  · cases e
  extract_lets i last old p at e
  split at e
  · cases e
  split at e
  · obtain ⟨rfl, -⟩ := Prod.mk.inj (Except.ok.inj e)
    exact h.putReg.unless (·.dropGroup)
  · cases e
    exact h.putReg.addWait

theorem Keeps.writeWord {hint ini page k off mask data t m}
    (e : s.writeWord hint ini page k off mask data = .ok (t, m)) : Keeps s₀ t := by
  unfold State.writeWord at e
  split at e
  · cases e
  split at e
  · extract_lets a at e
    split at e
    · cases e
    split at e
    · cases e
    · cases e
      exact h.setTblAddr
  split at e
  · split at e
    split at e
    · cases e
    split at e
    · cases e
    split at e
    · cases e
    · cases e
      exact (h.writeEntry ‹_›).advanceWindow
  · exact h.writeRegWord e

omit h in
theorem Keeps.writeWords {hint : Hint} {ini page : Nat} {k : Kind} {mask : Word} {t : State} {ws : List (Nat × Word)}
    {m : Marks} (h : Keeps s₀ s) (e : writeWords hint ini page k mask ws s = .ok (t, m)) : Keeps s₀ t := by
  induction ws generalizing s m with
  | nil =>
    cases e
    exact h
  | cons w ws ih =>
    unfold Machine.writeWords at e
    split at e
    · cases e
    split at e
    · cases e
    · cases e
      exact ih (h.writeWord ‹_›) ‹_›

omit h in
theorem Keeps.writeEntries {ini page : Nat} {k : Kind} {tsel : Nat} {t : State} {idx : Nat} {ws : List Word}
    {m : Marks} (h : Keeps s₀ s) (e : writeEntries ini page k tsel idx ws s = .ok (t, m)) : Keeps s₀ t := by
  induction ws generalizing s idx m with
  | nil =>
    cases e
    exact h
  | cons w ws ih =>
    unfold Machine.writeEntries at e
    split at e
    · cases e
    split at e
    · cases e
    · cases e
      exact ih (h.writeEntry ‹_›) ‹_›

theorem Keeps.journalWrite {s0 : State} {ini page m} : Keeps s₀ (s.journalWrite s0 ini page m) :=
  (h.foldl (·.journal)).when (·.foldl (·.calNote))

theorem Keeps.finishWrite {ini page off r} (hr : ∀ {t m}, r = .ok (t, m) → Keeps s₀ t) :
    Keeps s₀ (s.finishWrite ini page off r) := by
  unfold State.finishWrite
  split
  · exact (h.when (·.noteLoop)).reject
  · extract_lets n
    exact h.reject.ite ((h.unless (·.raiseN.frame)).reject.ite (hr rfl).journalWrite.ok)

theorem Keeps.crossStaged {staged} : Keeps s₀ (s.crossStaged staged) := h.when (·.captureEdge.toEdge.dueLoads)

theorem Keeps.writeBurst {hint ini addr mask ws seqchk} : Keeps s₀ (s.writeBurst hint ini addr mask ws seqchk) := by
  unfold State.writeBurst
  extract_lets page off
  split
  · exact h.reject
  · refine Keeps.leavePage ?_
    split
    · exact h.serve.crossStaged.reject
    · exact h.serve.crossStaged.finishWrite h.serve.crossStaged.inc.writeWords

theorem Keeps.writeReg {hint ini page off w} : Keeps s₀ (s.writeReg hint ini page off w) := h.writeBurst

theorem Keeps.writeRegs {hint ini page off ws} : Keeps s₀ (s.writeRegs hint ini page off ws) := h.writeBurst

omit h in
theorem Keeps.readEntries {ini page : Nat} {k : Kind} {tsel : Nat} {t : State} {idxs : List Nat} {ws : List Word}
    (h : Keeps s₀ s) (e : readEntries ini page k tsel idxs s = .ok (ws, t)) : Keeps s₀ t := by
  induction idxs generalizing s ws with
  | nil =>
    cases e
    exact h
  | cons idx idxs ih =>
    unfold Machine.readEntries at e
    split at e
    · cases e
    split at e
    · cases e
    · cases e
      exact ih (h.readEntry ‹_›) ‹_›

theorem Keeps.readTable {ini page tsel idx n} : Keeps s₀ (s.readTable ini page tsel idx n) := by
  unfold State.readTable
  split
  · exact h.reject
  · split
    · exact h.reject
    · refine Keeps.leavePage ?_
      split
      · exact h.serve.reject
      · split
        exacts [h.serve.reject, (h.serve.readEntries ‹_›).ok]

theorem Keeps.writeTable {ini page tsel idx ws seqchk} : Keeps s₀ (s.writeTable ini page tsel idx ws seqchk) := by
  unfold State.writeTable
  split
  · exact h.reject
  · refine Keeps.leavePage ?_
    split
    · exact h.serve.crossStaged.reject
    · exact h.serve.crossStaged.finishWrite h.serve.crossStaged.inc.writeEntries

/-! ### HostOps -/

theorem Keeps.rejectAt {ini addr e} : Keeps s₀ (s.rejectAt ini addr e) := h.err.ite h.reject

theorem Keeps.abtRead {ini addr n} : Keeps s₀ (s.abtRead ini addr n) := by
  dsimp only [State.abtRead]
  split
  exacts [h.rejectAt, h.readBurst]

theorem Keeps.abtWrite {ini addr ws seqchk} : Keeps s₀ (s.abtWrite ini addr ws seqchk) := by
  dsimp only [State.abtWrite]
  split
  exacts [h.rejectAt, h.writeBurst]

theorem Keeps.abtMwrite {ini addr mask data seqchk} : Keeps s₀ (s.abtMwrite ini addr mask data seqchk) := by
  dsimp only [State.abtMwrite]
  split
  exacts [h.rejectAt, h.writeBurst]

theorem Keeps.bulkReject {ini d e} : Keeps s₀ (s.bulkReject ini d e) := h.reject.ite h.err

omit h in
theorem Keeps.readRegionRun {ini g n : Nat} (h : Keeps s₀ s) {p : Nat} :
    Keeps s₀ (s.readRegionRun ini g p n).2 := by
  induction n generalizing s p with
  | zero => exact h
  | succ n ih =>
    unfold State.readRegionRun
    split
    · exact h.readRegion.of_eq ‹_›
    · split
      all_goals exact (ih (h.readRegion.of_eq ‹_›)).of_eq ‹_›

theorem Keeps.bankReject {ini} : Keeps s₀ (s.bankReject ini) := h.takeFree.reject

theorem Keeps.bulkRead {ini port d} : Keeps s₀ (s.bulkRead ini port d) := by
  dsimp only [State.bulkRead]
  split
  · exact h.bulkReject
  · refine Keeps.ite h.readTable ?_
    split
    · exact h.err
    · refine Keeps.ite ?_ h.dramMet.ok
      split
      exacts [(h.readRegionRun.of_eq ‹_›).ok, (h.readRegionRun.of_eq ‹_›).bankReject]

theorem Keeps.bulkWrite {org port d ws seqchk} : Keeps s₀ (s.bulkWrite org port d ws seqchk) := by
  dsimp only [State.bulkWrite]
  split
  · exact h.bulkReject
  · refine Keeps.ite h.writeTable ?_
    refine Keeps.ite h.err ?_
    split
    exacts [h.err, h.frame.ok]

theorem Keeps.noteFail {o e} : Keeps s₀ (s.noteFail o e) := h.unless (·.frame)

theorem Keeps.bulkComplete : Keeps s₀ s.bulkComplete := by
  unfold State.bulkComplete
  split
  · exact h
  · extract_lets t
    split
    · exact h.frame
    · exact .ite (.ite h.frame.writeRegionRun h.frame.bankReject.frame.noteFail)
        (h.frame.withDram fun hw => Store.wf_putList _ hw _ _).frame

theorem Keeps.prunePosts : Keeps s₀ s.prunePosts := h.frame

theorem Keeps.fenceAnswer {f} : Keeps s₀ (s.fenceAnswer f) := by
  dsimp only [State.fenceAnswer]
  split
  exacts [h.frame.prunePosts.frame, h.frame.prunePosts.frame.ite h.frame.prunePosts.ok]

theorem Keeps.fence {org wantDone wantSeal} : Keeps s₀ (s.fence org wantDone wantSeal).2 := by
  dsimp only [State.fence]
  split
  exacts [h.frame, Keeps.iteSnd (h.when (·.dayClose)).fenceAnswer (h.when (·.dayClose)).frame]

theorem Keeps.post {org act strs gen} : Keeps s₀ (s.post org act strs gen) := h.frame

theorem Keeps.toStiles {strs op} : Keeps s₀ (s.toStiles strs op) := h.foldl (·.toStile)

theorem Keeps.execDo {org act strs param entry} : Keeps s₀ (s.execDo org act strs param entry) := by
  dsimp only [State.execDo]
  exact .ite (h.prunePosts.foldl (·.arm)).takeFree.followStreams.post <| .ite h.prunePosts.toStiles.post <|
    .ite h.prunePosts.toStiles.post <| .ite (h.prunePosts.foldl (·.resetStream)) h.prunePosts.releaseSite

theorem Keeps.execCmd {org w0 ext} : Keeps s₀ (s.execCmd org w0 ext) := by
  dsimp only [State.execCmd]
  refine Keeps.ite h.err ?_
  split
  exacts [h.err, h.execDo.ok]

theorem Keeps.openSlot {org i w0 w1 w2 filter} : Keeps s₀ (s.openSlot org i w0 w1 w2 filter) :=
  h.err.ite (h.err.ite h.setSlot.ok)

theorem Keeps.closeSlot {i w0} : Keeps s₀ (s.closeSlot i w0) := h.err.ite (h.err.ite h.setSlot.frame.ok)

theorem Keeps.releaseRec {r} : Keeps s₀ (s.releaseRec r) := h.freeOp.ite (h.frame.when (·.notFull))

theorem Keeps.ackSlot {i w0 w1} : Keeps s₀ (s.ackSlot i w0 w1) :=
  h.err.ite (h.err.ite ((h.foldl (·.releaseRec)).setSlot.ok.ite h.setSlot.ok))

theorem Keeps.subscribe {org body} : Keeps s₀ (s.subscribe org body) := by
  dsimp only [State.subscribe]
  split
  · exact h.err
  · split
    · exact h.err
    · split
      exacts [h.openSlot, h.openSlot, h.err, h.closeSlot, h.err, h.ackSlot, h.err, h.err]

theorem Keeps.sendStream {i q rs} : Keeps s₀ (s.sendStream i q rs) := by
  dsimp only [State.sendStream]
  exact h.foldl fun h => by split; exacts [h.sendUdp, h]

theorem Keeps.dropFailed {p} : Keeps s₀ (s.dropFailed p) := h.foldl fun h => h.frame.inc.ite h.frame.inc

theorem Keeps.streamSend {i} : Keeps s₀ (s.streamSend i) := by
  dsimp only [State.streamSend]
  refine Keeps.ite ?_ h
  split
  exacts [h.dropFailed.foldl (·.drainRec), (h.dropFailed.foldl (·.drainRec)).sendStream.frame.setSlot]

theorem Keeps.streamResend {i} : Keeps s₀ (s.streamResend i) :=
  h.when (·.toEdge.setSlot.raiseN.ite (h.toEdge.dropFailed.foldl (·.sendStream)).setSlot)

theorem Keeps.timeCmd {ini t} : Keeps s₀ (s.timeCmd ini t) := by
  dsimp only [State.timeCmd]
  split
  exacts [h.err, h.ok]

theorem Keeps.answer {r} : Keeps s₀ (s.answer r) := by
  dsimp only [State.answer]
  split
  exacts [h.ok, h.err]

theorem Keeps.updBeginCmd {ini kind total} : Keeps s₀ (s.updBeginCmd ini kind total) := by
  unfold State.updBeginCmd
  split
  exacts [h.err, h.err, (h.updBegin ‹_›).ok]

theorem Keeps.updDataCmd {ini port offset data good} : Keeps s₀ (s.updDataCmd ini port offset data good) := by
  unfold State.updDataCmd
  split
  · exact h.err
  · refine h.err.ite (h.err.ite ?_)
    extract_lets r
    split
    exacts [h.updData.err, (h.updDataOk ‹_›).ok]

theorem Keeps.updFinishCmd {ini good} : Keeps s₀ (s.updFinishCmd ini good) := by
  dsimp only [State.updFinishCmd]
  split
  exacts [h.err, h.updFinish.answer]

theorem Keeps.updAbortCmd {ini} : Keeps s₀ (s.updAbortCmd ini) := by
  dsimp only [State.updAbortCmd]
  split
  exacts [h.err, h.endUpdate.ok]

theorem Keeps.updStatusCmd {ini} : Keeps s₀ (s.updStatusCmd ini) := by
  dsimp only [State.updStatusCmd]
  split
  exacts [h.err, h.ok]

theorem Keeps.updSaveCmd {ini} : Keeps s₀ (s.updSaveCmd ini) := by
  dsimp only [State.updSaveCmd]
  split
  exacts [h.err, h.saveSettings.ok]

theorem Keeps.updateCmd {ini port body} : Keeps s₀ (s.updateCmd ini port body) := by
  have hd {g o d} : Keeps s₀ ((s.askBool {}).2.updDataCmd ini port o d g) := h.askBool.updDataCmd
  have hf {g} : Keeps s₀ ((s.askBool {}).2.updFinishCmd ini g) := h.askBool.updFinishCmd
  unfold State.updateCmd
  split
  · exact h.err
  next r =>
    extract_lets act
    clear_value act
    refine Keeps.ite h.err ?_
    match act, r with
    | 1, [_, _] => exact h.updBeginCmd
    | 2, _ :: _ :: _ => exact hd
    | 3, [] => exact hf
    | 4, [] => exact h.updAbortCmd
    | 5, [] => exact h.updStatusCmd
    | 6, [] => exact h.updSaveCmd
    | 0, _ | _ + 7, _ | 1, [] | 1, [_] | 1, _ :: _ :: _ :: _ | 2, [] | 2, [_] => exact h.err
    | 3, _ :: _ | 4, _ :: _ | 5, _ :: _ | 6, _ :: _ => exact h.err

theorem Keeps.journalStat {ini} : Keeps s₀ (s.journalStat ini) := by
  dsimp only [State.journalStat]
  split
  exacts [h.err, h.ok]

theorem Keeps.journalReadCmd {ini port a n} : Keeps s₀ (s.journalReadCmd ini port a n) := by
  dsimp only [State.journalReadCmd]
  split
  exacts [h.err, h.err.ite (h.err.ite (h.ok.ite h.err))]

theorem Keeps.journalCompactCmd {ini} : Keeps s₀ (s.journalCompactCmd ini) := by
  dsimp only [State.journalCompactCmd]
  split
  exacts [h.err, h.dayCompact.ok]

theorem Keeps.journalCmd {ini port body} : Keeps s₀ (s.journalCmd ini port body) := by
  unfold State.journalCmd
  split
  · exact h.err
  next r =>
    extract_lets act
    clear_value act
    refine Keeps.ite h.err ?_
    match act, r with
    | 1, [] => exact h.journalStat
    | 2, [_, _, c] => exact h.err.ite h.journalReadCmd
    | 3, [] => exact h.journalCompactCmd
    | 0, _ | _ + 4, _ | 1, _ :: _ | 3, _ :: _ | 2, [] | 2, [_] | 2, [_, _] | 2, _ :: _ :: _ :: _ :: _ => exact h.err

/-! ### AbtOps -/

theorem Keeps.countFec {p f} : Keeps s₀ (s.countFec p f) := h.when (·.inc.inc)

theorem Keeps.frameIn {p f} : Keeps s₀ (s.frameIn p f) := by
  dsimp only [State.frameIn]
  refine Keeps.ite ?_ h
  refine Keeps.ite h.setBit.countFec.inc ?_
  refine Keeps.ite h.setBit.countFec.inc ?_
  split <;> exact h.setBit.countFec.inc.ite h.setBit.countFec.inc

theorem Keeps.arpIn {p ip srcMac srcIp} : Keeps s₀ (s.arpIn p ip srcMac srcIp) := h.when (·.send)

theorem Keeps.echoIn {p srcMac srcIp ident seqn data} : Keeps s₀ (s.echoIn p srcMac srcIp ident seqn data) :=
  h.when (·.send)

theorem Keeps.hiBer {p} : Keeps s₀ (s.hiBer p) := h.setBit.raiseN

theorem Keeps.runCmd {org p t c} : Keeps s₀ (s.runCmd org p t c).2 := by
  dsimp only [State.runCmd]
  refine Keeps.iteSnd h.frame ?_
  refine Keeps.iteSnd h.frame ?_
  split
  · exact h.abtRead
  · exact h.abtWrite
  · exact h.abtMwrite
  · exact h.bulkReject.ite h.bulkRead
  · exact h.bulkReject.ite h.bulkWrite
  · exact Keeps.iteSnd h.frame h.fence
  · exact h.execCmd
  · exact h.subscribe
  · exact h.timeCmd
  · exact h.updateCmd
  · exact h.journalCmd

omit h in
theorem Keeps.runFrame {ini src grp t : Nat} {cs : List AbtCmd} {f : AbtFrame} (h : Keeps s₀ s) :
    Keeps s₀ (runFrame ini src grp t cs f s).2 := by
  induction cs generalizing s f with
  | nil => exact h
  | cons c cs ih =>
    unfold Machine.runFrame
    extract_lets org
    split
    · exact h.runCmd.of_eq ‹_›
    · exact ih (h.runCmd.of_eq ‹_›).frame

theorem Keeps.mapSource {id f} : Keeps s₀ (s.mapSource id f) := h.frame

theorem Keeps.mapSpace {id grp f} : Keeps s₀ (s.mapSpace id grp f) := h.mapSource

theorem Keeps.goFrame {id grp f} : Keeps s₀ (s.goFrame id grp f) :=
  h.runFrame.mapSpace.ite h.runFrame.mapSpace

theorem Keeps.fenceComplete : Keeps s₀ s.fenceComplete := by
  dsimp only [State.fenceComplete]
  split
  · exact h
  · split
    exacts [h.frame.fenceAnswer, h.frame.fenceAnswer.goFrame]

theorem Keeps.stagger {mc edge} : Keeps s₀ (s.stagger mc edge) := h.when (·.toEdge)

theorem Keeps.replyTo {x p pl} : Keeps s₀ (s.replyTo x p pl) := by
  dsimp only [State.replyTo]
  refine Keeps.ite ?_ ?_
  · split; exacts [Keeps.sendUdp (by split; exacts [h.sendUdp, h]), by split; exacts [h.sendUdp, h]]
  · split; exacts [h.sendUdp, h]

theorem Keeps.replySend {id grp} : Keeps s₀ (s.replySend id grp) := by
  dsimp only [State.replySend]
  split
  exacts [h.replied, h.stagger.replyTo.mapSpace.foldl (·.settleAbt)]

theorem Keeps.rejectFrame {src p ip udp mac hd e} : Keeps s₀ (s.rejectFrame src p ip udp mac hd e) := by
  dsimp only [State.rejectFrame]
  split
  exacts [(h.when (·.inc)).stagger.replyTo, (h.when (·.inc)).stagger.sendUdp]

theorem Keeps.acceptFrame {id grp now f} : Keeps s₀ (s.acceptFrame id grp now f) := h.goFrame.ite h.mapSpace

theorem Keeps.learn {p ip udp mac} : Keeps s₀ (s.learn p ip udp mac) := h.frame

theorem Keeps.sequence {p ip udp mac len hd cs} : Keeps s₀ (s.sequence p ip udp mac len hd cs) := by
  dsimp only [State.sequence]
  split
  · exact h.rejectFrame.ite (h.rejectFrame.ite h.frame.acceptFrame)
  · refine Keeps.ite h.inc ?_
    split
    · exact h.rejectFrame.ite (h.rejectFrame.ite h.mapSource.acceptFrame)
    · refine Keeps.ite (h.rejectFrame.ite h.mapSpace.acceptFrame) ?_
      refine Keeps.ite (h.when (·.inc)) ?_
      refine Keeps.ite ?_ (h.rejectFrame.ite (h.rejectFrame.ite h.acceptFrame))
      split
      exacts [h.inc.stagger.replyTo, h.rejectFrame]

theorem Keeps.requestFrame {p g} : Keeps s₀ (s.requestFrame p g) := by
  dsimp only [State.requestFrame]
  refine Keeps.ite h ?_
  refine Keeps.ite ((h.when (·.setBit)).inc) ?_
  refine Keeps.ite ((h.when (·.setBit)).inc) ?_
  refine Keeps.ite (h.when (·.setBit)) ?_
  split
  exacts [(h.when (·.setBit)).learn.rejectFrame, (h.when (·.setBit)).learn.sequence]

theorem Keeps.heldGo {id grp} : Keeps s₀ (s.heldGo id grp) := by
  dsimp only [State.heldGo]
  split
  · exact h
  · refine Keeps.ite h ?_
    split
    exacts [h, h.mapSpace.goFrame]

theorem Keeps.gapTimeout {id grp} : Keeps s₀ (s.gapTimeout id grp) := by
  dsimp only [State.gapTimeout]
  split
  exacts [h, Keeps.mapSpace (Keeps.inc (by split; exacts [h, h.toEdge]))]

theorem Keeps.expire {id} : Keeps s₀ (s.expire id) := by
  dsimp only [State.expire]
  exact Keeps.frame (by split; exacts [h.toEdge, h])

/-! ### Access -/

theorem Keeps.execTblDataAccess {ini page wr} : Continues s₀ (execTblDataAccess ini page wr s) := by
  dsimp only [Machine.execTblDataAccess]
  split
  exacts [h.writeReg.next, h.readBurst.next]

/-! ### Day -/

theorem Keeps.sealDue : Keeps s₀ s.sealDue := h.when (·.dayClose)

theorem Keeps.compactDone {good} : Keeps s₀ (s.compactDone good) :=
  h.ite ((h.dayDrain.frame.ite h.dayDrain.frame).ite h.dayFail)

theorem Keeps.formatDone {good} : Keeps s₀ (s.formatDone good) := h.unless (·.frame.ite h.frame.dayFail)

/-! ### Expand -/

theorem Keeps.expandStep {k p op} : Keeps s₀ (s.expandStep k p op) := by
  have h' : Keeps s₀ (s.expand k p (some op)).1 := h.expand
  unfold State.expandStep
  split
  next e => exact (e ▸ h' : Keeps s₀ (_, true).1).streamFail.followStreams
  next e => exact (e ▸ h' : Keeps s₀ (_, false).1)

/-! ### Gate -/

theorem Keeps.gateRead {addr n} : Keeps s₀ (s.gateRead addr n) :=
  h.err.ite (h.err.ite (h.readBurst.when (·.frame)))

theorem Keeps.gateWrite {addr ws} : Keeps s₀ (s.gateWrite addr ws) :=
  h.reject.ite (h.err.ite (h.reject.ite (h.reject.ite (h.err.ite h.writeBurst))))

theorem Keeps.gateIdent : Keeps s₀ s.gateIdent := h.err.ite h.ok

theorem Keeps.gateStatus : Keeps s₀ s.gateStatus := h.err.ite h.ok

theorem Keeps.gateNop : Keeps s₀ s.gateNop := h.err.ite h.ok

theorem Keeps.gateCmd {op p} : Keeps s₀ (s.gateCmd op p) := by
  dsimp only [State.gateCmd]
  split
  · exact h.gateNop.ite h.err
  · split
    exacts [h.gateRead, h.err]
  · exact h.gateWrite.ite h.err
  · exact h.gateIdent.ite h.err
  · exact h.gateStatus.ite h.err
  · exact h.err

theorem Keeps.gateFile {op alive} : Keeps s₀ (s.gateFile op alive) := h.frame

theorem Keeps.gateShift {n} : Keeps s₀ (s.gateShift n) := h.frame.when (·.replied)

theorem Keeps.gateIgnore {flag} : Keeps s₀ (s.gateIgnore flag) := h.inc.frame

theorem Keeps.gateValid {op alive p} : Keeps s₀ (s.gateValid op alive p) :=
  h.inc.frame.ite (h.when (·.inc.frame)).setReg.inc.gateCmd.gateFile

theorem Keeps.gateFrame {bits bytes early} : Keeps s₀ (s.gateFrame bits bytes early) :=
  h.frame.gateIgnore.ite (h.gateShift.gateIgnore.ite (h.gateShift.setBit.gateValid.ite h.gateShift.setBit.gateIgnore))

theorem Keeps.gateAlone {op} : Keeps s₀ (s.gateAlone op) := h.gateFile

/-! ### Glean -/

theorem Keeps.storeDone {good} : Keeps s₀ (s.storeDone good) := h.when (·.setBit.frame.ite h.setBit.inc)

/-! ### Pipe -/

theorem Keeps.resumeHold {k} : Keeps s₀ (s.resumeHold k) := by
  dsimp only [State.resumeHold]
  split
  exacts [h, h.when (·.setStream.setStrSt)]

/-! ### Power -/

theorem Keeps.tapCapture {code} : Keeps s₀ (s.tapCapture code).2 := Keeps.iteSnd h.takeFree (Keeps.iteSnd h h)

theorem Keeps.tapScan {code tdi} : Keeps s₀ (s.tapScan code tdi) :=
  h.unless (·.tapCapture.frame.when (·.frame))

theorem Keeps.tapCurrent {code} : Keeps s₀ (s.tapCurrent code) :=
  (h.when (·.raiseH)).frame.when (·.isolatePins)

/-! ### Ptp -/

theorem Keeps.ptpLost : Keeps s₀ s.ptpLost := h.when (·.setBit.raiseN.frame)

theorem Keeps.sendPtp {m} : Keeps s₀ (s.sendPtp m) := h.send

theorem Keeps.ptpEnter {st gm} : Keeps s₀ (s.ptpEnter st gm) :=
  (h.ptpFreeze.unless (·.ptpLost)).setFld.setWide.frame

theorem Keeps.syncDone {x} : Keeps s₀ (s.syncDone x) := h.takeFree.setWide.frame

theorem Keeps.ptpSync {m} : Keeps s₀ (s.ptpSync m) := h.when (·.incFld.frame.ite h.incFld.syncDone)

theorem Keeps.ptpFollowUp {hd origin corr} : Keeps s₀ (s.ptpFollowUp hd origin corr) := by
  dsimp only [State.ptpFollowUp]
  split
  exacts [h.when (·.syncDone), h]

theorem Keeps.ptpDelayResp {hd rx corr rate} : Keeps s₀ (s.ptpDelayResp hd rx corr rate) := by
  dsimp only [State.ptpDelayResp]
  split
  · refine h.when fun h => .ite (.setBit ?_) (.when ?_ (·.ptpLost))
    all_goals exact h.takeFree.setReg.setReg.setFld.frame
  · exact h

theorem Keeps.ptpFollow {a} : Keeps s₀ (s.ptpFollow a) := h.unless (·.ptpEnter)

theorem Keeps.ptpAnnounce {a} : Keeps s₀ (s.ptpAnnounce a) :=
  h.when fun h => .ite h.frame.ptpFollow <| .ite (h.frame.unless (·.ptpEnter.frame)) <|
    .ite (h.frame.unless (·.ptpEnter)) h.frame.ptpFollow

theorem Keeps.ptpAnnounceSend : Keeps s₀ s.ptpAnnounceSend := (h.when (·.ptpEnter)).when (·.sendPtp.frame)

theorem Keeps.ptpSyncSend : Keeps s₀ s.ptpSyncSend := (h.sendPtp.sendPtp.ite h.sendPtp).frame.ite h

theorem Keeps.ptpDelayReq : Keeps s₀ s.ptpDelayReq := h.when (·.sendPtp.incFld.frame)

theorem Keeps.ptpDelayReqIn {hd sender} : Keeps s₀ (s.ptpDelayReqIn hd sender) := h.when (·.sendPtp)

/-! ### StoreCmd -/

theorem Keeps.accessFailed {r} : Keeps s₀ (s.accessFailed r) := by
  dsimp only [State.accessFailed]
  refine .ite ?_ <| .ite (h.when (·.streamFail)) <| .ite (h.unitBankFail.ite (h.when (·.siteGap))) <|
    .ite h.endOp (h.when (·.bankReject))
  split
  exacts [h.streamFail, h]

theorem Keeps.accessCheck {b w e} : Keeps s₀ (s.accessCheck b w e).2 := by
  dsimp only [State.accessCheck]
  refine Keeps.iteSnd h ?_
  refine Keeps.iteSnd h ?_
  split
  · exact h.bankCheck.of_eq ‹_›
  · split
    exacts [h.bankCheck.of_eq ‹_›, (h.bankCheck.of_eq ‹_›).bankCe, (h.bankCheck.of_eq ‹_›).bankUe]

theorem Keeps.bankGrant {b c w reqs} : Keeps s₀ (s.bankGrant b c w reqs) := (h.foldl (·.lose)).setBank

theorem Keeps.bankAccess {b reqs e} : Keeps s₀ (s.bankAccess b reqs e) := by
  dsimp only [State.bankAccess]
  split
  · exact h
  · split
    · exact h
    · split
      · exact (h.bankGrant.accessCheck.of_eq ‹_›).foldl (·.accessFailed)
      · split
        exacts [(h.bankGrant.accessCheck.of_eq ‹_›).setRow.ok, (h.bankGrant.accessCheck.of_eq ‹_›).ok]

theorem Keeps.refillFetch : Keeps s₀ s.refillFetch := by
  dsimp only [State.refillFetch]
  refine Keeps.ite h ?_
  split
  exacts [h, h.setRefill.frame.ite h.frame]

theorem Keeps.refillComplete {k lecc ce ue retryUe} : Keeps s₀ (s.refillComplete k lecc ce ue retryUe) := by
  dsimp only [State.refillComplete]
  split
  · exact h
  · refine .ite (.streamFail (.setRefill ?_)) (.ite (.setRefill (.writeRegionRun ?_))
      (.streamFail (.setRefill (.writeRegionRun ?_))))
    all_goals exact (h.inc.when (·.inc)).setReg.when (·.inc.inc)

/-! ### Step -/

theorem Keeps.idle : Keeps s₀ (idle s) := h.when (·.ticks)

/-! ### Every command, and every step -/

/-- Every command answers a next state, with the queue as it was and every sparse part still in canonical form. -/
theorem Keeps.exec (c : Instr) : Continues s₀ (exec c s) := by
  cases c with
  | porstReset => exact h.porst.next.ite (h.next.ite (h.takeFree.when (·.porst)).next)
  | coldStart => exact h.porstRise.next
  | pwrwarn => exact h.powerWarn.next.ite (h.next.ite (h.takeFree.when (·.powerWarn)).next)
  | pwrwarnRise | pwrwarnNRiseInCold =>
    exact h.warnRise.next
  | gLatchClear => exact h.porst.frame.next
  | tapLoad => exact h.frame.tapCurrent.tapScan.next.ite h.frame.frame.next
  | registerWrite | pgErrClr | hedgeReq | siteAssign | siteUnassign | railOn | railOff =>
    exact h.writeBurst.next
  | snapshotRead => exact h.readBurst.next
  | tblDataAccess => exact h.execTblDataAccess
  | pgLockOpen | pgLockClose | pgForce | pgInj | warmStart | recover | enterTest | leaveTest | chipnoWrite
  | retrain | linkClrcnt | forget | abtClrcnt | retest | storeClrcnt | dramRetrain | dramClrcnt | refillClrcnt
  | snapall | conflClear | streamClrcnt | slipSnap | clrmax | genBell | genEpoch | send | listen | skewTrgWrite
  | load | conv | octpePinWrite | mseAck | mseAbort | mseClrcnt | switch | acqgClrcnt | greenSw | clrflg
  | greenClrcnt | guardClrcnt | revalid | watchClear | watchClrcnt | full | tdr | store | dbSeal | dbCompact
  | dbAreaWrite | go | sermClrcnt | gateClrcnt | advance | progMkey | chestSeal | wipe | updCmdAbort
  | reeveSave | reeveClrcnt =>
    exact h.writeReg.next
  | recoveryComplete => exact h.recovered.next
  | frameReceive => exact h.frameIn.next
  | arpRequest => exact h.arpIn.next
  | icmpEchoRequest => exact h.echoIn.next
  | abtRequestFrame => exact h.requestFrame.next
  | heldFrameExecute => exact h.heldGo.next
  | gapTimeout => exact h.gapTimeout.next
  | sourceExpiry => exact h.expire.next
  | abtReplySend => exact h.replySend.next
  | read => exact h.abtRead.next
  | write => exact h.abtWrite.next
  | mwrite => exact h.abtMwrite.next
  | bulkRead => exact h.bulkRead.next
  | bulkWrite => exact h.bulkWrite.next
  | bulkWriteComplete => exact h.bulkComplete.next
  | fence => exact h.fence.next
  | fenceComplete => exact h.fenceComplete.next
  | time => exact h.timeCmd.next
  | subscribeOpen | subscribeClose | subscribeAck =>
    exact h.subscribe.next
  | streamFrameSend => exact h.streamSend.next
  | streamResendTimeout => exact h.streamResend.next
  | linkUp => exact (h.unless (·.linkUp)).next
  | linkdown => exact (h.when (·.linkDown)).next
  | hiber => exact (h.when (·.hiBer)).next
  | linkIpWrite | ptpOfsWrite | xlenWrite =>
    exact h.writeRegs.next
  | ptpSyncReceive => exact h.ptpSync.next
  | ptpFollowUpReceive => exact h.ptpFollowUp.next
  | ptpDelayRespReceive => exact h.ptpDelayResp.next
  | ptpAnnounceReceive => exact h.ptpAnnounce.next
  | ptpDelayReqSend => exact h.ptpDelayReq.next
  | ptpDelayReqReceive => exact h.ptpDelayReqIn.next
  | ptpSyncSend => exact h.ptpSyncSend.next
  | ptpAnnounceSend => exact h.ptpAnnounceSend.next
  | ptplost => exact h.ptpLost.next
  | pps => exact (h.when (·.toEdge.fire)).next
  | bankAccess => exact h.bankAccess.followStreams.next
  | regionTableWrite | timingSetWrite | levelTableWrite | operationSubmit | greenTableWrite =>
    exact h.writeTable.next
  | dramTrack => exact (h.when (·.inc)).next
  | dramRefresh => exact ((h.setBit.when (·.raiseN)).when (·.raiseH)).next
  | refillWindowFetch => exact h.refillFetch.next
  | refillWindowComplete => exact h.refillComplete.followStreams.next
  | vec | rpt | run | loop | endl | match_ | endm | seg | jseg | call | ret | tsw | subp | pauseBegin
  | pauseEnd | align | halt | nop =>
    exact h.expandStep.next
  | invalidWord => exact (h.cycle.ite h).next
  | execArm | execJump | execStop | execReset | execRelease =>
    exact h.execCmd.next
  | commandStileExit => exact h.stileExit.followStreams.next
  | streamPrimed => exact h.prime.next
  | streamStart => exact h.start.next
  | firstCycleStart => exact h.firstCycle.next
  | vectorCommit => exact h.cycle.setErrors.followStreams.next
  | matchDecision => exact h.makeDecision.next
  | holdResume => exact h.resumeHold.next
  | streamDrainComplete => exact h.drainDone.followStreams.next
  | segmentRecordClose => exact h.closeRecord.next
  | pllUnlock => exact h.unlock.next
  | bellPulse => exact h.bellPulse.next
  | bellRegistration => exact h.registerBell.next
  | belloGenerate => exact h.genRise.next
  | skewSendEdge => exact h.sendEdge.next
  | trgReceive => exact h.trgReceive.next
  | loadStrobe => exact h.loadExit.levelParity.next
  | spanSequenceStep => exact h.spanStep.next
  | convResult => exact h.convResult.next
  | toneSample => exact h.toneSample.next
  | pmuClamp => exact h.pmuClamp.next
  | railRampEnd => exact h.rampEnd.next
  | operationDispatch => exact h.dispatch.next
  | microNext | microCall | microRet | microBr | microLoop | microWait | microEnd | microDispatch =>
    exact h.micro.next
  | settleTimerExpiry => exact h.timerExpiry.next
  | sampleRunDone => exact h.runEnd.next
  | adcWaitTimeout => exact h.adcTimeout.next
  | acqArm | acqDisarm =>
    exact (h.writeReg.ite h.writeReg).next
  | windowOpen => exact h.openWindow.next
  | windowClose => exact h.closeDue.next
  | captureSample => exact h.captureSample.next
  | pendingGapWrite => exact h.writeGap.next
  | spill => exact h.spill.next
  | greenEvent => exact h.deliver.followStreams.next
  | delayLineFire => exact h.fireDelay.next
  | watchIn => exact h.watchRequest.next
  | greenPar => exact h.greenParity.next
  | monitorSample => exact h.monSample.next
  | monitorSelfCheck => exact h.monCheck.next
  | siteHedge => exact h.doHedge.followStreams.next
  | hedgeConfirm => exact h.confirmHedge.next
  | sensorReading => exact h.readSensors.next
  | faultLatch => exact h.latchFault.followStreams.next
  | fullCalibrationComplete => exact h.endFull.next
  | storeComplete => exact h.storeDone.next
  | borrowing => exact h.startBorrow.next
  | gleanTaskComplete => exact h.gleanDone.next
  | gleanAbort => exact h.gleanStop.next
  | daybookProgram => exact (h.when (·.dayProgram)).next
  | sealTimer => exact h.sealDue.next
  | compactionComplete => exact h.compactDone.next
  | daybookFormatComplete => exact h.formatDone.next
  | journalStat | journalRead | journalCompact =>
    exact h.journalCmd.next
  | reeveWdog => exact h.reeveWdog.next
  | reeveRamError => exact h.reeveRam.next
  | sermTransferDone => exact h.sermDone.next
  | sermTmo => exact h.sermTimeout.next
  | flashWindowOperation => exact h.windowRequest.next
  | selforce => exact h.windowRequest.selForce.next
  | gateFrame => exact h.gateFrame.next
  | gateNop => exact h.gateNop.gateAlone.next
  | gateRead => exact h.gateRead.gateAlone.next
  | gateWrite => exact h.gateWrite.gateAlone.next
  | ident => exact h.gateIdent.gateAlone.next
  | gateStatus => exact h.gateStatus.gateAlone.next
  | chestAutoSeal => exact h.autoSeal.next
  | tamper => exact (h.unless (·.tamper)).next
  | updateBegin => exact h.updBeginCmd.next
  | updateData => exact h.updDataCmd.next
  | updateFinish => exact h.updFinishCmd.next
  | updateAbort => exact h.updAbortCmd.next
  | updateStatus => exact h.updStatusCmd.next
  | updateSave => exact h.updSaveCmd.next
  | updateIdleTimeout => exact h.updIdle.next
  | wipeComplete => exact h.wipeDone.next
  | lifecycleChangeComplete => exact h.lifeDone.next
  | firmwareReloadComplete => exact h.reloadDone.next

end

/-- A step answers a next state: of the front command, or of an idle cycle where none waits. -/
theorem step_continues (s : State) : Continues { s with pending := s.pending.tail } (step s) := by
  unfold step
  split
  next e =>
    obtain ⟨t, ht, hk⟩ := (Keeps.refl s).idle.next
    exact ⟨t, ht, { hk with queue := by simp [hk.queue, e] }⟩
  next c cs e =>
    rw [e]
    exact (Keeps.refl _).exec c

theorem Keeps.regsWf {s t : State} (h : Keeps s t) (hs : s.regsWf = true) : t.regsWf = true := by
  obtain ⟨hr, ht⟩ := Bool.and_eq_true_iff.mp hs
  exact Bool.and_eq_true_iff.mpr ⟨h.regs hr, h.tabs ht⟩

/-- Settles O5: every step keeps the canonical form of the registers and of the tables, by `Keeps`. -/
theorem stepKeepsRegistersCanonical : Obligations.StepKeepsRegistersCanonical := by
  intro s t hs e
  obtain ⟨u, hu, hk⟩ := step_continues s
  cases hu.symm.trans e
  exact hk.regsWf hs

end Sys2Proof.Machine

end

section

/-! ## The access fabric: rejections, and what an access leaves unchanged -/

namespace Sys2Proof.Machine

/-! ### The state after reset -/

theorem State.reset_reg {k : Kind} {page off : Nat} (hk : kindOf page = some k) (ho : off < 256) :
    State.reset.reg page off = regReset k off := by
  have hp : rkey page off / 256 = page := by unfold rkey; omega
  have hoff : rkey page off % 256 = off := by unfold rkey; omega
  rw [State.reg, State.reset, Store.get_nil, regDefault, hp, hk, hoff]

theorem State.reset_tab {k : Kind} {page tsel idx : Nat} (hk : kindOf page = some k) (ht : tsel < 16) (hi : idx < 2 ^ 19) :
    State.reset.tab page tsel idx = tabReset k tsel idx := by
  have hp : tkey page tsel idx / 2 ^ 23 = page := by unfold tkey; omega
  have hsel : tkey page tsel idx / 2 ^ 19 % 16 = tsel := by unfold tkey; omega
  have hidx : tkey page tsel idx % 2 ^ 19 = idx := by unfold tkey; omega
  rw [State.tab, State.reset, Store.get_nil, tabDefault, hp, hk, hsel, hidx]

/-- Settles O3: the stores of the reset state are empty, so every word reads its default. -/
theorem resetLeavesEveryRegisterAtItsResetColumn : Obligations.ResetLeavesEveryRegisterAtItsResetColumn :=
  ⟨⟨rfl, rfl, rfl, fun _ _ _ => State.reset_reg, fun _ _ _ _ => State.reset_tab, fun _ _ _ => rfl, rfl, rfl, rfl⟩,
    rfl, rfl⟩

/-! ### Frames over registers -/

theorem State.keepsRegs_refl (s : State) (ex : List (Nat × Nat)) : s.keepsRegs s ex := fun _ _ _ _ => rfl

theorem State.keepsRegs_setReg (s : State) {p o : Nat} (ho : o < 256) (w : Word) : s.keepsRegs (s.setReg p o w) [(p, o)] := by
  intro q r hr hne
  apply State.reg_setReg_ne
  rw [ne_eq, rkey_inj ho hr]
  rintro ⟨rfl, rfl⟩
  simp at hne

/-! ### Rejections (R10, R63, R74) -/

/-- The word that PG_ERR takes where a rejected access is recorded (R74). -/
def State.errWord (s : State) (ini page off : Nat) (e : Err) : Word :=
  word (e.code * 2 ^ 16 + ini * 2 ^ 14 +
    (if bit (s.reg page PG_ERR) 13 = true ∨ fld (s.reg page PG_ERR) 23 16 ≠ 0 then 2 ^ 13 else 0) + off % 256)

theorem State.noteErr_cold {s : State} {ini page off : Nat} {e : Err} (h : s.run.st = .cold) :
    s.noteErr ini page off e = s := if_pos h

theorem State.noteErr_page {s : State} {ini page off : Nat} {e : Err} (h : s.run.st ≠ .cold)
    (hk : (kindOf page).isSome = true) :
    s.noteErr ini page off e = s.setReg page PG_ERR (s.errWord ini page off e) := by
  unfold State.noteErr State.errWord
  have hat (b : Bool) : at_ 13 b.toNat = if b = true then 2 ^ 13 else 0 := by cases b <;> rfl
  simp only [if_neg h, if_pos hk, hat, Bool.or_eq_true, bne_iff_ne]
  rfl

theorem State.noteErr_noPage {s : State} {ini page off : Nat} {e : Err} (hk : kindOf page = none) (he : e ≠ .badAddr) :
    s.noteErr ini page off e = s := by
  unfold State.noteErr
  simp [hk, he]

theorem State.noteErr_badPage {s : State} {ini page off : Nat} (h : s.run.st ≠ .cold) (hk : kindOf page = none) :
    s.noteErr ini page off .badAddr = s.setReg pTOP TOP_BADPG
      (if s.bitR pTOP TOP_BADPG 23 then putFld (s.reg pTOP TOP_BADPG) 22 22 1
        else word (2 ^ 23 + ini * 2 ^ 20 + page % 4096)) := by
  unfold State.noteErr
  simp only [if_neg h, hk, Option.isSome_none, Bool.false_eq_true, if_false, if_true]
  split
  · rfl
  · simp [at_]

theorem State.noteErr_with (s : State) (ini page off : Nat) (e : Err) :
    s.noteErr ini page off e = { s with regs := (s.noteErr ini page off e).regs } := by
  unfold State.noteErr
  split
  · rfl
  · split
    · rfl
    · split
      · split <;> rfl
      · rfl

theorem State.reject_with (s : State) (ini page off : Nat) (e : Err) :
    s.reject ini page off e = { s with regs := (s.reject ini page off e).regs, reply := ⟨e.code, []⟩ } := by
  unfold State.reject
  rw [State.noteErr_with]
  rfl

@[simp] theorem State.reject_reply (s : State) (ini page off : Nat) (e : Err) :
    (s.reject ini page off e).reply = ⟨e.code, []⟩ := rfl

theorem State.reject_reg (s : State) (ini page off : Nat) (e : Err) (p o : Nat) :
    (s.reject ini page off e).reg p o = (s.noteErr ini page off e).reg p o := rfl

/-- A rejected access to an implemented page is recorded there, and an error other than BAD_ADDR nowhere else. -/
theorem State.reject_keepsRegs {s : State} {ini page off : Nat} {e : Err}
    (h : (kindOf page).isSome = true ∨ e ≠ .badAddr) : s.keepsRegs (s.reject ini page off e) [(page, PG_ERR)] := by
  change s.keepsRegs (s.noteErr ini page off e) _
  by_cases hc : s.run.st = .cold
  · rw [State.noteErr_cold hc]
    exact s.keepsRegs_refl _
  by_cases hk : (kindOf page).isSome = true
  · rw [State.noteErr_page hc hk]
    exact s.keepsRegs_setReg (by decide) _
  · rw [State.noteErr_noPage (by simpa using hk) (h.resolve_left hk)]
    exact s.keepsRegs_refl _

theorem State.reject_pgErr {s : State} {ini page off : Nat} {e : Err} (h : s.run.st ≠ .cold)
    (hk : (kindOf page).isSome = true) : (s.reject ini page off e).reg page PG_ERR = s.errWord ini page off e := by
  rw [State.reject_reg, State.noteErr_page h hk, State.reg_setReg_self]

/-- Settles O7: a refused write is `State.reject`, which `noteErr` records. -/
theorem rejectedWriteOnlyRecordsItself : Obligations.RejectedWriteOnlyRecordsItself := by
  intro s ini addr val e he
  have hexec : exec (.registerWrite ini addr val) s = .next (s.reject ini (addr / 256 % 4096) (addr % 256) e) := by
    change Host.Outcome.next (s.writeBurst {} ini addr 0xFFFFFF [val] none) = _
    obtain hg | ⟨hg, hk, rfl⟩ := he
    · rw [State.writeBurst_gated hg]
    · rw [State.writeBurst_noPage hg hk]
  refine ⟨_, hexec, rfl, State.reject_with .., fun hc => ?_, fun hc hk => ⟨State.reject_keepsRegs (.inl hk), ?_⟩,
    fun hc hk he => ?_⟩
  · change (s.noteErr _ _ _ _).regs = _
    rw [State.noteErr_cold hc]
  · rw [State.reject_pgErr hc hk, State.errWord, Nat.mod_mod]
  · subst he
    have hreg : s.noteErr ini (addr / 256 % 4096) (addr % 256) .badAddr = _ := State.noteErr_badPage hc hk
    refine ⟨?_, fun hb => ?_, fun hb => ?_⟩
    · change s.keepsRegs (s.noteErr _ _ _ _) _
      rw [hreg]
      exact s.keepsRegs_setReg (by decide) _
    · rw [State.reject_reg, hreg, State.reg_setReg_self]
      simp [hb]
    · rw [State.reject_reg, hreg, State.reg_setReg_self]
      simp [hb]

end Sys2Proof.Machine

end

section

/-! ## The Gate port: one frame, one execution -/

namespace Sys2Proof.Machine

/-! ### More frames over registers -/

theorem State.keepsRegs.trans {s t u : State} {ex ex' : List (Nat × Nat)} (h : s.keepsRegs t ex)
    (h' : t.keepsRegs u ex') : s.keepsRegs u (ex ++ ex') := by
  intro p o ho hne
  rw [List.mem_append, not_or] at hne
  rw [h' p o ho hne.2, h p o ho hne.1]

theorem State.keepsRegs.mono {s t : State} {ex ex' : List (Nat × Nat)} (h : s.keepsRegs t ex) (hs : ex ⊆ ex') :
    s.keepsRegs t ex' :=
  fun p o ho hne => h p o ho fun hm => hne (hs hm)

theorem State.keepsRegs_inc (s : State) {p o : Nat} (ho : o < 256) (n : Nat) : s.keepsRegs (s.inc p o n) [(p, o)] :=
  s.keepsRegs_setReg ho _

theorem putBit_bit (w : Word) (i : Nat) : putBit w i (bit w i) = w := by
  have hf : (bit w i).toNat % 2 ^ (i + 1 - i) = fld w i i := by
    rw [fld, bit, BitVec.getLsbD, Nat.testBit_eq_decide_div_mod_eq, Nat.add_sub_cancel_left]
    obtain h | h := Nat.mod_two_eq_zero_or_one (w.toNat / 2 ^ i) <;> simp [h]
  have hle : fld w i i * 2 ^ i ≤ w.toNat := by
    calc fld w i i * 2 ^ i ≤ w.toNat / 2 ^ i * 2 ^ i := Nat.mul_le_mul_right _ (Nat.mod_le _ _)
      _ ≤ w.toNat := Nat.div_mul_le_self _ _
  rw [putBit, putFld, hf, Nat.sub_add_cancel hle, BitVec.ofNat_toNat, BitVec.setWidth_eq]

/-- A bit that is stored as it stands changes no register. -/
theorem State.keepsRegs_setBit_same {s : State} {p o i : Nat} {b : Bool} (h : s.bitR p o i = b) :
    s.keepsRegs (s.setBit p o i b) [] := by
  intro q r hr _
  have hw : putFld (s.reg p o) i i b.toNat = s.reg p o := h ▸ putBit_bit _ i
  rw [State.setBit, State.setFld, hw, State.reg_setReg]
  split
  · rename_i e
    rw [State.reg, State.reg, e]
  · rfl

/-! ### What waits for a reply (R80, R90, R124) -/

/-- What takes effect with a reply: `abt`, frames sent, and the count of frames sent, on a page LINK. -/
def State.settlesTo (s t : State) : Prop :=
  (∀ p o, o < 256 → o ≠ LINK_TXOK → t.reg p o = s.reg p o) ∧ t = { s with regs := t.regs, abt := t.abt, tx := t.tx }

theorem State.settlesTo.trans {s t u : State} (h : s.settlesTo t) (h' : t.settlesTo u) : s.settlesTo u := by
  obtain ⟨hr, e⟩ := h
  obtain ⟨hr', e'⟩ := h'
  refine ⟨fun p o ho hne => (hr' p o ho hne).trans (hr p o ho hne), ?_⟩
  rw [e] at e'
  exact e'

theorem State.send_settlesTo (s : State) (port : Nat) (b : TxBody) : s.settlesTo (s.send port b) := by
  unfold State.send
  split
  · refine ⟨fun p o ho hne => State.reg_setReg_ne _ fun e => ?_, rfl⟩
    rw [rkey_inj (by decide) ho] at e
    exact hne e.2.symm
  · exact ⟨fun _ _ _ _ => rfl, rfl⟩

theorem State.settleAbt_settlesTo (s : State) (x : Settle) : s.settlesTo (s.settleAbt x) := by
  unfold State.settleAbt
  split
  · exact ⟨fun _ _ _ _ => rfl, rfl⟩
  · split
    · exact ⟨fun _ _ _ _ => rfl, rfl⟩
    · exact State.settlesTo.trans ⟨fun _ _ _ _ => rfl, rfl⟩ (State.send_settlesTo ..)
  · exact ⟨fun _ _ _ _ => rfl, rfl⟩

theorem State.foldl_settleAbt_settlesTo (s : State) (xs : List (Nat × Settle)) :
    s.settlesTo (xs.foldl (fun (s : State) x => s.settleAbt x.2) s) := by
  induction xs generalizing s with
  | nil => exact ⟨fun _ _ _ _ => rfl, rfl⟩
  | cons x xs ih => exact (s.settleAbt_settlesTo x.2).trans (ih _)

theorem State.replied_settlesTo (s : State) (f : Nat → Bool) : s.settlesTo (s.replied f) :=
  State.settlesTo.trans ⟨fun _ _ _ _ => rfl, rfl⟩ (State.foldl_settleAbt_settlesTo ..)

theorem State.replied_of_none {s : State} {f : Nat → Bool} (h : ∀ x ∈ s.abt.settles, f x.1 = false) :
    s.replied f = s := by
  have hnone : s.abt.settles.filter (fun x => f x.1) = [] := List.filter_eq_nil_iff.mpr fun x hx => by simp [h x hx]
  have hall : s.abt.settles.filter (fun x => !f x.1) = s.abt.settles :=
    List.filter_eq_self.mpr fun x hx => by simp [h x hx]
  rw [State.replied, hnone, hall]
  rfl

/-! ### Commands (R432) -/

/-- A rejected access leaves the page of the Gate as it is, but for its PG_ERR. -/
theorem State.reject_gateStat {s : State} {ini page off : Nat} {e : Err} (he : e ≠ .badAddr) :
    (s.reject ini page off e).reg pGATE GATE_STAT = s.reg pGATE GATE_STAT := by
  apply State.reject_keepsRegs (.inr he) _ _ (by decide)
  simp

theorem State.gateWrite_dead {s : State} {addr : Word} {ws : List Word} (h : s.run.st = .cold ∨ s.run.st = .dead) :
    s.gateWrite addr ws = s.reject 2 (addr.toNat / 256 % 4096) (addr.toNat % 256) .state := by
  rw [State.gateWrite, if_pos h]

/-- A write of a length that a frame can carry, where the port runs: AUTH in SECURED, STATE without WREN, or a burst. -/
theorem State.gateWrite_live {s : State} {addr : Word} {ws : List Word} (hc : s.run.st ≠ .cold)
    (hd : s.run.st ≠ .dead) (h0 : ws ≠ []) (h16 : ws.length ≤ 16) : s.gateWrite addr ws =
      if s.fuses.life = 3 then s.reject 2 (addr.toNat / 256 % 4096) (addr.toNat % 256) .auth
      else if s.bitR pGATE GATE_CFG 23 = false then s.reject 2 (addr.toNat / 256 % 4096) (addr.toNat % 256) .state
      else if 2 ^ 20 ≤ addr.toNat then s.err .range
      else s.writeBurst {} 2 addr.toNat 0xFFFFFF ws none := by
  have hlen : ¬ (ws.isEmpty = true ∨ 16 < ws.length) := by simp [h0, h16]
  rw [State.gateWrite, if_neg (not_or.mpr ⟨hc, hd⟩), if_neg hlen]
  simp only [Bool.not_eq_true']

/-! ### Frames (R428 to R431) -/

/-- An ignored frame: GATE_BAD counts it, and its flag stands, whether its CRC was injected or not. -/
theorem State.gateIgnore_counts {v u : State} (hu : u = { v with regs := u.regs })
    (hk : v.keepsRegs u [(pGATE, PG_INJ)]) (flag : Nat) :
    (u.gateIgnore flag).reg pGATE GATE_BAD = v.reg pGATE GATE_BAD + 1 ∧
      v.keepsRegs (u.gateIgnore flag) [(pGATE, GATE_BAD), (pGATE, PG_INJ)] ∧
      u.gateIgnore flag = { v with regs := (u.gateIgnore flag).regs
                                   gate := { v.gate with flags := setNbit v.gate.flags flag true } } := by
  have hbad : u.reg pGATE GATE_BAD = v.reg pGATE GATE_BAD := hk _ _ (by decide) (by decide)
  refine ⟨?_, (hk.trans (u.keepsRegs_inc (by decide) 1)).mono (by simp), ?_⟩
  · rw [← hbad]
    exact State.reg_setReg_self ..
  · rw [hu]
    rfl

/-- The reply buffer has shifted out, and what waited for it still waits (R431). -/
def State.gateOut (s : State) (n : Nat) : State :=
  { s with gate := { s.gate with out := padTo n s.gate.replyBytes, flags := if 3 ≤ n then 0 else s.gate.flags } }

theorem State.gateShift_eq (s : State) (n : Nat) : s.gateShift n =
    if s.gate.replyBytes.length ≤ n then (s.gateOut n).replied (· == 2) else s.gateOut n := by
  simp only [State.gateShift, decide_eq_true_eq]
  rfl

theorem State.gateShift_settlesTo (s : State) (n : Nat) : (s.gateOut n).settlesTo (s.gateShift n) := by
  rw [State.gateShift_eq]
  split
  · exact State.replied_settlesTo ..
  · exact ⟨fun _ _ _ _ => rfl, rfl⟩

theorem State.gateShift_reg (s : State) (n : Nat) {p o : Nat} (ho : o < 256) (hne : o ≠ LINK_TXOK) :
    (s.gateShift n).reg p o = s.reg p o :=
  (s.gateShift_settlesTo n).1 p o ho hne

theorem State.gateShift_flags (s : State) (n : Nat) :
    (s.gateShift n).gate.flags = if 3 ≤ n then 0 else s.gate.flags := by
  rw [(s.gateShift_settlesTo n).2]
  rfl

/-- A frame that repeats the alive counter is counted and flagged, and does nothing else (R430). -/
theorem State.gateValid_repeated {s : State} {op alive : Nat} {p : List Byte} (hs : s.bitR pGATE GATE_STAT 19 = true)
    (ha : alive = s.fldR pGATE GATE_STAT 23 20) : s.gateValid op alive p =
      { (s.inc pGATE GATE_DUP) with gate := { s.gate with flags := setNbit s.gate.flags 4 true } } := by
  rw [State.gateValid, if_pos ⟨hs, ha⟩]

/-- A frame that comes under a new alive counter, before its command executes (R430). -/
def State.gateTaken (s : State) (alive : Nat) (skip : Bool) : State :=
  let t : State := if skip then
      { (s.inc pGATE GATE_SKIP) with gate := { s.gate with flags := setNbit s.gate.flags 3 true } }
    else s
  (t.setReg pGATE GATE_STAT (word (at_ 20 alive + at_ 19 1))).inc pGATE GATE_FRAMES

theorem State.gateValid_new {s : State} {op alive : Nat} {p : List Byte}
    (h : ¬ (s.bitR pGATE GATE_STAT 19 = true ∧ alive = s.fldR pGATE GATE_STAT 23 20)) : s.gateValid op alive p =
      ((s.gateTaken alive (s.bitR pGATE GATE_STAT 19 && alive != (s.fldR pGATE GATE_STAT 23 20 + 1) % 16)).gateCmd op
        p).gateFile op (alive * 16) := by
  rw [State.gateValid, if_neg h]
  rfl

/-- The port takes a frame that came in time: the reply shifts out, then the frame is judged (R428 to R430). -/
theorem State.gateFrame_ready {s w : State} {bits : Nat} {bytes : List Byte} (hc : s.run.st ≠ .cold)
    (hw : w = s.gateShift (bits / 8)) : s.gateFrame bits bytes false =
      let n := bits / 8
      let b := padTo n bytes
      let len := (b.getD 1 0).toNat
      let alive := (b.getD (len + 2) 0).toNat
      if bits % 8 ≠ 0 ∨ n < 4 ∨ 51 < len ∨ n < len + 4 ∨ alive % 16 ≠ 0 then w.gateIgnore 6
      else if ((crc8 (b.take (len + 3)) == (b.getD (len + 3) 0).toNat) != w.bitR pGATE PG_INJ 0) = true then
        (w.setBit pGATE PG_INJ 0 false).gateValid (b.getD 0 0).toNat (alive / 16) ((b.drop 2).take len)
      else (w.setBit pGATE PG_INJ 0 false).gateIgnore 7 := by
  have hr : ¬ (false = true ∨ (!s.gateReady) = true) := by simp [State.gateReady, hc]
  rw [State.gateFrame, if_neg hr, hw]

theorem State.gateFrame_early {s : State} {bits : Nat} {bytes : List Byte} {early : Bool}
    (h : early = true ∨ s.run.st = .cold) :
    s.gateFrame bits bytes early = State.gateIgnore { s with gate := { s.gate with out := [] } } 5 := by
  have hr : early = true ∨ (!s.gateReady) = true := by simpa [State.gateReady] using h
  rw [State.gateFrame, if_pos hr]

theorem State.gateTaken_reg (s : State) (alive : Nat) (skip : Bool) (p o : Nat) : (s.gateTaken alive skip).reg p o =
    (((if skip then s.inc pGATE GATE_SKIP else s).setReg pGATE GATE_STAT (word (at_ 20 alive + at_ 19 1))).inc
      pGATE GATE_FRAMES).reg p o := by
  cases skip <;> rfl

theorem State.gateTaken_with (s : State) (alive : Nat) (skip : Bool) : s.gateTaken alive skip =
    { s with regs := (s.gateTaken alive skip).regs
             gate := { s.gate with flags := if skip then setNbit s.gate.flags 3 true else s.gate.flags } } := by
  cases skip <;> rfl

theorem State.gateTaken_counts {s w : State} (hs : w.keepsRegs s []) (alive : Nat) (skip : Bool) :
    (s.gateTaken alive skip).reg pGATE GATE_STAT = word (alive * 2 ^ 20 + 2 ^ 19) ∧
      (s.gateTaken alive skip).reg pGATE GATE_FRAMES = w.reg pGATE GATE_FRAMES + 1 ∧
      (s.gateTaken alive skip).reg pGATE GATE_SKIP = w.reg pGATE GATE_SKIP + word skip.toNat ∧
      w.keepsRegs (s.gateTaken alive skip) [(pGATE, GATE_STAT), (pGATE, GATE_FRAMES), (pGATE, GATE_SKIP)] := by
  have hframes : s.reg pGATE GATE_FRAMES = w.reg pGATE GATE_FRAMES := hs _ _ (by decide) (by simp)
  have hskip : s.reg pGATE GATE_SKIP = w.reg pGATE GATE_SKIP := hs _ _ (by decide) (by simp)
  have hif : w.keepsRegs (if skip then s.inc pGATE GATE_SKIP else s) [(pGATE, GATE_SKIP)] := by
    split
    exacts [hs.trans (s.keepsRegs_inc (by decide) 1), hs.mono (by simp)]
  refine ⟨?_, ?_, ?_, fun p o ho hne => ?_⟩
  · simp [State.gateTaken_reg, State.inc, State.reg_setReg, at_]
  · cases skip <;> simp [State.gateTaken_reg, State.inc, State.reg_setReg, hframes, word]
  · cases skip <;> simp [State.gateTaken_reg, State.inc, State.reg_setReg, hskip, word]
  · rw [State.gateTaken_reg]
    exact (((hif.trans (State.keepsRegs_setReg _ (by decide) _)).trans
      (State.keepsRegs_inc _ (by decide) 1)).mono (by simp)) p o ho hne


/-- Settles O58: the commands by the equations of `gateWrite` and `reject`, the frames by those of `gateFrame`. -/
theorem gateFramesExecuteOnce : Obligations.GateFramesExecuteOnce := by
  intro s filed last file replies refused
  have hrefused {addr : Word} {ws : List Word} {e : Err} (he : e ≠ .badAddr)
      (hw : s.gateWrite addr ws = s.reject 2 (addr.toNat / 256 % 4096) (addr.toNat % 256) e) : refused addr ws e := by
    refine ⟨s.reject 2 (addr.toNat / 256 % 4096) (addr.toNat % 256) e, ?_, rfl, State.reject_keepsRegs (.inr he),
      State.reject_with ..⟩
    change Host.Outcome.next ((s.gateWrite addr ws).gateAlone 2) = _
    rw [hw, State.gateAlone, State.fldR, State.reject_gateStat he]
    rfl
  refine ⟨fun hc => ⟨?nop, ?ident, ?read, fun hd => ⟨?status, ?write⟩⟩,
    fun hc => ⟨?nopCold, ?identCold, ?statusCold, ?_⟩,
    fun hd addr ws => hrefused (by decide) (State.gateWrite_dead (.inr hd)), ?frames⟩
  case nop =>
    change Host.Outcome.next (s.gateNop.gateAlone 0) = _
    rw [State.gateNop, if_neg hc]
    rfl
  case ident =>
    change Host.Outcome.next (s.gateIdent.gateAlone 3) = _
    rw [State.gateIdent, if_neg hc]
    rfl
  case read =>
    refine fun addr n => ⟨fun h => ?_, fun h h1 h16 => ⟨(s.gateRead addr n).gateAlone 1, rfl, ?_⟩⟩
    · change Host.Outcome.next ((s.gateRead addr n).gateAlone 1) = _
      rw [State.gateRead, if_neg hc, if_pos h]
      rfl
    · have hn : ¬ (2 ^ 20 ≤ addr.toNat ∨ n = 0 ∨ 16 < n) := by omega
      rw [State.gateRead, if_neg hc, if_neg hn]
      extract_lets t
      split <;> rfl
  case status =>
    change Host.Outcome.next (s.gateStatus.gateAlone 4) = _
    rw [State.gateStatus, if_neg (not_or.mpr ⟨hc, hd⟩)]
    rfl
  case write =>
    intro addr ws h0 h16
    have hlive := State.gateWrite_live (addr := addr) hc hd h0 h16
    refine ⟨fun hl => hrefused (by decide) ?_, fun hl hw => hrefused (by decide) ?_, fun hl hw ha => ?_⟩
    · rw [hlive, if_pos hl]
    · rw [hlive, if_neg hl, if_pos hw]
    · refine ⟨(s.gateWrite addr ws).gateAlone 2, rfl, ?_⟩
      rw [hlive, if_neg hl, if_neg (by simp [hw]), if_neg (by omega)]
      rfl
  case nopCold =>
    change Host.Outcome.next (s.gateNop.gateAlone 0) = _
    rw [State.gateNop, if_pos hc]
    rfl
  case identCold =>
    change Host.Outcome.next (s.gateIdent.gateAlone 3) = _
    rw [State.gateIdent, if_pos hc]
    rfl
  case statusCold =>
    change Host.Outcome.next (s.gateStatus.gateAlone 4) = _
    rw [State.gateStatus, if_pos (.inl hc)]
    rfl
  · exact fun addr ws => hrefused (by decide) (State.gateWrite_dead (.inl hc))
  case frames =>
    intro bits bytes early n b len alive malformed flags s1 w bad
    have hw : w = s.gateShift n := (s.gateShift_eq n).symm
    have hreg {o : Nat} (ho : o < 256) (hne : o ≠ LINK_TXOK) : w.reg pGATE o = s.reg pGATE o :=
      hw ▸ s.gateShift_reg n ho hne
    have hbad {v u : State} {f : Nat} (hu : u = { v with regs := u.regs }) (hk : v.keepsRegs u [(pGATE, PG_INJ)])
        (hv : v.reg pGATE GATE_BAD = s.reg pGATE GATE_BAD) (he : s.gateFrame bits bytes early = u.gateIgnore f) :
        bad v f := by
      obtain ⟨h1, h2, h3⟩ := State.gateIgnore_counts hu hk f
      exact ⟨_, congrArg Host.Outcome.next he, hv ▸ h1, h2, h3⟩
    refine ⟨fun hnone => ?_, fun he => hbad rfl (State.keepsRegs_refl _ _) rfl (State.gateFrame_early he),
      fun he hc => ?_⟩
    · change (if _ then s1.replied _ else s1) = s1
      rw [State.replied_of_none fun x hx => by simpa using hnone x hx, ite_self]
    subst he
    clear_value w
    have hframe := State.gateFrame_ready (bytes := bytes) hc hw
    have hinjw : w.bitR pGATE PG_INJ 0 = s.bitR pGATE PG_INJ 0 :=
      congrArg (bit · 0) (hreg (by decide) (by decide))
    refine ⟨fun hm => ?_, fun hm hcrc => ?_, fun hm hinj hcrc => ?_⟩
    · refine hbad rfl (State.keepsRegs_refl _ _) (hreg (by decide) (by decide)) ?_
      exact hframe.trans (if_pos hm)
    · refine hbad (u := w.setBit pGATE PG_INJ 0 false) rfl (w.keepsRegs_setReg (by decide) _)
        (hreg (by decide) (by decide)) ?_
      refine hframe.trans ((if_neg hm).trans (if_neg ?_))
      change ¬ ((crc8 (b.take (len + 3)) == (b.getD (len + 3) 0).toNat) != w.bitR pGATE PG_INJ 0) = true
      rw [hinjw, hcrc, bne_self_eq_false]
      exact Bool.false_ne_true
    intro synced skip
    let v := w.setBit pGATE PG_INJ 0 false
    have hv : w.keepsRegs v [] := State.keepsRegs_setBit_same (hinjw.trans hinj)
    have hstat : v.reg pGATE GATE_STAT = s.reg pGATE GATE_STAT :=
      (hv _ _ (by decide) (by simp)).trans (hreg (by decide) (by decide))
    have hsynced : v.bitR pGATE GATE_STAT 19 = synced := congrArg (bit · 19) hstat
    have hlast : v.fldR pGATE GATE_STAT 23 20 = last := congrArg (fld · 23 20) hstat
    have hflags : w.gate.flags = flags := hw ▸ s.gateShift_flags n
    have hvalid : s.gateFrame bits bytes false =
        v.gateValid (b.getD 0 0).toNat (alive / 16) ((b.drop 2).take len) := by
      refine hframe.trans ((if_neg hm).trans (if_pos ?_))
      change ((crc8 (b.take (len + 3)) == (b.getD (len + 3) 0).toNat) != w.bitR pGATE PG_INJ 0) = true
      rw [hinjw, hinj, hcrc, beq_self_eq_true]
      rfl
    refine ⟨fun hs ha => ?_, fun hs => ?_⟩
    · have hdup : v.reg pGATE GATE_DUP = s.reg pGATE GATE_DUP :=
        (hv _ _ (by decide) (by simp)).trans (hreg (by decide) (by decide))
      refine ⟨_, congrArg Host.Outcome.next
        (hvalid.trans (State.gateValid_repeated (hsynced.trans hs) (ha.trans hlast.symm))), ?_, ?_, ?_⟩
      · rw [← hdup]
        exact State.reg_setReg_self ..
      · exact hv.trans (v.keepsRegs_inc (by decide) 1)
      · rw [← hflags]
        rfl
    · have hnew : ¬ (v.bitR pGATE GATE_STAT 19 = true ∧ alive / 16 = v.fldR pGATE GATE_STAT 23 20) := by
        rw [hsynced, hlast]
        rintro ⟨h1, h2⟩
        exact hs.elim (fun h => by simp [h] at h1) (absurd h2)
      obtain ⟨h1, h2, h3, h4⟩ := State.gateTaken_counts hv (alive / 16) skip
      refine ⟨v.gateTaken (alive / 16) skip, ?_, h1, ?_, ?_, h4, ?_⟩
      · have halive : alive / 16 * 16 = alive := by omega
        change Host.Outcome.next (s.gateFrame bits bytes false) = _
        rw [hvalid, State.gateValid_new hnew, halive, hsynced, hlast]
        rfl
      · rw [h2, hreg (by decide) (by decide)]
      · rw [h3, hreg (by decide) (by decide)]
      · rw [State.gateTaken_with, ← hflags]
        rfl

end Sys2Proof.Machine

end

section

/-! ## Accepted accesses -/

namespace Sys2Proof.Machine

/-! ### No journal (R398, R399) -/

theorem State.journal_inactive {s s0 : State} {origin page place : Nat} {idxs : List Nat} (h : s.day.active = false) :
    s.journal s0 origin page place idxs = s := by
  rw [State.journal, h]
  rfl

theorem State.journalWrite_inactive {s s0 : State} {ini page : Nat} {m : Marks} (h : s.day.active = false)
    (hp : page ≠ pGLEAN) : s.journalWrite s0 ini page m = s := by
  have hfold (pls : List Nat) :
      pls.foldl (fun (t : State) pl => t.journal s0 ini page pl (marksAt page pl m)) s = s := by
    induction pls with
    | nil => rfl
    | cons pl pls ih => rw [List.foldl_cons, State.journal_inactive h, ih]
  rw [State.journalWrite, hfold, if_neg hp]

/-- Where no journal is kept and no warm start is under way, a write that has been checked is done (R398, R404). -/
theorem State.finishWrite_inactive {s t : State} {ini page off : Nat} {m : Marks} (hs : s.day.active = false)
    (ht : t.day.active = false) (hw : ¬ (s.run.st = .start ∧ s.run.warm = true ∧ s.run.step ≤ 7)) (hp : page ≠ pGLEAN) :
    s.finishWrite ini page off (.ok (t, m)) = t.ok := by
  have hfull : s.dayFull (recordsOf page m) = false := by rw [State.dayFull, hs, Bool.false_and]
  rw [State.finishWrite, State.journalWrite_inactive ht hp, hfull]
  simp only [Bool.false_eq_true, and_false, if_false]
  exact if_neg fun h => hw h.2

/-! ### A page outside the timing domain serves a write -/

section
variable {s : State} {ini page : Nat} (h : timingPage page = false)
include h

theorem State.served_with :
    s.served ini page = { s with regs := (s.served ini page).regs, rot := (s.served ini page).rot } := by
  rw [State.served, State.serve_of h]
  rfl

theorem State.served_keepsRegs : s.keepsRegs (s.served ini page) [(page, PG_SEQ)] := by
  rw [State.served, State.serve_of h]
  exact State.keepsRegs_inc _ (by decide) 1

theorem State.served_pgSeq : (s.served ini page).reg page PG_SEQ = s.reg page PG_SEQ + 1 := by
  rw [State.served, State.serve_of h]
  exact State.reg_setReg_self ..

end

/-! ### STORE_INJSEL (R8) -/

theorem State.storeReg_putWhole {s : State} {page : Nat} {r : RegInfo} {w : Word} (hn : r.n = 1) (hrw : r.rw ≠ 0)
    (hlk : r.lk = 0) (hw1c : r.w1c = 0) (hw1s : r.w1s = 0) (hwo : r.wo = 0) :
    s.storeReg page r (s.putWhole page r w) =
      s.setReg page r.off ((s.reg page r.off &&& ~~~r.rw) ||| (w &&& r.rw)) := by
  have hall (v : Word) : v &&& 16777215#24 = v := BitVec.and_allOnes
  have hrw' : ¬ r.rw = 0#24 := hrw
  simp [State.storeReg, State.putWhole, putOf, hn, hlk, hw1c, hw1s, hwo, hrw', hall, mix, BitVec.and_assoc]

theorem State.writeInjsel {s : State} {ini : Nat} {val : Word} (hg : s.gate_ ini pSTORE true = none)
    (hd : s.day.active = false) (hw : ¬ (s.run.st = .start ∧ s.run.warm = true ∧ s.run.step ≤ 7)) :
    s.writeReg {} ini pSTORE STORE_INJSEL val =
      ((s.served ini pSTORE).setReg pSTORE STORE_INJSEL
        ((s.reg pSTORE STORE_INJSEL &&& 0xFFFF80) ||| (val &&& 0x00007F))).ok := by
  have hserve : (s.serve ini pSTORE).day = s.day := by rw [State.serve_of (by decide)]
  have hold : (s.served ini pSTORE).reg pSTORE STORE_INJSEL = s.reg pSTORE STORE_INJSEL :=
    State.served_keepsRegs (by decide) _ _ (by decide) (by decide)
  have hput : (s.served ini pSTORE).putReg {} ini pSTORE .store { off := STORE_INJSEL, rw := 0x00007F }
      ((s.served ini pSTORE).putWhole pSTORE { off := STORE_INJSEL, rw := 0x00007F } val) =
      (s.served ini pSTORE).setReg pSTORE STORE_INJSEL
        ((s.reg pSTORE STORE_INJSEL &&& 0xFFFF80) ||| (val &&& 0x00007F)) := by
    rw [← hold]
    exact State.storeReg_putWhole (r := { off := STORE_INJSEL, rw := 0x00007F }) rfl (by decide) rfl rfl rfl rfl
  rw [State.writeReg_finish (k := .store) (r := { off := STORE_INJSEL, rw := 0x00007F }) (by decide) (by decide) hg rfl
    (by decide) (by decide) (by decide) (by decide) rfl rfl rfl (by decide) (by simp) rfl rfl, hput,
    State.finishWrite_inactive (hserve ▸ hd) _ _ (by decide), State.leavePage_of (by decide)]
  · exact hserve ▸ hd
  · rwa [State.serve_run]

/-! ### What a write that ends OK says of the registers and of the rest of the state -/

section
variable {s : State} {ini page off : Nat} {v : Word} (hp : timingPage page = false) (ho : off < 256) (hne : off ≠ PG_SEQ)
include hp

theorem State.wrote_of_served {t : State} (hr : t.regs = (s.served ini page).regs) (hok : t.reply = ⟨0, []⟩) :
    s.wrote t page [] := by
  have hreg (p o : Nat) : t.reg p o = (s.served ini page).reg p o := by rw [State.reg, hr, ← State.reg]
  refine ⟨hok, (hreg _ _).trans (State.served_pgSeq hp), fun p o h hno => ?_⟩
  rw [hreg, State.served_keepsRegs hp p o h hno]

include ho hne

theorem State.wrote_of_setReg {t : State} (hr : t.regs = ((s.served ini page).setReg page off v).regs)
    (hok : t.reply = ⟨0, []⟩) : s.wrote t page [off] := by
  have hreg (p o : Nat) : t.reg p o = ((s.served ini page).setReg page off v).reg p o := by
    rw [State.reg, hr, ← State.reg]
  refine ⟨hok, ?_, fun p o h hno => ?_⟩
  · have hk : rkey page off ≠ rkey page PG_SEQ := fun e => hne ((rkey_inj ho (by decide)).1 e).2
    rw [hreg, State.reg_setReg_ne _ hk, State.served_pgSeq hp]
  · rw [hreg]
    exact ((State.served_keepsRegs hp).trans ((s.served ini page).keepsRegs_setReg ho v)) p o h hno

end

/-! ### CHIPNO (R80) -/

theorem State.regs_afterReply_chip (s : State) (ini n : Nat) : (s.afterReply ini (.chip n)).regs = s.regs := by
  rw [State.afterReply]
  split <;> rfl

/-- The chip number a write leaves to take effect: at once for the Reeve, else with the reply (R80). -/
theorem State.afterReply_chip (s : State) (ini n : Nat) :
    s.afterReply ini (.chip n) = { s with abt := if ini = 3 then { s.abt with chip := n }
      else { s.abt with settles := s.abt.settles ++ [(ini, .chip n)] } } := by
  rw [State.afterReply]
  split <;> rfl

/-- The word TOP_CHIPNO holds after a write of `val`. -/
def State.chipWord (s : State) (val : Word) : Word := (s.reg pTOP TOP_CHIPNO &&& 0xFFFC00) ||| (val &&& 0x0003FF)

theorem State.fld_chipWord (s : State) (val : Word) : fld (s.chipWord val) 9 0 = fld val 9 0 := by
  have h : (s.chipWord val).extractLsb' 0 10 = val.extractLsb' 0 10 := by
    rw [State.chipWord]
    ext i hi
    simp
    interval_cases i <;> simp
  simpa [fld] using congrArg BitVec.toNat h

theorem State.writeChipno {s : State} {ini : Nat} {val : Word} (hg : s.gate_ ini pTOP true = none)
    (hd : s.day.active = false) (hw : ¬ (s.run.st = .start ∧ s.run.warm = true ∧ s.run.step ≤ 7)) :
    s.writeReg {} ini pTOP TOP_CHIPNO val =
      (((s.served ini pTOP).setReg pTOP TOP_CHIPNO (s.chipWord val)).afterReply ini (.chip (fld val 9 0))).ok := by
  have hserve : (s.serve ini pTOP).day = s.day := by rw [State.serve_of (by decide)]
  have hold : (s.served ini pTOP).reg pTOP TOP_CHIPNO = s.reg pTOP TOP_CHIPNO :=
    State.served_keepsRegs (by decide) _ _ (by decide) (by decide)
  have hstore : (s.served ini pTOP).storeReg pTOP { off := TOP_CHIPNO, rw := 0x0003FF, ro := 0x3FF000 }
      ((s.served ini pTOP).putWhole pTOP { off := TOP_CHIPNO, rw := 0x0003FF, ro := 0x3FF000 } val) =
      (s.served ini pTOP).setReg pTOP TOP_CHIPNO (s.chipWord val) := by
    rw [State.chipWord, ← hold]
    exact State.storeReg_putWhole (r := { off := TOP_CHIPNO, rw := 0x0003FF, ro := 0x3FF000 }) rfl (by decide) rfl rfl
      rfl rfl
  have hput : (s.served ini pTOP).putReg {} ini pTOP .top { off := TOP_CHIPNO, rw := 0x0003FF, ro := 0x3FF000 }
      ((s.served ini pTOP).putWhole pTOP { off := TOP_CHIPNO, rw := 0x0003FF, ro := 0x3FF000 } val) =
      ((s.served ini pTOP).setReg pTOP TOP_CHIPNO (s.chipWord val)).afterReply ini (.chip (fld val 9 0)) := by
    have hf : ((s.served ini pTOP).setReg pTOP TOP_CHIPNO (s.chipWord val)).fldR pTOP TOP_CHIPNO 9 0 = fld val 9 0 := by
      rw [State.fldR, State.reg_setReg_self, State.fld_chipWord]
    rw [← hf, ← hstore]
    rfl
  have hday : (((s.served ini pTOP).setReg pTOP TOP_CHIPNO (s.chipWord val)).afterReply ini (.chip (fld val 9 0))).day =
      s.day := by
    rw [State.afterReply_chip, ← hserve]
    rfl
  rw [State.writeReg_finish (k := .top) (r := { off := TOP_CHIPNO, rw := 0x0003FF, ro := 0x3FF000 }) (by decide)
    (by decide) hg rfl (by decide) (by decide) (by decide) (by decide) rfl rfl rfl (by decide) (by simp) rfl rfl, hput,
    State.finishWrite_inactive (hserve ▸ hd) (hday ▸ hd) _ (by decide), State.leavePage_of (by decide)]
  rwa [State.serve_run]

/-! ### A word of the Watchhouse's table through TBL_DATA (R72) -/

/-- The word of a whole write, in the literals that `simp` leaves. -/
theorem putOf_whole (old data : Word) (ws : Word → List Word) (commit : Bool) :
    (putOf old 16777215#24 0#24 16777215#24 data ws commit).w = data := by
  have hall (v : Word) : v &&& 16777215#24 = v := BitVec.and_allOnes
  simp [putOf, hall]

theorem State.keepsTabs_setTab (s : State) {page tsel idx : Nat} (hi : idx < 2 ^ 19) (ht : tsel < 16) (w : Word) :
    s.keepsTabs (s.setTab page tsel idx w) page tsel idx 1 := by
  intro p u i hi' hu hne
  rw [State.tab_setTab, if_neg]
  unfold tkey
  omega

/-- The state that a word `val` written to entry `idx` of the Watchhouse's table leaves, before the window moves. -/
def State.withWatchWord (s : State) (idx : Nat) (val : Word) : State :=
  (s.setTab pWATCH 1 idx val).dropGroup pWATCH 2 idx 1

theorem State.writeEntry_watch (s : State) (ini : Nat) {idx : Nat} {val : Word} (h4 : idx % 4 = 0)
    (hv : fld val 21 0 = 0) :
    s.writeEntry ini pWATCH .watch 1 idx 16777215#24 val = .ok (s.withWatchWord idx val, [(2, idx)]) := by
  have hall (v : Word) : v &&& 16777215#24 = v := BitVec.and_allOnes
  have hwide : tableWide .watch 1 idx = (idx, 1) := by simp [tableWide, h4]
  simp [State.writeEntry, hwide, tabLocked, State.checkTab, h4, refuse, State.putTab, tabMask, putOf_whole, hv, hall,
    State.withWatchWord]

theorem bit_eq_fld (w : Word) (i : Nat) : bit w i = decide (fld w i i = 1) := by
  rw [bit, BitVec.getLsbD, Nat.testBit_eq_decide_div_mod_eq, fld, Nat.add_sub_cancel_left, pow_one]

theorem bit_putFld_above {hi lo i : Nat} (w : Word) (v : Nat) (hlo : lo ≤ hi) (h24 : hi < 24) (hl : hi < i) :
    bit (putFld w hi lo v) i = bit w i := by
  rw [bit_eq_fld, bit_eq_fld, fld_putFld_above w v hlo h24 hl]

/-- Only the index moves, and only where HOLD is 0 (R72). -/
theorem State.window_advanceWindow (s : State) (ini page : Nat) :
    (s.advanceWindow ini page).window ini page = ((s.window ini page).1, (s.window ini page).2.1,
      if (s.window ini page).2.1 then (s.window ini page).2.2 else ((s.window ini page).2.2 + 1) % 2 ^ 19) := by
  rw [State.advanceWindow]
  split
  · next hb => simp [State.window, hb]
  · next hb =>
    have hself (w : Word) : (s.setTblAddr ini page w).tblAddrOf ini page = w := by
      simp [State.tblAddrOf, State.setTblAddr]
    have hbit (w : Word) (v : Nat) : bit (putFld w 18 0 v) 19 = bit w 19 :=
      bit_putFld_above w v (by omega) (by omega) (by omega)
    simp only [State.window, hself, hbit, hb]
    rw [fld_putFld_self (hi := 18) (lo := 0) _ _ (by omega) (by omega),
      fld_putFld_above (hi := 18) (lo := 0) (h := 23) (l := 20) _ _ (by omega) (by omega) (by omega)]
    rfl

theorem State.advanceWindow_with (s : State) (ini page : Nat) :
    s.advanceWindow ini page = { s with tblAddr := (s.advanceWindow ini page).tblAddr } := by
  rw [State.advanceWindow]
  split <;> rfl

section
variable {s : State} {ini idx : Nat} {hold : Bool} (hlt : idx < 32) (hwin : s.window ini pWATCH = (1, hold, idx))
include hlt hwin

theorem State.writeWord_watch {val : Word} (h4 : idx % 4 = 0) (hv : fld val 21 0 = 0) :
    s.writeWord {} ini pWATCH .watch TBL_DATA 0xFFFFFF val =
      .ok ((s.withWatchWord idx val).advanceWindow ini pWATCH, [(2, idx)]) := by
  have hlast : ¬ 31 < idx := by omega
  rw [State.writeWord, if_neg (by decide), if_neg (by decide), if_pos (by decide)]
  simp [hwin, tableLast, tableLasts, hlast, State.writeEntry_watch s ini h4 hv]

theorem State.readWord_watch (h4 : idx % 4 = 0) :
    s.readWord ini pWATCH .watch TBL_DATA = .ok (s.readTab pWATCH .watch 1 idx, s.advanceWindow ini pWATCH) := by
  have hlast : ¬ 31 < idx := by omega
  have hwide : tableWide .watch 1 idx = (idx, 1) := by simp [tableWide, h4]
  rw [State.readWord, if_neg (by decide), if_pos (by decide)]
  simp [hwin, tableLast, tableLasts, hlast, State.readEntry, hwide, State.snapRead]

end

theorem State.window_served (s : State) (ini page : Nat) (h : timingPage page = false) :
    (s.served ini page).window ini page = s.window ini page := by
  rw [State.served_with h]
  rfl

theorem State.writeWatchWord {s : State} {ini idx : Nat} {hold : Bool} {val : Word} (hg : s.gate_ ini pWATCH true = none)
    (hd : s.day.active = false) (hw : ¬ (s.run.st = .start ∧ s.run.warm = true ∧ s.run.step ≤ 7)) (hlt : idx < 32)
    (hwin : s.window ini pWATCH = (1, hold, idx)) (h4 : idx % 4 = 0) (hv : fld val 21 0 = 0) :
    s.writeReg {} ini pWATCH TBL_DATA val =
      (((s.served ini pWATCH).withWatchWord idx val).advanceWindow ini pWATCH).ok := by
  have hserve : (s.serve ini pWATCH).day = s.day := by rw [State.serve_of (by decide)]
  have hwin' : (s.served ini pWATCH).window ini pWATCH = (1, hold, idx) := by
    rw [State.window_served s ini pWATCH (by decide), hwin]
  have hword : writeWords {} ini pWATCH .watch 0xFFFFFF [(TBL_DATA, val)] ((s.serve ini pWATCH).inc pWATCH PG_SEQ) =
      .ok (((s.served ini pWATCH).withWatchWord idx val).advanceWindow ini pWATCH, [(2, idx)]) := by
    rw [writeWords, ← State.served, State.writeWord_watch hlt hwin' h4 hv]
    rfl
  have hday : (((s.served ini pWATCH).withWatchWord idx val).advanceWindow ini pWATCH).day = s.day := by
    rw [State.advanceWindow_with, ← hserve]
    rfl
  have hgate : s.writeGate ini pWATCH = .ok .watch := by rw [State.writeGate, hg]; rfl
  have hbound (t : State) : t.burstBound ini pWATCH .watch TBL_DATA 1 = none := by simp [State.burstBound]
  rw [State.writeReg, State.writeBurst, addr_page (by decide) (by decide), addr_off (by decide), hgate]
  simp only [List.length_singleton]
  rw [show s.writesStaged ini pWATCH .watch TBL_DATA 1 = false from rfl]
  simp only [State.crossStaged, Bool.false_eq_true, if_false, State.seqBound, hbound]
  rw [show (burstOffsets .watch TBL_DATA 1).zip [val] = [(TBL_DATA, val)] from rfl, hword,
    State.finishWrite_inactive (hserve ▸ hd) (hday ▸ hd) _ (by decide), State.leavePage_of (by decide)]
  rwa [State.serve_run]

theorem State.readWatchWord {s : State} {ini idx : Nat} {hold : Bool} (hg : s.gate_ ini pWATCH false = none)
    (hlt : idx < 32) (hwin : s.window ini pWATCH = (1, hold, idx)) (h4 : idx % 4 = 0) :
    s.readBurst ini (pWATCH * 256 + TBL_DATA) 1 =
      ((s.serve ini pWATCH).advanceWindow ini pWATCH).ok [s.readTab pWATCH .watch 1 idx] := by
  have hserve : s.serve ini pWATCH = { s with rot := (s.serve ini pWATCH).rot } := by rw [State.serve_of (by decide)]
  have hwin' : (s.serve ini pWATCH).window ini pWATCH = (1, hold, idx) := by rw [hserve]; exact hwin
  have hword : readWords ini pWATCH .watch (burstOffsets .watch TBL_DATA 1) (s.serve ini pWATCH) =
      .ok ([s.readTab pWATCH .watch 1 idx], (s.serve ini pWATCH).advanceWindow ini pWATCH) := by
    rw [show burstOffsets .watch TBL_DATA 1 = [TBL_DATA] from rfl, readWords, State.readWord_watch hlt hwin' h4]
    rw [show (s.serve ini pWATCH).readTab pWATCH .watch 1 idx = s.readTab pWATCH .watch 1 idx by rw [hserve]; rfl]
    rfl
  have hbound (t : State) : t.burstBound ini pWATCH .watch TBL_DATA 1 = none := by simp [State.burstBound]
  rw [State.readBurst, addr_page (by decide) (by decide), addr_off (by decide), hg]
  rw [show kindOf pWATCH = some .watch from rfl]
  simp only [hbound, hword]
  exact State.leavePage_of (by decide)

/-! ### O9 -/

theorem State.storesInjsel {s : State} {ini : Ini} {val : Word} (hd : s.day.active = false)
    (hw : ¬ (s.run.st = .start ∧ s.run.warm = true ∧ s.run.step ≤ 7)) (hg : s.gate_ ini pSTORE true = none) :
    ∃ t, exec (.registerWrite ini (pSTORE * 256 + STORE_INJSEL) val) s = .next t ∧ s.wrote t pSTORE [STORE_INJSEL] ∧
      t.reg pSTORE STORE_INJSEL = (s.reg pSTORE STORE_INJSEL &&& 0xFFFF80) ||| (val &&& 0x00007F) ∧
      t = { s with regs := t.regs, rot := t.rot, reply := t.reply } :=
  ⟨_, congrArg Host.Outcome.next (State.writeInjsel hg hd hw),
    State.wrote_of_setReg (by decide) (by decide) (by decide) rfl rfl, State.reg_setReg_self ..,
    by rw [State.served_with (by decide)]; rfl⟩

theorem State.storesChipno {s : State} {ini : Ini} {val : Word} (hd : s.day.active = false)
    (hw : ¬ (s.run.st = .start ∧ s.run.warm = true ∧ s.run.step ≤ 7)) (hg : s.gate_ ini pTOP true = none) :
    ∃ t, exec (.chipnoWrite ini val) s = .next t ∧
      t.reply = ⟨0, []⟩ ∧ t.reg pTOP PG_SEQ = s.reg pTOP PG_SEQ + 1 ∧
      fld (t.reg pTOP TOP_CHIPNO) 9 0 = fld val 9 0 ∧
      s.wrote t pTOP [TOP_CHIPNO] ∧
      t.abt = (if ini.val = 3 then { s.abt with chip := fld val 9 0 }
        else { s.abt with settles := s.abt.settles ++ [(ini.val, .chip (fld val 9 0))] }) ∧
      t = { s with regs := t.regs, rot := t.rot, reply := t.reply, abt := t.abt } := by
  have hwrote : s.wrote
      (((s.served ini pTOP).setReg pTOP TOP_CHIPNO (s.chipWord val)).afterReply ini (.chip (fld val 9 0))).ok
      pTOP [TOP_CHIPNO] :=
    State.wrote_of_setReg (by decide) (by decide) (by decide) (State.regs_afterReply_chip ..) rfl
  refine ⟨_, congrArg Host.Outcome.next (State.writeChipno hg hd hw), rfl, hwrote.2.1, ?_, hwrote, ?_, ?_⟩
  · rw [State.afterReply_chip]
    exact (congrArg (fld · 9 0) (State.reg_setReg_self ..)).trans (s.fld_chipWord val)
  · rw [State.afterReply_chip, State.served_with (by decide)]
    rfl
  · rw [State.afterReply_chip, State.served_with (by decide)]
    rfl

theorem State.writesWatchTable {s : State} {ini : Ini} {val : Word} {idx : Nat} (hd : s.day.active = false)
    (hw : ¬ (s.run.st = .start ∧ s.run.warm = true ∧ s.run.step ≤ 7)) (hg : s.gate_ ini pWATCH true = none)
    (hlt : idx < 32) (h4 : idx % 4 = 0) (hwin : s.window ini pWATCH = (1, (s.window ini pWATCH).2.1, idx))
    (hv : fld val 21 0 = 0) :
    ∃ t, exec (.tblDataAccess ini pWATCH (some val)) s = .next t ∧ s.wrote t pWATCH [] ∧ t.tab pWATCH 1 idx = val ∧
      s.keepsTabs t pWATCH 1 idx 1 ∧
      t.window ini pWATCH = (1, (s.window ini pWATCH).2.1, if (s.window ini pWATCH).2.1 then idx else idx + 1) ∧
      t = { s with regs := t.regs, tabs := t.tabs, tblAddr := t.tblAddr, waits := t.waits, rot := t.rot,
                   reply := t.reply } := by
  have hwin' : ((s.served ini pWATCH).withWatchWord idx val).window ini pWATCH = (1, (s.window ini pWATCH).2.1, idx) := by
    rw [← hwin]
    exact State.window_served s ini pWATCH (by decide)
  have hmod : (idx + 1) % 2 ^ 19 = idx + 1 := Nat.mod_eq_of_lt (by omega)
  refine ⟨_, congrArg Host.Outcome.next (State.writeWatchWord hg hd hw hlt hwin h4 hv), ?_, ?_, ?_, ?_, ?_⟩
  · exact State.wrote_of_served (by decide) (by rw [State.advanceWindow_with]; rfl) rfl
  · rw [State.advanceWindow_with]
    exact State.tab_setTab_self ..
  · intro p u i hi hu hne
    have hserved : (s.served ini pWATCH).tab p u i = s.tab p u i := by rw [State.served_with (by decide)]; rfl
    rw [State.advanceWindow_with, ← hserved]
    exact (s.served ini pWATCH).keepsTabs_setTab (by omega) (by omega) val p u i hi hu hne
  · refine (State.window_advanceWindow ..).trans ?_
    rw [hwin', hmod]
  · rw [State.advanceWindow_with, State.served_with (by decide)]
    rfl

theorem State.readsWatchTable {s : State} {ini : Ini} {idx : Nat} (hg : s.gate_ ini pWATCH false = none) (hlt : idx < 32)
    (h4 : idx % 4 = 0) (hwin : s.window ini pWATCH = (1, (s.window ini pWATCH).2.1, idx)) :
    ∃ t, exec (.tblDataAccess ini pWATCH none) s = .next t ∧ t.reply = ⟨0, [s.readTab pWATCH .watch 1 idx]⟩ ∧
      t.window ini pWATCH = (1, (s.window ini pWATCH).2.1, if (s.window ini pWATCH).2.1 then idx else idx + 1) ∧
      t = { s with tblAddr := t.tblAddr, rot := t.rot, reply := t.reply } := by
  have hserve : s.serve ini pWATCH = { s with rot := (s.serve ini pWATCH).rot } := by rw [State.serve_of (by decide)]
  have hwin' : (s.serve ini pWATCH).window ini pWATCH = (1, (s.window ini pWATCH).2.1, idx) := by
    rw [← hwin, hserve]
    rfl
  have hmod : (idx + 1) % 2 ^ 19 = idx + 1 := Nat.mod_eq_of_lt (by omega)
  refine ⟨_, congrArg Host.Outcome.next (State.readWatchWord hg hlt hwin h4), rfl, ?_, ?_⟩
  · refine (State.window_advanceWindow ..).trans ?_
    rw [hwin', hmod]
  · rw [State.advanceWindow_with, hserve]
    rfl

/-- Settles O9: each accepted write is computed to the state that stores the register, and that state is compared with
the statement's frame. -/
theorem acceptedAccessesActAsTheirRegisters : Obligations.AcceptedAccessesActAsTheirRegisters := by
  unfold Obligations.AcceptedAccessesActAsTheirRegisters
  intro s ini hd hw
  refine ⟨fun val hg => State.storesInjsel hd hw hg, fun idx hlt h4 hwin => ⟨fun val hg hv => ?_, fun hg => ?_⟩,
    fun val hg => State.storesChipno hd hw hg⟩
  · exact State.writesWatchTable hd hw hg hlt h4 hwin hv
  · exact State.readsWatchTable hg hlt h4 hwin

end Sys2Proof.Machine

end

section

/-! ## Reads through Abt -/

namespace Sys2Proof.Machine

/-- READY with a time base past its 64 bits, which `Time.base : Nat` admits. -/
def overBase : State := { run := { st := .ready }, time := { base := 2 ^ 64 } }

def firstOrg : Org := { ini := 0, src := 0, grp := 0, num := 0 }

/-- A READ of the first word of page TOP, which has no register stile, leaves the clock as it is. -/
theorem read_overBase_base : (overBase.abtRead firstOrg.ini 256 1).time.base = 2 ^ 64 := by decide +kernel

/-- What the statement asks of that clock: the base that a move by no edges leaves, which is reduced modulo 2^64. -/
theorem ticks_overBase_base : (overBase.ticks 0).time.base = 0 := by decide +kernel

/-- Refutes O20: a READ of header registers of a page without a register stile leaves the clock alone, while the statement
asks for the clock of `ticks 0`, whose time base is reduced modulo 2^64; in a state whose base is 2^64, which no
hypothesis excludes, the two differ. -/
theorem not_abtReadsAndWritesAreAccesses : ¬ Obligations.AbtReadsAndWritesAreAccesses := by
  unfold Obligations.AbtReadsAndWritesAreAccesses
  intro h
  obtain ⟨-, hwords, -, -⟩ := h overBase firstOrg 256
  obtain ⟨-, -, -, -, -, -, hheader⟩ := hwords (by decide)
  obtain ⟨t, u, hreach, hexec, -, hframe⟩ := hheader 1 .top rfl rfl (by decide) (by decide)
  have hu : u = overBase := hreach
  have ht : overBase.abtRead firstOrg.ini 256 1 = t := Host.Outcome.next.inj hexec
  have htime : t.time = (u.ticks 0).time :=
    (congrArg State.time hframe).trans rfl
  have hbase : (2 ^ 64 : Nat) = 0 := by
    calc 2 ^ 64 = t.time.base := by rw [← ht, read_overBase_base]
      _ = 0 := by rw [htime, hu, ticks_overBase_base]
  exact absurd hbase (by decide)

end Sys2Proof.Machine

end

section

/-! ## Statements that unreachable states refute -/

namespace Sys2Proof.Machine

/-! ### O8 -/

/-- A read of TOP_CHIPNO, whose page has no register stile, leaves the clock as it is. -/
theorem snapshotRead_overBase_base : (overBase.readBurst 0 (pTOP * 256 + TOP_CHIPNO) 1).time.base = 2 ^ 64 := by
  decide +kernel

/-- Refutes O8: a read of a register outside the timing domain leaves the clock alone, while the statement asks for the
clock of `ticks 0`, whose time base is reduced modulo 2^64; in a READY state whose base is 2^64, which no hypothesis
excludes, the two differ. -/
theorem not_registerReadsCaptureAndReleaseSnapshots : ¬ Obligations.RegisterReadsCaptureAndReleaseSnapshots := by
  unfold Obligations.RegisterReadsCaptureAndReleaseSnapshots
  intro h
  obtain ⟨hsingle, -, -, -⟩ := h overBase 0 pTOP TOP_CHIPNO .top { off := TOP_CHIPNO, rw := 0x0003FF, ro := 0x3FF000 }
    (by decide) (by decide) rfl rfl (by decide) (by decide) (by decide) rfl
  obtain ⟨t, u, hreach, hexec, -, hframe⟩ := hsingle rfl
  have hu : u = overBase := hreach
  have ht : overBase.readBurst 0 (pTOP * 256 + TOP_CHIPNO) 1 = t := Host.Outcome.next.inj hexec
  have htime : t.time = (u.ticks 0).time := (congrArg State.time hframe).trans rfl
  have hbase : (2 ^ 64 : Nat) = 0 := by
    calc 2 ^ 64 = t.time.base := by rw [← ht, snapshotRead_overBase_base]
      _ = 0 := by rw [htime, hu, ticks_overBase_base]
  exact absurd hbase (by decide)

/-! ### O25, O34, O38 -/

/-- READY with the lock of page STORE open, stream A DRAINING and stream B ARMED, and a JUMP of stream A in its stile. -/
def busyReady : State :=
  { run := { st := .ready }
    regs := [(rkey pSTORE PG_LOCK, 1), (rkey (pSTREAM 0) STREAM_STAT, 0x800000), (rkey (pSTREAM 1) STREAM_STAT, 0x200000)]
    stile := [⟨.jump 0, some 0, 0⟩] }

theorem busyReady_lock : busyReady.reg pSTORE PG_LOCK = 1 := by decide +kernel

/-- A command after which READY follows a stream that is not at rest enters RUN, and so closes every lock (R76). -/
theorem bankAccess_busyReady_lock :
    (busyReady.bankAccess 0 [⟨0, 0, 0, none⟩] .none).followStreams.reg pSTORE PG_LOCK = 0 := by decide +kernel

/-- Refutes O25: the statement has the registers unchanged, while a bank access is followed by READY becoming RUN where a
stream is ARMED, which closes the locks; no hypothesis excludes a READY state with an ARMED stream and an open lock. -/
theorem not_bankDecisionsServeTheHighestClass : ¬ Obligations.BankDecisionsServeTheHighestClass := by
  unfold Obligations.BankDecisionsServeTheHighestClass
  intro h
  obtain ⟨hsound, -⟩ := h busyReady 0 ⟨0, 0, 0, none⟩ (by decide) (by decide) rfl rfl (.inr (by decide +kernel))
  obtain ⟨hread, -⟩ := hsound rfl
  obtain ⟨⟨t, hexec, -, -, -, -, hframe⟩, -⟩ := hread rfl
  have ht : (busyReady.bankAccess 0 [⟨0, 0, 0, none⟩] .none).followStreams = t := Host.Outcome.next.inj hexec
  have hregs : t.regs = busyReady.regs := (congrArg State.regs hframe).trans rfl
  have hlock : (0 : Word) = 1 := by
    calc 0 = t.reg pSTORE PG_LOCK := by rw [← ht, bankAccess_busyReady_lock]
      _ = busyReady.reg pSTORE PG_LOCK := by rw [State.reg, hregs, ← State.reg]
      _ = 1 := busyReady_lock
  exact absurd hlock (by decide)

theorem stileExit_busyReady_lock : busyReady.stileExit.followStreams.reg pSTORE PG_LOCK = 0 := by decide +kernel

/-- Refutes O34: the statement has a JUMP that finds its stream DRAINING leave the registers unchanged, while READY becomes
RUN where another stream is ARMED, which closes the locks; no hypothesis excludes such a READY state. -/
theorem not_stileCommandsTakeEffectAtTheirEdge : ¬ Obligations.StileCommandsTakeEffectAtTheirEdge := by
  unfold Obligations.StileCommandsTakeEffectAtTheirEdge
  intro h
  obtain ⟨-, hfirst⟩ := h busyReady
  obtain ⟨hidle, -⟩ := hfirst ⟨.jump 0, some 0, 0⟩ 0 0 rfl
  obtain ⟨t, hexec, -, -, hframe⟩ := hidle (.inl rfl) (.inr (by decide +kernel))
  have ht : busyReady.stileExit.followStreams = t := Host.Outcome.next.inj hexec
  have hregs : t.regs = busyReady.regs := (congrArg State.regs hframe).trans rfl
  have hlock : (0 : Word) = 1 := by
    calc 0 = t.reg pSTORE PG_LOCK := by rw [← ht, stileExit_busyReady_lock]
      _ = busyReady.reg pSTORE PG_LOCK := by rw [State.reg, hregs, ← State.reg]
      _ = 1 := busyReady_lock
  exact absurd hlock (by decide)

theorem drainDone_busyReady_lock : (busyReady.drainDone 0).followStreams.reg pSTORE PG_LOCK = 0 := by decide +kernel

/-- Refutes O38: the statement has every register outside STREAM_STAT and SITE_STAT keep its word when a stream has drained,
while READY becomes RUN where another stream is ARMED, which closes the locks; no hypothesis excludes such a READY
state. -/
theorem not_decisionsHoldsDrainsAndRecordsFinish : ¬ Obligations.DecisionsHoldsDrainsAndRecordsFinish := by
  unfold Obligations.DecisionsHoldsDrainsAndRecordsFinish
  intro h
  obtain ⟨-, -, -, -, hdrained, -⟩ := h busyReady 0 0
  obtain ⟨t, hexec, -, -, -, -, -, -, hregs, -⟩ := hdrained (by decide +kernel) (by decide +kernel)
  have ht : (busyReady.drainDone 0).followStreams = t := Host.Outcome.next.inj hexec
  have hlock : (0 : Word) = 1 := by
    calc 0 = t.reg pSTORE PG_LOCK := by rw [← ht, drainDone_busyReady_lock]
      _ = busyReady.reg pSTORE PG_LOCK := hregs _ _ (by decide) (by decide) (by decide +kernel)
      _ = 1 := busyReady_lock
  exact absurd hlock (by decide)

end Sys2Proof.Machine

end

section

/-! ## One word of a register under a mask, and the units by number -/

namespace Sys2Proof.Machine

/-! ### Bits of a field that is written -/

theorem testBit_fld (w : Word) (hi lo i : Nat) : (fld w hi lo).testBit i = (decide (i < hi + 1 - lo) && bit w (lo + i)) := by
  rw [fld, Nat.testBit_mod_two_pow, Nat.testBit_div_two_pow, bit, BitVec.getLsbD, Nat.add_comm i lo]

theorem bit_fld {w : Word} {hi lo i : Nat} (h : lo + i ≤ hi) : (fld w hi lo).testBit i = bit w (lo + i) := by
  rw [testBit_fld, decide_eq_true (by omega), Bool.true_and]

/-- A bit after a field is written: of the value within the field, and as it was elsewhere. -/
theorem bit_putFld {hi lo i : Nat} (w : Word) (v : Nat) (hlo : lo ≤ hi) (h24 : hi < 24) :
    bit (putFld w hi lo v) i = if lo ≤ i ∧ i ≤ hi then v.testBit (i - lo) else bit w i := by
  split
  · next h =>
    obtain ⟨j, rfl⟩ := Nat.exists_eq_add_of_le h.1
    rw [← bit_fld h.2, fld_putFld_self w v hlo h24, Nat.testBit_mod_two_pow, Nat.add_sub_cancel_left]
    simp
    omega
  · next h =>
    rcases Nat.lt_or_ge hi i with hi' | hi'
    · exact bit_putFld_above w v hlo h24 hi'
    · have hl : i < lo := by omega
      rw [bit_eq_fld, bit_eq_fld, fld_putFld_below w v hlo h24 hl (Nat.le_refl i)]

/-- A field that lies within the one written reads its part of what was written. -/
theorem fld_putFld_within {hi lo h l : Nat} (w : Word) (v : Nat) (hlo : lo ≤ hi) (h24 : hi < 24) (hl : lo ≤ l) (hh : h ≤ hi) :
    fld (putFld w hi lo v) h l = v / 2 ^ (l - lo) % 2 ^ (h + 1 - l) := by
  apply Nat.eq_of_testBit_eq
  intro i
  rw [testBit_fld, Nat.testBit_mod_two_pow, Nat.testBit_div_two_pow, bit_putFld w v hlo h24]
  by_cases hi' : i < h + 1 - l
  · rw [if_pos (by omega), show l + i - lo = i + (l - lo) by omega]
  · simp [hi']

/-- Mixing a word in under the mask of a field writes that field. -/
theorem mix_field {old m new : Word} {hi lo : Nat} (hlo : lo ≤ hi) (h24 : hi < 24)
    (hm : ∀ i : Fin 24, m.getLsbD i = decide (lo ≤ i.val ∧ i.val ≤ hi)) :
    mix old m new = putFld old hi lo (fld new hi lo) := by
  apply BitVec.eq_of_getLsbD_eq
  intro i hi24
  have hput : (putFld old hi lo (fld new hi lo)).getLsbD i = _ := bit_putFld old (fld new hi lo) hlo h24
  rw [hput, mix, BitVec.getLsbD_or, BitVec.getLsbD_and, BitVec.getLsbD_and, BitVec.getLsbD_not, hm ⟨i, hi24⟩]
  by_cases h : lo ≤ i ∧ i ≤ hi
  · obtain ⟨j, rfl⟩ := Nat.exists_eq_add_of_le h.1
    rw [if_pos h, Nat.add_sub_cancel_left, bit_fld h.2]
    simp [h.2, bit]
  · rw [if_neg h]
    simp [h, hi24, bit]

/-! ### A masked write of one word -/

/-- What a masked write of a single-word register makes of it. -/
def State.putMasked (s : State) (page : Nat) (r : RegInfo) (mask w : Word) : Put :=
  putOf (s.reg page r.off) (r.rw ||| r.lk) (r.w1c ||| r.w1s ||| r.wo) mask w (fun v => [v]) true

theorem writeWords_one (h : Hint) (ini page : Nat) (k : Kind) (mask : Word) (off : Nat) (w : Word) (s : State) :
    writeWords h ini page k mask [(off, w)] s = s.writeWord h ini page k off mask w := by
  rw [writeWords]
  cases s.writeWord h ini page k off mask w with
  | error e => rfl
  | ok x => simp [writeWords]

section
variable {s : State} {h : Hint} {ini page off : Nat} {k : Kind} {r : RegInfo} {mask w : Word}
  (hp : page < 4096) (h10 : 0x10 ≤ off) (ho : off < 256) (hg : s.gate_ ini page true = none) (hk : kindOf page = some k)
  (hs : s.writesStaged ini page k off 1 = false)
include hp ho hg hk hs

/-- A write of one word: the page serves it, PG_SEQ counts, and what the word's write answers is finished (R8, R77). -/
theorem State.writeBurst_one : s.writeBurst h ini (page * 256 + off) mask [w] none =
    ((s.serve ini page).finishWrite ini page off ((s.served ini page).writeWord h ini page k off mask w)).leavePage page := by
  have hb (t : State) : t.burstBound ini page k off 1 = none := by simp [State.burstBound]
  have hbo : burstOffsets k off 1 = [off] := by
    unfold burstOffsets
    split <;> simp [List.range_succ]
  simp only [State.writeBurst, State.writeGate, addr_page hp ho, addr_off ho, hg, hk, List.length_singleton, hs,
    State.crossStaged, Bool.false_eq_true, if_false, State.seqBound, hb, hbo, List.zip_cons_cons, List.zip_nil_right,
    writeWords_one, State.served]

variable (hlast : off ≤ lastOff k) (hr : regInfo k off = some r) (hoff : r.off = off) (hbase : r.base = off)
  (hn : r.n = 1) (hw : r.writable ≠ 0) (hl : r.lk = 0)
include h10 hlast hr hoff hbase hn hw hl

omit hp hg hk hs in
/-- The word's write answers what the page's checks say, else the effect on the register and its journalled words. -/
theorem State.writeWord_one : (s.served ini page).writeWord h ini page k off mask w =
    ((s.served ini page).checkReg ini page k off ((s.served ini page).putMasked page r mask w)).elim
      (.ok ((s.served ini page).putReg h ini page k r ((s.served ini page).putMasked page r mask w),
        if mask &&& journalMask k off = 0 then [] else [(0, off)])) (fun e => .error { e := e }) := by
  have hgw : (s.served ini page).groupWords ini page 0 off 1 0 = fun v => [v] := by
    funext v; simp [State.groupWords, List.range_succ]
  have hnl : ¬ lastOff k < off := by omega
  have hta : ¬ (off = TBL_ADDR ∧ hasTables k = true) := fun e => by have := e.1; unfold TBL_ADDR at this; omega
  have htd : ¬ (off = TBL_DATA ∧ hasTables k = true) := fun e => by have := e.1; unfold TBL_DATA at this; omega
  have hll : ¬ (mask &&& r.lk ≠ 0 ∧ (!(s.served ini page).lockMine page ini) = true) := by simp [hl]
  simp only [State.writeWord, if_neg hnl, if_neg hta, if_neg htd, State.writeRegWord, hr, if_neg hw, if_neg hll]
  simp only [hbase, hn, Nat.sub_self, Nat.zero_add, hgw, decide_true, if_true, State.waitingWord_last, State.putMasked,
    hoff, List.range_one, List.map_cons, List.map_nil, Nat.add_zero]
  cases (s.served ini page).checkReg ini page k off _ <;> rfl

/-- A word that the page's checks reject: the rejection is recorded, and nothing else changes (R10, R74). -/
theorem State.writeBurst_refused {e : Err} (he : e ≠ .loop)
    (hc : (s.served ini page).checkReg ini page k off ((s.served ini page).putMasked page r mask w) = some e) :
    s.writeBurst h ini (page * 256 + off) mask [w] none = ((s.serve ini page).reject ini page off e).leavePage page := by
  rw [State.writeBurst_one hp ho hg hk hs, State.writeWord_one h10 ho hlast hr hoff hbase hn hw hl, hc]
  simp [State.finishWrite, he]

/-- A word that the page's checks let in: the register takes its effect, and the write is finished. -/
theorem State.writeBurst_let
    (hc : (s.served ini page).checkReg ini page k off ((s.served ini page).putMasked page r mask w) = none) :
    s.writeBurst h ini (page * 256 + off) mask [w] none = ((s.serve ini page).finishWrite ini page off
      (.ok ((s.served ini page).putReg h ini page k r ((s.served ini page).putMasked page r mask w),
        if mask &&& journalMask k off = 0 then [] else [(0, off)]))).leavePage page := by
  rw [State.writeBurst_one hp ho hg hk hs, State.writeWord_one h10 ho hlast hr hoff hbase hn hw hl, hc]
  rfl

end

end Sys2Proof.Machine

end

section

/-! ## Sites that are assigned and freed -/

namespace Sys2Proof.Machine

/-! ### A unit after one of its family is written -/

theorem State.site_setSite (s : State) (n m : Nat) (v : Site) :
    (s.setSite n v).site m = if n = m then v else s.site m := by simp [State.site, State.setSite, Store.get_put]

theorem State.mon_setMon (s : State) (n m : Nat) (v : Mon) :
    (s.setMon n v).mon m = if n = m then v else s.mon m := by simp [State.mon, State.setMon, Store.get_put]

/-! ### What a page that has served an access shows of sites and streams -/

section
variable (s : State) (ini page : Nat)

theorem State.served_fldR {p o : Nat} (hi lo : Nat) (ho : o < 256) (hne : o ≠ PG_SEQ) :
    (s.served ini page).fldR p o hi lo = s.fldR p o hi lo := by
  rw [State.fldR, State.served_reg ho (fun e => hne e.2), State.fldR]

@[simp] theorem State.served_siteSt (n : Nat) : (s.served ini page).siteSt n = s.siteSt n :=
  s.served_fldR ini page _ _ (by decide) (by decide)

@[simp] theorem State.served_siteStream (n : Nat) : (s.served ini page).siteStream n = s.siteStream n :=
  s.served_fldR ini page _ _ (by decide) (by decide)

@[simp] theorem State.served_strSt (k : Nat) : (s.served ini page).strSt k = s.strSt k :=
  s.served_fldR ini page _ _ (by decide) (by decide)

@[simp] theorem State.served_width (k : Nat) : (s.served ini page).width k = s.width k :=
  congrArg (· + 1) (s.served_fldR ini page _ _ (by decide) (by decide))

@[simp] theorem State.served_column (n c : Nat) : (s.served ini page).column n c = s.column n c := by
  unfold State.column
  split <;> exact s.served_fldR ini page _ _ (by decide) (by decide)

theorem State.served_sites : (s.served ini page).sites = s.sites := by
  rw [State.served, State.serve, State.enterPage_with]
  rfl

@[simp] theorem State.served_site (n : Nat) : (s.served ini page).site n = s.site n := by
  rw [State.site, State.served_sites, State.site]

@[simp] theorem State.served_octetsOf (n : Nat) : (s.served ini page).octetsOf n = s.octetsOf n := by
  have hcol : (s.served ini page).column n = s.column n := funext (s.served_column ini page n)
  rw [State.octetsOf, hcol, State.served_siteSt, State.served_site, State.octetsOf]

@[simp] theorem State.served_siteOf (o : Nat) : (s.served ini page).siteOf o = s.siteOf o := by
  simp only [State.siteOf, State.served_octetsOf]

end

/-! ### Monitors on their fault side (R351) -/

theorem State.monAction_setMon (s : State) (n m : Nat) (v : Mon) : (s.setMon n v).monAction m = s.monAction m := rfl

/-- A monitor that samples, on its fault side. -/
def Mon.faulted (v : Mon) : Mon := { v with fault := true, beyond := 0 }

theorem State.mon_monsToFault (s : State) (ms : List Nat) (m : Nat) :
    (s.monsToFault ms).mon m = if m ∈ ms ∧ s.monAction m ≠ 0 then (s.mon m).faulted else s.mon m := by
  induction ms generalizing s with
  | nil => simp [State.monsToFault]
  | cons a ms ih =>
    change (State.monsToFault (if s.monAction a = 0 then s else s.setMon a (s.mon a).faulted) ms).mon m = _
    by_cases ha : s.monAction a = 0
    · have hm : (m ∈ a :: ms ∧ s.monAction m ≠ 0) ↔ (m ∈ ms ∧ s.monAction m ≠ 0) := by
        rw [List.mem_cons]
        constructor
        · rintro ⟨rfl | h, h'⟩
          · exact absurd ha h'
          · exact ⟨h, h'⟩
        · exact fun h => ⟨.inr h.1, h.2⟩
      rw [if_pos ha, ih, if_congr hm rfl rfl]
    · rw [if_neg ha, ih, State.monAction_setMon, State.mon_setMon]
      by_cases he : a = m
      · subst he
        simp [ha, Mon.faulted]
      · simp [he, Ne.symm he]

theorem State.monsToFault_reg (s : State) (ms : List Nat) (p o : Nat) : (s.monsToFault ms).reg p o = s.reg p o := by
  induction ms generalizing s with
  | nil => rfl
  | cons a ms ih =>
    change (State.monsToFault (if s.monAction a = 0 then s else s.setMon a (s.mon a).faulted) ms).reg p o = _
    rw [ih]
    split <;> rfl

theorem State.monsToFault_with (s : State) (ms : List Nat) :
    s.monsToFault ms = { s with mons := (s.monsToFault ms).mons } := by
  induction ms generalizing s with
  | nil => rfl
  | cons a ms ih =>
    change State.monsToFault (if s.monAction a = 0 then s else s.setMon a (s.mon a).faulted) ms =
      { s with mons := (State.monsToFault (if s.monAction a = 0 then s else s.setMon a (s.mon a).faulted) ms).mons }
    split
    · exact ih s
    · exact ih _

/-! ### A site becomes ASSIGNED (R31, R351) -/

theorem State.siteSt_setSiteSt_self (s : State) {n v : Nat} (hv : v < 8) : (s.setSiteSt n v).siteSt n = v := by
  rw [State.siteSt, State.fldR, State.setSiteSt, State.setFld, State.reg_setReg_self,
    fld_putFld_self _ _ (by decide) (by decide)]
  exact Nat.mod_eq_of_lt hv

/-- The registers of a site other than SITE_STAT do not see its state change. -/
theorem State.reg_setSiteSt_ne (s : State) {n v p o : Nat} (ho : o < 256) (h : o ≠ SITE_STAT) :
    (s.setSiteSt n v).reg p o = s.reg p o :=
  State.reg_setReg_ne _ fun e => h ((rkey_inj (by decide) ho).1 e).2.symm

theorem State.column_setSiteSt (s : State) (n v m c : Nat) : (s.setSiteSt n v).column m c = s.column m c := by
  unfold State.column State.fldR
  split <;> rw [State.reg_setSiteSt_ne _ (by decide) (by decide)]

/-- The octets of a site that is not FREE. -/
theorem State.octetsOf_of_ne_free {s : State} {n : Nat} (h : s.siteSt n ≠ tFREE) :
    s.octetsOf n = (List.range (s.site n).noct).map (s.column n) := if_neg h

theorem State.toAssigned_eq (s : State) (n : Nat) : s.toAssigned n =
    (s.setSiteSt n tASSIGNED).monsToFault (monsOf ((List.range (s.site n).noct).map (s.column n))) := by
  have hst : (s.setSiteSt n tASSIGNED).siteSt n ≠ tFREE := by rw [s.siteSt_setSiteSt_self (by decide)]; decide
  have hcol : (s.setSiteSt n tASSIGNED).column n = s.column n := funext (s.column_setSiteSt n tASSIGNED n)
  rw [State.toAssigned, State.octetsOf_of_ne_free hst, hcol]
  rfl

theorem State.toAssigned_reg (s : State) (n p o : Nat) : (s.toAssigned n).reg p o = (s.setSiteSt n tASSIGNED).reg p o := by
  rw [State.toAssigned_eq, State.monsToFault_reg]

theorem State.toAssigned_with (s : State) (n : Nat) :
    s.toAssigned n = { s with regs := (s.toAssigned n).regs, mons := (s.toAssigned n).mons } := by
  rw [State.toAssigned_eq]
  generalize monsOf _ = ms
  rw [State.monsToFault_with]
  rfl

theorem State.toAssigned_keepsRegs (s : State) (n : Nat) : s.keepsRegs (s.toAssigned n) [(pSITE n, SITE_STAT)] := by
  intro p o ho hne
  rw [State.toAssigned_reg]
  exact s.keepsRegs_setReg (by decide) _ p o ho hne

theorem State.toAssigned_stat (s : State) (n : Nat) :
    (s.toAssigned n).reg (pSITE n) SITE_STAT = putFld (s.reg (pSITE n) SITE_STAT) 23 21 tASSIGNED := by
  rw [State.toAssigned_reg]
  exact State.reg_setReg_self ..

theorem State.toAssigned_mon (s : State) (n m : Nat) : (s.toAssigned n).mon m =
    if m ∈ monsOf ((List.range (s.site n).noct).map (s.column n)) ∧ s.monAction m ≠ 0 then (s.mon m).faulted
    else s.mon m := by
  rw [State.toAssigned_eq, State.mon_monsToFault]
  rfl

theorem State.toAssigned_octetsOf (s : State) (n : Nat) :
    (s.toAssigned n).octetsOf n = (List.range (s.site n).noct).map (s.column n) := by
  have hst : (s.toAssigned n).siteSt n ≠ tFREE := by
    rw [State.siteSt, State.fldR, State.toAssigned_stat, fld_putFld_self _ _ (by decide) (by decide)]
    decide
  have hcol : (s.toAssigned n).column n = s.column n := by
    funext c
    rw [← s.column_setSiteSt n tASSIGNED n c]
    unfold State.column State.fldR
    simp only [State.toAssigned_reg]
  have hsite : (s.toAssigned n).site n = s.site n := by
    rw [State.site, State.toAssigned_with, State.site]
  rw [State.octetsOf_of_ne_free hst, hcol, hsite]

end Sys2Proof.Machine

end

section

/-! ## SITE_CFG (R201, R202) -/

namespace Sys2Proof.Machine

theorem State.storeReg_masked {s : State} {page : Nat} {r : RegInfo} {mask w : Word} (hn : r.n = 1) (hrw : r.rw ≠ 0)
    (hlk : r.lk = 0) (hw1c : r.w1c = 0) (hm : r.rw &&& mask = mask) :
    s.storeReg page r (s.putMasked page r mask w) =
      s.setReg page r.off (mix (s.reg page r.off) mask (s.putMasked page r mask w).w) := by
  have hrw' : ¬ r.rw = 0#24 := hrw
  have hmask : (s.putMasked page r mask w).mask = mask := rfl
  have hall (v : Word) : v &&& 16777215#24 = v := BitVec.and_allOnes
  simp [State.storeReg, hn, hrw', hlk, hw1c, hmask, hm, hall]

theorem State.assignSite_day (s t : State) (n : Nat) : (s.assignSite t n).day = t.day := by
  unfold State.assignSite
  simp only
  split
  · rw [State.assign, State.toAssigned_with]
    rfl
  · split <;> rfl

/-- SITE_CFG: ASSIGN in bit 23 and STREAM in [22:21]. -/
def siteCfg : RegInfo := { off := SITE_CFG, rw := 0xE00000 }

section
variable {s : State} {ini : Ini} {n : SiteN} {mask w : Word}

theorem instOf_site : instOf (pSITE n) = n := by
  have := n.isLt
  unfold instOf pSITE
  rw [if_neg (by omega)]
  omega

theorem kindOf_site : kindOf (pSITE n) = some .site := by
  have := n.isLt
  unfold kindOf pSITE
  simp only [show ¬ 0x1C0 + n.val < 0x100 by omega, show ¬ 0x1C0 + n.val < 0x140 by omega,
    show ¬ 0x1C0 + n.val < 0x180 by omega, show ¬ 0x1C0 + n.val < 0x1C0 by omega, show 0x1C0 + n.val < 0x200 by omega,
    if_true, if_false]

theorem timingPage_site : timingPage (pSITE n) = false := by
  have := n.isLt
  simp only [timingPage, Bool.or_eq_false_iff, Bool.and_eq_false_iff, beq_eq_false_iff_ne, decide_eq_false_iff_not]
  unfold pSITE pTBASE pSKEW
  omega

variable (hg : s.gate_ ini (pSITE n) true = none)
include hg

/-- A write of SITE_CFG that its check rejects. -/
theorem State.writeSiteCfg_refused {e : Err} (he : e ≠ .loop)
    (hc : (s.served ini (pSITE n)).checkSiteCfg n ((s.served ini (pSITE n)).putMasked (pSITE n) siteCfg mask w) = some e) :
    s.writeBurst {} ini (pSITE n * 256 + SITE_CFG) mask [w] none = (s.serve ini (pSITE n)).reject ini (pSITE n) SITE_CFG e := by
  have hp : pSITE n < 4096 := by have := n.isLt; unfold pSITE; omega
  rw [State.writeBurst_refused (off := SITE_CFG) (r := siteCfg) hp (by decide) (by decide) hg kindOf_site rfl (by decide) rfl rfl rfl rfl
    (by decide) rfl he, State.leavePage_of timingPage_site]
  rw [State.checkReg, if_neg (by decide), instOf_site]
  exact hc

variable (hd : s.day.active = false) (hstart : ¬ (s.run.st = .start ∧ s.run.warm = true ∧ s.run.step ≤ 7))
include hd hstart

/-- A write of the field of SITE_CFG that a mask names, which its check lets in: the site follows ASSIGN. -/
theorem State.writeSiteCfg_let {hi lo : Nat} (hlo : lo ≤ hi) (h24 : hi < 24) (hm : siteCfg.rw &&& mask = mask)
    (hfield : ∀ i : Fin 24, mask.getLsbD i = decide (lo ≤ i.val ∧ i.val ≤ hi))
    (hc : (s.served ini (pSITE n)).checkSiteCfg n ((s.served ini (pSITE n)).putMasked (pSITE n) siteCfg mask w) = none) :
    s.writeBurst {} ini (pSITE n * 256 + SITE_CFG) mask [w] none =
      ((s.served ini (pSITE n)).assignSite ((s.served ini (pSITE n)).setReg (pSITE n) SITE_CFG
        (putFld (s.reg (pSITE n) SITE_CFG) hi lo
          (fld ((s.served ini (pSITE n)).putMasked (pSITE n) siteCfg mask w).w hi lo))) n).ok := by
  have hp : pSITE n < 4096 := by have := n.isLt; unfold pSITE; omega
  have hserve : (s.serve ini (pSITE n)).day = s.day := by rw [State.serve_of timingPage_site]
  have hput : (s.served ini (pSITE n)).putReg {} ini (pSITE n) .site siteCfg
      ((s.served ini (pSITE n)).putMasked (pSITE n) siteCfg mask w) =
      (s.served ini (pSITE n)).assignSite ((s.served ini (pSITE n)).setReg (pSITE n) SITE_CFG
        (putFld (s.reg (pSITE n) SITE_CFG) hi lo
          (fld ((s.served ini (pSITE n)).putMasked (pSITE n) siteCfg mask w).w hi lo))) n := by
    rw [State.putReg, if_neg (by decide), State.storeReg_masked rfl (by decide) rfl rfl hm,
      mix_field hlo h24 hfield, State.actReg]
    rw [instOf_site, show (s.served ini (pSITE n)).reg (pSITE n) siteCfg.off = s.reg (pSITE n) SITE_CFG from
      State.served_reg (by decide) fun e => absurd e.2 (by decide)]
    rfl
  rw [State.writeBurst_let (off := SITE_CFG) (r := siteCfg) hp (by decide) (by decide) hg kindOf_site rfl (by decide) rfl rfl rfl rfl
    (by decide) rfl, hput, State.finishWrite_inactive (hserve ▸ hd) _ _ (by unfold pSITE pGLEAN; omega),
    State.leavePage_of timingPage_site]
  · rw [State.assignSite_day, State.setReg_day, State.served_with timingPage_site]
    exact hd
  · rwa [State.serve_run]
  · rw [State.checkReg, if_neg (by decide), instOf_site]
    exact hc

end

/-! ## Sites are assigned and freed (R31, R201, R202, R351) -/

/-- A write of all of SITE_CFG's bits stores what it brings. -/
theorem putMasked_assign (s : State) (page : Nat) (k : Str) :
    (s.putMasked page siteCfg 0xE00000 (word (2 ^ 23 + k * 2 ^ 21))).w = word (2 ^ 23 + k * 2 ^ 21) := by
  have hold (v : Word) : v &&& 0xE00000#24 &&& 0x1FFFFF#24 = 0#24 := by rw [BitVec.and_assoc]; exact BitVec.and_zero
  fin_cases k <;> simp [State.putMasked, putOf, siteCfg, word, hold]

theorem putMasked_unassign (s : State) (page : Nat) :
    (s.putMasked page siteCfg 0x800000 0).w = s.reg page SITE_CFG &&& 0x600000#24 := by
  simp [State.putMasked, putOf, siteCfg, BitVec.and_assoc]

theorem assignWord_fields (k : Str) : bit (word (2 ^ 23 + k * 2 ^ 21)) 23 = true ∧
    fld (word (2 ^ 23 + k * 2 ^ 21)) 22 21 = k ∧ fld (word (2 ^ 23 + k * 2 ^ 21)) 23 21 = 4 + k := by
  revert k; decide

theorem unassignWord_fields (w : Word) : bit (w &&& 0x600000#24) 23 = false ∧
    fld (w &&& 0x600000#24) 22 21 = fld w 22 21 ∧ fld (w &&& 0x600000#24) 23 23 = 0 := by
  have hbit : bit (w &&& 0x600000#24) 23 = false := by simp [bit]
  have hstr : (w &&& 0x600000#24).extractLsb' 21 2 = w.extractLsb' 21 2 := by
    ext i hi
    simp
    interval_cases i <;> simp
  have hon := bit_eq_fld (w &&& 0x600000#24) 23
  have hlt := fld_lt (w &&& 0x600000#24) 23 23
  refine ⟨hbit, by simpa [fld, Nat.shiftRight_eq_div_pow] using congrArg BitVec.toNat hstr, ?_⟩
  rw [hbit] at hon
  simp at hon hlt
  omega

section
variable {s : State} {ini : Ini} {n : SiteN} (hg : s.gate_ ini (pSITE n) true = none)

/-- The state in which a page SITE has served an access and SITE_CFG holds `w`. -/
def State.withCfg (s : State) (ini n : Nat) (w : Word) : State :=
  (s.served ini (pSITE n)).setReg (pSITE n) SITE_CFG w

theorem State.withCfg_with (w : Word) : s.withCfg ini n w =
    { s with regs := (s.withCfg ini n w).regs, rot := (s.withCfg ini n w).rot } := by
  rw [State.withCfg, State.served_with timingPage_site]
  rfl

theorem State.withCfg_keepsRegs (w : Word) :
    s.keepsRegs (s.withCfg ini n w) [(pSITE n, PG_SEQ), (pSITE n, SITE_CFG)] :=
  (State.served_keepsRegs timingPage_site).trans (State.keepsRegs_setReg _ (by decide) w)

theorem State.withCfg_cfg (w : Word) : (s.withCfg ini n w).reg (pSITE n) SITE_CFG = w := State.reg_setReg_self ..

theorem State.withCfg_pgSeq (w : Word) : (s.withCfg ini n w).reg (pSITE n) PG_SEQ = s.reg (pSITE n) PG_SEQ + 1 := by
  rw [State.withCfg, State.reg_setReg_ne _ (fun e => absurd ((rkey_inj (by decide) (by decide)).1 e).2 (by decide)),
    State.served_pgSeq timingPage_site]

theorem State.withCfg_width (w : Word) (k : Str) : (s.withCfg ini n w).width k = s.width k := by
  have hne : pSTREAM k ≠ pSITE n := by
    have := k.isLt
    unfold pSTREAM pSITE
    omega
  rw [State.width, State.fldR, State.withCfg_keepsRegs _ _ _ (by decide) (by simp [hne]), State.width, State.fldR]

include hg

/-- ASSIGN of a FREE site whose octets are distinct and free (R31, R202). -/
theorem State.assigns {k : Str} (hd : s.day.active = false)
    (hstart : ¬ (s.run.st = .start ∧ s.run.warm = true ∧ s.run.step ≤ 7)) (hfree : s.siteSt n = tFREE)
    (hrest : s.strSt k = sIDLE ∨ s.strSt k = sSTOPPED) (hnodup : ((List.range (s.width k)).map (s.column n)).Nodup)
    (hnone : ∀ o ∈ (List.range (s.width k)).map (s.column n), s.siteOf o = none) :
    exec (.siteAssign ini n k) s = .next
      (((s.withCfg ini n (putFld (s.reg (pSITE n) SITE_CFG) 23 21 (4 + k))).setSite n
        { s.site n with noct := s.width k }).toAssigned n).ok := by
  obtain ⟨hon, hstr, hcfg⟩ := assignWord_fields k
  have hcheck : (s.served ini (pSITE n)).checkSiteCfg n ((s.served ini (pSITE n)).putMasked (pSITE n) siteCfg 0xE00000
      (word (2 ^ 23 + k * 2 ^ 21))) = none := by
    have hcol : (s.served ini (pSITE n)).column n = s.column n := funext (s.served_column ini _ n)
    have hidle : (s.strSt k == sIDLE || s.strSt k == sSTOPPED) = true := by simpa using hrest
    have hheld : ((List.range (s.width k)).map (s.column n)).any (fun o => (s.siteOf o).isSome) = false :=
      List.any_eq_false.mpr fun o ho => by simp [hnone o ho]
    simp only [State.checkSiteCfg, putMasked_assign, hstr, hon, State.served_siteSt, State.served_strSt,
      State.served_width, hcol, State.served_siteOf, hfree, hidle, hheld, hnodup]
    rfl
  have hassign : (s.served ini (pSITE n)).assignSite
      (s.withCfg ini n (putFld (s.reg (pSITE n) SITE_CFG) 23 21 (4 + k))) n =
      ((s.withCfg ini n (putFld (s.reg (pSITE n) SITE_CFG) 23 21 (4 + k))).setSite n
        { s.site n with noct := s.width k }).toAssigned n := by
    have hbit : (s.withCfg ini n (putFld (s.reg (pSITE n) SITE_CFG) 23 21 (4 + k))).bitR (pSITE n) SITE_CFG 23 = true := by
      rw [State.bitR, State.withCfg_cfg, bit_putFld _ _ (by decide) (by decide), if_pos (by decide)]
      exact (by decide : ∀ k : Str, (4 + k.val).testBit (23 - 21) = true) k
    have hstream : (s.withCfg ini n (putFld (s.reg (pSITE n) SITE_CFG) 23 21 (4 + k))).siteStream n = k := by
      rw [State.siteStream, State.fldR, State.withCfg_cfg, fld_putFld_within _ _ (by decide) (by decide) (by decide) (by decide)]
      exact (by decide : ∀ k : Str, (4 + k.val) / 2 ^ (21 - 21) % 2 ^ (22 + 1 - 21) = k) k
    have hsite : (s.withCfg ini n (putFld (s.reg (pSITE n) SITE_CFG) 23 21 (4 + k))).site n = s.site n := by
      rw [State.site, State.withCfg_with, State.site]
    rw [State.assignSite, hbit, State.served_siteSt, if_pos ⟨hfree, rfl⟩, State.assign, hstream, State.withCfg_width, hsite]
  refine congrArg Host.Outcome.next ((State.writeSiteCfg_let hg hd hstart (hi := 23) (lo := 21) (by decide) (by decide) (by decide)
    (by decide) hcheck).trans ?_)
  rw [putMasked_assign, hcfg]
  exact congrArg State.ok hassign

/-- ASSIGN where a site holds one of the octets (R202). -/
theorem State.assignHeld {k : Str} (hfree : s.siteSt n = tFREE) (hrest : s.strSt k = sIDLE ∨ s.strSt k = sSTOPPED)
    (hheld : ∃ o ∈ (List.range (s.width k)).map (s.column n), (s.siteOf o).isSome = true) :
    exec (.siteAssign ini n k) s = .next ((s.serve ini (pSITE n)).reject ini (pSITE n) SITE_CFG .range) := by
  obtain ⟨hon, hstr, -⟩ := assignWord_fields k
  have hcheck : (s.served ini (pSITE n)).checkSiteCfg n ((s.served ini (pSITE n)).putMasked (pSITE n) siteCfg 0xE00000
      (word (2 ^ 23 + k * 2 ^ 21))) = some .range := by
    have hcol : (s.served ini (pSITE n)).column n = s.column n := funext (s.served_column ini _ n)
    have hidle : (s.strSt k == sIDLE || s.strSt k == sSTOPPED) = true := by simpa using hrest
    have hany : ((List.range (s.width k)).map (s.column n)).any (fun o => (s.siteOf o).isSome) = true :=
      List.any_eq_true.mpr hheld
    simp only [State.checkSiteCfg, putMasked_assign, hstr, hon, State.served_siteSt, State.served_strSt,
      State.served_width, hcol, State.served_siteOf, hfree, hidle, hany, Bool.or_true]
    rfl
  exact congrArg Host.Outcome.next (State.writeSiteCfg_refused hg (by decide) hcheck)

/-- ASSIGN = 0 of an ASSIGNED site whose stream is at rest (R202). -/
theorem State.unassigns (hd : s.day.active = false)
    (hstart : ¬ (s.run.st = .start ∧ s.run.warm = true ∧ s.run.step ≤ 7)) (hst : s.siteSt n = tASSIGNED)
    (hrest : s.strSt (s.siteStream n) = sIDLE ∨ s.strSt (s.siteStream n) = sSTOPPED) :
    exec (.siteUnassign ini n) s = .next
      ((s.withCfg ini n (putFld (s.reg (pSITE n) SITE_CFG) 23 23 0)).unassign n).ok := by
  have hold : (s.served ini (pSITE n)).reg (pSITE n) SITE_CFG = s.reg (pSITE n) SITE_CFG :=
    State.served_reg (by decide) fun e => absurd e.2 (by decide)
  obtain ⟨hoff, hstr, hcfg⟩ := unassignWord_fields (s.reg (pSITE n) SITE_CFG)
  have hcheck : (s.served ini (pSITE n)).checkSiteCfg n ((s.served ini (pSITE n)).putMasked (pSITE n) siteCfg 0x800000
      0) = none := by
    have hidle : (s.strSt (s.siteStream n) == sIDLE || s.strSt (s.siteStream n) == sSTOPPED) = true := by simpa using hrest
    have hact : bit ((s.served ini (pSITE n)).putMasked (pSITE n) siteCfg 0x800000 0).act 23 = false := by
      simp [State.putMasked, putOf, bit]
    have hnow : fld (s.reg (pSITE n) SITE_CFG) 22 21 = s.siteStream n := rfl
    simp only [State.checkSiteCfg, putMasked_unassign, hold, hstr, hoff, hact, hnow, State.served_siteSt,
      State.served_siteStream, State.served_strSt, hst, hidle]
    simp [firstErr, refuse]
  have hassign : (s.served ini (pSITE n)).assignSite (s.withCfg ini n (putFld (s.reg (pSITE n) SITE_CFG) 23 23 0)) n =
      (s.withCfg ini n (putFld (s.reg (pSITE n) SITE_CFG) 23 23 0)).unassign n := by
    have hbit : (s.withCfg ini n (putFld (s.reg (pSITE n) SITE_CFG) 23 23 0)).bitR (pSITE n) SITE_CFG 23 = false := by
      rw [State.bitR, State.withCfg_cfg, bit_putFld _ _ (by decide) (by decide), if_pos (by decide)]
      decide
    have hne : ¬ (tASSIGNED = tFREE ∧ false = true) := by simp
    simp only [State.assignSite, hbit, State.served_siteSt, hst, if_neg hne, Bool.not_false, and_self, if_true]
  refine congrArg Host.Outcome.next ((State.writeSiteCfg_let hg hd hstart (hi := 23) (lo := 23) (by decide) (by decide)
    (by decide) (by decide) hcheck).trans ?_)
  rw [putMasked_unassign, hold, hcfg]
  exact congrArg State.ok hassign

end

end Sys2Proof.Machine

end

section

/-! ## What the writes of SITE_CFG leave -/

namespace Sys2Proof.Machine

/-- A rejection at a page that has served the access is recorded there, and moves the rotation pointer (R10, R64, R74). -/
theorem State.serveReject_frame (s : State) {ini page off : Nat} {e : Err} (h : timingPage page = false)
    (hk : (kindOf page).isSome = true) :
    s.keepsRegs ((s.serve ini page).reject ini page off e) [(page, PG_ERR)] ∧
      (s.serve ini page).reject ini page off e =
        { s with regs := ((s.serve ini page).reject ini page off e).regs,
                 rot := ((s.serve ini page).reject ini page off e).rot,
                 reply := ((s.serve ini page).reject ini page off e).reply } := by
  refine ⟨fun p o ho hne => ?_, ?_⟩
  · rw [State.reject_keepsRegs (.inl hk) p o ho hne, State.serve_reg]
  · generalize hu : (s.serve ini page).reject ini page off e = u
    rw [State.serve_of h, State.reject_with] at hu
    rw [← hu]

theorem State.ok_reg (s : State) (d : List Word) (p o : Nat) : (s.ok d).reg p o = s.reg p o := rfl

theorem State.ok_octetsOf (s : State) (d : List Word) (n : Nat) : (s.ok d).octetsOf n = s.octetsOf n := rfl

theorem State.ok_site (s : State) (d : List Word) (n : Nat) : (s.ok d).site n = s.site n := rfl

theorem State.ok_mon (s : State) (d : List Word) (m : Nat) : (s.ok d).mon m = s.mon m := rfl

/-- What a page SITE leaves that has served an access and whose SITE_CFG holds `w`. -/
structure State.HoldsCfg (s u : State) (n : Nat) (w : Word) : Prop where
  frame : u = { s with regs := u.regs, rot := u.rot }
  keeps : s.keepsRegs u [(pSITE n, PG_SEQ), (pSITE n, SITE_CFG)]
  cfg : u.reg (pSITE n) SITE_CFG = w
  seq : u.reg (pSITE n) PG_SEQ = s.reg (pSITE n) PG_SEQ + 1

theorem State.withCfg_holds (s : State) (ini : Ini) (n : SiteN) (w : Word) : s.HoldsCfg (s.withCfg ini n w) n w :=
  ⟨State.withCfg_with w, State.withCfg_keepsRegs w, State.withCfg_cfg w, State.withCfg_pgSeq w⟩

section
variable {s u : State} {n : Nat} {w : Word} (hu : s.HoldsCfg u n w)
include hu

theorem State.HoldsCfg.site (m : Nat) : u.site m = s.site m := by rw [State.site, hu.frame, State.site]

theorem State.HoldsCfg.mon (m : Nat) : u.mon m = s.mon m := by rw [State.mon, hu.frame, State.mon]

theorem State.HoldsCfg.monAction (m : Nat) : u.monAction m = s.monAction m := by
  have htab : u.tabs = s.tabs := by rw [hu.frame]
  simp only [State.monAction, State.monW, State.tab, htab]

theorem State.HoldsCfg.column (m : Nat) : u.column m = s.column m := by
  funext c
  unfold State.column State.fldR
  split <;> rw [hu.keeps _ _ (by decide) (by simp)]

/-- A change of the site's registers that leaves all but SITE_STAT is, with the write, what `wrote` tells. -/
theorem State.HoldsCfg.wrote {t : State} (ht : u.keepsRegs t [(pSITE n, SITE_STAT)]) :
    s.wrote t.ok (pSITE n) [SITE_CFG, SITE_STAT] ∧ t.ok.reg (pSITE n) SITE_CFG = w := by
  refine ⟨⟨rfl, ?_, hu.keeps.trans ht⟩, ?_⟩
  · rw [State.ok_reg, ht _ _ (by decide) (by simp), hu.seq]
  · rw [State.ok_reg, ht _ _ (by decide) (by simp), hu.cfg]

theorem State.HoldsCfg.stat : u.reg (pSITE n) SITE_STAT = s.reg (pSITE n) SITE_STAT :=
  hu.keeps _ _ (by decide) (by simp)

end

theorem State.setSite_keepsRegs (s : State) (n : Nat) (v : Site) : s.keepsRegs (s.setSite n v) [] := fun _ _ _ _ => rfl

/-- The fields that an assignment touches, through the access and through `toAssigned`. -/
theorem State.frame_assigned {s u t : State} {n : Nat} {v : Site} (hu : u = { s with regs := u.regs, rot := u.rot })
    (ht : t = { u.setSite n v with regs := t.regs, mons := t.mons }) :
    t.ok = { s with regs := t.ok.regs, rot := t.ok.rot, reply := t.ok.reply, sites := t.ok.sites, mons := t.ok.mons } := by
  generalize t.regs = regs, t.mons = mons at ht
  generalize u.regs = regs', u.rot = rot' at hu
  subst hu ht
  rfl

/-! ### O35 -/

section
variable {s u : State} {n : Nat} {w : Word} (hu : s.HoldsCfg u n w) (v : Site)
include hu

/-- What ASSIGN leaves (R31, R201, R351). -/
theorem State.HoldsCfg.assigned :
    let t := ((u.setSite n v).toAssigned n).ok
    s.wrote t (pSITE n) [SITE_CFG, SITE_STAT] ∧ t.reg (pSITE n) SITE_CFG = w ∧
      t.reg (pSITE n) SITE_STAT = putFld (s.reg (pSITE n) SITE_STAT) 23 21 tASSIGNED ∧
      t.octetsOf n = (List.range v.noct).map (s.column n) ∧ t.site n = v ∧ (∀ m, m ≠ n → t.site m = s.site m) ∧
      (∀ m, t.mon m = if m ∈ monsOf ((List.range v.noct).map (s.column n)) ∧ s.monAction m ≠ 0 then (s.mon m).faulted
        else s.mon m) ∧
      t = { s with regs := t.regs, rot := t.rot, reply := t.reply, sites := t.sites, mons := t.mons } := by
  have hsite (m : Nat) : ((u.setSite n v).toAssigned n).site m = if n = m then v else s.site m := by
    rw [State.site, State.toAssigned_with, ← hu.site, ← State.site_setSite, State.site]
  have hcols : (List.range ((u.setSite n v).site n).noct).map ((u.setSite n v).column n) =
      (List.range v.noct).map (s.column n) := by
    rw [State.site_setSite_self, ← hu.column]
    rfl
  intro t
  obtain ⟨hwrote, hcfg⟩ := hu.wrote ((u.setSite_keepsRegs n v).trans ((u.setSite n v).toAssigned_keepsRegs n))
  refine ⟨hwrote, hcfg, ?_, ?_, ?_, fun m hm => ?_, fun m => ?_, ?_⟩
  · rw [State.ok_reg, State.toAssigned_stat, ← hu.stat]
    rfl
  · rw [State.ok_octetsOf, State.toAssigned_octetsOf, hcols]
  · rw [State.ok_site, hsite, if_pos rfl]
  · rw [State.ok_site, hsite, if_neg (Ne.symm hm)]
  · rw [State.ok_mon, State.toAssigned_mon, hcols, ← hu.mon, ← hu.monAction]
    rfl
  · exact State.frame_assigned hu.frame ((u.setSite n v).toAssigned_with n)

/-- What ASSIGN = 0 leaves (R202). -/
theorem State.HoldsCfg.unassigned :
    let t := (u.unassign n).ok
    s.wrote t (pSITE n) [SITE_CFG, SITE_STAT] ∧ t.reg (pSITE n) SITE_CFG = w ∧
      t.reg (pSITE n) SITE_STAT = putFld (s.reg (pSITE n) SITE_STAT) 23 21 tFREE ∧
      t.site n = { s.site n with noct := 0 } ∧ (∀ m, m ≠ n → t.site m = s.site m) ∧
      t = { s with regs := t.regs, rot := t.rot, reply := t.reply, sites := t.sites } := by
  have hsite (m : Nat) : (u.unassign n).site m = if n = m then { s.site n with noct := 0 } else s.site m := by
    rw [State.unassign, State.site_setSite, ← hu.site, ← hu.site]
    rfl
  intro t
  obtain ⟨hwrote, hcfg⟩ := hu.wrote (t := u.unassign n) (u.keepsRegs_setReg (by decide) _)
  refine ⟨hwrote, hcfg, ?_, ?_, fun m hm => ?_, ?_⟩
  · rw [State.ok_reg, ← hu.stat]
    exact State.reg_setReg_self ..
  · rw [State.ok_site, hsite, if_pos rfl]
  · rw [State.ok_site, hsite, if_neg (Ne.symm hm)]
  · have hframe := hu.frame
    generalize u.regs = regs', u.rot = rot' at hframe
    subst hframe
    rfl

end

/-- Settles O35: the write of SITE_CFG is computed to the state that `assign` or `unassign` leaves, or to its rejection. -/
theorem sitesAreAssignedAndFreed : Obligations.SitesAreAssignedAndFreed := by
  unfold Obligations.SitesAreAssignedAndFreed
  intro s ini n hg hd hstart
  refine ⟨fun k hfree hrest => ⟨fun hnodup hnone => ?_, fun hheld => ?_⟩, fun hst hrest => ?_⟩
  · exact ⟨_, State.assigns hg hd hstart hfree hrest hnodup hnone, (s.withCfg_holds ini n _).assigned _⟩
  · obtain ⟨hkeeps, hframe⟩ := s.serveReject_frame (ini := ini) (off := SITE_CFG) (e := .range) (timingPage_site (n := n))
      (by rw [kindOf_site]; rfl)
    exact ⟨_, State.assignHeld hg hfree hrest hheld, rfl, hkeeps, hframe⟩
  · exact ⟨_, State.unassigns hg hd hstart hst hrest, (s.withCfg_holds ini n _).unassigned⟩

end Sys2Proof.Machine

end

section

/-! ## JUMP, STOP, RESET and RELEASE (R200, R201, R214) -/

namespace Sys2Proof.Machine

/-! ### An EXEC that its checks let in -/

theorem bitsOf_two_pow (k : Str) : bitsOf 4 (2 ^ k.val) = [k.val] := by
  revert k; decide

/-- An EXEC without extra words whose state and parameter pass acts and answers OK (R200). -/
theorem State.execCmd_let {s : State} {org : Org} {w0 : Word} {act : Nat} (hg : s.hostGate org.ini = none) (h2 : 2 ≤ act)
    (h5 : act ≤ 5) (hstrs : fld w0 19 16 = 0 ↔ act = 5) (hstate : s.execState act (fld w0 19 16) (fld w0 15 0) = none)
    (hparam : execParam act (fld w0 15 0) = none) :
    s.execCmd org (putFld w0 23 20 act) [] = (s.execDo org act (fld w0 19 16) (fld w0 15 0) 0).ok := by
  have hact : fld (putFld w0 23 20 act) 23 20 = act := by
    rw [fld_putFld_self _ _ (by decide) (by decide)]
    exact Nat.mod_eq_of_lt (by omega)
  have hcheck : s.checkExec org.ini act (fld w0 19 16) (fld w0 15 0) 0 = none := by
    have hne : act ≠ 1 := by omega
    have hrange : (decide (act = 0) || decide (5 < act)) = false := by simp; omega
    have hnamed : (if act = 5 then fld w0 19 16 != 0 else fld w0 19 16 == 0) = false := by
      split
      · next h => simp [hstrs.2 h]
      · next h => simpa using fun e => h (hstrs.1 e)
    simp [State.checkExec, hg, hrange, hnamed, hstate, hparam, hne, firstErr, refuse]
  have hext : ¬ ([] : List Word).length ≠ (if act = 1 then 2 else 0) := by simp; omega
  rw [State.execCmd, hact, fld_putFld_below _ _ (by decide) (by decide) (by decide) (by decide),
    fld_putFld_below _ _ (by decide) (by decide) (by decide) (by decide)]
  simp only [hext, if_false, wide, hcheck]

/-! ### A command enters its stile (R20, R458) -/

/-- The latest of `a` and the capture edges of some commands. -/
def latestCapture (l : List StileCmd) (a : Nat) : Nat := l.foldl (fun a c => max a (c.capture.getD 0)) a

theorem latestCapture_cons (c : StileCmd) (l : List StileCmd) (a : Nat) :
    latestCapture (c :: l) a = latestCapture l (max a (c.capture.getD 0)) := rfl

theorem latestCapture_ge (l : List StileCmd) (a : Nat) :
    a ≤ latestCapture l a ∧ ∀ y ∈ l, y.capture.getD 0 ≤ latestCapture l a := by
  induction l generalizing a with
  | nil => simp [latestCapture]
  | cons c l ih =>
    obtain ⟨hle, hmem⟩ := ih (max a (c.capture.getD 0))
    rw [latestCapture_cons]
    refine ⟨by omega, fun y hy => ?_⟩
    rcases List.mem_cons.1 hy with rfl | hy
    · omega
    · exact hmem y hy

theorem latestCapture_attained (l : List StileCmd) (a : Nat) :
    latestCapture l a = a ∨ ∃ y ∈ l, y.capture = some (latestCapture l a) := by
  induction l generalizing a with
  | nil => exact .inl rfl
  | cons c l ih =>
    rw [latestCapture_cons]
    rcases ih (max a (c.capture.getD 0)) with h | ⟨y, hy, h⟩
    · rw [h]
      rcases Nat.le_total (c.capture.getD 0) a with hle | hle
      · exact .inl (Nat.max_eq_left hle)
      · rw [Nat.max_eq_right hle]
        cases hc : c.capture with
        | none =>
          have ha : a = 0 := by simpa [hc] using hle
          exact .inl ha.symm
        | some x => exact .inr ⟨c, List.mem_cons_self .., by simp [hc]⟩
    · exact .inr ⟨y, List.mem_cons_of_mem _ hy, h⟩

/-- The commands that stand in the stile of a command. -/
def State.mates (s : State) (op : StileOp) : List StileCmd := s.stile.filter (fun y => y.op.stile == op.stile)

/-- A command that enters a stile of 4 places: it is captured at the next edge or the one after it, and after those ahead
of it, or waits for a place (R20, Table 1.2). -/
theorem State.toStile_spec (s : State) {op : StileOp} (h4 : stileDepth op.stile = 4) :
    ∃ c, s.toStile op = { s with stile := s.stile ++ [⟨op, c, s.fresh + 1⟩], fresh := s.fresh + 1 } ∧
      (4 ≤ (s.mates op).length → c = none) ∧
      ((s.mates op).length < 4 → ∃ x, c = some x ∧ s.time.edge + 1 ≤ x ∧ (∀ y ∈ s.mates op, y.capture.getD 0 ≤ x) ∧
        (x ≤ s.time.edge + 2 ∨ ∃ y ∈ s.mates op, y.capture = some x)) := by
  have hroom : s.stileRoom op.stile = decide ((s.mates op).length < 4) := by rw [State.stileRoom, h4]; rfl
  by_cases hlen : (s.mates op).length < 4
  · set ahead := latestCapture (s.mates op) 0 with hahead
    set edge := s.time.edge + 1 + Config.free s.fresh % 2 with hedge
    refine ⟨some (max edge ahead), ?_, fun h => absurd hlen (by omega), fun _ =>
      ⟨_, rfl, by omega, fun y hy => le_trans ((latestCapture_ge _ 0).2 y hy) (by omega), ?_⟩⟩
    · rw [State.toStile, hroom, decide_eq_true hlen, if_pos rfl]
      rfl
    · rcases Nat.le_total ahead edge with hle | hle
      · exact .inl (by omega)
      · rw [Nat.max_eq_right hle]
        rcases latestCapture_attained (s.mates op) 0 with h0 | hy
        · exact .inl (by omega)
        · exact .inr hy
  · refine ⟨none, ?_, fun _ => rfl, fun h => absurd h hlen⟩
    rw [State.toStile, hroom, decide_eq_false hlen, if_neg (by decide)]

section
variable {s : State} {org : Org} {w0 : Word} {k : Str} (hg : s.hostGate org.ini = none) (hk : fld w0 19 16 = 2 ^ k.val)
include hg hk

theorem State.execCmd_one {act : Nat} (h2 : 2 ≤ act) (h5 : act < 5)
    (hstate : s.execState act (fld w0 19 16) (fld w0 15 0) = none) (hparam : execParam act (fld w0 15 0) = none) :
    s.execCmd org (putFld w0 23 20 act) [] = (s.execDo org act (2 ^ k.val) (fld w0 15 0) 0).ok := by
  have hne : fld w0 19 16 ≠ 0 := by
    rw [hk]
    exact (Nat.two_pow_pos k.val).ne'
  rw [State.execCmd_let hg h2 (by omega) ⟨fun h => absurd h hne, fun h => absurd h (by omega)⟩ hstate hparam, hk]

end

theorem State.execState_live {s : State} {act param : Nat} {w0 : Word} {k : Str} (hk : fld w0 19 16 = 2 ^ k.val)
    (hact : act = 2 ∨ act = 3) (hlo : sARMED ≤ s.strSt k) (hhi : s.strSt k ≤ sHOLDING) :
    s.execState act (fld w0 19 16) param = none := by
  have h1 : act ≠ 1 := by omega
  simp [State.execState, hk, bitsOf_two_pow, h1, hact, hlo, hhi, refuse]

theorem State.execState_rest {s : State} {param : Nat} {w0 : Word} {k : Str} (hk : fld w0 19 16 = 2 ^ k.val)
    (hrest : s.strSt k = sIDLE ∨ s.strSt k = sSTOPPED) : s.execState 4 (fld w0 19 16) param = none := by
  simpa [State.execState, hk, bitsOf_two_pow, refuse] using hrest.resolve_left

/-! ### JUMP and STOP are posted -/

/-- What a command of one stream leaves that enters its stile and is posted (R200, R458). -/
theorem State.stilePost {s : State} {org : Org} {op : StileOp} {k : Str} (act g : Nat) (hop : op.stile = k) :
    let t := (((s.prunePosts).toStile op).post org act (2 ^ k.val) g).ok
    (∃ c, t.stile = s.stile ++ [⟨op, c, s.fresh + 1⟩] ∧ (4 ≤ (s.mates op).length → c = none) ∧
      ((s.mates op).length < 4 → ∃ x, c = some x ∧ s.time.edge + 1 ≤ x ∧ (∀ y ∈ s.mates op, y.capture.getD 0 ≤ x) ∧
        (x ≤ s.time.edge + 2 ∨ ∃ y ∈ s.mates op, y.capture = some x))) ∧
      t.abt = { s.abt with posts := s.prunePosts.abt.posts ++ [({ org := org, kind := .exec act (2 ^ k.val) g } : Post)] } ∧
      t = { s with stile := t.stile, abt := t.abt, fresh := s.fresh + 1, reply := t.reply } := by
  have h4 : stileDepth op.stile = 4 := by rw [hop, stileDepth, if_pos k.isLt]
  obtain ⟨c, hc, hfull, hroom⟩ := s.prunePosts.toStile_spec h4
  rw [hc]
  exact ⟨⟨c, rfl, hfull, hroom⟩, rfl, rfl⟩

section
variable {s : State} {org : Org} {w0 : Word} {k : Str} (hg : s.hostGate org.ini = none) (hk : fld w0 19 16 = 2 ^ k.val)
  (hlo : sARMED ≤ s.strSt k) (hhi : s.strSt k ≤ sHOLDING)
include hg hk hlo hhi

theorem State.jumps (hp : fld w0 15 0 = 0) : exec (.execJump org w0) s = .next
    (((s.prunePosts).toStile (.jump k)).post org 2 (2 ^ k.val) ((s.prunePosts.toStile (.jump k)).fresh + 1)).ok := by
  have hdo : s.execDo org 2 (2 ^ k.val) (fld w0 15 0) 0 =
      ((s.prunePosts).toStile (.jump k)).post org 2 (2 ^ k.val) ((s.prunePosts.toStile (.jump k)).fresh + 1) := by
    simp [State.execDo, State.toStiles, bitsOf_two_pow]
  rw [← hdo, ← State.execCmd_one hg hk (by decide) (by decide) (State.execState_live hk (.inl rfl) hlo hhi) (by rw [hp]; rfl)]
  rfl

theorem State.stops (hp : fld w0 15 1 = 0) : exec (.execStop org w0) s = .next
    (((s.prunePosts).toStile (.stop k (bit w0 0))).post org 3 (2 ^ k.val) 0).ok := by
  have hlow : fld w0 15 0 = (bit w0 0).toNat := by
    have hsplit : fld w0 15 0 = 2 * fld w0 15 1 + fld w0 0 0 := by unfold fld; omega
    have hone := fld_lt w0 0 0
    rw [bit_eq_fld, hsplit, hp]
    interval_cases fld w0 0 0 <;> rfl
  have hnow : (fld w0 15 0 % 2 == 1) = bit w0 0 := by rw [hlow]; cases bit w0 0 <;> rfl
  have hdo : s.execDo org 3 (2 ^ k.val) (fld w0 15 0) 0 =
      ((s.prunePosts).toStile (.stop k (bit w0 0))).post org 3 (2 ^ k.val) 0 := by
    simp [State.execDo, State.toStiles, bitsOf_two_pow, hnow]
  rw [← hdo, ← State.execCmd_one hg hk (by decide) (by decide) (State.execState_live hk (.inr rfl) hlo hhi)]
  · rfl
  · rw [hlow]
    cases bit w0 0 <;> rfl

end

/-! ### RELEASE -/

theorem State.frame_released {s t : State} {n : Nat} {v : Site} (ht : t = { s.setSite n v with regs := t.regs, mons := t.mons }) :
    t = { s with regs := t.regs, sites := t.sites, mons := t.mons } := by
  generalize t.regs = regs, t.mons = mons at ht
  subst ht
  rfl

/-- What the return of a site to ASSIGNED leaves (R201, R351). -/
theorem State.releaseSite_spec {s : State} {n : Nat} (hst : s.siteSt n ≠ tFREE) :
    let t := s.releaseSite n
    t.reg (pSITE n) SITE_STAT = putFld (s.reg (pSITE n) SITE_STAT) 23 21 tASSIGNED ∧
      s.keepsRegs t [(pSITE n, SITE_STAT)] ∧ t.site n = { noct := (s.site n).noct, pendGap := (s.site n).pendGap } ∧
      (∀ m, m ≠ n → t.site m = s.site m) ∧
      (∀ m, t.mon m = if m ∈ monsOf (s.octetsOf n) ∧ s.monAction m ≠ 0 then (s.mon m).faulted else s.mon m) ∧
      t = { s with regs := t.regs, sites := t.sites, mons := t.mons } := by
  set v : Site := { noct := (s.site n).noct, pendGap := (s.site n).pendGap } with hv
  have hsite (m : Nat) : ((s.setSite n v).toAssigned n).site m = if n = m then v else s.site m := by
    rw [State.site, State.toAssigned_with, ← State.site_setSite, State.site]
  have hcols : (List.range ((s.setSite n v).site n).noct).map ((s.setSite n v).column n) = s.octetsOf n := by
    rw [State.octetsOf_of_ne_free hst, State.site_setSite_self]
    rfl
  have hrel : s.releaseSite n = (s.setSite n v).toAssigned n := rfl
  have hmon (m : Nat) : ((s.setSite n v).toAssigned n).mon m =
      if m ∈ monsOf (s.octetsOf n) ∧ s.monAction m ≠ 0 then (s.mon m).faulted else s.mon m := by
    rw [State.toAssigned_mon, hcols, show (s.setSite n v).monAction m = s.monAction m from rfl,
      show (s.setSite n v).mon m = s.mon m from rfl]
  rw [hrel]
  intro t
  refine ⟨(s.setSite n v).toAssigned_stat n, (s.setSite n v).toAssigned_keepsRegs n, (hsite n).trans (if_pos rfl),
    fun m hm => (hsite m).trans (if_neg (Ne.symm hm)), hmon,
    State.frame_released ((s.setSite n v).toAssigned_with n)⟩

theorem State.releases {s : State} {org : Org} {w0 : Word} {n : SiteN} (hg : s.hostGate org.ini = none)
    (hz : fld w0 19 16 = 0) (hn : fld w0 15 0 = n.val) (hst : s.siteSt n = tRETIRED)
    (hflt : s.fldR (pSITE n) PG_FLT 23 21 = 0) :
    exec (.execRelease org w0) s = .next (s.prunePosts.releaseSite n).ok := by
  have hlt := n.isLt
  have hmod : n.val % 64 = n := Nat.mod_eq_of_lt hlt
  have hstate : s.execState 5 (fld w0 19 16) (fld w0 15 0) = none := by
    simp [State.execState, hn, hmod, hst, hflt, refuse]
  have hparam : execParam 5 (fld w0 15 0) = none := by
    simp [execParam, hn, refuse, hlt]
  have hdo : s.execDo org 5 (fld w0 19 16) (fld w0 15 0) 0 = s.prunePosts.releaseSite n := by
    simp [State.execDo, hn, hmod]
  rw [← hdo, ← State.execCmd_let hg (by decide) (by decide) (by simp [hz]) hstate hparam]
  rfl

/-! ### Sites that retire, streams that start with NOW -/

theorem State.stream_setStream (s : State) (k j : Nat) (v : Stream) :
    (s.setStream k v).stream j = if k = j then v else s.stream j := by simp [State.stream, State.setStream, Store.get_put]

theorem State.siteSt_setSiteSt_ne (s : State) {n m v : Nat} (h : n ≠ m) : (s.setSiteSt n v).siteSt m = s.siteSt m := by
  rw [State.siteSt, State.fldR, State.setSiteSt, State.setFld, State.reg_setReg_ne]
  · rfl
  · rw [ne_eq, rkey_inj (by decide) (by decide)]
    unfold pSITE
    omega

/-- A site that is HEDGED retires. -/
def State.retireSite (s : State) (n : Nat) : State := if s.siteSt n = tHEDGED then s.setSiteSt n tRETIRED else s

theorem State.retire_eq (s : State) (k : Nat) : s.retire k = (s.sitesOf k).foldl State.retireSite s := rfl

theorem State.retireSite_siteSt (s : State) (n m : Nat) :
    (s.retireSite n).siteSt m = if m = n ∧ s.siteSt m = tHEDGED then tRETIRED else s.siteSt m := by
  unfold State.retireSite
  by_cases hst : s.siteSt n = tHEDGED
  · rw [if_pos hst]
    by_cases hn : m = n
    · subst hn
      rw [s.siteSt_setSiteSt_self (by decide), if_pos ⟨rfl, hst⟩]
    · rw [s.siteSt_setSiteSt_ne (Ne.symm hn), if_neg fun h => hn h.1]
  · rw [if_neg hst, if_neg]
    rintro ⟨rfl, h⟩
    exact hst h

theorem State.retireSites_siteSt (ns : List Nat) (s : State) (m : Nat) :
    (ns.foldl State.retireSite s).siteSt m = if m ∈ ns ∧ s.siteSt m = tHEDGED then tRETIRED else s.siteSt m := by
  induction ns generalizing s with
  | nil => simp
  | cons n ns ih =>
    rw [List.foldl_cons, ih, State.retireSite_siteSt]
    by_cases hn : m = n <;> by_cases hst : s.siteSt m = tHEDGED <;> simp [hn, hst]
    · subst hn
      simp [hst]
    · subst hn
      simp [hst]

theorem State.retireSites_keepsRegs (ns : List Nat) (s : State) :
    s.keepsRegs (ns.foldl State.retireSite s) (ns.map fun n => (pSITE n, SITE_STAT)) := by
  induction ns generalizing s with
  | nil => exact s.keepsRegs_refl _
  | cons n ns ih =>
    refine State.keepsRegs.trans (ex := [(pSITE n, SITE_STAT)]) ?_ (ih _)
    unfold State.retireSite
    split
    · exact s.keepsRegs_setReg (by decide) _
    · exact s.keepsRegs_refl _

theorem State.retireSites_with (ns : List Nat) (s : State) :
    ns.foldl State.retireSite s = { s with regs := (ns.foldl State.retireSite s).regs } := by
  induction ns generalizing s with
  | nil => rfl
  | cons n ns ih =>
    rw [List.foldl_cons]
    have hone : s.retireSite n = { s with regs := (s.retireSite n).regs } := by
      unfold State.retireSite
      split <;> rfl
    generalize s.retireSite n = u at hone
    have hu := ih u
    generalize ns.foldl State.retireSite u = t at hu
    generalize u.regs = regs' at hone
    generalize t.regs = regs at hu
    subst hone hu
    rfl

theorem State.startEvent_with (s : State) (k e : Nat) : s.startEvent k e = { s with streams := (s.startEvent k e).streams } := by
  unfold State.startEvent
  simp only
  split <;> rfl

theorem State.startEvent_stream (s : State) (k e j : Nat) :
    (∃ a, (s.startEvent k e).stream j = { s.stream j with startAt := a }) ∧
      (j ≠ k → (s.startEvent k e).stream j = s.stream j) := by
  unfold State.startEvent
  simp only
  split
  · rw [State.stream_setStream]
    by_cases hj : k = j
    · subst hj
      rw [if_pos rfl]
      exact ⟨⟨_, rfl⟩, fun h => absurd rfl h⟩
    · rw [if_neg hj]
      exact ⟨⟨_, rfl⟩, fun _ => rfl⟩
  · exact ⟨⟨_, rfl⟩, fun _ => rfl⟩

/-- Start events at the next edge, one after the other, tell their streams when they start and change nothing else. -/
theorem State.startEvents_spec (ks : List Nat) (s : State) :
    let t := ks.foldl (fun (s : State) k => s.startEvent k (s.time.edge + 1)) s
    t = { s with streams := t.streams } ∧ ∀ j, (∃ a, t.stream j = { s.stream j with startAt := a }) ∧
      (j ∉ ks → t.stream j = s.stream j) := by
  induction ks generalizing s with
  | nil => exact ⟨rfl, fun j => ⟨⟨_, rfl⟩, fun _ => rfl⟩⟩
  | cons k ks ih =>
    rw [List.foldl_cons]
    obtain ⟨hwith, hstream⟩ := ih (s.startEvent k (s.time.edge + 1))
    have hone := s.startEvent_with k (s.time.edge + 1)
    have hones := s.startEvent_stream k (s.time.edge + 1)
    generalize s.startEvent k (s.time.edge + 1) = u at hwith hstream hone hones
    generalize ks.foldl _ u = t at hwith hstream
    refine ⟨?_, fun j => ⟨?_, fun hj => ?_⟩⟩
    · show t = { s with streams := t.streams }
      generalize u.streams = v' at hone
      generalize t.streams = v at hwith
      subst hone hwith
      rfl
    · obtain ⟨⟨a, ha⟩, -⟩ := hstream j
      obtain ⟨⟨b, hb⟩, -⟩ := hones j
      exact ⟨a, by rw [ha, hb]⟩
    · rw [List.mem_cons, not_or] at hj
      exact ((hstream j).2 hj.2).trans ((hones j).2 hj.1)

theorem State.startNow_with (s : State) : s.startNow = { s with streams := s.startNow.streams } :=
  (State.startEvents_spec _ s).1

theorem State.startNow_reg (s : State) (p o : Nat) : s.startNow.reg p o = s.reg p o := by
  rw [State.reg, s.startNow_with, State.reg]

theorem State.startNow_stream (s : State) (j : Nat) :
    (∃ a, s.startNow.stream j = { s.stream j with startAt := a }) ∧
      (¬ (j < 4 ∧ s.strSt j = sARMED ∧ s.startMode j = 2) → s.startNow.stream j = s.stream j) := by
  obtain ⟨hat, hnot⟩ := (State.startEvents_spec _ s).2 j
  refine ⟨hat, fun h => hnot fun hmem => h ?_⟩
  simp only [List.mem_filter, List.mem_range, Bool.and_eq_true, beq_iff_eq] at hmem
  exact ⟨hmem.1, hmem.2.1.1⟩

/-! ### A stream comes to rest in IDLE -/

theorem State.sitesOf_congr {s t : State} {k : Nat} (hst : ∀ n, t.siteSt n = tFREE ↔ s.siteSt n = tFREE)
    (hstr : ∀ n, t.siteStream n = s.siteStream n) : t.sitesOf k = s.sitesOf k := by
  have hp : (fun n => t.siteSt n != tFREE && t.siteStream n == k) = fun n => s.siteSt n != tFREE && s.siteStream n == k := by
    funext n
    rw [hstr, Bool.eq_iff_iff (a := t.siteSt n != tFREE && _), Bool.and_eq_true, Bool.and_eq_true, bne_iff_ne, bne_iff_ne,
      ne_eq, ne_eq, hst]
  rw [State.sitesOf, hp, State.sitesOf]

theorem pSTREAM_ne_pSITE (k : Str) (n : Nat) : pSTREAM k ≠ pSITE n := by
  have := k.isLt
  unfold pSTREAM pSITE
  omega

/-- What the rest of a stream leaves of the registers: STREAM_STAT of the stream and SITE_STAT of its sites change. -/
def restRegs (s : State) (k : Str) : List (Nat × Nat) :=
  (pSTREAM k, STREAM_STAT) :: (s.sitesOf k).map fun n => (pSITE n, SITE_STAT)

theorem not_mem_restRegs {s : State} {k : Str} {p o : Nat} (h : (p, o) ≠ (pSTREAM k, STREAM_STAT))
    (ho : o ≠ SITE_STAT ∨ ∀ n, p ≠ pSITE n) :
    (p, o) ∉ restRegs s k := by
  simp only [restRegs, List.mem_cons, List.mem_map, not_or, not_exists, not_and]
  refine ⟨h, fun n _ e => ?_⟩
  rw [Prod.mk.injEq] at e
  exact ho.elim (fun ho => ho e.2.symm) fun hp => hp n e.1.symm

section
variable (s : State) (k : Str)

/-- The state in which STREAM_STAT tells IDLE, its PRIMED clear. -/
def State.idled : State := (s.setStrSt k sIDLE).setBit (pSTREAM k) STREAM_STAT 20 false

theorem State.idled_keepsRegs : s.keepsRegs (s.idled k) [(pSTREAM k, STREAM_STAT)] :=
  ((s.keepsRegs_setReg (by decide) _).trans (State.keepsRegs_setReg _ (by decide) _)).mono (by simp)

theorem State.idled_stat : (s.idled k).reg (pSTREAM k) STREAM_STAT =
    putFld (putFld (s.reg (pSTREAM k) STREAM_STAT) 23 21 0) 20 20 0 := by
  rw [State.idled, State.setBit, State.setFld, State.reg_setReg_self, State.setStrSt, State.setFld, State.reg_setReg_self]
  rfl

theorem State.idled_siteReg (n : Nat) {o : Nat} (ho : o < 256) : (s.idled k).reg (pSITE n) o = s.reg (pSITE n) o :=
  s.idled_keepsRegs k _ _ ho (by simp [(pSTREAM_ne_pSITE k n).symm])

theorem State.idled_siteSt (n : Nat) : (s.idled k).siteSt n = s.siteSt n := by
  rw [State.siteSt, State.fldR, State.idled_siteReg _ _ _ (by decide), State.siteSt, State.fldR]

theorem State.idled_siteStream (n : Nat) : (s.idled k).siteStream n = s.siteStream n := by
  rw [State.siteStream, State.fldR, State.idled_siteReg _ _ _ (by decide), State.siteStream, State.fldR]

theorem State.idled_sitesOf : (s.idled k).sitesOf k = s.sitesOf k :=
  State.sitesOf_congr (fun n => by rw [s.idled_siteSt]) (s.idled_siteStream k)

/-- The stream's own state where it has come to rest. -/
def Stream.rested (v : Stream) : Stream :=
  { v with exp := { v.exp with ended := true }, alts := [], startAt := none, marked := 0, hostReq := none, greenReq := none,
           failReq := none, stopAt := none, hold := none, resume := none, stopNext := false }

theorem State.restStream_eq : s.restStream k sIDLE = (((s.idled k).setStream k (s.stream k).rested).retire k).startNow := by
  simp only [State.restStream, State.idled, Stream.rested, if_true]

theorem State.sitesOf_setStream (u : State) (j : Nat) (v : Stream) : (u.setStream j v).sitesOf k = u.sitesOf k := rfl

theorem State.siteSt_setStream (u : State) (j : Nat) (v : Stream) (n : Nat) : (u.setStream j v).siteSt n = u.siteSt n := rfl

theorem State.keepsRegs_setStream (u : State) (j : Nat) (v : Stream) : u.keepsRegs (u.setStream j v) [] := fun _ _ _ _ => rfl

theorem State.restStream_idle : s.restStream k sIDLE =
    ((s.sitesOf k).foldl State.retireSite ((s.idled k).setStream k (s.stream k).rested)).startNow := by
  rw [State.restStream_eq, State.retire_eq, State.sitesOf_setStream, State.idled_sitesOf]

/-- The registers, before the streams that wait with NOW are looked at. -/
theorem State.restStream_reg (p o : Nat) : (s.restStream k sIDLE).reg p o =
    ((s.sitesOf k).foldl State.retireSite ((s.idled k).setStream k (s.stream k).rested)).reg p o := by
  rw [State.restStream_idle, State.startNow_reg]

/-- What the sites' retiring keeps, with the stream's word. -/
theorem State.rested_keepsRegs : s.keepsRegs
    ((s.sitesOf k).foldl State.retireSite ((s.idled k).setStream k (s.stream k).rested)) (restRegs s k) :=
  ((s.idled_keepsRegs k).trans (State.keepsRegs_setStream _ k _)).trans (State.retireSites_keepsRegs (s.sitesOf k) _)

theorem State.restStream_keepsRegs : s.keepsRegs (s.restStream k sIDLE) (restRegs s k) := by
  intro p o ho hne
  rw [State.restStream_reg, s.rested_keepsRegs k p o ho hne]

theorem State.restStream_stat : (s.restStream k sIDLE).reg (pSTREAM k) STREAM_STAT =
    putFld (putFld (s.reg (pSTREAM k) STREAM_STAT) 23 21 0) 20 20 0 := by
  rw [State.restStream_reg, State.retireSites_keepsRegs _ _ _ _ (by decide), State.keepsRegs_setStream _ _ _ _ _ (by decide)
    (by simp), State.idled_stat]
  simp only [List.mem_map, not_exists, not_and, Prod.mk.injEq]
  exact fun n _ e => absurd e.symm (pSTREAM_ne_pSITE k n)

theorem State.restStream_siteSt (n : Nat) : (s.restStream k sIDLE).siteSt n =
    if n ∈ s.sitesOf k ∧ s.siteSt n = tHEDGED then tRETIRED else s.siteSt n := by
  rw [State.siteSt, State.fldR, State.restStream_reg, ← State.fldR, ← State.siteSt, State.retireSites_siteSt,
    State.siteSt_setStream, State.idled_siteSt]

theorem State.restStream_with : s.restStream k sIDLE =
    { s with regs := (s.restStream k sIDLE).regs, streams := (s.restStream k sIDLE).streams } := by
  generalize ht : s.restStream k sIDLE = t
  rw [State.restStream_idle, State.startNow_with] at ht
  have hwith := State.retireSites_with (s.sitesOf k) ((s.idled k).setStream k (s.stream k).rested)
  generalize List.foldl _ _ _ = u at ht hwith
  generalize u.regs = regs at hwith
  subst hwith
  rw [← ht]
  rfl

/-- Other streams keep their state, but that one which waits with NOW may start (R204). -/
theorem State.restStream_stream {j : Nat} (hj : j ≠ k) :
    (∃ a, (s.restStream k sIDLE).stream j = { s.stream j with startAt := a }) ∧
      (s.startMode j ≠ 2 ∨ s.strSt j ≠ sARMED → (s.restStream k sIDLE).stream j = s.stream j) := by
  have hwith := State.retireSites_with (s.sitesOf k) ((s.idled k).setStream k (s.stream k).rested)
  have hkeeps := s.rested_keepsRegs k
  rw [State.restStream_idle]
  generalize List.foldl _ _ _ = u at hwith hkeeps
  have hstream : u.stream j = s.stream j := by
    rw [hwith]
    exact (State.stream_setStream ..).trans (if_neg (Ne.symm hj))
  have hstat (h4 : j < 4) : u.reg (pSTREAM j) STREAM_STAT = s.reg (pSTREAM j) STREAM_STAT := by
    refine hkeeps _ _ (by decide) (not_mem_restRegs ?_ (.inr (pSTREAM_ne_pSITE ⟨j, h4⟩)))
    unfold pSTREAM
    simp [hj]
  obtain ⟨hat, hnot⟩ := u.startNow_stream j
  rw [hstream] at hat hnot
  refine ⟨hat, fun h => hnot ?_⟩
  rintro ⟨h4, harmed, hmode⟩
  rw [State.strSt, State.fldR, hstat h4] at harmed
  rw [State.startMode, State.fldR, hstat h4] at hmode
  exact h.elim (fun h => h hmode) fun h => h harmed

end

/-! ### A site's position is cleared -/

/-- The position of a site at zero, as RESET leaves it (R200). -/
def State.clearPos (s : State) (n : Nat) : State :=
  (s.setSite n { s.site n with pos := 0, top := 0 }).setWide (pSITE n) SITE_POS0 2 0

theorem State.setWide_two (s : State) (p o v : Nat) :
    s.setWide p o 2 v = (s.setReg p o (word v)).setReg p (o + 1) (word (v / 2 ^ 24)) := by
  simp [State.setWide, List.range_succ]

/-- Registers of the position of a site. -/
def posRegs (n : Nat) : List (Nat × Nat) := [(pSITE n, SITE_POS0), (pSITE n, SITE_POS1)]

theorem State.clearPos_keepsRegs (s : State) (n : Nat) : s.keepsRegs (s.clearPos n) (posRegs n) := by
  rw [State.clearPos, State.setWide_two]
  exact (State.keepsRegs_setReg _ (by decide) _).trans (State.keepsRegs_setReg _ (by decide) _)

theorem State.clearPos_zero (s : State) (n p o : Nat) (h : s.reg p o = 0 ∨ (p, o) ∈ posRegs n) : (s.clearPos n).reg p o = 0 := by
  rw [State.clearPos, State.setWide_two, State.reg_setReg, State.reg_setReg]
  split
  · rfl
  · next h1 =>
    split
    · rfl
    · next h0 =>
      refine h.resolve_right fun hmem => ?_
      simp only [posRegs, List.mem_cons, Prod.mk.injEq, List.not_mem_nil, or_false] at hmem
      rcases hmem with ⟨rfl, rfl⟩ | ⟨rfl, rfl⟩
      · exact h0 rfl
      · exact h1 rfl

theorem State.clearAll_keepsRegs (ns : List Nat) (s : State) :
    s.keepsRegs (ns.foldl State.clearPos s) (ns.flatMap posRegs) := by
  induction ns generalizing s with
  | nil => exact s.keepsRegs_refl _
  | cons n ns ih => exact (s.clearPos_keepsRegs n).trans (ih _)

theorem State.clearAll_zero (ns : List Nat) (s : State) (p o : Nat) (h : s.reg p o = 0 ∨ (p, o) ∈ ns.flatMap posRegs) :
    (ns.foldl State.clearPos s).reg p o = 0 := by
  induction ns generalizing s with
  | nil => exact h.resolve_right (by simp)
  | cons n ns ih =>
    rw [List.flatMap_cons, List.mem_append] at h
    rw [List.foldl_cons]
    apply ih
    rcases h with h | h | h
    · exact .inl (s.clearPos_zero n p o (.inl h))
    · exact .inl (s.clearPos_zero n p o (.inr h))
    · exact .inr h

theorem State.clearAll_with (ns : List Nat) (s : State) : ns.foldl State.clearPos s =
    { s with regs := (ns.foldl State.clearPos s).regs, sites := (ns.foldl State.clearPos s).sites } := by
  induction ns generalizing s with
  | nil => rfl
  | cons n ns ih =>
    rw [List.foldl_cons]
    have hone : s.clearPos n = { s with regs := (s.clearPos n).regs, sites := (s.clearPos n).sites } := by
      rw [State.clearPos, State.setWide_two]
      rfl
    generalize s.clearPos n = u at hone
    have hu := ih u
    generalize ns.foldl State.clearPos u = t at hu
    generalize u.regs = regs', u.sites = sites' at hone
    generalize t.regs = regs, t.sites = sites at hu
    subst hone hu
    rfl

theorem State.clearAll_site (ns : List Nat) (s : State) (m : Nat) :
    (ns.foldl State.clearPos s).site m = if m ∈ ns then { s.site m with pos := 0, top := 0 } else s.site m := by
  induction ns generalizing s with
  | nil => rfl
  | cons n ns ih =>
    have hone : (s.clearPos n).site m = if n = m then { s.site m with pos := 0, top := 0 } else s.site m := by
      rw [State.clearPos, State.setWide_two]
      refine (State.site_setSite ..).trans ?_
      by_cases h : n = m
      · subst h
        rfl
      · rw [if_neg h, if_neg h]
    rw [List.foldl_cons, ih, hone]
    by_cases h : n = m
    · subst h
      simp
    · simp [h, Ne.symm h]

/-! ### RESET of a stream at rest -/

theorem State.regs_only_trans {s t u : State} (h : t = { s with regs := t.regs }) (h' : u = { t with regs := u.regs }) :
    u = { s with regs := u.regs } := by
  generalize t.regs = regs at h
  generalize u.regs = regs' at h'
  subst h h'
  rfl

theorem State.setReg_with (s : State) (p o : Nat) (w : Word) : s.setReg p o w = { s with regs := (s.setReg p o w).regs } := rfl

/-- The registers that RESET clears besides STREAM_STAT. -/
def resetOffs : List Nat := [STREAM_HALT, STREAM_ERRA0, STREAM_ERRA1, STREAM_HPOS0, STREAM_HPOS1, STREAM_SEG]

/-- The writes of a register list at one page, one after the other. -/
def State.setRegs (s : State) (p : Nat) (l : List (Nat × Word)) : State := l.foldl (fun (s : State) x => s.setReg p x.1 x.2) s

theorem State.setRegs_with (s : State) (p : Nat) (l : List (Nat × Word)) :
    s.setRegs p l = { s with regs := (s.setRegs p l).regs } := by
  induction l generalizing s with
  | nil => rfl
  | cons x l ih => exact State.regs_only_trans (s.setReg_with p x.1 x.2) (ih _)

theorem State.setRegs_keepsRegs (s : State) (p : Nat) {l : List (Nat × Word)} (h : ∀ x ∈ l, x.1 < 256) :
    s.keepsRegs (s.setRegs p l) (l.map fun x => (p, x.1)) := by
  induction l generalizing s with
  | nil => exact s.keepsRegs_refl _
  | cons x l ih =>
    rw [List.forall_mem_cons] at h
    exact (s.keepsRegs_setReg h.1 x.2).trans (ih _ h.2)

section
variable (s : State) (k : Str)

/-- The registers of a stream's page as RESET leaves them (R200). -/
def State.clearPage : State :=
  (s.setFld (pSTREAM k) STREAM_STAT 19 16 0).setRegs (pSTREAM k) (resetOffs.map fun o => (o, 0))

theorem State.clearPage_with : s.clearPage k = { s with regs := (s.clearPage k).regs } :=
  State.regs_only_trans (s.setReg_with ..) (State.setRegs_with ..)

theorem State.clearPage_keepsRegs :
    s.keepsRegs (s.clearPage k) ((pSTREAM k, STREAM_STAT) :: resetOffs.map fun o => (pSTREAM k, o)) :=
  (s.keepsRegs_setReg (by decide) _).trans (State.setRegs_keepsRegs _ _ (by decide))

theorem State.clearPage_zero : ∀ o ∈ resetOffs, (s.clearPage k).reg (pSTREAM k) o = 0 := by
  simp [resetOffs, State.clearPage, State.setRegs, State.reg_setReg, rkey]

theorem State.clearPage_stat : (s.clearPage k).reg (pSTREAM k) STREAM_STAT = putFld (s.reg (pSTREAM k) STREAM_STAT) 19 16 0 := by
  rw [State.clearPage, State.setRegs_keepsRegs _ _ (by decide) _ _ (by decide) (by simp [resetOffs]), State.setFld,
    State.reg_setReg_self]

theorem State.clearPage_sitesOf {u : State} (hst : ∀ n, u.siteSt n = tFREE ↔ s.siteSt n = tFREE)
    (hstr : ∀ n, u.siteStream n = s.siteStream n) : (u.clearPage k).sitesOf k = s.sitesOf k := by
  have hreg (n : Nat) {o : Nat} (ho : o < 256) : (u.clearPage k).reg (pSITE n) o = u.reg (pSITE n) o :=
    u.clearPage_keepsRegs k _ _ ho (by simp [pSTREAM_ne_pSITE k n, (pSTREAM_ne_pSITE k n).symm])
  refine State.sitesOf_congr (fun n => ?_) fun n => ?_
  · rw [← hst, State.siteSt, State.fldR, hreg n (by decide), State.siteSt, State.fldR]
  · rw [← hstr, State.siteStream, State.fldR, hreg n (by decide), State.siteStream, State.fldR]

/-- The stream at rest with its own state and page cleared. -/
def State.resetPage : State := ((s.restStream k sIDLE).setStream k {}).clearPage k

theorem State.resetPage_sitesOf : (s.resetPage k).sitesOf k = s.sitesOf k := by
  refine s.clearPage_sitesOf k (fun n => ?_) fun n => ?_
  · rw [State.siteSt_setStream, State.restStream_siteSt]
    split
    · next h => simp [h.2]
    · rfl
  · rw [State.siteStream, State.fldR, State.keepsRegs_setStream _ _ _ _ _ (by decide) (by simp),
      State.restStream_keepsRegs _ _ _ _ (by decide) (not_mem_restRegs (by simp) (.inl (by decide))), State.siteStream, State.fldR]

theorem State.resetPage_eq : s.resetPage k =
    (((((((s.restStream k sIDLE).setStream k {}).setFld (pSTREAM k) STREAM_STAT 19 16 0).setReg (pSTREAM k) STREAM_HALT 0).setWide
      (pSTREAM k) STREAM_ERRA0 2 0).setWide (pSTREAM k) STREAM_HPOS0 2 0).setReg (pSTREAM k) STREAM_SEG 0) := by
  have hzero : word (0 / 2 ^ 24) = 0 := by decide
  have hword : word 0 = 0 := by decide
  simp only [State.resetPage, State.clearPage, State.setRegs, resetOffs, State.setWide_two, List.map_cons, List.map_nil,
    List.foldl_cons, List.foldl_nil, hzero, hword]

theorem State.resetStream_eq : s.resetStream k = (s.sitesOf k).foldl State.clearPos (s.resetPage k) := by
  have hfold (u : State) : (u.sitesOf k).foldl State.clearPos u = (u.sitesOf k).foldl (fun (s : State) n =>
      (s.setSite n { s.site n with pos := 0, top := 0 }).setWide (pSITE n) SITE_POS0 2 0) u := rfl
  rw [← State.resetPage_sitesOf, State.resetPage_eq, hfold]
  simp only [State.resetStream]

/-! What the registers of the reset stream hold. -/

theorem State.resetPage_stat : (s.resetPage k).reg (pSTREAM k) STREAM_STAT =
    putFld (putFld (putFld (s.reg (pSTREAM k) STREAM_STAT) 23 21 0) 20 20 0) 19 16 0 := by
  rw [State.resetPage, State.clearPage_stat, State.keepsRegs_setStream _ _ _ _ _ (by decide) (by simp), State.restStream_stat]

/-- The registers of the stream's page are not those of a site's position. -/
theorem not_mem_posRegs (n : List Nat) (o : Nat) : (pSTREAM k, o) ∉ n.flatMap posRegs := by
  simp [posRegs, pSTREAM_ne_pSITE]

theorem State.resetStream_page {o : Nat} (ho : o < 256) : (s.resetStream k).reg (pSTREAM k) o = (s.resetPage k).reg (pSTREAM k) o := by
  rw [State.resetStream_eq]
  exact State.clearAll_keepsRegs _ _ _ _ ho (not_mem_posRegs k _ o)

theorem State.resetStream_stat : (s.resetStream k).reg (pSTREAM k) STREAM_STAT =
    putFld (putFld (putFld (s.reg (pSTREAM k) STREAM_STAT) 23 21 0) 20 20 0) 19 16 0 := by
  rw [State.resetStream_page _ _ (by decide), State.resetPage_stat]

theorem resetStat_fields (w : Word) :
    fld (putFld (putFld (putFld w 23 21 0) 20 20 0) 19 16 0) 23 16 = 0 ∧
      fld (putFld (putFld (putFld w 23 21 0) 20 20 0) 19 16 0) 15 0 = fld w 15 0 := by
  constructor
  · apply Nat.eq_of_testBit_eq
    intro i
    rw [testBit_fld, bit_putFld _ _ (by decide) (by decide), bit_putFld _ _ (by decide) (by decide),
      bit_putFld _ _ (by decide) (by decide)]
    by_cases hi : i < 8
    · interval_cases i <;> simp
    · simp [hi]
  · rw [fld_putFld_below _ _ (by decide) (by decide) (by decide) (by decide),
      fld_putFld_below _ _ (by decide) (by decide) (by decide) (by decide),
      fld_putFld_below _ _ (by decide) (by decide) (by decide) (by decide)]

theorem State.resetPage_keepsRegs : s.keepsRegs (s.resetPage k)
    (restRegs s k ++ ((pSTREAM k, STREAM_STAT) :: resetOffs.map fun o => (pSTREAM k, o))) :=
  ((s.restStream_keepsRegs k).trans (State.keepsRegs_setStream _ k _)).trans (State.clearPage_keepsRegs _ k) |>.mono (by simp)

/-- Registers of no page of the stream and its sites stay, and the other registers of the stream's page. -/
theorem State.resetStream_keepsRegs : s.keepsRegs (s.resetStream k)
    ((restRegs s k ++ ((pSTREAM k, STREAM_STAT) :: resetOffs.map fun o => (pSTREAM k, o))) ++ (s.sitesOf k).flatMap posRegs) := by
  rw [State.resetStream_eq]
  exact (s.resetPage_keepsRegs k).trans (State.clearAll_keepsRegs _ _)

theorem State.resetPage_with : s.resetPage k =
    { s with regs := (s.resetPage k).regs, streams := (s.resetPage k).streams } := by
  have hrest := s.restStream_with k
  generalize ht : s.resetPage k = t
  have hpage := ((s.restStream k sIDLE).setStream k {}).clearPage_with k
  rw [← State.resetPage, ht] at hpage
  generalize s.restStream k sIDLE = u at hrest hpage
  generalize u.regs = regs, u.streams = streams at hrest
  generalize t.regs = regs' at hpage
  subst hrest hpage
  rfl

theorem State.resetStream_with : s.resetStream k =
    { s with regs := (s.resetStream k).regs, streams := (s.resetStream k).streams, sites := (s.resetStream k).sites } := by
  rw [State.resetStream_eq]
  have hpage := s.resetPage_with k
  generalize s.resetPage k = u at hpage
  have hclear := State.clearAll_with (s.sitesOf k) u
  generalize List.foldl _ _ _ = t at hclear
  generalize u.regs = regs, u.streams = streams at hpage
  generalize t.regs = regs', t.sites = sites at hclear
  subst hpage hclear
  rfl

theorem State.resetStream_stream (j : Nat) : (s.resetStream k).stream j = (s.resetPage k).stream j := by
  rw [State.resetStream_eq, State.stream, State.clearAll_with, State.stream]

theorem State.resetPage_stream (j : Nat) : (s.resetPage k).stream j =
    if k.val = j then {} else (s.restStream k sIDLE).stream j := by
  rw [← State.stream_setStream, State.resetPage, State.stream, State.clearPage_with, State.stream]

theorem State.resetStream_site (n : Nat) : (s.resetStream k).site n =
    if n ∈ s.sitesOf k then { s.site n with pos := 0, top := 0 } else s.site n := by
  have hpage : (s.resetPage k).site n = s.site n := by rw [State.site, State.resetPage_with, State.site]
  rw [State.resetStream_eq, State.clearAll_site, hpage]

/-- The position of a site of the stream reads zero. -/
theorem State.resetStream_pos {n : Nat} (hn : n ∈ s.sitesOf k) : (s.resetStream k).wideR (pSITE n) SITE_POS0 2 = 0 := by
  have hzero (o : Nat) (ho : (pSITE n, o) ∈ posRegs n) : (s.resetStream k).reg (pSITE n) o = 0 := by
    rw [State.resetStream_eq]
    exact State.clearAll_zero _ _ _ _ (.inr (List.mem_flatMap.2 ⟨n, hn, ho⟩))
  simp [State.wideR, List.range_succ, wide, hzero SITE_POS0 (by simp [posRegs]), hzero SITE_POS1 (by simp [posRegs])]

theorem State.resetStream_siteSt (n : Nat) : (s.resetStream k).siteSt n =
    if n ∈ s.sitesOf k ∧ s.siteSt n = tHEDGED then tRETIRED else s.siteSt n := by
  have hclear : (s.resetStream k).reg (pSITE n) SITE_STAT = (s.restStream k sIDLE).reg (pSITE n) SITE_STAT := by
    rw [State.resetStream_eq, State.clearAll_keepsRegs _ _ _ _ (by decide), State.resetPage,
      State.clearPage_keepsRegs _ _ _ _ (by decide), State.keepsRegs_setStream _ _ _ _ _ (by decide) (by simp)]
    · simp [pSTREAM_ne_pSITE k n, (pSTREAM_ne_pSITE k n).symm]
    · simp [posRegs, show SITE_STAT ≠ SITE_POS1 by decide]
  rw [State.siteSt, State.fldR, hclear, ← State.fldR, ← State.siteSt, State.restStream_siteSt]

end

theorem State.resets {s : State} {org : Org} {w0 : Word} {k : Str} (hg : s.hostGate org.ini = none)
    (hk : fld w0 19 16 = 2 ^ k.val) (hrest : s.strSt k = sIDLE ∨ s.strSt k = sSTOPPED) (hp : fld w0 15 0 = 0) :
    exec (.execReset org w0) s = .next (s.prunePosts.resetStream k).ok := by
  have hdo : s.execDo org 4 (2 ^ k.val) (fld w0 15 0) 0 = s.prunePosts.resetStream k := by
    simp [State.execDo, bitsOf_two_pow]
  rw [← hdo, ← State.execCmd_one hg hk (by decide) (by decide) (State.execState_rest hk hrest) (by rw [hp]; rfl)]
  rfl

/-! ### O33 -/

/-- What RESET leaves of streams, sites and registers (R200). -/
theorem State.resetStream_spec (s : State) (k : Str) :
    let t := s.resetStream k
    t.fldR (pSTREAM k) STREAM_STAT 23 16 = 0 ∧
      t.fldR (pSTREAM k) STREAM_STAT 15 0 = s.fldR (pSTREAM k) STREAM_STAT 15 0 ∧
      (∀ o ∈ resetOffs, t.reg (pSTREAM k) o = 0) ∧ t.reg (pSTREAM k) STREAM_FLAG = s.reg (pSTREAM k) STREAM_FLAG ∧
      t.stream k = {} ∧
      (∀ j, j ≠ k.val → t.stream j = { s.stream j with startAt := (t.stream j).startAt } ∧
        (s.startMode j ≠ 2 ∨ s.strSt j ≠ sARMED → t.stream j = s.stream j)) ∧
      (∀ n ∈ s.sitesOf k, t.wideR (pSITE n) SITE_POS0 2 = 0 ∧ t.site n = { s.site n with pos := 0, top := 0 } ∧
        t.siteSt n = if s.siteSt n = tHEDGED then tRETIRED else s.siteSt n) ∧
      (∀ n, n ∉ s.sitesOf k → t.site n = s.site n) ∧
      (∀ p o, o < 256 → p ≠ pSTREAM k → (∀ n ∈ s.sitesOf k, p ≠ pSITE n) → t.reg p o = s.reg p o) := by
  intro t
  refine ⟨?_, ?_, fun o ho => ?_, ?_, ?_, fun j hj => ?_, fun n hn => ⟨s.resetStream_pos k hn, ?_, ?_⟩, fun n hn => ?_,
    fun p o ho hp hsites => ?_⟩
  · rw [State.fldR, s.resetStream_stat k]
    exact (resetStat_fields _).1
  · rw [State.fldR, s.resetStream_stat k]
    exact (resetStat_fields _).2
  · have h256 : ∀ o ∈ resetOffs, o < 256 := by decide
    rw [s.resetStream_page k (h256 o ho)]
    exact State.clearPage_zero _ k o ho
  · exact s.resetStream_keepsRegs k _ _ (by decide) (by simp [restRegs, resetOffs, posRegs, pSTREAM_ne_pSITE])
  · rw [s.resetStream_stream k, State.resetPage_stream, if_pos rfl]
  · have hstream : t.stream j = (s.restStream k sIDLE).stream j := by
      rw [s.resetStream_stream k, State.resetPage_stream, if_neg (Ne.symm hj)]
    obtain ⟨⟨a, ha⟩, hsame⟩ := s.restStream_stream k hj
    rw [hstream]
    exact ⟨by rw [ha], hsame⟩
  · rw [s.resetStream_site k, if_pos hn]
  · rw [s.resetStream_siteSt k]
    simp only [hn, true_and]
  · rw [s.resetStream_site k, if_neg hn]
  · refine s.resetStream_keepsRegs k _ _ ho ?_
    simp only [restRegs, posRegs, List.mem_append, List.mem_cons, List.mem_map, List.mem_flatMap, Prod.mk.injEq, not_or,
      not_exists, not_and]
    exact ⟨⟨⟨fun e => absurd e hp, fun n hn e => absurd e.symm (hsites n hn)⟩, fun e => absurd e hp,
      fun _ _ e => absurd e.symm hp⟩, fun n hn => ⟨fun e => absurd e (hsites n hn), fun e => absurd e (hsites n hn),
      List.not_mem_nil⟩⟩

/-- A command that acts after the posts are looked through leaves them as they then stand. -/
theorem State.frame_pruned_ok {s t : State} (ht : t = { s.prunePosts with regs := t.regs, streams := t.streams, sites := t.sites }) :
    t.ok = { s with regs := t.ok.regs, streams := t.ok.streams, sites := t.ok.sites,
                    abt := { s.abt with posts := s.prunePosts.abt.posts }, reply := t.ok.reply } := by
  generalize t.regs = regs, t.streams = streams, t.sites = sites at ht
  subst ht
  rfl

theorem State.frame_pruned_released {s t : State}
    (ht : t = { s.prunePosts with regs := t.regs, sites := t.sites, mons := t.mons }) :
    t.ok = { s with regs := t.ok.regs, sites := t.ok.sites, mons := t.ok.mons,
                    abt := { s.abt with posts := s.prunePosts.abt.posts }, reply := t.ok.reply } := by
  generalize t.regs = regs, t.sites = sites, t.mons = mons at ht
  subst ht
  rfl

/-- Settles O33: each EXEC passes its checks and is computed to the state it leaves; RESET is followed through the
stream's rest, its page and its sites' positions. -/
theorem jumpStopResetAndRelease : Obligations.JumpStopResetAndRelease := by
  unfold Obligations.JumpStopResetAndRelease
  intro s org w0 hg
  refine ⟨fun k hk hlo hhi => ⟨fun hp => ?_, fun hp => ?_⟩, fun k hk hrest hp => ?_, fun n hz hn hst hflt => ?_⟩
  · obtain ⟨hstile, hposts, hwith⟩ :=
      State.stilePost (s := s) (org := org) (op := .jump k) 2 ((s.prunePosts.toStile (.jump k)).fresh + 1) rfl
    exact ⟨_, _, State.jumps hg hk hlo hhi hp, rfl, hstile, hposts, hwith⟩
  · obtain ⟨hstile, hposts, hwith⟩ := State.stilePost (s := s) (org := org) (op := .stop k (bit w0 0)) 3 0 rfl
    exact ⟨_, _, State.stops hg hk hlo hhi hp, rfl, hstile, hposts, hwith⟩
  · obtain ⟨hhigh, hlow, hzero, hflag, hstream, hothers, hsites, hfree, hregs⟩ := s.prunePosts.resetStream_spec k
    exact ⟨_, State.resets hg hk hrest hp, rfl, hhigh, hlow, hzero, hflag, hstream, hothers, hsites, hfree, hregs,
      State.frame_pruned_ok (s.prunePosts.resetStream_with k)⟩
  · have hne : s.prunePosts.siteSt n ≠ tFREE := by
      rw [show s.prunePosts.siteSt n = s.siteSt n from rfl, hst]
      decide
    have hspec := State.releaseSite_spec hne
    refine ⟨_, State.releases hg hz hn hst hflt, rfl, ?_⟩
    generalize s.prunePosts.releaseSite n = t at hspec ⊢
    obtain ⟨hstat, hregs, hsite, hother, hmon, hwith⟩ := hspec
    exact ⟨hstat, hregs, hsite, hother, hmon, State.frame_pruned_released hwith⟩

end Sys2Proof.Machine

end

section

/-! ## Words of a ring in the banks (R126, R133, R134, R325) -/

namespace Sys2Proof.Machine

/-! ### Table words -/

theorem tkey_inj {p q m n i j : Nat} (hm : m < 16) (hi : i < 2 ^ 19) (hn : n < 16) (hj : j < 2 ^ 19) :
    tkey p m i = tkey q n j ↔ p = q ∧ m = n ∧ i = j := by
  unfold tkey
  omega

theorem State.tab_setTab_ne (s : State) {p q m n i j : Nat} (w : Word) (hm : m < 16) (hi : i < 2 ^ 19) (hn : n < 16)
    (hj : j < 2 ^ 19) (h : ¬ (p = q ∧ m = n ∧ i = j)) : (s.setTab p m i w).tab q n j = s.tab q n j := by
  rw [State.tab_setTab, if_neg]
  rwa [tkey_inj hm hi hn hj]

/-! ### The cells of the banks -/

/-- Two states whose region table is the same. -/
def State.sameRegions (s t : State) : Prop := ∀ i < 2 ^ 19, t.tab pSTORE 0 i = s.tab pSTORE 0 i

section
variable {s t : State} (h : s.sameRegions t)
include h

theorem State.sameRegions.banks {g : Nat} (hg : g < 16) : t.regionBanks g = s.regionBanks g := by
  unfold State.regionBanks
  refine List.filter_congr fun b hb => ?_
  rw [List.mem_range] at hb
  rw [h _ (by omega)]

theorem State.sameRegions.first {g : Nat} (hg : g < 16) : t.regionFirst g = s.regionFirst g := by
  rw [State.regionFirst, h _ (by omega), State.regionFirst]

theorem State.sameRegions.en {g : Nat} (hg : g < 16) : t.regionEn g = s.regionEn g := by
  rw [State.regionEn, h _ (by omega), State.regionEn]

theorem State.sameRegions.rows {g : Nat} (hg : g < 16) : t.regionRows g = s.regionRows g := by
  rw [State.regionRows, h _ (by omega), State.regionRows]

theorem State.sameRegions.word {g : Nat} (hg : g < 16) (r : Nat) : t.regionWord g r = s.regionWord g r := by
  simp only [State.regionWord, h.banks hg, h.first hg, h.en hg, h.rows hg]

theorem State.sameRegions.keepCell (b row j : Nat) : t.keepCell b row j = s.keepCell b row j := by
  simp only [State.keepCell, h.banks (show 14 < 16 by decide), h.first (show 14 < 16 by decide), h.en (show 14 < 16 by decide),
    h.rows (show 14 < 16 by decide)]

end

theorem State.keepCell_lt {s : State} {b row j t i : Nat} (h : s.keepCell b row j = some (t, i)) : t < 2 ∧ i < 36864 := by
  unfold State.keepCell at h
  split at h
  · simp only at h
    split at h
    · exact absurd h (by simp)
    · split at h
      · simp only [Option.some.injEq, Prod.mk.injEq] at h
        omega
      · split at h
        · simp only [Option.some.injEq, Prod.mk.injEq] at h
          omega
        · exact absurd h (by simp)
  · exact absurd h (by simp)

/-- Where a cell lies in a calibration table: its row is one of region KEEP, its bank one of the region's. -/
theorem State.keepCell_place {s : State} {b row j t i : Nat} (h : s.keepCell b row j = some (t, i)) :
    ∃ n, s.regionFirst 14 ≤ row ∧ (s.regionBanks 14)[n]? = some b ∧ n < (s.regionBanks 14).length ∧
      4 * ((row - s.regionFirst 14) * (s.regionBanks 14).length + n) + j = i + 6144 + 36864 * t := by
  unfold State.keepCell at h
  split at h
  · next hrow =>
    simp only [Bool.and_eq_true, decide_eq_true_eq] at hrow
    simp only at h
    split at h
    · exact absurd h (by simp)
    · next n hn =>
      rw [List.findIdx?_eq_some_iff_getElem] at hn
      obtain ⟨hlt, hb, -⟩ := hn
      rw [beq_iff_eq] at hb
      refine ⟨n, hrow.1.2, by rw [List.getElem?_eq_getElem hlt, hb], hlt, ?_⟩
      split at h
      · simp only [Option.some.injEq, Prod.mk.injEq] at h
        omega
      · split at h
        · simp only [Option.some.injEq, Prod.mk.injEq] at h
          omega
        · exact absurd h (by simp)
  · exact absurd h (by simp)

theorem State.keepCell_inj {s : State} {b row j b' row' j' : Nat} {x : Nat × Nat} (hj : j < 4) (hj' : j' < 4)
    (h : s.keepCell b row j = some x) (h' : s.keepCell b' row' j' = some x) : b = b' ∧ row = row' ∧ j = j' := by
  obtain ⟨t, i⟩ := x
  obtain ⟨n, hrow, hb, hn, hp⟩ := State.keepCell_place h
  obtain ⟨n', hrow', hb', hn', hp'⟩ := State.keepCell_place h'
  have hpos : (row - s.regionFirst 14) * (s.regionBanks 14).length + n =
      (row' - s.regionFirst 14) * (s.regionBanks 14).length + n' := by omega
  have hnn : n = n' := by
    have hmod := congrArg (· % (s.regionBanks 14).length) hpos
    simpa only [Nat.mul_add_mod_of_lt hn, Nat.mul_add_mod_of_lt hn'] using hmod
  subst hnn
  have hlen : 0 < (s.regionBanks 14).length := by omega
  have hrr : row - s.regionFirst 14 = row' - s.regionFirst 14 := Nat.eq_of_mul_eq_mul_right hlen (by omega)
  exact ⟨by simpa using hb.symm.trans hb', by omega, by omega⟩

theorem bkey_inj {b row j b' row' j' : Nat} (hrow : row < 21846) (hj : j < 4) (hrow' : row' < 21846) (hj' : j' < 4)
    (h : bkey b row j = bkey b' row' j') : b = b' ∧ row = row' ∧ j = j' := by
  unfold bkey at h
  omega

theorem State.setCell_sameRegions (s : State) (b row j : Nat) (w : Word) : s.sameRegions (s.setCell b row j w) := by
  intro i hi
  unfold State.setCell
  split
  · next t k hk =>
    obtain ⟨ht, hk⟩ := State.keepCell_lt hk
    exact s.tab_setTab_ne w (by omega) (by omega) (by decide) hi (by simp [pGLEAN, pSTORE])
  · rfl

/-- A word of a bank after one is stored (R126, R133). -/
theorem State.cell_setCell (s : State) {b row j b' row' j' : Nat} (w : Word) (hrow : row < 21846) (hj : j < 4)
    (hrow' : row' < 21846) (hj' : j' < 4) :
    (s.setCell b row j w).cell b' row' j' = if (b, row, j) = (b', row', j') then w else s.cell b' row' j' := by
  rw [State.cell, (s.setCell_sameRegions b row j w).keepCell]
  unfold State.setCell
  cases hk : s.keepCell b row j with
  | some x =>
    obtain ⟨t, i⟩ := x
    obtain ⟨ht, hi⟩ := State.keepCell_lt hk
    cases hk' : s.keepCell b' row' j' with
    | some x' =>
      obtain ⟨t', i'⟩ := x'
      obtain ⟨ht', hi'⟩ := State.keepCell_lt hk'
      have hcell : s.cell b' row' j' = s.tab pGLEAN t' i' := by rw [State.cell, hk']
      simp only [hcell]
      rw [State.tab_setTab]
      refine if_congr ?_ rfl rfl
      rw [tkey_inj (by omega) (by omega) (by omega) (by omega), Prod.mk.injEq, Prod.mk.injEq]
      constructor
      · rintro ⟨-, rfl, rfl⟩
        exact State.keepCell_inj hj hj' hk hk'
      · rintro ⟨rfl, rfl, rfl⟩
        rw [hk, Option.some.injEq, Prod.mk.injEq] at hk'
        exact ⟨rfl, hk'⟩
    | none =>
      have hne : (b, row, j) ≠ (b', row', j') := by
        intro e
        rw [Prod.mk.injEq, Prod.mk.injEq] at e
        obtain ⟨rfl, rfl, rfl⟩ := e
        rw [hk] at hk'
        exact absurd hk' (by simp)
      rw [if_neg hne, State.cell, hk']
      rfl
  | none =>
    cases hk' : s.keepCell b' row' j' with
    | some x' =>
      have hne : (b, row, j) ≠ (b', row', j') := by
        intro e
        rw [Prod.mk.injEq, Prod.mk.injEq] at e
        obtain ⟨rfl, rfl, rfl⟩ := e
        rw [hk] at hk'
        exact absurd hk' (by simp)
      rw [if_neg hne, State.cell, hk']
      rfl
    | none =>
      have hcell : s.cell b' row' j' = s.bankMem.get zeroDefault (bkey b' row' j') := by rw [State.cell, hk']
      simp only [hcell]
      rw [Store.get_put]
      refine if_congr ⟨fun e => ?_, fun e => ?_⟩ rfl rfl
      · obtain ⟨rfl, rfl, rfl⟩ := bkey_inj hrow hj hrow' hj' e
        rfl
      · rw [Prod.mk.injEq, Prod.mk.injEq] at e
        obtain ⟨rfl, rfl, rfl⟩ := e
        rfl

end Sys2Proof.Machine

end

section

/-! ## A record in its ring (R325, R329) -/

namespace Sys2Proof.Machine

/-! ### The words of region CAPTURE -/

/-- The cell of pattern word `p` of region CAPTURE, where the region has one. -/
def State.areaCell (s : State) (p : Nat) : Option (Nat × Nat × Nat) := (s.regionWord 12 (p / 4)).map fun x => (x.1, x.2, p % 4)

theorem State.regionWord_eq_some {s : State} {g r b row : Nat} (h : s.regionWord g r = some (b, row)) :
    (s.regionBanks g)[r % (s.regionBanks g).length]? = some b ∧ r < (s.regionBanks g).length * s.regionRows g ∧
      row = s.regionFirst g + r / (s.regionBanks g).length := by
  unfold State.regionWord at h
  simp only at h
  split at h
  · next b' hb =>
    split at h
    · next hr =>
      simp only [Option.some.injEq, Prod.mk.injEq] at h
      obtain ⟨rfl, rfl⟩ := h
      exact ⟨hb, hr.2, rfl⟩
    · exact absurd h (by simp)
  · exact absurd h (by simp)

theorem State.regionBanks_nodup (s : State) (g : Nat) : (s.regionBanks g).Nodup := List.nodup_range.filter _

theorem State.regionWord_inj {s : State} {g r r' : Nat} {x : Nat × Nat} (h : s.regionWord g r = some x)
    (h' : s.regionWord g r' = some x) : r = r' := by
  obtain ⟨b, row⟩ := x
  obtain ⟨hb, hr, hrow⟩ := State.regionWord_eq_some h
  obtain ⟨hb', -, hrow'⟩ := State.regionWord_eq_some h'
  have hlen : 0 < (s.regionBanks g).length := Nat.pos_of_ne_zero fun e => by rw [e, Nat.zero_mul] at hr; omega
  have hmod : r % (s.regionBanks g).length = r' % (s.regionBanks g).length := by
    refine (List.Nodup.getElem_inj_iff (s.regionBanks_nodup g) (hi := Nat.mod_lt _ hlen) (hj := Nat.mod_lt _ hlen)).1 ?_
    rw [List.getElem?_eq_getElem (Nat.mod_lt _ hlen), Option.some.injEq] at hb hb'
    rw [hb, hb']
  have hdiv : r / (s.regionBanks g).length = r' / (s.regionBanks g).length := by omega
  rw [← Nat.div_add_mod r (s.regionBanks g).length, ← Nat.div_add_mod r' (s.regionBanks g).length, hmod, hdiv]

theorem State.regionWord_row {s : State} {g r b row : Nat} (h : s.regionWord g r = some (b, row)) :
    row < s.regionFirst g + s.regionRows g := by
  obtain ⟨-, hr, rfl⟩ := State.regionWord_eq_some h
  exact Nat.add_lt_add_left (Nat.div_lt_of_lt_mul hr) _

theorem State.areaCell_eq_some {s : State} {p b row j : Nat} (h : s.areaCell p = some (b, row, j)) :
    s.regionWord 12 (p / 4) = some (b, row) ∧ j = p % 4 := by
  obtain ⟨x, hx, e⟩ := Option.map_eq_some_iff.1 h
  rw [Prod.mk.injEq, Prod.mk.injEq] at e
  obtain ⟨rfl, rfl, rfl⟩ := e
  exact ⟨hx, rfl⟩

theorem State.areaCell_inj {s : State} {p q : Nat} {c : Nat × Nat × Nat} (h : s.areaCell p = some c) (h' : s.areaCell q = some c) :
    p = q := by
  obtain ⟨b, row, j⟩ := c
  obtain ⟨hw, hj⟩ := State.areaCell_eq_some h
  obtain ⟨hw', hj'⟩ := State.areaCell_eq_some h'
  have := State.regionWord_inj hw hw'
  omega

/-! ### Words written to the region -/

/-- What a write to the banks may change: their words, those of page GLEAN's tables among them (R126, R133). -/
def State.wroteBanks (s t : State) : Prop :=
  (∀ p m i, i < 2 ^ 19 → m < 16 → p ≠ pGLEAN → t.tab p m i = s.tab p m i) ∧ t = { s with tabs := t.tabs, bankMem := t.bankMem }

theorem State.wroteBanks.refl (s : State) : s.wroteBanks s := ⟨fun _ _ _ _ _ _ => rfl, rfl⟩

theorem State.wroteBanks.trans {s t u : State} (h : s.wroteBanks t) (h' : t.wroteBanks u) : s.wroteBanks u := by
  obtain ⟨htab, e⟩ := h
  obtain ⟨htab', e'⟩ := h'
  refine ⟨fun p m i hi hm hp => (htab' p m i hi hm hp).trans (htab p m i hi hm hp), ?_⟩
  generalize t.tabs = tabs, t.bankMem = mem at e
  generalize u.tabs = tabs', u.bankMem = mem' at e'
  subst e e'
  rfl

theorem State.wroteBanks.sameRegions {s t : State} (h : s.wroteBanks t) : s.sameRegions t :=
  fun i hi => h.1 _ _ i hi (by decide) (by simp [pSTORE, pGLEAN])

theorem State.setCell_wroteBanks (s : State) (b row j : Nat) (w : Word) : s.wroteBanks (s.setCell b row j w) := by
  unfold State.setCell
  split
  · next t k hk =>
    obtain ⟨ht, hk⟩ := State.keepCell_lt hk
    exact ⟨fun p m i hi hm hp => s.tab_setTab_ne w (by omega) (by omega) hm hi fun e => hp e.1.symm, rfl⟩
  · exact ⟨fun _ _ _ _ _ _ => rfl, rfl⟩

theorem State.writeRegion_wroteBanks (s : State) (g p : Nat) (w : Word) : s.wroteBanks (s.writeRegion g p w).2 := by
  unfold State.writeRegion
  split
  · exact .refl s
  · split
    · exact .refl s
    · exact s.setCell_wroteBanks ..

/-- An access that is accepted stores its word in the cell of its place. -/
theorem State.writeRegion_accepted {s : State} {p : Nat} {w : Word} (h : (s.writeRegion 12 p w).1 = true) :
    ∃ b row, s.areaCell p = some (b, row, p % 4) ∧ (s.writeRegion 12 p w).2 = s.setCell b row (p % 4) w := by
  unfold State.writeRegion at h ⊢
  unfold State.areaCell
  split at h
  · exact absurd h (by simp)
  · next b row hw =>
    split at h
    · exact absurd h (by simp)
    · next hf => exact ⟨b, row, by rw [hw]; rfl, by simp [hf]⟩

/-- Whether an access is accepted: the region has the place, and its bank is not fenced (R127, R134). -/
theorem State.writeRegion_fst (s : State) (g p : Nat) (w : Word) :
    (s.writeRegion g p w).1 = (s.regionWord g (p / 4)).any fun x => !(s.bank x.1).fenced := by
  unfold State.writeRegion
  split
  · next h => rw [h]; rfl
  · next b row h =>
    rw [h]
    split
    · next hf => simp [hf]
    · next hf => simp [hf]

theorem State.wroteBanks.writeRegion {s t : State} (h : s.wroteBanks t) {g : Nat} (hg : g < 16) (p : Nat) (w w' : Word) :
    (t.writeRegion g p w).1 = (s.writeRegion g p w').1 := by
  have hbank (b : Nat) : t.bank b = s.bank b := by rw [State.bank, h.2, State.bank]
  simp only [State.writeRegion_fst, h.sameRegions.word hg, hbank]

/-! ### The words of a record, one after the other -/

/-- The first `n` words of a record, in the ring of `len` words from `base` on. -/
def State.ringFill (s : State) (base len wr : Nat) (ws : List Word) (n : Nat) : State :=
  (List.range n).foldl (fun (s : State) i => (s.writeRegion 12 (4 * base + (wr + i) % len) (ws.getD i 0)).2) s

theorem State.ringFill_succ (s : State) (base len wr : Nat) (ws : List Word) (n : Nat) : s.ringFill base len wr ws (n + 1) =
    ((s.ringFill base len wr ws n).writeRegion 12 (4 * base + (wr + n) % len) (ws.getD n 0)).2 := by
  rw [State.ringFill, List.range_succ, List.foldl_append]
  rfl

theorem State.ringFill_wroteBanks (s : State) (base len wr : Nat) (ws : List Word) (n : Nat) :
    s.wroteBanks (s.ringFill base len wr ws n) := by
  induction n with
  | zero => exact .refl s
  | succ n ih =>
    rw [State.ringFill_succ]
    exact ih.trans (State.writeRegion_wroteBanks ..)

theorem ringPos_inj {len wr i n : Nat} (hi : i < len) (hn : n < len) (h : (wr + i) % len = (wr + n) % len) : i = n :=
  Nat.ModEq.eq_of_lt_of_lt (Nat.ModEq.add_left_cancel' wr h) hi hn

section
variable {s : State} {base len wr : Nat} {ws : List Word} {n : Nat} (hn : n ≤ len)
  (hacc : ∀ i < n, (s.writeRegion 12 (4 * base + (wr + i) % len) 0).1 = true)
  (hrows : s.regionFirst 12 + s.regionRows 12 ≤ 21846)
include hn hacc hrows

/-- A word of the banks after a record is written: of the record at its places, as it was elsewhere. -/
theorem State.cell_ringFill {b row j : Nat} (hrow : row < 21846) (hj : j < 4) :
    (∀ i < n, s.areaCell (4 * base + (wr + i) % len) = some (b, row, j) →
      (s.ringFill base len wr ws n).cell b row j = ws.getD i 0) ∧
    ((∀ i < n, s.areaCell (4 * base + (wr + i) % len) ≠ some (b, row, j)) →
      (s.ringFill base len wr ws n).cell b row j = s.cell b row j) := by
  induction n with
  | zero => exact ⟨fun i hi => absurd hi (Nat.not_lt_zero i), fun _ => rfl⟩
  | succ n ih =>
    obtain ⟨ihin, ihout⟩ := ih (by omega) fun i hi => hacc i (by omega)
    have hfill := s.ringFill_wroteBanks base len wr ws n
    have hgood : ((s.ringFill base len wr ws n).writeRegion 12 (4 * base + (wr + n) % len) (ws.getD n 0)).1 = true := by
      rw [hfill.writeRegion (by decide) _ _ 0]
      exact hacc n (by omega)
    obtain ⟨b0, row0, hcell, hwrite⟩ := State.writeRegion_accepted hgood
    have hcell' : s.areaCell (4 * base + (wr + n) % len) = some (b0, row0, (4 * base + (wr + n) % len) % 4) := by
      rwa [State.areaCell, hfill.sameRegions.word (by decide)] at hcell
    have hrow0 : row0 < 21846 := by
      have := State.regionWord_row (State.areaCell_eq_some hcell').1
      omega
    have hsucc : (s.ringFill base len wr ws (n + 1)).cell b row j =
        if (b0, row0, (4 * base + (wr + n) % len) % 4) = (b, row, j) then ws.getD n 0
        else (s.ringFill base len wr ws n).cell b row j := by
      rw [State.ringFill_succ, hwrite, State.cell_setCell _ _ hrow0 (Nat.mod_lt _ (by decide)) hrow hj]
    rw [hsucc]
    constructor
    · intro i hi hplace
      split
      · next e =>
        rw [e] at hcell'
        have hplaces := State.areaCell_inj hcell' hplace
        rw [ringPos_inj (wr := wr) (show n < len by omega) (show i < len by omega) (by omega)]
      · next e =>
        refine ihin i (lt_of_le_of_ne (by omega) fun e' => e ?_) hplace
        subst e'
        rw [hcell', Option.some.injEq] at hplace
        exact hplace
    · intro hother
      rw [if_neg fun e => hother n (by omega) (by rw [hcell', e])]
      exact ihout fun i hi => hother i (by omega)

end

end Sys2Proof.Machine

end

section

/-! ## Capture units: their words, flags and records (R325, R333, R334) -/

namespace Sys2Proof.Machine

/-! ### Frames of a unit -/

section
variable {s t v : State} {u : Nat} {ws : List Nat} {ex ex' : List (Nat × Nat)}

theorem State.keepsButRing.trans (h : s.keepsButRing t u ws ex) (h' : t.keepsButRing v u ws ex') :
    s.keepsButRing v u ws (ex ++ ex') := by
  obtain ⟨hreg, htab⟩ := h
  obtain ⟨hreg', htab'⟩ := h'
  refine ⟨(hreg.trans hreg').mono ?_, fun p m i hi hm hp hne => (htab' p m i hi hm hp hne).trans (htab p m i hi hm hp hne)⟩
  intro x hx
  simp only [List.mem_append] at hx ⊢
  tauto

theorem State.keepsButRing.mono (h : s.keepsButRing t u ws ex) (hs : ex ⊆ ex') : s.keepsButRing t u ws ex' :=
  ⟨h.1.mono (List.append_subset.2 ⟨List.subset_append_left .., fun _ hx => List.mem_append_right _ (hs hx)⟩), h.2⟩

theorem State.keepsButUnit.trans (h : s.keepsButUnit t u ws ex) (h' : t.keepsButUnit v u ws ex') :
    s.keepsButUnit v u ws (ex ++ ex') :=
  ⟨h.1.trans h'.1, fun m i hi hm => (h'.2 m i hi hm).trans (h.2 m i hi hm)⟩

theorem State.keepsButUnit.mono (h : s.keepsButUnit t u ws ex) (hs : ex ⊆ ex') : s.keepsButUnit t u ws ex' :=
  ⟨h.1.mono hs, h.2⟩

/-- A change of registers alone keeps every table. -/
theorem State.keepsButUnit_of_regs (u : Nat) (ws : List Nat) (hr : s.keepsRegs t ex) (ht : t.tabs = s.tabs) :
    s.keepsButUnit t u ws ex :=
  ⟨⟨hr.mono (List.subset_append_right ..), fun _ _ _ _ _ _ _ => by rw [State.tab, ht, State.tab]⟩,
    fun _ _ _ _ => by rw [State.tab, ht, State.tab]⟩

/-- A change of neither registers nor tables. -/
theorem State.keepsButUnit_of_same (u : Nat) (ws : List Nat) (hr : t.regs = s.regs) (ht : t.tabs = s.tabs) :
    s.keepsButUnit t u ws [] :=
  State.keepsButUnit_of_regs u ws (fun _ _ _ _ => by rw [State.reg, hr, State.reg]) ht

/-- The words of a unit that a frame lets be. -/
theorem State.keepsButRing.acqW (h : s.keepsButRing t u [14] ex) {i : Nat} (hu : u < 68) (hi : i < 14)
    (hex : (pACQ u, 0x10 + i) ∉ ex) : t.acqW u i = s.acqW u i := by
  obtain ⟨hreg, htab⟩ := h
  unfold State.acqW
  split
  · next hu64 =>
    refine hreg _ _ (by omega) ?_
    simp [hu64, hex]
    omega
  · refine htab _ _ _ (by omega) (by decide) (by simp [pACQG, pGLEAN]) ?_
    simp
    omega

theorem State.keepsButRing.acqF (h : s.keepsButRing t u [14] ex) {hi lo : Nat} (hu : u < 68) (hex : (pACQ u, 0x10 + 0) ∉ ex) :
    t.acqF u hi lo = s.acqF u hi lo := by rw [State.acqF, h.acqW hu (by decide) hex, State.acqF]

end

/-! ### Words, flags and state of a unit -/

theorem State.acq_setAcq (s : State) (u x : Nat) (v : AcqUnit) : (s.setAcq u v).acq x = if u = x then v else s.acq x := by
  simp [State.acq, State.setAcq, Store.get_put]

theorem State.oct_setOct (s : State) (u x : Nat) (v : Octet) : (s.setOct u v).oct x = if u = x then v else s.oct x := by
  simp [State.oct, State.setOct, Store.get_put]

theorem State.setAcq_keeps (s : State) (u : Nat) (v : AcqUnit) : s.keepsButUnit (s.setAcq u v) u [14] [] :=
  State.keepsButUnit_of_same u [14] rfl rfl

section
variable (s : State) {u : Nat}

theorem State.setAcqW_with (i : Nat) (w : Word) :
    s.setAcqW u i w = { s with regs := (s.setAcqW u i w).regs, tabs := (s.setAcqW u i w).tabs } := by
  unfold State.setAcqW
  split <;> rfl

theorem State.acqW_setAcqW_self (w : Word) : (s.setAcqW u 14 w).acqW u 14 = w := by
  unfold State.setAcqW State.acqW
  split
  · exact State.reg_setReg_self ..
  · exact State.tab_setTab_self ..

theorem State.setAcqW_keeps (hu : u < 68) (w : Word) : s.keepsButUnit (s.setAcqW u 14 w) u [14] [] := by
  unfold State.setAcqW
  split
  · next h =>
    refine ⟨⟨?_, fun _ _ _ _ _ _ _ => rfl⟩, fun _ _ _ _ => rfl⟩
    have hkeeps := s.keepsRegs_setReg (p := pACQ u) (o := 0x10 + 14) (by decide) w
    simpa [h] using hkeeps
  · next h =>
    refine ⟨⟨fun _ _ _ _ => rfl, fun p m i hi hm hp hne => ?_⟩, fun m i hi hm => ?_⟩
    · refine s.tab_setTab_ne w (by decide) (by omega) hm hi fun e => hne ?_
      obtain ⟨rfl, rfl, rfl⟩ := e
      exact ⟨by omega, rfl, rfl, 14, by simp, rfl⟩
    · exact s.tab_setTab_ne w (by decide) (by omega) hm hi fun e => absurd e.1 (by decide)

/-- WINNO and the state of a unit, written one after the other, are what its status word tells. -/
theorem State.acqStat_set {n st : Nat} (hst : st < 4) :
    let t := (s.setAcqW u 14 (putFld (s.acqW u 14) 21 10 n)).setAcqSt u st
    t.acqSt u = st ∧ fld (t.acqW u 14) 21 10 = n % 4096 := by
  intro t
  have hword : t.acqW u 14 = putFld (putFld (s.acqW u 14) 21 10 n) 23 22 st := by
    show ((s.setAcqW u 14 _).setAcqW u 14 _).acqW u 14 = _
    rw [State.acqW_setAcqW_self, State.acqW_setAcqW_self]
  rw [State.acqSt, hword]
  refine ⟨?_, ?_⟩
  · rw [fld_putFld_self _ _ (by decide) (by decide)]
    exact Nat.mod_eq_of_lt hst
  · rw [fld_putFld_below _ _ (by decide) (by decide) (by decide) (by decide), fld_putFld_self _ _ (by decide) (by decide)]
    rfl

theorem State.acqSt_setAcqSt {st : Nat} (hst : st < 4) :
    (s.setAcqSt u st).acqSt u = st ∧ fld ((s.setAcqSt u st).acqW u 14) 21 10 = fld (s.acqW u 14) 21 10 := by
  have hword : (s.setAcqSt u st).acqW u 14 = putFld (s.acqW u 14) 23 22 st := s.acqW_setAcqW_self _
  rw [State.acqSt, hword]
  refine ⟨?_, ?_⟩
  · rw [fld_putFld_self _ _ (by decide) (by decide)]
    exact Nat.mod_eq_of_lt hst
  · rw [fld_putFld_below _ _ (by decide) (by decide) (by decide) (by decide)]

end

/-- The page, register and bit of a flag of ACQ_FLAG at bit `b`, at bit `g` of its six in ACQG_GFLAG (R334). -/
def acqFlagBit (u b g : Nat) : Nat × Nat × Nat :=
  if u < 64 then (acqPage u, ACQ_FLAG, b) else (acqPage u, ACQG_GFLAG, 6 * (u - 64) + g)

section
variable (s : State) {u : Nat} {b g : Nat} (hb : (b = 19 ∧ g = 2) ∨ (b = 23 ∧ g = 5))
include hb

theorem State.acqFlag_eq : s.acqFlag u b = s.setBit (acqFlagBit u b g).1 (acqFlagBit u b g).2.1 (acqFlagBit u b g).2.2 true := by
  unfold State.acqFlag acqFlagBit acqPage
  by_cases hu : u < 64
  · simp only [hu, if_true]
  · rcases hb with ⟨rfl, rfl⟩ | ⟨rfl, rfl⟩ <;> simp [hu]

theorem acqFlagBit_lt : (acqFlagBit u b g).2.1 < 256 ∧ (u < 68 → (acqFlagBit u b g).2.2 < 24) := by
  unfold acqFlagBit
  split
  · exact ⟨show ACQ_FLAG < 256 by decide, fun _ => show b < 24 by omega⟩
  · exact ⟨show ACQG_GFLAG < 256 by decide, fun hu => show 6 * (u - 64) + g < 24 by omega⟩

theorem State.acqFlag_keeps : s.keepsButUnit (s.acqFlag u b) u [14] [((acqFlagBit u b g).1, (acqFlagBit u b g).2.1)] := by
  rw [s.acqFlag_eq hb]
  exact State.keepsButUnit_of_regs u [14] (s.keepsRegs_setReg (acqFlagBit_lt hb).1 _) rfl

theorem State.acqFlag_bit (hu : u < 68) :
    (s.acqFlag u b).bitR (acqFlagBit u b g).1 (acqFlagBit u b g).2.1 (acqFlagBit u b g).2.2 = true := by
  rw [s.acqFlag_eq hb, State.bitR, State.setBit, State.setFld, State.reg_setReg_self,
    bit_putFld _ _ (Nat.le_refl _) ((acqFlagBit_lt hb).2 hu), if_pos ⟨Nat.le_refl _, Nat.le_refl _⟩]
  simp

theorem State.acqFlag_with : s.acqFlag u b = { s with regs := (s.acqFlag u b).regs } := by
  rw [s.acqFlag_eq hb]
  rfl

end

/-! ### A record is written to the ring of its unit -/

theorem State.ringCell_eq (s : State) (r i : Nat) : s.ringCell r i = s.areaCell (4 * s.ringBase r + i % (4 * s.ringSize r)) := rfl

theorem State.wroteBanks.ringBase {s t : State} (h : s.wroteBanks t) {u : Nat} (hu : u < 68) : t.ringBase u = s.ringBase u := by
  have hreg (p o : Nat) : t.reg p o = s.reg p o := by rw [State.reg, h.2, State.reg]
  rw [State.ringBase, State.ringBase, if_pos hu, if_pos hu, State.acqW, State.acqW, hreg,
    h.1 _ _ _ (by omega) (by decide) (by simp [pACQG, pGLEAN])]

section
variable (s : State) {u : Nat} (hu : u < 68) (ws : List Word)
include hu

/-- `ringFill` as `ringPut` writes it: the ring stays where it is. -/
theorem State.ringFill_eq (len wr n : Nat) : (List.range n).foldl (fun (s : State) i =>
    (s.writeRegion 12 (4 * s.ringBase u + (wr + i) % len) (ws.getD i 0)).2) s = s.ringFill (s.ringBase u) len wr ws n := by
  induction n with
  | zero => rfl
  | succ n ih =>
    rw [List.range_succ, List.foldl_append, ih, State.ringFill_succ]
    simp only [List.foldl_cons, List.foldl_nil, (s.ringFill_wroteBanks _ len wr ws n).ringBase hu]

/-- The state in which a record's words stand in the ring. -/
theorem State.ringPut_eq : s.ringPut u u ws =
    let f := s.ringFill (s.ringBase u) (4 * s.ringSize u) (s.acq u).wr ws ws.length
    { (f.setAcq u { s.acq u with wr := ((s.acq u).wr + ws.length) % (4 * s.ringSize u) }).inc pACQG ACQG_RECS with
      recs := s.recs ++ [{ kind := 1, unit := u, words := ws, place := (s.acq u).wr }] } := by
  have hfill := s.ringFill_wroteBanks (s.ringBase u) (4 * s.ringSize u) (s.acq u).wr ws ws.length
  have hacq : (s.ringFill (s.ringBase u) (4 * s.ringSize u) (s.acq u).wr ws ws.length).acq u = s.acq u := by
    rw [State.acq, hfill.2, State.acq]
  have hrecs : (s.ringFill (s.ringBase u) (4 * s.ringSize u) (s.acq u).wr ws ws.length).recs = s.recs := by rw [hfill.2]
  have hwr : s.ringWr u = (s.acq u).wr := if_pos hu
  have hput : s.ringPut u u ws =
      let f := (List.range ws.length).foldl (fun (x : State) i => (x.writeRegion 12 (4 * x.ringBase u +
        (s.ringWr u + i) % (4 * s.ringSize u)) (ws.getD i 0)).2) s
      { (f.setRingWr u ((s.ringWr u + ws.length) % (4 * s.ringSize u))).inc pACQG ACQG_RECS with
        recs := (f.setRingWr u ((s.ringWr u + ws.length) % (4 * s.ringSize u))).recs ++
          [{ kind := 1, unit := u, words := ws, place := s.ringWr u }] } := rfl
  rw [hput, hwr, s.ringFill_eq hu]
  simp only [State.setRingWr, if_pos hu, hacq, ← hrecs]
  rfl

theorem State.ringPut_acq (x : Nat) : (s.ringPut u u ws).acq x =
    if u = x then { s.acq u with wr := ((s.acq u).wr + ws.length) % (4 * s.ringSize u) } else s.acq x := by
  have hfill := s.ringFill_wroteBanks (s.ringBase u) (4 * s.ringSize u) (s.acq u).wr ws ws.length
  rw [s.ringPut_eq hu]
  generalize s.ringFill _ _ _ _ _ = f at hfill
  refine (State.acq_setAcq ..).trans ?_
  rw [show f.acq x = s.acq x by rw [State.acq, hfill.2, State.acq]]

theorem State.ringPut_keeps : s.keepsButRing (s.ringPut u u ws) u [14] [(pACQG, ACQG_RECS)] := by
  have hfill := s.ringFill_wroteBanks (s.ringBase u) (4 * s.ringSize u) (s.acq u).wr ws ws.length
  rw [s.ringPut_eq hu]
  generalize s.ringFill _ _ _ _ _ = f at hfill
  have hregs : f.regs = s.regs := by rw [hfill.2]
  refine ⟨fun p o ho hne => ?_, fun p m i hi hm hp _ => hfill.1 p m i hi hm hp⟩
  rw [List.mem_append, not_or] at hne
  have hf : f.reg p o = s.reg p o := by rw [State.reg, hregs, State.reg]
  rw [← hf]
  exact f.keepsRegs_inc (by decide) 1 p o ho hne.2

theorem State.ringPut_recs : (s.ringPut u u ws).recs =
    s.recs ++ [{ kind := 1, unit := u, words := ws, place := (s.acq u).wr }] := by
  rw [s.ringPut_eq hu]

theorem State.ringPut_count : (s.ringPut u u ws).reg pACQG ACQG_RECS = s.reg pACQG ACQG_RECS + 1 := by
  have hfill := s.ringFill_wroteBanks (s.ringBase u) (4 * s.ringSize u) (s.acq u).wr ws ws.length
  rw [s.ringPut_eq hu]
  generalize s.ringFill _ _ _ _ _ = f at hfill
  refine (State.reg_setReg_self ..).trans ?_
  rw [show (f.setAcq u _).reg pACQG ACQG_RECS = s.reg pACQG ACQG_RECS by
    show f.reg pACQG ACQG_RECS = _
    rw [State.reg, hfill.2, State.reg]]
  rfl

theorem State.ringPut_with : s.ringPut u u ws =
    { s with regs := (s.ringPut u u ws).regs, tabs := (s.ringPut u u ws).tabs, bankMem := (s.ringPut u u ws).bankMem,
             units := (s.ringPut u u ws).units, recs := (s.ringPut u u ws).recs } := by
  have hfill := s.ringFill_wroteBanks (s.ringBase u) (4 * s.ringSize u) (s.acq u).wr ws ws.length
  rw [s.ringPut_eq hu]
  generalize s.ringFill _ _ _ _ _ = f at hfill
  obtain ⟨-, e⟩ := hfill
  generalize f.tabs = tabs, f.bankMem = mem at e
  subst e
  rfl

theorem State.ringPut_holds (hfree : ws.length ≤ s.ringFree u) (hfails : s.ringFails u ws.length = false) :
    s.ringHolds (s.ringPut u u ws) u ws := by
  have hwr : s.ringWr u = (s.acq u).wr := if_pos hu
  have hlen : ws.length ≤ 4 * s.ringSize u := by
    unfold State.ringFree at hfree
    omega
  have hacc : ∀ i < ws.length, (s.writeRegion 12 (4 * s.ringBase u + ((s.acq u).wr + i) % (4 * s.ringSize u)) 0).1 = true := by
    intro i hi
    rw [State.ringFails, List.any_eq_false] at hfails
    simpa [hwr] using hfails i (List.mem_range.2 hi)
  intro hrows
  have hcell (b row j : Nat) : (s.ringPut u u ws).cell b row j =
      (s.ringFill (s.ringBase u) (4 * s.ringSize u) (s.acq u).wr ws ws.length).cell b row j := by
    rw [s.ringPut_eq hu]
    rfl
  constructor
  · intro i hi b row j hplace
    rw [State.ringCell_eq, hwr] at hplace
    obtain ⟨hword, hj⟩ := State.areaCell_eq_some hplace
    have hrow := State.regionWord_row hword
    rw [hcell]
    exact (State.cell_ringFill hlen hacc hrows (by omega) (by omega)).1 i hi hplace
  · intro b row j _ hrow hj hother
    rw [hcell]
    refine (State.cell_ringFill hlen hacc hrows hrow hj).2 fun i hi => ?_
    have := hother i hi
    rwa [State.ringCell_eq, hwr] at this

end

end Sys2Proof.Machine

end

section

/-! ## A window closes (R318, R323 to R325) -/

namespace Sys2Proof.Machine

/-! ### A unit gives up its ADCs -/

section
variable (s : State) (u b : Nat)

theorem State.acqRelease_held (h : (s.acq u).heldAdc = true) :
    s.acqRelease u b = (s.setOct u (s.freedAdcs u b)).setAcq u { s.acq u with heldAdc := false } := if_pos h

theorem State.acqRelease_free (h : (s.acq u).heldAdc = false) : s.acqRelease u b = s := if_neg (by simp [h])

theorem State.acqRelease_acq (x : Nat) :
    (s.acqRelease u b).acq x = if u = x then { s.acq u with heldAdc := false } else s.acq x := by
  cases h : (s.acq u).heldAdc with
  | true =>
    rw [s.acqRelease_held u b h, State.acq_setAcq]
    rfl
  | false =>
    rw [s.acqRelease_free u b h]
    split
    · next e =>
      subst e
      generalize s.acq u = v at h ⊢
      cases v
      simp only at h
      subst h
      rfl
    · rfl

theorem State.acqRelease_oct (x : Nat) :
    (s.acqRelease u b).oct x = if u = x ∧ (s.acq u).heldAdc = true then s.freedAdcs u b else s.oct x := by
  cases h : (s.acq u).heldAdc with
  | true =>
    rw [s.acqRelease_held u b h]
    refine (State.oct_setOct ..).trans ?_
    simp
  | false => simp [s.acqRelease_free u b h]

theorem State.acqRelease_keeps : s.keepsButUnit (s.acqRelease u b) u [14] [] := by
  unfold State.acqRelease
  simp only
  split <;> exact State.keepsButUnit_of_same u [14] rfl rfl

theorem State.acqRelease_with :
    s.acqRelease u b = { s with units := (s.acqRelease u b).units, octets := (s.acqRelease u b).octets } := by
  cases h : (s.acq u).heldAdc with
  | true => rw [s.acqRelease_held u b h]; rfl
  | false => rw [s.acqRelease_free u b h]

end

/-- Two states in which the octet's ADCs and what holds them are the same. -/
theorem State.freedAdcs_congr {s t : State} {u : Nat} (b : Nat) (hoct : t.oct u = s.oct u) (hops : t.ops = s.ops)
    (hmask : t.acqF u 7 0 = s.acqF u 7 0) : t.freedAdcs u b = s.freedAdcs u b := by
  simp only [State.freedAdcs, State.mseHolds, hoct, hops, hmask]

/-! ### The unit after its window -/

/-- A unit as its window leaves it, closed at `tc`. -/
def AcqUnit.closedAt (v : AcqUnit) (tc : Nat) : AcqUnit :=
  { v with closed := v.closed + 1, tclose := none, prevClose := some tc, chg := [], reds := [], n := 0, bands := none, gap := false
           level := none, closes := v.closes.filter (fun t => decide (tc < t)) }

/-- The ADCs where the window ends: freed, or kept for a level. -/
def State.eased (s : State) (u tc next : Nat) : State := if s.acqF u 21 19 = 3 ∧ next = 1 then s else s.acqRelease u tc

/-- The end of a window, its record dealt with: the ADCs are given up unless the unit watches a level again, and the unit
goes to `next`. -/
def State.closeOut (s : State) (u tc next : Nat) : State :=
  let r := s.eased u tc next
  let c := r.setAcq u ((r.acq u).closedAt tc)
  (c.setAcqW u 14 (putFld (c.acqW u 14) 21 10 ((r.acq u).closed + 1))).setAcqSt u next

/-- Does the end of the window free the unit's ADCs (R313)? -/
def State.freesAdcs (s : State) (u next : Nat) : Bool := (s.acq u).heldAdc && !(s.acqF u 21 19 == 3 && next == 1)

section
variable (s : State) {u : Nat} (tc next : Nat)

theorem State.eased_acq (x : Nat) : (s.eased u tc next).acq x =
    if u = x then { s.acq u with heldAdc := (s.acq u).heldAdc && !s.freesAdcs u next } else s.acq x := by
  unfold State.eased State.freesAdcs
  by_cases h : s.acqF u 21 19 = 3 ∧ next = 1
  · rw [if_pos h]
    simp only [h.1, h.2, beq_self_eq_true, Bool.and_self, Bool.not_true, Bool.and_false, Bool.not_false, Bool.and_true]
    split
    · next e => rw [e]
    · rfl
  · have hne : (s.acqF u 21 19 == 3 && next == 1) = false := by simpa using h
    rw [if_neg h, State.acqRelease_acq, hne]
    simp

theorem State.eased_oct (x : Nat) : (s.eased u tc next).oct x =
    if u = x ∧ s.freesAdcs u next = true then s.freedAdcs u tc else s.oct x := by
  unfold State.eased State.freesAdcs
  by_cases h : s.acqF u 21 19 = 3 ∧ next = 1
  · simp [h]
  · have hne : (s.acqF u 21 19 == 3 && next == 1) = false := by simpa using h
    rw [if_neg h, State.acqRelease_oct, hne]
    simp

theorem State.eased_keeps : s.keepsButUnit (s.eased u tc next) u [14] [] := by
  unfold State.eased
  split
  · exact State.keepsButUnit_of_same u [14] rfl rfl
  · exact s.acqRelease_keeps u tc

theorem State.eased_with :
    s.eased u tc next = { s with units := (s.eased u tc next).units, octets := (s.eased u tc next).octets } := by
  unfold State.eased
  split
  · rfl
  · exact s.acqRelease_with u tc

theorem State.closeOut_eq : s.closeOut u tc next =
    ((((s.eased u tc next).setAcq u (((s.eased u tc next).acq u).closedAt tc)).setAcqW u 14
      (putFld (((s.eased u tc next).setAcq u (((s.eased u tc next).acq u).closedAt tc)).acqW u 14) 21 10
        (((s.eased u tc next).acq u).closed + 1))).setAcqSt u next) := rfl

theorem State.setAcqW_units (i : Nat) (w : Word) : (s.setAcqW u i w).units = s.units := by rw [State.setAcqW_with]

theorem State.setAcqW_octets (i : Nat) (w : Word) : (s.setAcqW u i w).octets = s.octets := by rw [State.setAcqW_with]

theorem State.acq_setAcqW (i x : Nat) (w : Word) : (s.setAcqW u i w).acq x = s.acq x := by
  rw [State.acq, State.setAcqW_units, State.acq]

theorem State.oct_setAcqW (i x : Nat) (w : Word) : (s.setAcqW u i w).oct x = s.oct x := by
  rw [State.oct, State.setAcqW_octets, State.oct]

theorem State.closeOut_acq (x : Nat) : (s.closeOut u tc next).acq x =
    if u = x then ({ s.acq u with heldAdc := (s.acq u).heldAdc && !s.freesAdcs u next } : AcqUnit).closedAt tc
    else s.acq x := by
  rw [State.closeOut_eq, State.setAcqSt, State.acq_setAcqW, State.acq_setAcqW, State.acq_setAcq, State.eased_acq, if_pos rfl,
    State.eased_acq]
  split <;> rfl

theorem State.closeOut_oct (x : Nat) : (s.closeOut u tc next).oct x =
    if u = x ∧ s.freesAdcs u next = true then s.freedAdcs u tc else s.oct x := by
  rw [State.closeOut_eq, State.setAcqSt, State.oct_setAcqW, State.oct_setAcqW, ← State.eased_oct]
  rfl

theorem State.closeOut_stat (hnext : next < 4) : (s.closeOut u tc next).acqSt u = next ∧
    fld ((s.closeOut u tc next).acqW u 14) 21 10 = ((s.acq u).closed + 1) % 4096 := by
  have hclosed : ((s.eased u tc next).acq u).closed = (s.acq u).closed := by rw [State.eased_acq, if_pos rfl]
  rw [State.closeOut_eq, hclosed]
  exact State.acqStat_set _ hnext

theorem State.closeOut_keeps (hu : u < 68) : s.keepsButUnit (s.closeOut u tc next) u [14] [] := by
  rw [State.closeOut_eq]
  exact (((s.eased_keeps tc next).trans (State.setAcq_keeps _ u _)).trans (State.setAcqW_keeps _ hu _)).trans
    (State.setAcqW_keeps _ hu _)

theorem State.closeOut_with : s.closeOut u tc next =
    { s with regs := (s.closeOut u tc next).regs, tabs := (s.closeOut u tc next).tabs,
             units := (s.closeOut u tc next).units, octets := (s.closeOut u tc next).octets } := by
  rw [State.closeOut_eq]
  have heased := s.eased_with (u := u) tc next
  generalize s.eased u tc next = r at heased
  generalize r.units = units, r.octets = octets at heased
  subst heased
  rw [State.setAcqSt, State.setAcqW_with, State.setAcqW_with]
  rfl

end

/-! ### The record of a window -/

/-- A unit that holds its ADCs from where it wanted them has nothing to settle (R313). -/
theorem State.settleHold_none {s : State} {u t : Nat} (h : (s.acq u).heldAdc = true → (s.acq u).holdFrom = (s.acq u).wanted) :
    s.settleHold u t = s := by
  refine if_neg ?_
  rintro ⟨hheld, hne⟩
  have hzero : min (s.acq u).holdFrom (ceilTo (s.gridStep u) t) - (s.acq u).wanted = 0 := by
    have := h hheld
    omega
  exact hne (by rw [hzero, Nat.zero_div])

section
variable {s : State} {u tc code next : Nat} (hsettle : s.settleHold u tc = s)
include hsettle

/-- The window's record has room and is written. -/
theorem State.endWindow_written (hfree : (s.windowRecord u tc code).length ≤ s.ringFree u)
    (hfails : s.ringFails u (s.windowRecord u tc code).length = false) :
    s.endWindow u tc code next = (s.ringPut u u (s.windowRecord u tc code)).closeOut u tc next := by
  have hroom : ¬ s.ringFree u < (s.windowRecord u tc code).length := by omega
  have hgood : ¬ ((s.windowRecord u tc code).length ≤ s.ringFree u ∧
      s.ringFails u (s.windowRecord u tc code).length = true) := by simp [hfails]
  simp only [State.endWindow, hsettle, if_neg hroom, if_neg hgood]
  rfl

/-- The gap that a window leaves whose record finds no room (R323). -/
def AcqUnit.dropGap (v : AcqUnit) (tc : Nat) : Gap := { cause := 2, tstart := v.topen, lenps := tc - v.topen, count := 0, aux0 := 1 }

/-- The window's record has no room and is dropped. -/
theorem State.endWindow_dropped (hfull : s.ringFree u < (s.windowRecord u tc code).length) :
    s.endWindow u tc code next = (s.unitGap u ((s.acq u).dropGap tc)).closeOut u tc next := by
  have hgood : ¬ ((s.windowRecord u tc code).length ≤ s.ringFree u ∧
      s.ringFails u (s.windowRecord u tc code).length = true) := fun h => absurd h.1 (by omega)
  simp only [State.endWindow, hsettle, if_pos hfull, if_neg hgood]
  rfl

end

theorem State.closeWindow_eq {s : State} {u tc code next : Nat} (h : (s.acq u).chg = []) :
    s.closeWindow u tc code next = s.endWindow u tc code next := by
  have hblock : s.closeBlock u = (true, s) := by rw [State.closeBlock, h]
  rw [State.closeWindow, hblock]

/-- The banks' words where no more than a unit's words change. -/
theorem State.keepsButUnit.cell {s t : State} {u : Nat} {ws : List Nat} {ex : List (Nat × Nat)} (h : s.keepsButUnit t u ws ex)
    (hmem : t.bankMem = s.bankMem) (b row j : Nat) : t.cell b row j = s.cell b row j := by
  obtain ⟨⟨-, htab⟩, hglean⟩ := h
  have hregions : s.sameRegions t :=
    fun i hi => htab _ _ _ hi (by decide) (by simp [pSTORE, pGLEAN]) fun e => absurd e.2.1 (by decide)
  rw [State.cell, hregions.keepCell, State.cell, hmem]
  cases hk : s.keepCell b row j with
  | none => rfl
  | some x =>
    obtain ⟨ht, hi⟩ := State.keepCell_lt (t := x.1) (i := x.2) hk
    exact hglean x.1 x.2 (by omega) (by omega)

theorem State.frame_closed {s p q : State}
    (hp : p = { s with regs := p.regs, tabs := p.tabs, bankMem := p.bankMem, units := p.units, recs := p.recs })
    (hq : q = { p with regs := q.regs, tabs := q.tabs, units := q.units, octets := q.octets }) :
    q = { s with regs := q.regs, tabs := q.tabs, units := q.units, octets := q.octets, recs := q.recs, bankMem := q.bankMem } := by
  generalize p.regs = regs, p.tabs = tabs, p.bankMem = mem, p.units = units, p.recs = recs at hp
  generalize q.regs = regs', q.tabs = tabs', q.units = units', q.octets = octets' at hq
  subst hp hq
  rfl

theorem State.frame_dropped {s p q : State} {u : Nat} {v : AcqUnit} (hp : p = { s.setAcq u v with regs := p.regs })
    (hq : q = { p with regs := q.regs, tabs := q.tabs, units := q.units, octets := q.octets }) :
    q = { s with regs := q.regs, tabs := q.tabs, units := q.units, octets := q.octets } := by
  generalize p.regs = regs at hp
  generalize q.regs = regs', q.tabs = tabs', q.units = units', q.octets = octets' at hq
  subst hp hq
  rfl

section
variable {s : State} {u tc code next : Nat} (hu : u < 68) (hnext : next < 4)
  (hchg : (s.acq u).chg = []) (hheld : (s.acq u).heldAdc = true → (s.acq u).holdFrom = (s.acq u).wanted)
include hu hnext hchg hheld

/-- A window that closes with room in its ring. -/
theorem State.closeWindow_closes (hfree : (s.windowRecord u tc code).length ≤ s.ringFree u)
    (hfails : s.ringFails u (s.windowRecord u tc code).length = false) :
    let t := s.closeWindow u tc code next
    s.closesWindow t u tc code next ∧ s.keepsButRing t u [14] [(pACQG, ACQG_RECS)] ∧
      t = { s with regs := t.regs, tabs := t.tabs, units := t.units, octets := t.octets, recs := t.recs, bankMem := t.bankMem } := by
  rw [State.closeWindow_eq hchg, State.endWindow_written (State.settleHold_none hheld) hfree hfails]
  generalize hws : s.windowRecord u tc code = ws at hfree hfails
  have hput := s.ringPut_with hu ws
  have hkeeps := s.ringPut_keeps hu ws
  have hacq := s.ringPut_acq hu ws
  have hrecs := s.ringPut_recs hu ws
  have hcount := s.ringPut_count hu ws
  have hholds := s.ringPut_holds hu ws hfree hfails
  generalize s.ringPut u u ws = p at hput hkeeps hacq hrecs hcount hholds
  have hcfg (hi lo : Nat) : p.acqF u hi lo = s.acqF u hi lo := hkeeps.acqF hu (by simp [pACQG])
  have hoct (c : Nat) : p.oct c = s.oct c := by rw [State.oct, hput, State.oct]
  have hfrees : p.freesAdcs u next = s.freesAdcs u next := by
    rw [State.freesAdcs, State.freesAdcs, hacq, if_pos rfl, hcfg]
  have hfreed : p.freedAdcs u tc = s.freedAdcs u tc := State.freedAdcs_congr tc (hoct u) (by rw [hput]) (hcfg 7 0)
  obtain ⟨hst, hwin⟩ := p.closeOut_stat (u := u) tc next hnext
  have hunit := p.closeOut_acq (u := u) tc next
  have hocts := p.closeOut_oct (u := u) tc next
  have hstay := p.closeOut_keeps tc next hu
  have hframe := p.closeOut_with (u := u) tc next
  generalize p.closeOut u tc next = t at hst hwin hunit hocts hstay hframe
  have hmem : t.bankMem = p.bankMem := by rw [hframe]
  refine ⟨⟨hst, ?_, ?_, fun x hx => ?_, ?_, fun c hc => ?_, ?_, ?_, ?_⟩, hkeeps.trans hstay.1, State.frame_closed hput hframe⟩
  · rw [hwin, hacq, if_pos rfl]
  · rw [hunit, if_pos rfl, hfrees, hacq, if_pos rfl, ← hws]
    rfl
  · rw [hunit, if_neg (Ne.symm hx), hacq, if_neg (Ne.symm hx)]
  · rw [hocts, hfrees, hfreed, hoct]
    simp only [true_and]
    rfl
  · rw [hocts, if_neg fun e => hc e.1.symm, hoct]
  · rw [← hws] at hrecs
    rw [← hrecs, hframe]
  · intro hrows
    obtain ⟨hin, hout⟩ := hholds hrows
    rw [← hws] at hin hout
    refine ⟨fun i hi b row j hplace => ?_, fun b row j hb hrow hj hother => ?_⟩
    · rw [hstay.cell hmem, hin i hi b row j hplace]
    · rw [hstay.cell hmem, hout b row j hb hrow hj hother]
  · rw [hstay.1.1 _ _ (by decide) (by simp [pACQG]), hcount]

/-- A window whose record finds no room, where a DROP of this arming has been reported. -/
theorem State.closeWindow_drops (hfull : s.ringFree u < (s.windowRecord u tc code).length) (hdrop : (s.acq u).dropped = true) :
    let t := s.closeWindow u tc code next
    let f := acqFlagBit u 23 5
    t.acqSt u = next ∧ (t.acq u).closed = (s.acq u).closed + 1 ∧ (∀ x, x ≠ u → t.acq x = s.acq x) ∧
      (t.acq u).pend = Gap.add (s.acq u).pend ((s.acq u).dropGap tc) ∧ t.bitR f.1 f.2.1 f.2.2 = true ∧
      s.keepsButUnit t u [14] [(f.1, f.2.1)] ∧
      t.oct u = (if s.freesAdcs u next then s.freedAdcs u tc else s.oct u) ∧ (∀ c, c ≠ u → t.oct c = s.oct c) ∧
      t = { s with regs := t.regs, tabs := t.tabs, units := t.units, octets := t.octets } := by
  rw [State.closeWindow_eq hchg, State.endWindow_dropped (State.settleHold_none hheld) hfull]
  set g := (s.acq u).dropGap tc with hg
  set v : AcqUnit := { s.acq u with pend := Gap.add (s.acq u).pend g, gap := (s.acq u).gap || s.acqSt u == 2, dropped := true } with hv
  have hgap : s.unitGap u g = (s.setAcq u v).acqFlag u 23 := by
    simp [State.unitGap, hdrop, hg, AcqUnit.dropGap, hv]
  have hb : (23 = 19 ∧ 5 = 2) ∨ (23 = 23 ∧ 5 = 5) := .inr ⟨rfl, rfl⟩
  have hset : s.keepsButUnit (s.setAcq u v) u [14] [] := s.setAcq_keeps u v
  have hkeeps := hset.trans ((s.setAcq u v).acqFlag_keeps (u := u) hb)
  have hbit := (s.setAcq u v).acqFlag_bit hb hu
  have hwith := (s.setAcq u v).acqFlag_with (u := u) hb
  rw [hgap]
  generalize (s.setAcq u v).acqFlag u 23 = p at hkeeps hbit hwith
  have hacq (x : Nat) : p.acq x = if u = x then v else s.acq x := by rw [← State.acq_setAcq, State.acq, hwith, State.acq]
  have hoct (c : Nat) : p.oct c = s.oct c := by
    rw [State.oct, hwith]
    rfl
  have hcfg (hi lo : Nat) : p.acqF u hi lo = s.acqF u hi lo := by
    refine hkeeps.1.acqF hu ?_
    unfold acqFlagBit
    split <;> simp [acqPage, *, pACQG]
  have hfrees : p.freesAdcs u next = s.freesAdcs u next := by
    rw [State.freesAdcs, State.freesAdcs, hacq, if_pos rfl, hcfg]
  have hfreed : p.freedAdcs u tc = s.freedAdcs u tc := by
    refine State.freedAdcs_congr tc (hoct u) ?_ (hcfg 7 0)
    rw [hwith]
    rfl
  obtain ⟨hst, -⟩ := p.closeOut_stat (u := u) tc next hnext
  have hunit := p.closeOut_acq (u := u) tc next
  have hocts := p.closeOut_oct (u := u) tc next
  have hstay := p.closeOut_keeps tc next hu
  have hframe := p.closeOut_with (u := u) tc next
  generalize p.closeOut u tc next = t at hst hunit hocts hstay hframe
  refine ⟨hst, ?_, fun x hx => ?_, ?_, ?_, hkeeps.trans hstay, ?_, fun c hc => ?_, State.frame_dropped hwith hframe⟩
  · rw [hunit, if_pos rfl, hacq, if_pos rfl]
    rfl
  · rw [hunit, if_neg (Ne.symm hx), hacq, if_neg (Ne.symm hx)]
  · rw [hunit, if_pos rfl, hacq, if_pos rfl]
    rfl
  · rw [State.bitR, hstay.1.1 _ _ (acqFlagBit_lt hb).1, ← State.bitR, hbit]
    unfold acqFlagBit
    split <;> simp [acqPage, *, pACQG]
  · rw [hocts, hfrees, hfreed, hoct]
    simp only [true_and]
  · rw [hocts, if_neg fun e => hc e.1.symm, hoct]

end

end Sys2Proof.Machine

end

section

/-! ## A unit claims ADCs (R275, R313, R386) -/

namespace Sys2Proof.Machine

/-! ### The first grid edge at which they are free -/

/-- Two states that answer alike when the ADCs of octet `o` are free: the same operations, conversions, clock and grid. -/
structure State.SameAdcs (s t : State) (o : Nat) : Prop where
  ops : t.ops = s.ops
  stile : t.stile = s.stile
  time : t.time = s.time
  octets : t.octets = s.octets
  tabs : t.tabs = s.tabs
  rate : t.reg (pOCTPE o) OCTPE_ADCRATE = s.reg (pOCTPE o) OCTPE_ADCRATE

/-- The first grid edge after a run of the MSE that has ADC `a` of octet `o` at grid edge `g` (R275, R293). -/
def State.runTakes (s : State) (o g a : Nat) (e : Nat × Op) : Option Nat :=
  if tagOct e.1 = o ∧ tagPin e.1 = a ∧ e.2.running then
    (match s.runStart e.1 with
     | some (_, some st) =>
       if st < g ∧ g ≤ st + fld (s.desc e.1 5) 15 0 * s.gridStep o then
         some (st + fld (s.desc e.1 5) 15 0 * s.gridStep o + s.gridStep o) else none
     | _ => none)
  else none

theorem State.adcTaken_eq (s : State) (o g a : Nat) : s.adcTaken o g a = (s.ops.findSome? (s.runTakes o g a)).or
    ((s.convAt o a).bind fun x => if g ≤ x then some (x + s.gridStep o) else none) := by
  unfold State.adcTaken
  simp only
  split
  · next x hx =>
    rw [show s.ops.findSome? (s.runTakes o g a) = some x from hx]
    rfl
  · next hx =>
    rw [show s.ops.findSome? (s.runTakes o g a) = none from hx]
    rfl

section
variable {s t : State} {o : Nat} (h : s.SameAdcs t o)
include h

theorem State.SameAdcs.gridStep : t.gridStep o = s.gridStep o := by
  rw [State.gridStep, State.fldR, h.rate, State.gridStep, State.fldR]

theorem State.SameAdcs.baseAtEdge (e : Nat) : t.baseAtEdge e = s.baseAtEdge e := by
  simp only [State.baseAtEdge, State.baseAt, State.ps, h.time]

theorem State.SameAdcs.oct (c : Nat) : t.oct c = s.oct c := by rw [State.oct, h.octets, State.oct]

theorem State.SameAdcs.desc (x i : Nat) : t.desc x i = s.desc x i := by rw [State.desc, State.tab, h.tabs, State.desc, State.tab]

theorem State.SameAdcs.runStart {x : Nat} (hx : tagOct x = o) : t.runStart x = s.runStart x := by
  have hop : t.op x = s.op x := by rw [State.op, h.ops, State.op]
  have hfrom : t.runFrom x = s.runFrom x := by simp only [State.runFrom, hop, h.desc, h.baseAtEdge]
  subst hx
  simp only [State.runStart, hfrom, h.oct, h.gridStep]

theorem State.SameAdcs.convAt (a : Nat) : t.convAt o a = s.convAt o a := by
  simp only [State.convAt, h.gridStep, h.oct, h.baseAtEdge, h.stile, h.time]

theorem State.SameAdcs.runTakes (g a : Nat) (e : Nat × Op) : t.runTakes o g a e = s.runTakes o g a e := by
  unfold State.runTakes
  by_cases ho : tagOct e.1 = o
  · rw [h.runStart ho, h.desc, h.gridStep]
  · rw [if_neg fun hc => ho hc.1, if_neg fun hc => ho hc.1]

theorem State.SameAdcs.adcTaken (g a : Nat) : t.adcTaken o g a = s.adcTaken o g a := by
  have hruns : t.runTakes o g a = s.runTakes o g a := funext (h.runTakes g a)
  rw [State.adcTaken_eq, State.adcTaken_eq, hruns, h.ops, h.convAt, h.gridStep]

theorem State.SameAdcs.adcClaim (m n g : Nat) : t.adcClaim o m n g = s.adcClaim o m n g := by
  induction n generalizing g with
  | zero => rfl
  | succ n ih =>
    have htaken : t.adcTaken o g = s.adcTaken o g := funext (h.adcTaken g)
    simp only [State.adcClaim, htaken, ih]

end

/-! ### The gleaner yields (R386) -/

/-- What the end of a borrowing of a channel changes, if one ends at all. -/
structure State.GleanGives (s t : State) : Prop where
  frame : t = { s with regs := t.regs, glean := t.glean }
  keeps : s.keepsRegs t [(pGLEAN, GLEAN_ABORT)]
  none : s.glean.borrow = none → t = s

theorem State.GleanGives.refl (s : State) : s.GleanGives s := ⟨rfl, s.keepsRegs_refl _, fun _ => rfl⟩

theorem State.gleanStop_gives (s : State) : s.GleanGives s.gleanStop := by
  unfold State.gleanStop
  split
  · next h => exact ⟨rfl, s.keepsRegs_inc (by decide) 1, fun e => by rw [h] at e; exact absurd e (by simp)⟩
  · exact .refl s

theorem State.gleanYield_gives (s : State) (o m : Nat) : s.GleanGives (s.gleanYield o m) := by
  unfold State.gleanYield
  split
  · split
    · exact s.gleanStop_gives
    · exact .refl s
  · exact .refl s

theorem State.gleanTdc_gives (s : State) (o : Nat) : s.GleanGives (s.gleanTdc o) := by
  unfold State.gleanTdc
  split
  · split
    · exact s.gleanStop_gives
    · exact .refl s
  · exact .refl s

/-! ### A claim -/

/-- Octet `u` with the ADCs of mask `m` claimed from grid edge `g` on: a hold that follows another with no free edge between
them continues it (R313). -/
def Octet.claimed (o : Octet) (m step g : Nat) : Octet :=
  { o with
    adc := (List.range 8).map (fun a => if nbit m a then 2 else o.adc.getD a 0)
    span := (List.range 8).map (fun a =>
      let x := o.span.getD a (0, 0)
      if !nbit m a then x else if x.1 < x.2 ∧ g ≤ ceilTo step x.2 then (x.1, g) else (g, g)) }

/-- The grid edge from which a unit that asks at time base `b` has its ADCs. -/
def State.claimEdge (s : State) (u b : Nat) : Nat := s.adcClaim u (s.acqF u 7 0) 16 (ceilTo (s.gridStep u) b)

section
variable (s : State) {u : Nat} (b : Nat)

theorem State.acqHold_claims (hsrc : s.acqF u 23 22 = 1) (hu : u < 64) (hheld : (s.acq u).heldAdc = false) : s.acqHold u b =
    ((s.gleanYield u (s.acqF u 7 0)).setOct u ((s.oct u).claimed (s.acqF u 7 0) (s.gridStep u) (s.claimEdge u b))).setAcq u
      { s.acq u with heldAdc := true, wanted := ceilTo (s.gridStep u) b, holdFrom := s.claimEdge u b, lastGrid := none
                     level := none } := by
  exact if_pos ⟨hsrc, hu, by simp [hheld]⟩

theorem State.acqHold_none (h : ¬ (s.acqF u 23 22 = 1 ∧ u < 64 ∧ (s.acq u).heldAdc = false)) : s.acqHold u b = s := by
  refine if_neg fun hc => h ⟨hc.1, hc.2.1, ?_⟩
  simpa using hc.2.2

/-- What a claim may change. -/
theorem State.acqHold_gives : s.keepsRegs (s.acqHold u b) [(pGLEAN, GLEAN_ABORT)] ∧
    (∀ x, x ≠ u → (s.acqHold u b).acq x = s.acq x) ∧ (∀ c, c ≠ u → (s.acqHold u b).oct c = s.oct c) ∧
    (s.glean.borrow = none → (s.acqHold u b).glean = s.glean ∧ (s.acqHold u b).reg pGLEAN GLEAN_ABORT = s.reg pGLEAN GLEAN_ABORT) ∧
    s.acqHold u b = { s with regs := (s.acqHold u b).regs, units := (s.acqHold u b).units, octets := (s.acqHold u b).octets,
                             glean := (s.acqHold u b).glean } := by
  by_cases h : s.acqF u 23 22 = 1 ∧ u < 64 ∧ (s.acq u).heldAdc = false
  · rw [s.acqHold_claims b h.1 h.2.1 h.2.2]
    have hgives := s.gleanYield_gives u (s.acqF u 7 0)
    generalize s.gleanYield u (s.acqF u 7 0) = y at hgives
    generalize (s.oct u).claimed _ _ _ = o
    generalize ({ s.acq u with heldAdc := true, wanted := _, holdFrom := _, lastGrid := _, level := _ } : AcqUnit) = v
    obtain ⟨hframe, hkeeps, hnone⟩ := hgives
    refine ⟨?_, fun x hx => ?_, fun c hc => ?_, fun hb => ?_, ?_⟩
    · exact hkeeps
    · rw [State.acq_setAcq, if_neg (Ne.symm hx), State.acq, hframe]
      rfl
    · rw [show ((y.setOct u o).setAcq u v).oct c = (y.setOct u o).oct c from rfl, State.oct_setOct, if_neg (Ne.symm hc), State.oct,
        hframe, State.oct]
    · rw [hnone hb]
      exact ⟨rfl, rfl⟩
    · generalize y.regs = regs, y.glean = glean at hframe
      subst hframe
      rfl
  · rw [s.acqHold_none b h]
    exact ⟨s.keepsRegs_refl _, fun _ _ => rfl, fun _ _ => rfl, fun _ => ⟨rfl, rfl⟩, rfl⟩

end

end Sys2Proof.Machine

end

section

/-! ## A window opens (R318, R319) -/

namespace Sys2Proof.Machine

/-! ### What a claim leaves -/

/-- Unit `u` of `t` holds its ADCs as it asked for them at time base `b`: its mask, grid and octet as in `s`, the first free
grid edge as in `w`. -/
def State.claims (s w t : State) (u b : Nat) : Prop :=
  let m := s.acqF u 7 0
  let step := s.gridStep u
  let g := w.adcClaim u m 16 (ceilTo step b)
  (t.acq u).heldAdc = true ∧ (t.acq u).wanted = ceilTo step b ∧ (t.acq u).holdFrom = g ∧ (t.acq u).lastGrid = none ∧
    t.oct u = (s.oct u).claimed m step g

theorem State.acqHold_claimed {s w f : State} {u : Nat} (b : Nat) (hadcs : w.SameAdcs f u) (hgrid : w.gridStep u = s.gridStep u)
    (hoct : w.oct u = s.oct u) (hmask : f.acqF u 7 0 = s.acqF u 7 0) (hsrc : f.acqF u 23 22 = 1) (hu : u < 64)
    (hheld : (f.acq u).heldAdc = false) : s.claims w (f.acqHold u b) u b := by
  have hstep : f.gridStep u = s.gridStep u := hadcs.gridStep.trans hgrid
  have hedge : f.claimEdge u b = w.adcClaim u (s.acqF u 7 0) 16 (ceilTo (s.gridStep u) b) := by
    rw [State.claimEdge, hmask, hstep, hadcs.adcClaim]
  have hoct' : f.oct u = s.oct u := (hadcs.oct u).trans hoct
  rw [f.acqHold_claims b hsrc hu hheld, hmask, hstep, hedge, hoct']
  generalize f.gleanYield u (s.acqF u 7 0) = y
  refine ⟨?_, ?_, ?_, ?_, ?_⟩
  · rw [State.acq_setAcq, if_pos rfl]
  · rw [State.acq_setAcq, if_pos rfl]
  · rw [State.acq_setAcq, if_pos rfl]
  · rw [State.acq_setAcq, if_pos rfl]
  · exact State.oct_setOct_self ..

/-- The fields of its unit that a claim may change. -/
theorem State.acqHold_acq (s : State) (u b : Nat) : ∃ h w g l lv, (s.acqHold u b).acq u =
    { s.acq u with heldAdc := h, wanted := w, holdFrom := g, lastGrid := l, level := lv } := by
  by_cases h : s.acqF u 23 22 = 1 ∧ u < 64 ∧ (s.acq u).heldAdc = false
  · rw [s.acqHold_claims b h.1 h.2.1 h.2.2, State.acq_setAcq, if_pos rfl]
    exact ⟨_, _, _, _, _, rfl⟩
  · rw [s.acqHold_none b h]
    exact ⟨_, _, _, _, _, rfl⟩

/-! ### The opening -/

/-- A unit with the window open that trigger `at_` has made due. -/
def State.openedUnit (s : State) (u at_ : Nat) : AcqUnit :=
  let v := s.acq u
  let topen := at_ + (s.acqW u 3).toNat
  { v with
    opens := v.opens.filter (fun x => decide (at_ < x)), topen := topen
    closes := v.closes.filter (fun x => decide (topen ≤ x))
    tclose := match s.acqF u 18 17 with
      | 1 => some (topen + s.acqLen u, 1)
      | 2 => (firstOf (fun x => decide (topen ≤ x)) v.closes).map (·, 2)
      | 3 => (firstOf (fun x => decide (topen < x)) v.closes).map (·, 3)
      | _ => none
    n := 0, reds := List.replicate (s.acqChans u).length {}, site := if u < 64 then s.siteOf u else none, calseq := s.calSeq
    sat := false, held := false, gap := false, void := false, retrig := false, glitch := false, adcsat := false, bands := none }

theorem State.setAcqW_tabs {s : State} {u i : Nat} {w : Word} (hu : u < 64) : (s.setAcqW u i w).tabs = s.tabs := by
  rw [State.setAcqW, if_pos hu]
  rfl

/-- The state in which the window is open and producer ACQ has fired. -/
def State.openedFired (s : State) (u at_ : Nat) : State :=
  ((s.setAcq u (s.openedUnit u at_)).setAcqSt u 2).fire (64 + u) (s.setAcq u (s.openedUnit u at_)).ps

theorem State.openWindow_due {s : State} {u at_ : Nat} (hst : s.acqSt u = 1)
    (hopen : (s.acq u).nextOpen (s.acqF u 21 19 == 0) = some at_) : s.openWindow u =
      (s.openedFired u at_).acqHold u (((at_ + (s.acqW u 3).toNat : Nat) : Int) + (s.openedFired u at_).skew).toNat := by
  unfold State.openWindow
  simp only [hst, if_true, hopen]
  rfl

theorem State.openWindow_none {s : State} {u : Nat}
    (h : s.acqSt u ≠ 1 ∨ (s.acq u).nextOpen (s.acqF u 21 19 == 0) = none) : s.openWindow u = s := by
  have hnone : (if s.acqSt u = 1 then (s.acq u).nextOpen (s.acqF u 21 19 == 0) else none) = none := by
    split
    · next hst => exact h.resolve_left fun hne => hne hst
    · rfl
  simp only [State.openWindow, hnone]

/-! ### A producer without a clock fires (R335, R337) -/

theorem State.chanEvents_prod {s : State} {clocked : Bool} {p t exit : Nat} {tag : Option Nat} {x : GEvent}
    (hx : x ∈ s.chanEvents clocked p t exit tag) : x.prod = p := by
  obtain ⟨c, -, rfl⟩ := List.mem_map.1 hx
  rfl

theorem State.fire_gives (s : State) {p : Nat} (t : Nat) (tag : Option Nat) (hp : timingProducer p = false) :
    (∃ es, (s.fire p t tag).green = { s.green with flight := s.green.flight ++ es, ins := (s.fire p t tag).green.ins } ∧
      ∀ x ∈ es, x.prod = p) ∧
    s.fire p t tag = { s with green := (s.fire p t tag).green, fresh := (s.fire p t tag).fresh } := by
  unfold State.fire
  simp only [hp, Bool.false_eq_true, if_false]
  split
  · exact ⟨⟨_, rfl, fun x hx => State.chanEvents_prod (List.mem_filter.1 hx).1⟩, rfl⟩
  · refine ⟨⟨_, by rw [List.append_assoc]; rfl, fun x hx => ?_⟩, rfl⟩
    rcases List.mem_append.1 hx with hx | hx
    · exact State.chanEvents_prod (List.mem_filter.1 hx).1
    · exact State.chanEvents_prod hx

theorem State.frame_opened {s f : State} {v : AcqUnit}
    (hf : f = { (s.setAcq u v).setAcqSt u 2 with green := f.green, fresh := f.fresh }) :
    f = { s with regs := f.regs, tabs := f.tabs, units := f.units, green := f.green, fresh := f.fresh } := by
  generalize f.green = green, f.fresh = fresh at hf
  subst hf
  rw [State.setAcqSt, State.setAcqW_with]
  rfl

section
variable {s : State} {u at_ : Nat} (hu : u < 68)
include hu

theorem timingProducer_acq : timingProducer (64 + u) = false := by
  simp only [timingProducer, Bool.or_eq_false_iff, Bool.and_eq_false_iff, decide_eq_false_iff_not]
  omega

/-- What stands when the window is open and its producer has fired. -/
theorem State.openedFired_gives :
    let f := s.openedFired u at_
    (∃ es, f.green = { s.green with flight := s.green.flight ++ es, ins := f.green.ins } ∧ ∀ x ∈ es, x.prod = 64 + u) ∧
      s.keepsButUnit f u [14] [] ∧ f.acqSt u = 2 ∧ fld (f.acqW u 14) 21 10 = fld (s.acqW u 14) 21 10 ∧
      (∀ x, f.acq x = if u = x then s.openedUnit u at_ else s.acq x) ∧
      f = { s with regs := f.regs, tabs := f.tabs, units := f.units, green := f.green, fresh := f.fresh } := by
  have hset : s.keepsButUnit (s.setAcq u (s.openedUnit u at_)) u [14] [] := s.setAcq_keeps u _
  have hkeeps := hset.trans (State.setAcqW_keeps _ hu (putFld ((s.setAcq u (s.openedUnit u at_)).acqW u 14) 23 22 2))
  obtain ⟨hst, hwin⟩ := (s.setAcq u (s.openedUnit u at_)).acqSt_setAcqSt (u := u) (show 2 < 4 by decide)
  obtain ⟨⟨es, hes, hprod⟩, hframe⟩ := State.fire_gives ((s.setAcq u (s.openedUnit u at_)).setAcqSt u 2)
    (s.setAcq u (s.openedUnit u at_)).ps none (timingProducer_acq hu)
  rw [← State.openedFired] at hes hframe
  generalize s.openedFired u at_ = f at hes hframe
  have hgreen : ((s.setAcq u (s.openedUnit u at_)).setAcqSt u 2).green = s.green := by
    rw [State.setAcqSt, State.setAcqW_with]
    rfl
  have hregs : f.regs = ((s.setAcq u (s.openedUnit u at_)).setAcqSt u 2).regs := by rw [hframe]
  have htabs : f.tabs = ((s.setAcq u (s.openedUnit u at_)).setAcqSt u 2).tabs := by rw [hframe]
  have hword : f.acqW u 14 = ((s.setAcq u (s.openedUnit u at_)).setAcqSt u 2).acqW u 14 := by
    simp only [State.acqW, State.reg, State.tab, hregs, htabs]
  refine ⟨⟨es, by rw [hes, hgreen], hprod⟩, hkeeps.trans (State.keepsButUnit_of_same u [14] hregs htabs), ?_, ?_, fun x => ?_,
    State.frame_opened hframe⟩
  · rw [State.acqSt, hword]
    exact hst
  · rw [hword, hwin]
    rfl
  · have hunits : f.units = (s.setAcq u (s.openedUnit u at_)).units := by
      rw [hframe]
      exact State.setAcqW_units ..
    rw [← State.acq_setAcq, State.acq, hunits, State.acq]

/-- Registers and words that the opening does not touch. -/
theorem State.openedFired_cfg (hi lo : Nat) : (s.openedFired u at_).acqF u hi lo = s.acqF u hi lo := by
  obtain ⟨-, hkeeps, -⟩ := State.openedFired_gives (s := s) (at_ := at_) hu
  exact hkeeps.1.acqF hu (by simp)

theorem State.openedFired_skew : (s.openedFired u at_).skew = s.skew := by
  obtain ⟨-, hkeeps, -⟩ := State.openedFired_gives (s := s) (at_ := at_) hu
  rw [State.skew, hkeeps.1.1 _ _ (by decide) (by simp [pSKEW]), State.skew]

end

/-- An octet unit's opening does not touch what claims are judged by. -/
theorem State.openedFired_adcs {s : State} {u at_ : Nat} (hu : u < 64) : s.SameAdcs (s.openedFired u at_) u := by
  have hu68 : u < 68 := by omega
  obtain ⟨-, hkeeps, -, -, -, hframe⟩ := State.openedFired_gives (s := s) (at_ := at_) hu68
  have htabs : (s.openedFired u at_).tabs = s.tabs := by
    rw [State.openedFired, (State.fire_gives _ _ none (timingProducer_acq hu68)).2]
    exact State.setAcqW_tabs hu
  refine ⟨by rw [hframe], by rw [hframe], by rw [hframe], by rw [hframe], htabs, ?_⟩
  refine hkeeps.1.1 _ _ (by decide) ?_
  simp [pOCTPE]

/-! ### What an opening and a closing leave -/

/-- When a window just open closes, where that is known (Table 11.4). -/
theorem State.openedUnit_tclose (s : State) (u at_ : Nat) :
    let topen := at_ + (s.acqW u 3).toNat
    let c := s.acqF u 18 17
    (c = 0 → (s.openedUnit u at_).tclose = none) ∧ (c = 1 → (s.openedUnit u at_).tclose = some (topen + s.acqLen u, 1)) ∧
      (2 ≤ c → (s.openedUnit u at_).tclose =
        (firstOf (fun x => decide (topen + (c - 2) ≤ x)) (s.acq u).closes).map (·, c)) := by
  intro topen c
  have htclose : (s.openedUnit u at_).tclose = match c with
      | 1 => some (topen + s.acqLen u, 1)
      | 2 => (firstOf (fun x => decide (topen ≤ x)) (s.acq u).closes).map (·, 2)
      | 3 => (firstOf (fun x => decide (topen < x)) (s.acq u).closes).map (·, 3)
      | _ => none := rfl
  have hlt : c < 4 := fld_lt ..
  rw [htclose]
  clear htclose
  clear_value c
  refine ⟨?_, ?_, fun h2 => ?_⟩
  · rintro rfl
    rfl
  · rintro rfl
    rfl
  · interval_cases c <;> rfl

/-- The words of a unit where registers alone change. -/
theorem State.acqW_of_regs {s t : State} {u i : Nat} {ex : List (Nat × Nat)} (hr : s.keepsRegs t ex) (ht : t.tabs = s.tabs)
    (hi : 0x10 + i < 256) (hex : (pACQ u, 0x10 + i) ∉ ex) : t.acqW u i = s.acqW u i := by
  unfold State.acqW
  split
  · exact hr _ _ hi hex
  · rw [State.tab, ht, State.tab]

theorem State.frame_openWindow {s f t : State}
    (hf : f = { s with regs := f.regs, tabs := f.tabs, units := f.units, green := f.green, fresh := f.fresh })
    (ht : t = { f with regs := t.regs, units := t.units, octets := t.octets, glean := t.glean }) :
    t = { s with regs := t.regs, tabs := t.tabs, units := t.units, green := t.green, fresh := t.fresh,
                 octets := t.octets, glean := t.glean } := by
  generalize f.regs = regs, f.tabs = tabs, f.units = units, f.green = green, f.fresh = fresh at hf
  generalize t.regs = regs', t.units = units', t.octets = octets, t.glean = glean at ht
  subst hf ht
  rfl

section
variable {s : State} {u : Nat} (hu : u < 68)
include hu

/-- The opening of a due window (R318). -/
theorem State.openWindow_spec {at_ : Nat} (hst : s.acqSt u = 1)
    (hopen : (s.acq u).nextOpen (s.acqF u 21 19 == 0) = some at_) :
    let v := s.acq u
    let topen := at_ + (s.acqW u 3).toNat
    let t := s.openWindow u
    ∃ es, t.acqSt u = 2 ∧ s.keepsButUnit t u [14] [(pGLEAN, GLEAN_ABORT)] ∧ (∀ x, x ≠ u → t.acq x = s.acq x) ∧
      fld (t.acqW u 14) 21 10 = fld (s.acqW u 14) 21 10 ∧
      (∃ h w g l lv, t.acq u = { s.openedUnit u at_ with heldAdc := h, wanted := w, holdFrom := g, lastGrid := l, level := lv }) ∧
      (if s.acqF u 23 22 == 1 && decide (u < 64) && !v.heldAdc then s.claims s t u ((topen : Int) + s.skew).toNat
        else (t.acq u).heldAdc = v.heldAdc ∧ t.oct u = s.oct u) ∧
      (s.glean.borrow = none → t.glean = s.glean ∧ t.reg pGLEAN GLEAN_ABORT = s.reg pGLEAN GLEAN_ABORT) ∧
      (∀ c, c ≠ u → t.oct c = s.oct c) ∧
      t.green = { s.green with flight := s.green.flight ++ es, ins := t.green.ins } ∧ (∀ x ∈ es, x.prod = 64 + u) ∧
      t = { s with regs := t.regs, tabs := t.tabs, units := t.units, green := t.green, fresh := t.fresh,
                   octets := t.octets, glean := t.glean } := by
  intro v topen t
  have ht : t = (s.openedFired u at_).acqHold u ((topen : Int) + s.skew).toNat := by
    rw [← State.openedFired_skew (at_ := at_) hu]
    exact State.openWindow_due hst hopen
  have hcfg (hi lo : Nat) := State.openedFired_cfg (s := s) (at_ := at_) hu hi lo
  have hadcs (h : u < 64) : s.SameAdcs (s.openedFired u at_) u := State.openedFired_adcs h
  obtain ⟨⟨es, hes, hprod⟩, hkeeps, hst2, hwin, hacq, hframe⟩ := State.openedFired_gives (s := s) (at_ := at_) hu
  generalize s.openedFired u at_ = f at ht hcfg hadcs hes hkeeps hst2 hwin hacq hframe
  have hoct (c : Nat) : f.oct c = s.oct c := by rw [State.oct, hframe, State.oct]
  have hglean : f.glean = s.glean := by rw [hframe]
  have hunit : f.acq u = s.openedUnit u at_ := by rw [hacq, if_pos rfl]
  have hheld : (f.acq u).heldAdc = v.heldAdc := by rw [hunit]; rfl
  set b := ((topen : Int) + s.skew).toNat
  obtain ⟨hstay, hothers, hocts, hborrow, hwith⟩ := f.acqHold_gives (u := u) b
  have hfields := f.acqHold_acq u b
  have hclaim : if s.acqF u 23 22 == 1 && decide (u < 64) && !v.heldAdc then s.claims s t u b
      else (t.acq u).heldAdc = v.heldAdc ∧ t.oct u = s.oct u := by
    rw [ht]
    split
    · next h =>
      simp only [Bool.and_eq_true, beq_iff_eq, decide_eq_true_eq, Bool.not_eq_true'] at h
      exact State.acqHold_claimed b (hadcs h.1.2) rfl rfl (hcfg 7 0) ((hcfg 23 22).trans h.1.1) h.1.2 (hheld.trans h.2)
    · next h =>
      rw [f.acqHold_none b (fun hc => h (by
        rw [hcfg, hheld] at hc
        simp [hc.1, hc.2.1, hc.2.2]))]
      exact ⟨hheld, hoct u⟩
  rw [← ht] at hstay hothers hocts hborrow hwith hfields
  clear_value t
  have htabs : t.tabs = f.tabs := by rw [hwith]
  have hword : t.acqW u 14 = f.acqW u 14 := State.acqW_of_regs hstay htabs (by decide) (by simp [pGLEAN])
  refine ⟨es, ?_, (hkeeps.trans (State.keepsButUnit_of_regs u [14] hstay htabs)).mono (by simp),
    fun x hx => ?_, ?_, ?_, hclaim, fun hb => ?_, fun c hc => ?_, ?_, hprod, ?_⟩
  · rw [State.acqSt, hword]
    exact hst2
  · rw [hothers x hx, hacq, if_neg (Ne.symm hx)]
  · rw [hword, hwin]
  · rwa [hunit] at hfields
  · obtain ⟨hg, hr⟩ := hborrow (by rw [hglean, hb])
    refine ⟨hg.trans hglean, hr.trans ?_⟩
    exact hkeeps.1.1 _ _ (by decide) (by simp [pGLEAN])
  · rw [hocts c hc, hoct]
  · have hgreen : t.green = f.green := by rw [hwith]
    rw [hgreen, hes]
  · exact State.frame_openWindow hframe hwith

end

end Sys2Proof.Machine

end

section

/-! ## ARM and DISARM enter the timing domain (R316, R317, R458) -/

namespace Sys2Proof.Machine

/-! ### A state that an access has entered -/

/-- `w` is `s` but for counts of accesses, the clock and a free value taken. -/
structure State.Entered (s w : State) : Prop where
  frame : w = { s with regs := w.regs, rot := w.rot, time := w.time, fresh := w.fresh }
  regs : ∀ p o, o < 256 → o ≠ PG_SEQ → w.reg p o = s.reg p o

theorem State.served_entered (s : State) {ini page : Nat} (h : timingPage page = false) : s.Entered (s.served ini page) := by
  refine ⟨?_, fun p o ho hne => State.served_reg ho fun e => hne e.2⟩
  generalize ht : s.served ini page = t
  rw [State.served_with h] at ht
  rw [← ht]

section
variable {s w : State} (h : s.Entered w)
include h

theorem State.Entered.tab (p m i : Nat) : w.tab p m i = s.tab p m i := by rw [State.tab, h.frame, State.tab]

theorem State.Entered.acqW (u : Nat) {i : Nat} (hi : i < 16) : w.acqW u i = s.acqW u i := by
  unfold State.acqW
  split
  · exact h.regs _ _ (by omega) (by unfold PG_SEQ; omega)
  · exact h.tab ..

theorem State.Entered.acqF (u hi lo : Nat) : w.acqF u hi lo = s.acqF u hi lo := by
  rw [State.acqF, h.acqW u (by decide), State.acqF]

theorem State.Entered.acqSt (u : Nat) : w.acqSt u = s.acqSt u := by rw [State.acqSt, h.acqW u (by decide), State.acqSt]

theorem State.Entered.acq (u : Nat) : w.acq u = s.acq u := by rw [State.acq, h.frame, State.acq]

theorem State.Entered.oct (u : Nat) : w.oct u = s.oct u := by rw [State.oct, h.frame, State.oct]

theorem State.Entered.gridStep (u : Nat) : w.gridStep u = s.gridStep u := by
  rw [State.gridStep, State.fldR, h.regs _ _ (by decide) (by decide), State.gridStep, State.fldR]

theorem State.Entered.acqLen (u : Nat) : w.acqLen u = s.acqLen u := by
  rw [State.acqLen, h.acqW u (by decide), h.acqW u (by decide), State.acqLen]

theorem State.Entered.ringBase (r : Nat) : w.ringBase r = s.ringBase r := by
  unfold State.ringBase
  rw [h.acqW r (by decide), h.regs _ _ (by decide) (by decide)]

theorem State.Entered.ringSize (r : Nat) : w.ringSize r = s.ringSize r := by
  unfold State.ringSize
  rw [h.acqW r (by decide), h.regs _ _ (by decide) (by decide)]

theorem State.Entered.sameRegions : s.sameRegions w := fun i _ => h.tab _ _ i

theorem State.Entered.regionSize {g : Nat} (hg : g < 16) : w.regionSize g = s.regionSize g := by
  rw [State.regionSize, h.sameRegions.banks hg, h.sameRegions.rows hg, State.regionSize]

theorem State.Entered.acqBad (u : Nat) : w.acqBad u = s.acqBad u := by
  simp only [State.acqBad, h.acqF, h.acqLen, h.acqW u (show 1 < 16 by decide)]

theorem State.Entered.acqRingOk (u : Nat) : w.acqRingOk u = s.acqRingOk u := by
  simp only [State.acqRingOk, h.ringBase, h.ringSize, h.acqSt, h.sameRegions.en (show 12 < 16 by decide),
    h.regionSize (show 12 < 16 by decide)]

theorem State.Entered.siteOf (o : Nat) : w.siteOf o = s.siteOf o := by
  have hfld (p : Nat) {i : Nat} (hi lo : Nat) (ho : i < 256) (hne : i ≠ PG_SEQ) : w.fldR p i hi lo = s.fldR p i hi lo := by
    rw [State.fldR, h.regs _ _ ho hne, State.fldR]
  have hst (n : Nat) : w.siteSt n = s.siteSt n := hfld _ _ _ (by decide) (by decide)
  have hsite (n : Nat) : w.site n = s.site n := by rw [State.site, h.frame, State.site]
  have hcol (n : Nat) : w.column n = s.column n := by
    funext c
    unfold State.column
    split <;> exact hfld _ _ _ (by decide) (by decide)
  simp only [State.siteOf, State.octetsOf, hst, hsite, hcol]

theorem State.Entered.checkAcqArm (u : Nat) : w.checkAcqArm u = s.checkAcqArm u := by
  have hrun : w.run = s.run := by rw [h.frame]
  simp only [State.checkAcqArm, hrun, h.acqSt, h.acqBad, h.acqRingOk, h.acqF, h.siteOf]

theorem State.Entered.windowRecord (u tc code : Nat) : w.windowRecord u tc code = s.windowRecord u tc code := by
  simp only [State.windowRecord, h.acq, h.acqF]

theorem State.Entered.ringFree (r : Nat) : w.ringFree r = s.ringFree r := by
  have hrecs : w.recs = s.recs := by rw [h.frame]
  rw [State.ringFree, State.ringUsed, hrecs, h.ringSize, State.ringFree, State.ringUsed]

theorem State.Entered.ringWr (r : Nat) : w.ringWr r = s.ringWr r := by
  have hwr : w.siteWr = s.siteWr := by rw [h.frame]
  rw [State.ringWr, h.acq, hwr, State.ringWr]

theorem State.Entered.ringFails (r n : Nat) : w.ringFails r n = s.ringFails r n := by
  have hbank (b : Nat) : w.bank b = s.bank b := by rw [State.bank, h.frame, State.bank]
  simp only [State.ringFails, State.writeRegion_fst, h.ringBase, h.ringWr, h.ringSize, hbank,
    h.sameRegions.word (show 12 < 16 by decide)]

theorem State.Entered.ringCell (r i : Nat) : w.ringCell r i = s.ringCell r i := by
  simp only [State.ringCell, h.ringBase, h.ringSize, h.sameRegions.word (show 12 < 16 by decide)]

theorem State.Entered.cell (b row j : Nat) : w.cell b row j = s.cell b row j := by
  have hmem : w.bankMem = s.bankMem := by rw [h.frame]
  rw [State.cell, h.sameRegions.keepCell, hmem, State.cell]
  split
  · exact h.tab ..
  · rfl

theorem State.Entered.freedAdcs (u b : Nat) : w.freedAdcs u b = s.freedAdcs u b :=
  State.freedAdcs_congr b (h.oct u) (by rw [h.frame]) (h.acqF ..)

theorem State.Entered.ringHolds {t : State} {r : Nat} {ws : List Word} (ht : w.ringHolds t r ws) : s.ringHolds t r ws := by
  unfold State.ringHolds at ht ⊢
  simp only [h.ringCell, h.ringWr, h.cell, h.sameRegions.first (show 12 < 16 by decide),
    h.sameRegions.rows (show 12 < 16 by decide)] at ht
  exact ht

/-- A window that closes once the access has entered, closes as it stands before. -/
theorem State.Entered.closesWindow {t : State} {u tc code next : Nat} (ht : w.closesWindow t u tc code next) :
    s.closesWindow t u tc code next := by
  obtain ⟨hst, hwin, hunit, hothers, hoct, hocts, hrecs, hholds, hcount⟩ := ht
  simp only [h.acq, h.windowRecord, h.ringSize, h.acqF, h.freedAdcs, h.oct] at hwin hunit hothers hoct hocts hrecs hholds
  have hrecs' : w.recs = s.recs := by rw [h.frame]
  rw [hrecs'] at hrecs
  rw [h.regs _ _ (by decide) (by decide)] at hcount
  exact ⟨hst, hwin, hunit, hothers, hoct, hocts, hrecs, h.ringHolds hholds, hcount⟩

end

/-! ### The command enters the timing domain -/

/-- The state `n` cycles on, a free value taken. -/
def State.crossed (s : State) (n : Nat) : State := { s.ticks n with fresh := s.fresh + 1 }

/-- Two cycles after its capture edge, which is the next edge or the one after it (R20, R458). -/
theorem State.captureEdge_crossed (s : State) : ∃ n, (n = 3 ∨ n = 4) ∧
    s.captureEdge.2.toEdge (s.captureEdge.1 + 2) = s.crossed n ∧
    (s.crossed n).baseAtEdge (s.captureEdge.1 + 2) = (s.ticks n).time.base := by
  have hedge : s.captureEdge.1 = s.time.edge + 1 + Config.free s.fresh % 2 := rfl
  have hafter : s.captureEdge.2 = { s with fresh := s.fresh + 1 } := rfl
  have hbit := Nat.mod_two_eq_zero_or_one (Config.free s.fresh)
  refine ⟨3 + Config.free s.fresh % 2, by omega, ?_, ?_⟩
  · have hlt : s.time.edge < s.captureEdge.1 + 2 := by omega
    have hn : s.captureEdge.1 + 2 - s.time.edge = 3 + Config.free s.fresh % 2 := by omega
    rw [hafter, State.toEdge, if_pos hlt]
    show State.ticks _ (s.captureEdge.1 + 2 - s.time.edge) = _
    rw [hn]
    rfl
  · generalize Config.free s.fresh % 2 = x at hedge
    have hnow : (s.captureEdge.1 + 2) * 625 = (s.crossed (3 + x)).ps := by
      show _ = (s.time.edge + (3 + x)) * 625
      rw [hedge]
      omega
    have hbase : (s.crossed (3 + x)).time.base = (s.ticks (3 + x)).time.base := rfl
    have hlt : (s.ticks (3 + x)).time.base < 2 ^ 64 := Nat.mod_lt _ (by decide)
    rw [State.baseAtEdge, State.baseAt, hnow, hbase]
    omega

theorem State.crossed_trans {s v : State} (h : s.Entered v) (htime : v.time = s.time) (hfresh : v.fresh = s.fresh) (n : Nat) :
    s.Entered (v.crossed n) ∧ (v.crossed n).time = (s.ticks n).time ∧ (v.crossed n).fresh = s.fresh + 1 := by
  refine ⟨⟨?_, fun p o ho hne => h.regs p o ho hne⟩, ?_, ?_⟩
  · have hframe := h.frame
    generalize v.regs = regs, v.rot = rot, v.time = time, v.fresh = fresh at hframe
    subst hframe
    rfl
  · show ({ v.time with edge := v.time.edge + n, base := (v.time.base + 625 * n) % 2 ^ 64 } : Time) = _
    rw [htime]
    rfl
  · show v.fresh + 1 = _
    rw [hfresh]

/-! ### ARM (R316, R317) -/

/-- OPENAT of a unit (R319). -/
def State.openAt (s : State) (u : Nat) : Nat := wide [s.acqW u 9, s.acqW u 10, s.acqW u 11] % 2 ^ 64

/-- Does ARM at time base `at_` come after OPENAT? -/
def State.armsLate (s : State) (u at_ : Nat) : Bool := s.acqF u 21 19 == 4 && decide (s.openAt u < at_)

/-- A unit as ARM leaves it at time base `at_`. -/
def State.armedUnit (s : State) (u at_ : Nat) : AcqUnit :=
  { opens := if s.acqF u 21 19 = 0 then [at_] else if s.acqF u 21 19 = 4 then [if s.armsLate u at_ then at_ else s.openAt u] else []
    late := s.armsLate u at_, pend := (s.acq u).pend, wr := (s.acq u).wr, topen := at_ }

/-- The unit armed, a past OPENAT flagged. -/
def State.armFlagged (s : State) (u at_ : Nat) : State :=
  if s.armsLate u at_ then (s.setAcq u (s.armedUnit u at_)).acqFlag u 19 else s.setAcq u (s.armedUnit u at_)

/-- The unit ARMED with WINNO 0. -/
def State.armMarked (s : State) (u at_ : Nat) : State :=
  let f := s.armFlagged u at_
  (f.setAcqW u 14 (putFld (f.acqW u 14) 21 10 0)).setAcqSt u 1

/-- The unit ARMED, the gleaner out of the way of an EDGES unit. -/
def State.armYielded (s : State) (u at_ : Nat) : State :=
  let m := s.armMarked u at_
  if m.acqF u 23 22 = 2 then m.gleanTdc u else m

/-- ARM takes effect at time base `at_`. -/
def State.armAt (s : State) (u at_ : Nat) : State :=
  if s.acqF u 21 19 = 3 then (s.armYielded u at_).acqHold u at_ else s.armYielded u at_

theorem State.armUnit_eq (s : State) (u : Nat) :
    ∃ n, (n = 3 ∨ n = 4) ∧ s.armUnit u = (s.crossed n).armAt u (s.ticks n).time.base := by
  obtain ⟨n, hn, hedge, hbase⟩ := s.captureEdge_crossed
  refine ⟨n, hn, ?_⟩
  have hunit : s.armUnit u = (s.captureEdge.2.toEdge (s.captureEdge.1 + 2)).armAt u
      ((s.captureEdge.2.toEdge (s.captureEdge.1 + 2)).baseAtEdge (s.captureEdge.1 + 2)) := rfl
  rw [hunit, hedge, hbase]

/-- The registers that a late ARM flags. -/
def State.lateRegs (s : State) (u at_ : Nat) : List (Nat × Nat) :=
  if s.armsLate u at_ then [((acqFlagBit u 19 2).1, (acqFlagBit u 19 2).2.1)] else []

theorem lateRegs_not_cfg (s : State) (u at_ : Nat) {i : Nat} (hi : i < 15) : (pACQ u, 0x10 + i) ∉ s.lateRegs u at_ := by
  unfold State.lateRegs acqFlagBit
  split
  · split
    · simp [acqPage, *]
      unfold ACQ_FLAG
      omega
    · simp [acqPage, *, pACQG]
      unfold pACQ
      omega
  · simp

theorem lateRegs_not_glean (s : State) (u at_ : Nat) : (pGLEAN, GLEAN_ABORT) ∉ s.lateRegs u at_ := by
  unfold State.lateRegs acqFlagBit
  split
  · split
    · simp [acqPage, *, pGLEAN]
    · simp [acqPage, *, pGLEAN, pACQG]
  · simp

/-- A flag of ACQ_FLAG is neither a status word nor GLEAN_ABORT. -/
theorem acqFlagBit_ne (u : Nat) : ((acqFlagBit u 19 2).1, (acqFlagBit u 19 2).2.1) ∉
    (if u < 64 then [14].map (fun i => (pACQ u, 0x10 + i)) else []) ++ ([] ++ []) ∧
    ((acqFlagBit u 19 2).1, (acqFlagBit u 19 2).2.1) ∉ [(pGLEAN, GLEAN_ABORT)] := by
  unfold acqFlagBit
  split
  · simp [acqPage, *, pGLEAN]
  · simp [acqPage, *, pGLEAN, pACQG]

theorem State.setAcqW_twice_with (f : State) (u : Nat) (w w' : Word) : (f.setAcqW u 14 w).setAcqW u 14 w' =
    { f with regs := ((f.setAcqW u 14 w).setAcqW u 14 w').regs, tabs := ((f.setAcqW u 14 w).setAcqW u 14 w').tabs } := by
  generalize hg : (f.setAcqW u 14 w).setAcqW u 14 w' = g
  rw [State.setAcqW_with, State.setAcqW_with] at hg
  rw [← hg]

theorem State.frame_armed {s f m d : State} {u : Nat} {v : AcqUnit} (hf : f = { s.setAcq u v with regs := f.regs })
    (hm : m = { f with regs := m.regs, tabs := m.tabs }) (hd : d = { m with regs := d.regs, glean := d.glean }) :
    d = { s with regs := d.regs, tabs := d.tabs, units := d.units, glean := d.glean } := by
  generalize m.regs = regs, m.tabs = tabs at hm
  generalize f.regs = regs' at hf
  generalize d.regs = regs'', d.glean = glean at hd
  subst hd hm hf
  rfl

section
variable (s : State) {u : Nat} (hu : u < 68) (at_ : Nat)
include hu

theorem State.armFlagged_gives :
    s.keepsButUnit (s.armFlagged u at_) u [14] (s.lateRegs u at_) ∧
      (s.armsLate u at_ = true →
        (s.armFlagged u at_).bitR (acqFlagBit u 19 2).1 (acqFlagBit u 19 2).2.1 (acqFlagBit u 19 2).2.2 = true) ∧
      s.armFlagged u at_ = { s.setAcq u (s.armedUnit u at_) with regs := (s.armFlagged u at_).regs } := by
  have hb : (19 = 19 ∧ 2 = 2) ∨ (19 = 23 ∧ 2 = 5) := .inl ⟨rfl, rfl⟩
  have hset : s.keepsButUnit (s.setAcq u (s.armedUnit u at_)) u [14] [] := s.setAcq_keeps u _
  unfold State.armFlagged State.lateRegs
  cases s.armsLate u at_ with
  | true =>
    simp only [if_true]
    exact ⟨hset.trans (State.acqFlag_keeps _ hb), fun _ => State.acqFlag_bit _ hb hu, State.acqFlag_with _ hb⟩
  | false => exact ⟨hset, fun h => absurd h (by simp), rfl⟩

/-- What stands when the unit is ARMED, before it asks for ADCs. -/
theorem State.armYielded_gives :
    let d := s.armYielded u at_
    d.acqSt u = 1 ∧ fld (d.acqW u 14) 21 10 = 0 ∧
      s.keepsButUnit d u [14] ((pGLEAN, GLEAN_ABORT) :: s.lateRegs u at_) ∧
      (s.armsLate u at_ = true →
        d.bitR (acqFlagBit u 19 2).1 (acqFlagBit u 19 2).2.1 (acqFlagBit u 19 2).2.2 = true) ∧
      (∀ x, d.acq x = if u = x then s.armedUnit u at_ else s.acq x) ∧
      (s.glean.borrow = none → d.glean = s.glean ∧ d.reg pGLEAN GLEAN_ABORT = s.reg pGLEAN GLEAN_ABORT) ∧
      (u < 64 → d.tabs = s.tabs) ∧
      d = { s with regs := d.regs, tabs := d.tabs, units := d.units, glean := d.glean } := by
  obtain ⟨hflag, hlate, hfwith⟩ := s.armFlagged_gives hu at_
  have hyield : (s.armMarked u at_).GleanGives (s.armYielded u at_) := by
    unfold State.armYielded
    simp only
    split
    · exact State.gleanTdc_gives ..
    · exact .refl _
  have hmark : s.armMarked u at_ = ((s.armFlagged u at_).setAcqW u 14 (putFld ((s.armFlagged u at_).acqW u 14) 21 10 0)).setAcqSt u 1 := rfl
  generalize s.armFlagged u at_ = f at hflag hlate hfwith hmark
  obtain ⟨hst, hwin⟩ := f.acqStat_set (u := u) (n := 0) (show 1 < 4 by decide)
  have hmkeeps : f.keepsButUnit (s.armMarked u at_) u [14] ([] ++ []) := by
    rw [hmark]
    exact (f.setAcqW_keeps hu _).trans (State.setAcqW_keeps _ hu _)
  have hmwith := f.setAcqW_twice_with u (putFld (f.acqW u 14) 21 10 0)
    (putFld ((f.setAcqW u 14 (putFld (f.acqW u 14) 21 10 0)).acqW u 14) 23 22 1)
  have hmtabs (h : u < 64) : (s.armMarked u at_).tabs = f.tabs := by
    rw [hmark, State.setAcqSt, State.setAcqW_tabs h, State.setAcqW_tabs h]
  rw [← hmark] at hst hwin
  rw [← State.setAcqSt, ← hmark] at hmwith
  generalize s.armMarked u at_ = m at hyield hst hwin hmkeeps hmwith hmtabs
  clear hmark
  generalize s.armYielded u at_ = d at hyield ⊢
  dsimp only
  obtain ⟨hdwith, hdkeeps, hdnone⟩ := hyield
  have hdtabs : d.tabs = m.tabs := by rw [hdwith]
  have hword : d.acqW u 14 = m.acqW u 14 := State.acqW_of_regs hdkeeps hdtabs (by decide) (by simp [pGLEAN])
  refine ⟨?_, ?_, ?_, fun hl => ?_, fun x => ?_, fun hb => ?_, fun h => ?_, State.frame_armed hfwith hmwith hdwith⟩
  · rw [State.acqSt, hword]
    exact hst
  · rw [hword, hwin]
  · refine ((hflag.trans hmkeeps).trans (State.keepsButUnit_of_regs u [14] hdkeeps hdtabs)).mono fun x hx => ?_
    simp only [List.append_nil, List.mem_append, List.mem_singleton] at hx
    exact List.mem_cons.2 hx.symm
  · obtain ⟨hne, hne'⟩ := acqFlagBit_ne u
    have hlt := (acqFlagBit_lt (u := u) (b := 19) (g := 2) (.inl ⟨rfl, rfl⟩)).1
    rw [State.bitR, hdkeeps _ _ hlt hne', hmkeeps.1.1 _ _ hlt hne]
    exact hlate hl
  · have hunits : d.units = (s.setAcq u (s.armedUnit u at_)).units := by rw [hdwith, hmwith, hfwith]
    rw [← State.acq_setAcq, State.acq, hunits, State.acq]
  · have hm : m.glean.borrow = none := by
      rw [hmwith, hfwith]
      exact hb
    rw [hdnone hm]
    refine ⟨by rw [hmwith, hfwith]; rfl, ?_⟩
    rw [hmkeeps.1.1 _ _ (by decide) (by simp [pGLEAN]), hflag.1.1 _ _ (by decide)]
    rw [List.mem_append, not_or]
    exact ⟨by simp [pGLEAN], lateRegs_not_glean s u at_⟩
  · rw [hdtabs, hmtabs h, hfwith]
    rfl

end

theorem State.acqHold_acq_self (s : State) {u : Nat} (b : Nat) (hsrc : s.acqF u 23 22 = 1) (hu : u < 64)
    (hheld : (s.acq u).heldAdc = false) : (s.acqHold u b).acq u =
      { s.acq u with heldAdc := true, wanted := ceilTo (s.gridStep u) b, holdFrom := s.claimEdge u b, lastGrid := none,
                     level := none } := by
  rw [s.acqHold_claims b hsrc hu hheld, State.acq_setAcq, if_pos rfl]

theorem State.frame_armHeld {w d t : State}
    (hd : d = { w with regs := d.regs, tabs := d.tabs, units := d.units, glean := d.glean })
    (ht : t = { d with regs := t.regs, units := t.units, octets := t.octets, glean := t.glean }) :
    t = { w with regs := t.regs, tabs := t.tabs, units := t.units, octets := t.octets, glean := t.glean } := by
  generalize d.regs = regs, d.tabs = tabs, d.units = units, d.glean = glean at hd
  generalize t.regs = regs', t.units = units', t.octets = octets, t.glean = glean' at ht
  subst hd ht
  rfl

section
variable {s w : State} {u n : Nat} (hu : u < 68) (hw : s.Entered w) (htime : w.time = (s.ticks n).time) (at_ : Nat)
  (hsrc : w.acqF u 21 19 = 3 → w.acqF u 23 22 = 1 ∧ u < 64)
include hu hw htime hsrc

/-- What ARM leaves that takes effect at time base `at_` in the state `w`, `n` cycles after `s`. -/
theorem State.armAt_spec :
    let t := w.armAt u at_
    t.acqSt u = 1 ∧ fld (t.acqW u 14) 21 10 = 0 ∧ (∀ x, x ≠ u → t.acq x = w.acq x) ∧
      w.keepsButUnit t u [14] ((pGLEAN, GLEAN_ABORT) :: w.lateRegs u at_) ∧
      (w.armsLate u at_ = true →
        t.bitR (acqFlagBit u 19 2).1 (acqFlagBit u 19 2).2.1 (acqFlagBit u 19 2).2.2 = true) ∧
      t.acq u = { w.armedUnit u at_ with
        heldAdc := w.acqF u 21 19 == 3, wanted := (t.acq u).wanted, holdFrom := (t.acq u).holdFrom } ∧
      (w.acqF u 21 19 = 3 → s.claims (s.ticks n) t u at_) ∧
      (w.acqF u 21 19 ≠ 3 → (t.acq u).wanted = 0 ∧ (t.acq u).holdFrom = 0 ∧ t.oct u = w.oct u) ∧
      (w.glean.borrow = none → t.glean = w.glean ∧ t.reg pGLEAN GLEAN_ABORT = w.reg pGLEAN GLEAN_ABORT) ∧
      (∀ c, c ≠ u → t.oct c = w.oct c) ∧
      t = { w with regs := t.regs, tabs := t.tabs, units := t.units, octets := t.octets, glean := t.glean } := by
  obtain ⟨hst, hwin, hkeeps, hlate, hacq, hborrow, htabs, hwith⟩ := w.armYielded_gives hu at_
  have harm : w.armAt u at_ = if w.acqF u 21 19 = 3 then (w.armYielded u at_).acqHold u at_ else w.armYielded u at_ := rfl
  generalize w.armYielded u at_ = d at hst hwin hkeeps hlate hacq hborrow htabs hwith harm
  have hoct (c : Nat) : d.oct c = w.oct c := by rw [State.oct, hwith, State.oct]
  have hunit : d.acq u = w.armedUnit u at_ := by rw [hacq, if_pos rfl]
  rw [harm]
  by_cases h3 : w.acqF u 21 19 = 3
  · rw [if_pos h3]
    obtain ⟨hone, hu64⟩ := hsrc h3
    have hcfg (hi lo : Nat) : d.acqF u hi lo = w.acqF u hi lo := by
      refine hkeeps.1.acqF hu fun hx => ?_
      rcases List.mem_cons.1 hx with hx | hx
      · simp [pGLEAN] at hx
      · exact lateRegs_not_cfg w u at_ (by decide) hx
    have hheld : (d.acq u).heldAdc = false := by rw [hunit]; rfl
    have hrate : d.reg (pOCTPE u) OCTPE_ADCRATE = w.reg (pOCTPE u) OCTPE_ADCRATE := by
      refine hkeeps.1.1 _ _ (by decide) ?_
      unfold State.lateRegs acqFlagBit acqPage
      split <;> simp [pOCTPE, pGLEAN]
    have hadcs : (s.ticks n).SameAdcs d u := by
      refine ⟨?_, ?_, ?_, ?_, ?_, ?_⟩
      · rw [hwith, hw.frame]; rfl
      · rw [hwith, hw.frame]; rfl
      · rw [hwith, htime]
      · rw [hwith, hw.frame]; rfl
      · rw [htabs hu64, hw.frame]; rfl
      · rw [hrate, hw.regs _ _ (by decide) (by decide)]; rfl
    have hclaims : s.claims (s.ticks n) (d.acqHold u at_) u at_ :=
      State.acqHold_claimed at_ hadcs rfl rfl ((hcfg 7 0).trans (hw.acqF ..)) ((hcfg 23 22).trans hone) hu64 hheld
    have hself := d.acqHold_acq_self at_ ((hcfg 23 22).trans hone) hu64 hheld
    obtain ⟨hstay, hothers, hocts, hhborrow, hhwith⟩ := d.acqHold_gives (u := u) at_
    generalize d.acqHold u at_ = t at hclaims hself hstay hothers hocts hhborrow hhwith
    have httabs : t.tabs = d.tabs := by rw [hhwith]
    have hword : t.acqW u 14 = d.acqW u 14 := State.acqW_of_regs hstay httabs (by decide) (by simp [pGLEAN])
    refine ⟨?_, ?_, fun x hx => ?_, ?_, fun hl => ?_, ?_, fun _ => hclaims, fun hne => absurd h3 hne, fun hb => ?_,
      fun c hc => ?_, State.frame_armHeld hwith hhwith⟩
    · rw [State.acqSt, hword]
      exact hst
    · rw [hword, hwin]
    · rw [hothers x hx, hacq, if_neg (Ne.symm hx)]
    · exact (hkeeps.trans (State.keepsButUnit_of_regs u [14] hstay httabs)).mono (by simp)
    · rw [State.bitR, hstay _ _ (acqFlagBit_lt (.inl ⟨rfl, rfl⟩)).1 (acqFlagBit_ne u).2]
      exact hlate hl
    · rw [hself, hunit, h3]
      rfl
    · have hdb : d.glean.borrow = none := by rw [(hborrow hb).1, hb]
      exact ⟨(hhborrow hdb).1.trans (hborrow hb).1, (hhborrow hdb).2.trans (hborrow hb).2⟩
    · rw [hocts c hc, hoct]
  · rw [if_neg h3]
    refine ⟨hst, hwin, fun x hx => ?_, hkeeps, hlate, ?_, fun h => absurd h h3, fun _ => ?_, hborrow, fun c _ => hoct c, ?_⟩
    · rw [hacq, if_neg (Ne.symm hx)]
    · rw [hunit, beq_eq_false_iff_ne.2 h3]
      rfl
    · rw [hunit]
      exact ⟨rfl, rfl, hoct u⟩
    · have hocts : d.octets = w.octets := by rw [hwith]
      rw [hocts]
      exact hwith

end

/-! ### DISARM (R316) -/

/-- DISARM takes effect at time base `b`. -/
def State.disarmAt (s : State) (u b : Nat) : State :=
  let d := s.windowsDue u b 8
  if d.acqSt u = 2 then d.closeWindow u b 5 0 else (d.acqRelease u b).setAcqSt u 0

theorem State.disarm_eq (s : State) (u : Nat) :
    ∃ n, (n = 3 ∨ n = 4) ∧ s.disarm u = (s.crossed n).disarmAt u (s.ticks n).time.base := by
  obtain ⟨n, hn, hedge, hbase⟩ := s.captureEdge_crossed
  refine ⟨n, hn, ?_⟩
  have hunit : s.disarm u = (s.captureEdge.2.toEdge (s.captureEdge.1 + 2)).disarmAt u
      ((s.captureEdge.2.toEdge (s.captureEdge.1 + 2)).baseAtEdge (s.captureEdge.1 + 2)) := rfl
  rw [hunit, hedge, hbase]

/-- No window is due of an ARMED unit whose next one opens later. -/
theorem State.windowsDue_armed {s : State} {u b : Nat} (n : Nat) (hst : s.acqSt u = 1)
    (hlater : ∀ x, (s.acq u).nextOpen (s.acqF u 21 19 == 0) = some x → b < x + (s.acqW u 3).toNat) :
    s.windowsDue u b (n + 1) = s := by
  have h2 : ¬ s.acqSt u = 2 := by omega
  rw [State.windowsDue]
  simp only [if_neg h2, if_pos hst]
  split
  · next x hx => rw [if_neg (by have := hlater x hx; omega)]
  · rfl

/-- No window is due of an OPEN unit that does not know when its window closes. -/
theorem State.windowsDue_open {s : State} {u b : Nat} (n : Nat) (hst : s.acqSt u = 2) (htc : (s.acq u).tclose = none) :
    s.windowsDue u b (n + 1) = s := by
  rw [State.windowsDue]
  simp only [if_pos hst, htc]

theorem State.frame_disarmed {w r : State} {u : Nat} {x : Word} (hr : r = { w with units := r.units, octets := r.octets }) :
    r.setAcqW u 14 x = { w with regs := (r.setAcqW u 14 x).regs, tabs := (r.setAcqW u 14 x).tabs,
                                units := (r.setAcqW u 14 x).units, octets := (r.setAcqW u 14 x).octets } := by
  have hset := r.setAcqW_with (u := u) 14 x
  generalize r.setAcqW u 14 x = t at hset
  generalize r.units = units, r.octets = octets at hr
  generalize t.regs = regs, t.tabs = tabs at hset
  subst hr hset
  rfl

/-- What DISARM leaves of a unit with no window due. -/
theorem State.disarmAt_armed {w : State} {u b : Nat} (hu : u < 68) (hst : w.acqSt u = 1)
    (hlater : ∀ x, (w.acq u).nextOpen (w.acqF u 21 19 == 0) = some x → b < x + (w.acqW u 3).toNat) :
    let t := w.disarmAt u b
    t.acqSt u = 0 ∧ w.keepsButUnit t u [14] [] ∧ (∀ x, x ≠ u → t.acq x = w.acq x) ∧
      t.acq u = { w.acq u with heldAdc := false } ∧
      t.oct u = (if (w.acq u).heldAdc then w.freedAdcs u b else w.oct u) ∧ (∀ c, c ≠ u → t.oct c = w.oct c) ∧
      t = { w with regs := t.regs, tabs := t.tabs, units := t.units, octets := t.octets } := by
  have ht : w.disarmAt u b = (w.acqRelease u b).setAcqSt u 0 := by
    have h2 : ¬ w.acqSt u = 2 := by omega
    rw [State.disarmAt]
    simp only [State.windowsDue_armed 7 hst hlater, if_neg h2]
  rw [ht]
  have hacq (x : Nat) : ((w.acqRelease u b).setAcqSt u 0).acq x = if u = x then { w.acq u with heldAdc := false } else w.acq x := by
    rw [State.setAcqSt, State.acq_setAcqW, State.acqRelease_acq]
  have hoct (c : Nat) : ((w.acqRelease u b).setAcqSt u 0).oct c =
      if u = c ∧ (w.acq u).heldAdc = true then w.freedAdcs u b else w.oct c := by
    rw [State.setAcqSt, State.oct_setAcqW, State.acqRelease_oct]
  refine ⟨((w.acqRelease u b).acqSt_setAcqSt (by decide)).1, (w.acqRelease_keeps u b).trans (State.setAcqW_keeps _ hu _),
    fun x hx => ?_, ?_, ?_, fun c hc => ?_, State.frame_disarmed (w.acqRelease_with u b)⟩
  · rw [hacq, if_neg (Ne.symm hx)]
  · rw [hacq, if_pos rfl]
  · rw [hoct]
    simp only [true_and]
  · rw [hoct, if_neg fun e => hc e.1.symm]

/-! ### The command is written (R333, R334) -/

theorem State.timingPage_acq {u : Nat} (hu : u < 68) : timingPage (acqPage u) = false := by
  simp only [timingPage, Bool.or_eq_false_iff, Bool.and_eq_false_iff, beq_eq_false_iff_ne, decide_eq_false_iff_not]
  unfold acqPage pTBASE pSKEW pACQ pACQG
  split <;> omega

/-- The kind of a unit's page. -/
def acqKind (u : Nat) : Kind := if u < 64 then .octacq else .acqg

theorem kindOf_acq (u : Nat) : kindOf (acqPage u) = some (acqKind u) := by
  unfold acqPage acqKind
  split
  · next h =>
    unfold kindOf pACQ
    simp only [show ¬ 0x180 + u < 0x100 by omega, show ¬ 0x180 + u < 0x140 by omega, show ¬ 0x180 + u < 0x180 by omega,
      show 0x180 + u < 0x1C0 by omega, if_true, if_false]
  · rfl

/-- The register of a unit's commands, and the word that gives one: 1 ARM, 2 DISARM. -/
def acqCmdOff (u : Nat) : Nat := if u < 64 then ACQ_CMD else ACQG_GCMD
def acqCmdWord (u c : Nat) : Word := if u < 64 then word c else word (c * 2 ^ 22 + (u - 64) % 4)

theorem acqCmdWord_global {u c : Nat} (hu : u < 68) (h64 : 64 ≤ u) (hc : c = 1 ∨ c = 2) :
    fld (acqCmdWord u c) 23 22 = c ∧ fld (acqCmdWord u c) 21 2 = 0 ∧ 64 + fld (acqCmdWord u c) 1 0 = u := by
  have h : ¬ u < 64 := by omega
  unfold acqCmdWord
  rw [if_neg h]
  obtain ⟨k, rfl⟩ := Nat.exists_eq_add_of_le h64
  have hk : k < 4 := by omega
  rw [Nat.add_sub_cancel_left]
  rcases hc with rfl | rfl <;> interval_cases k <;> decide

theorem instOf_acq {u : Nat} (h : u < 64) : instOf (acqPage u) = u := by
  unfold acqPage instOf pACQ
  rw [if_pos h, if_neg (by omega)]
  omega

section
variable (v : State) {u c : Nat} (hu : u < 68) (hc : c = 1 ∨ c = 2) (ini : Nat)
include hu hc

/-- The check of a unit's command (R316, R317). -/
theorem State.checkReg_acqCmd {p : Put} (hp : p.w = acqCmdWord u c) : v.checkReg ini (acqPage u) (acqKind u) (acqCmdOff u) p =
    if c = 1 then v.checkAcqArm u else refuse (v.acqSt u == 0 || v.acqSt u == 3) .state := by
  unfold acqKind acqCmdOff
  by_cases h : u < 64
  · have hword : p.w = word c := by rw [hp, acqCmdWord, if_pos h]
    rw [if_pos h, if_pos h, State.checkReg, if_neg (show ¬ ACQ_CMD < 0x0A by decide)]
    simp only [if_neg (show ¬ ACQ_CMD < ACQ_STAT by decide), if_true, instOf_acq h, hword, State.checkAcqCmd]
    rcases hc with rfl | rfl
    · simp only [if_neg (show ¬ 3 ≤ (word 1).toNat by decide), show bit (word 1) 0 = true by decide, if_true]
    · simp only [if_neg (show ¬ 3 ≤ (word 2).toNat by decide), show bit (word 2) 0 = false by decide,
        show bit (word 2) 1 = true by decide, Bool.false_eq_true, if_false, if_true, if_neg (show ¬ 2 = 1 by decide)]
  · obtain ⟨hact, hzero, hunit⟩ := acqCmdWord_global hu (by omega) hc
    have hc03 : ¬ (c = 0 ∨ c = 3 ∨ 0 ≠ 0) := by omega
    rw [if_neg h, if_neg h, State.checkReg, if_neg (show ¬ ACQG_GCMD < 0x0A by decide)]
    simp only [hp, State.checkGcmd, hact, hzero, hunit, if_neg hc03]
    rw [if_neg (by decide), if_neg (by decide), if_neg (by decide), if_pos trivial]

/-- A unit's command takes its effect. -/
theorem State.actReg_acqCmd : v.actReg v {} ini (acqPage u) (acqKind u) (acqCmdOff u) (putCmd (acqCmdWord u c)) =
    if c = 1 then v.armUnit u else v.disarm u := by
  unfold acqKind acqCmdOff
  by_cases h : u < 64
  · simp only [if_pos h, State.actReg, if_true, instOf_acq h, putCmd, acqCmdWord]
    rcases hc with rfl | rfl
    · simp only [State.acqCmd, show bit (word 1) 0 = true by decide, if_true]
    · simp only [State.acqCmd, show bit (word 2) 0 = false by decide, show bit (word 2) 1 = true by decide, Bool.false_eq_true,
        if_false, if_true, if_neg (show ¬ 2 = 1 by decide)]
  · obtain ⟨hact, -, hunit⟩ := acqCmdWord_global hu (by omega) hc
    simp only [if_neg h, State.actReg, putCmd]
    rw [if_neg (by decide), if_neg (by decide), if_pos trivial, State.gcmd]
    simp only [hact, hunit]

end

theorem regInfo_acqCmd (u : Nat) : regInfo (acqKind u) (acqCmdOff u) = some { off := acqCmdOff u, wo := 0xFFFFFF } := by
  unfold acqKind acqCmdOff
  split <;> rfl

theorem acqCmdOff_le (u : Nat) : 0x10 ≤ acqCmdOff u ∧ acqCmdOff u ≤ lastOff (acqKind u) ∧ acqCmdOff u < 256 := by
  unfold acqKind acqCmdOff
  split <;> decide

theorem acqPage_lt {u : Nat} (hu : u < 68) : acqPage u < 4096 := by
  unfold acqPage pACQ pACQG
  split <;> omega

section
variable {s : State} {ini : Ini} {u c : Nat} (hu : u < 68) (hc : c = 1 ∨ c = 2) (hg : s.gate_ ini (acqPage u) true = none)
include hu hc hg

/-- A command that the unit's check lets in takes its effect, and the answer is OK. -/
theorem State.writeAcqCmd_let
    (hcheck : (if c = 1 then (s.served ini (acqPage u)).checkAcqArm u
      else refuse ((s.served ini (acqPage u)).acqSt u == 0 || (s.served ini (acqPage u)).acqSt u == 3) .state) = none) :
    s.writeReg {} ini (acqPage u) (acqCmdOff u) (acqCmdWord u c) =
      (if c = 1 then (s.served ini (acqPage u)).armUnit u else (s.served ini (acqPage u)).disarm u).ok := by
  obtain ⟨h10, hlast, ho⟩ := acqCmdOff_le u
  have hstaged : s.writesStaged ini (acqPage u) (acqKind u) (acqCmdOff u) 1 = false := by
    unfold acqKind
    split <;> rfl
  rw [State.writeReg_command (k := acqKind u) (acqPage_lt hu) h10 ho hg (kindOf_acq u) hlast (regInfo_acqCmd u) (by decide)
    (BitVec.and_allOnes) hstaged, State.actReg_acqCmd _ hu hc, State.leavePage_of (State.timingPage_acq hu)]
  · rwa [State.checkReg_acqCmd _ hu hc _ rfl]
  · unfold acqKind acqCmdOff
    split <;> decide

/-- A command that the unit's check rejects. -/
theorem State.writeAcqCmd_refused {e : Err} (he : e ≠ .loop)
    (hcheck : (if c = 1 then (s.served ini (acqPage u)).checkAcqArm u
      else refuse ((s.served ini (acqPage u)).acqSt u == 0 || (s.served ini (acqPage u)).acqSt u == 3) .state) = some e) :
    s.writeReg {} ini (acqPage u) (acqCmdOff u) (acqCmdWord u c) =
      (s.serve ini (acqPage u)).reject ini (acqPage u) (acqCmdOff u) e := by
  obtain ⟨h10, hlast, ho⟩ := acqCmdOff_le u
  have hstaged : s.writesStaged ini (acqPage u) (acqKind u) (acqCmdOff u) 1 = false := by
    unfold acqKind
    split <;> rfl
  have hword : (State.putMasked (s.served ini (acqPage u)) (acqPage u) { off := acqCmdOff u, wo := 0xFFFFFF } 0xFFFFFF
      (acqCmdWord u c)).w = acqCmdWord u c := by
    have hall (w : Word) : w &&& 16777215#24 = w := BitVec.and_allOnes
    simp [State.putMasked, putOf, hall]
  rw [State.writeReg, State.writeBurst_refused (acqPage_lt hu) h10 ho hg (kindOf_acq u) hstaged hlast (regInfo_acqCmd u)
    rfl rfl rfl (by simp [RegInfo.writable]) rfl he, State.leavePage_of (State.timingPage_acq hu)]
  rwa [State.checkReg_acqCmd _ hu hc _ hword]

end

theorem State.exec_acqArm (s : State) (ini : Ini) (u : Nat) :
    exec (.acqArm ini u) s = .next (s.writeReg {} ini (acqPage u) (acqCmdOff u) (acqCmdWord u 1)) := by
  show execAcqArm ini u s = _
  unfold execAcqArm acqPage acqCmdOff acqCmdWord
  split <;> rfl

theorem State.exec_acqDisarm (s : State) (ini : Ini) (u : Nat) :
    exec (.acqDisarm ini u) s = .next (s.writeReg {} ini (acqPage u) (acqCmdOff u) (acqCmdWord u 2)) := by
  show execAcqDisarm ini u s = _
  unfold execAcqDisarm acqPage acqCmdOff acqCmdWord
  split <;> rfl

/-! ### What the commands leave -/

section
variable {s w : State} (h : s.Entered w)
include h

theorem State.Entered.openAt (u : Nat) : w.openAt u = s.openAt u := by
  rw [State.openAt, h.acqW u (by decide), h.acqW u (by decide), h.acqW u (by decide), State.openAt]

theorem State.Entered.armsLate (u b : Nat) : w.armsLate u b = s.armsLate u b := by
  rw [State.armsLate, h.acqF, h.openAt, State.armsLate]

theorem State.Entered.armedUnit (u b : Nat) : w.armedUnit u b = s.armedUnit u b := by
  simp only [State.armedUnit, h.acqF, h.armsLate, h.openAt, h.acq]

theorem State.Entered.lateRegs (u b : Nat) : w.lateRegs u b = s.lateRegs u b := by rw [State.lateRegs, h.armsLate, State.lateRegs]

end

/-- A page that has served an access counts it, and no unit's word changes. -/
theorem State.served_keeps (s : State) (ini : Nat) {u : Nat} (hu : u < 68) (n : Nat) :
    s.keepsButUnit ((s.served ini (acqPage u)).crossed n) u [14] [(acqPage u, PG_SEQ)] := by
  have htabs : ((s.served ini (acqPage u)).crossed n).tabs = s.tabs := by
    show (s.served ini (acqPage u)).tabs = s.tabs
    rw [State.served_with (State.timingPage_acq hu)]
  exact State.keepsButUnit_of_regs u [14] (State.served_keepsRegs (State.timingPage_acq hu)) htabs

/-- A command's effect keeps the count of the access that gave it. -/
theorem State.pgSeq_served {s t : State} {ini u n : Nat} {ex : List (Nat × Nat)} (hu : u < 68)
    (ht : ((s.served ini (acqPage u)).crossed n).keepsButRing t u [14] ex) (hex : (acqPage u, PG_SEQ) ∉ ex) :
    t.reg (acqPage u) PG_SEQ = s.reg (acqPage u) PG_SEQ + 1 := by
  rw [ht.1 _ _ (by decide)]
  · exact State.served_pgSeq (State.timingPage_acq hu)
  · rw [List.mem_append, not_or]
    refine ⟨?_, hex⟩
    split <;> simp

theorem lateRegs_not_seq (s : State) (u b : Nat) : (acqPage u, PG_SEQ) ∉ s.lateRegs u b := by
  unfold State.lateRegs acqFlagBit
  split
  · split <;> simp
  · simp

theorem State.frame_command {s w t : State} (hw : w = { s with regs := w.regs, rot := w.rot, time := w.time, fresh := w.fresh })
    (hfresh : w.fresh = s.fresh + 1)
    (ht : t = { w with regs := t.regs, tabs := t.tabs, units := t.units, octets := t.octets, glean := t.glean }) :
    t.ok = { s with regs := t.ok.regs, tabs := t.ok.tabs, rot := t.ok.rot, reply := t.ok.reply, time := t.ok.time,
                    fresh := s.fresh + 1, units := t.ok.units, octets := t.ok.octets, glean := t.ok.glean } := by
  rw [← hfresh]
  generalize w.regs = regs, w.rot = rot, w.time = time, w.fresh = fresh at hw
  generalize t.regs = regs', t.tabs = tabs, t.units = units, t.octets = octets, t.glean = glean at ht
  subst hw ht
  rfl

/-- An ARM that its check lets in found SRC ADC on an octet unit where LEVEL opens (R317). -/
theorem State.level_of_checkAcqArm {s : State} {u : Nat} (h : s.checkAcqArm u = none) (hlevel : s.acqF u 21 19 = 3) :
    s.acqF u 23 22 = 1 ∧ u < 64 := by
  have hbad : s.acqBad u = false := by
    unfold State.checkAcqArm at h
    simp only at h
    split at h
    · exact absurd h (by simp)
    · split at h
      · exact absurd h (by simp)
      · next hne => simpa using fun e => hne (.inl e)
  simp only [State.acqBad, hlevel, Bool.or_eq_false_iff] at hbad
  obtain ⟨⟨⟨⟨⟨-, hsrc⟩, -⟩, -⟩, -⟩, hglobal⟩ := hbad
  have hadc : s.acqF u 23 22 = 1 ∧ nbit (s.acqF u 7 0) (s.acqF u 10 8) = true := by simpa using hsrc
  exact ⟨hadc.1, by simpa using hglobal⟩

theorem State.checkAcqArm_ne_loop {s : State} {u : Nat} {e : Err} (h : s.checkAcqArm u = some e) : e ≠ .loop := by
  unfold State.checkAcqArm at h
  rintro rfl
  simp only at h
  split at h
  · simp at h
  · split at h
    · simp at h
    · split at h
      · simp at h
      · simp at h

/-- The state in which a unit's command takes effect, `n` cycles after the access. -/
theorem State.command_entered (s : State) (ini : Ini) {u : Nat} (hu : u < 68) (n : Nat) :
    let w := (s.served ini (acqPage u)).crossed n
    s.Entered w ∧ w.time = (s.ticks n).time ∧ w.fresh = s.fresh + 1 ∧
      ((s.served ini (acqPage u)).ticks n).time.base = (s.ticks n).time.base := by
  have hserved := s.served_entered (ini := ini) (State.timingPage_acq hu)
  have hclock : (s.served ini (acqPage u)).time = s.time ∧ (s.served ini (acqPage u)).fresh = s.fresh := by
    rw [State.served_with (State.timingPage_acq hu)]
    exact ⟨rfl, rfl⟩
  obtain ⟨hw, htime, hfresh⟩ := State.crossed_trans hserved hclock.1 hclock.2 n
  exact ⟨hw, htime, hfresh, by rw [State.ticks_base, State.ticks_base, hclock.1]⟩

theorem State.frame_disarm {s w t : State} (hw : w = { s with regs := w.regs, rot := w.rot, time := w.time, fresh := w.fresh })
    (hfresh : w.fresh = s.fresh + 1)
    (ht : t = { w with regs := t.regs, tabs := t.tabs, units := t.units, octets := t.octets }) :
    t.ok = { s with regs := t.ok.regs, tabs := t.ok.tabs, rot := t.ok.rot, reply := t.ok.reply, time := t.ok.time,
                    fresh := s.fresh + 1, units := t.ok.units, octets := t.ok.octets } := by
  rw [← hfresh]
  generalize w.regs = regs, w.rot = rot, w.time = time, w.fresh = fresh at hw
  generalize t.regs = regs', t.tabs = tabs, t.units = units, t.octets = octets at ht
  subst hw ht
  rfl

theorem State.frame_disarmOpen {s w t : State}
    (hw : w = { s with regs := w.regs, rot := w.rot, time := w.time, fresh := w.fresh }) (hfresh : w.fresh = s.fresh + 1)
    (ht : t = { w with regs := t.regs, tabs := t.tabs, units := t.units, octets := t.octets, recs := t.recs, bankMem := t.bankMem }) :
    t.ok = { s with regs := t.ok.regs, tabs := t.ok.tabs, rot := t.ok.rot, reply := t.ok.reply, time := t.ok.time,
                    fresh := s.fresh + 1, units := t.ok.units, octets := t.ok.octets, recs := t.ok.recs,
                    bankMem := t.ok.bankMem } := by
  rw [← hfresh]
  generalize w.regs = regs, w.rot = rot, w.time = time, w.fresh = fresh at hw
  generalize t.regs = regs', t.tabs = tabs, t.units = units, t.octets = octets, t.recs = recs, t.bankMem = mem at ht
  subst hw ht
  rfl

section
variable {s : State} {ini : Ini} {u : Nat} (hu : u < 68) (hg : s.gate_ ini (acqPage u) true = none)
include hu hg

/-- ARM of a unit whose checks pass (R316, R317). -/
theorem State.arms (hcheck : s.checkAcqArm u = none) :
    ∃ t n, exec (.acqArm ini u) s = .next t ∧ (t.reply = ⟨0, []⟩ ∧ t.reg (acqPage u) PG_SEQ = s.reg (acqPage u) PG_SEQ + 1) ∧
      (n = 3 ∨ n = 4) ∧ t.time = (s.ticks n).time ∧ t.acqSt u = 1 ∧ fld (t.acqW u 14) 21 10 = 0 ∧
      (∀ x, x ≠ u → t.acq x = s.acq x) ∧
      (let at_ := (s.ticks n).time.base
       s.keepsButUnit t u [14] ((acqPage u, PG_SEQ) :: (pGLEAN, GLEAN_ABORT) :: s.lateRegs u at_) ∧
       (s.armsLate u at_ = true →
         t.bitR (acqFlagBit u 19 2).1 (acqFlagBit u 19 2).2.1 (acqFlagBit u 19 2).2.2 = true) ∧
       t.acq u = { s.armedUnit u at_ with
         heldAdc := s.acqF u 21 19 == 3, wanted := (t.acq u).wanted, holdFrom := (t.acq u).holdFrom } ∧
       (s.acqF u 21 19 = 3 → s.claims (s.ticks n) t u at_) ∧
       (s.acqF u 21 19 ≠ 3 → (t.acq u).wanted = 0 ∧ (t.acq u).holdFrom = 0 ∧ t.oct u = s.oct u)) ∧
      (s.glean.borrow = none → t.glean = s.glean ∧ t.reg pGLEAN GLEAN_ABORT = s.reg pGLEAN GLEAN_ABORT) ∧
      (∀ c, c ≠ u → t.oct c = s.oct c) ∧
      t = { s with regs := t.regs, tabs := t.tabs, rot := t.rot, reply := t.reply, time := t.time, fresh := s.fresh + 1,
                   units := t.units, octets := t.octets, glean := t.glean } := by
  have hserved := s.served_entered (ini := ini) (State.timingPage_acq hu)
  obtain ⟨n, hn, harm⟩ := (s.served ini (acqPage u)).armUnit_eq u
  obtain ⟨hw, htime, hfresh, hbase⟩ := s.command_entered ini hu n
  have hkeeps := s.served_keeps ini hu n
  have hexec : exec (.acqArm ini u) s = .next ((((s.served ini (acqPage u)).crossed n).armAt u (s.ticks n).time.base).ok) := by
    rw [State.exec_acqArm, State.writeAcqCmd_let hu (.inl rfl) hg (by rw [if_pos rfl, hserved.checkAcqArm, hcheck]), if_pos rfl, harm,
      hbase]
  have hseq {t : State} {ex : List (Nat × Nat)} := State.pgSeq_served (s := s) (t := t) (ini := ini) (n := n) (ex := ex) hu
  generalize (s.served ini (acqPage u)).crossed n = w at hw htime hfresh hkeeps hexec hseq
  have hlevel : w.acqF u 21 19 = 3 → w.acqF u 23 22 = 1 ∧ u < 64 := by
    rw [hw.acqF, hw.acqF]
    exact State.level_of_checkAcqArm hcheck
  have hspec := State.armAt_spec hu hw htime (s.ticks n).time.base hlevel
  generalize w.armAt u (s.ticks n).time.base = t at hexec hspec
  obtain ⟨hst, hwin, hothers, hstay, hlate, hunit, hclaim, hnone, hborrow, hocts, hframe⟩ := hspec
  have httime : t.time = (s.ticks n).time := by rw [hframe, htime]
  simp only [hw.lateRegs, hw.armsLate, hw.armedUnit, hw.acqF, hw.acq, hw.oct] at hothers hstay hlate hunit hclaim hnone hocts
  have hglean : w.glean = s.glean ∧ w.reg pGLEAN GLEAN_ABORT = s.reg pGLEAN GLEAN_ABORT :=
    ⟨by rw [hw.frame], hw.regs _ _ (by decide) (by decide)⟩
  rw [hglean.1, hglean.2] at hborrow
  refine ⟨t.ok, n, hexec, ⟨rfl, hseq hstay.1 ?_⟩, hn, httime, hst, hwin, hothers,
    ⟨hkeeps.trans hstay, hlate, hunit, hclaim, hnone⟩, hborrow, hocts, State.frame_command hw.frame hfresh hframe⟩
  exact fun hx => (List.mem_cons.1 hx).elim (by simp [pGLEAN]) (lateRegs_not_seq s u _)

/-- DISARM of a unit that is ARMED or OPEN passes its check. -/
theorem State.exec_acqDisarm_let (hst : s.acqSt u = 1 ∨ s.acqSt u = 2) : ∃ n, (n = 3 ∨ n = 4) ∧
    exec (.acqDisarm ini u) s = .next ((((s.served ini (acqPage u)).crossed n).disarmAt u (s.ticks n).time.base).ok) := by
  have hserved := s.served_entered (ini := ini) (State.timingPage_acq hu)
  obtain ⟨n, hn, hdis⟩ := (s.served ini (acqPage u)).disarm_eq u
  obtain ⟨-, -, -, hbase⟩ := s.command_entered ini hu n
  refine ⟨n, hn, ?_⟩
  have hcheck : (if 2 = 1 then (s.served ini (acqPage u)).checkAcqArm u
      else refuse ((s.served ini (acqPage u)).acqSt u == 0 || (s.served ini (acqPage u)).acqSt u == 3) .state) = none := by
    rw [if_neg (by decide), hserved.acqSt]
    rcases hst with h | h <;> rw [h] <;> rfl
  rw [State.exec_acqDisarm, State.writeAcqCmd_let hu (.inr rfl) hg hcheck, if_neg (by decide), hdis, hbase]

/-- DISARM of an ARMED unit with no window due. -/
theorem State.disarmsArmed (hst : s.acqSt u = 1) (hlater : ∀ x, (s.acq u).nextOpen (s.acqF u 21 19 == 0) = some x →
      (s.ticks 4).time.base < x + (s.acqW u 3).toNat ∧ (s.ticks 3).time.base < x + (s.acqW u 3).toNat) :
    ∃ t n, exec (.acqDisarm ini u) s = .next t ∧ (t.reply = ⟨0, []⟩ ∧ t.reg (acqPage u) PG_SEQ = s.reg (acqPage u) PG_SEQ + 1) ∧
      (n = 3 ∨ n = 4) ∧ t.time = (s.ticks n).time ∧ t.acqSt u = 0 ∧ s.keepsButUnit t u [14] [(acqPage u, PG_SEQ)] ∧
      (∀ x, x ≠ u → t.acq x = s.acq x) ∧ t.acq u = { s.acq u with heldAdc := false } ∧
      t.oct u = (if (s.acq u).heldAdc then s.freedAdcs u (s.ticks n).time.base else s.oct u) ∧
      (∀ c, c ≠ u → t.oct c = s.oct c) ∧
      t = { s with regs := t.regs, tabs := t.tabs, rot := t.rot, reply := t.reply, time := t.time, fresh := s.fresh + 1,
                   units := t.units, octets := t.octets } := by
  obtain ⟨n, hn, hexec⟩ := State.exec_acqDisarm_let hu hg (.inl hst)
  obtain ⟨hw, htime, hfresh, -⟩ := s.command_entered ini hu n
  have hkeeps := s.served_keeps ini hu n
  have hseq {t : State} {ex : List (Nat × Nat)} := State.pgSeq_served (s := s) (t := t) (ini := ini) (n := n) (ex := ex) hu
  generalize (s.served ini (acqPage u)).crossed n = w at hw htime hfresh hkeeps hexec hseq
  have hdue : ∀ x, (w.acq u).nextOpen (w.acqF u 21 19 == 0) = some x → (s.ticks n).time.base < x + (w.acqW u 3).toNat := by
    intro x hx
    rw [hw.acq, hw.acqF] at hx
    rw [hw.acqW u (by decide)]
    rcases hn with rfl | rfl
    · exact (hlater x hx).2
    · exact (hlater x hx).1
  have hspec := State.disarmAt_armed hu ((hw.acqSt u).trans hst) hdue
  generalize w.disarmAt u (s.ticks n).time.base = t at hexec hspec
  obtain ⟨hidle, hstay, hothers, hunit, hoct, hocts, hframe⟩ := hspec
  simp only [hw.acq, hw.oct, hw.freedAdcs] at hothers hunit hoct hocts
  have httime : t.time = (s.ticks n).time := by rw [hframe, htime]
  exact ⟨t.ok, n, hexec, ⟨rfl, hseq hstay.1 (by simp)⟩, hn, httime, hidle, hkeeps.trans hstay, hothers, hunit, hoct, hocts,
    State.frame_disarm hw.frame hfresh hframe⟩

/-- DISARM of an OPEN unit whose record has room. -/
theorem State.disarmsOpen (hst : s.acqSt u = 2) (htc : (s.acq u).tclose = none) (hchg : (s.acq u).chg = [])
    (hheld : (s.acq u).heldAdc = false)
    (hroom : ∀ tc, (s.windowRecord u tc 5).length ≤ s.ringFree u ∧ s.ringFails u (s.windowRecord u tc 5).length = false) :
    ∃ t n, exec (.acqDisarm ini u) s = .next t ∧ (t.reply = ⟨0, []⟩ ∧ t.reg (acqPage u) PG_SEQ = s.reg (acqPage u) PG_SEQ + 1) ∧
      (n = 3 ∨ n = 4) ∧ t.time = (s.ticks n).time ∧ s.closesWindow t u (s.ticks n).time.base 5 0 ∧
      s.keepsButRing t u [14] [(acqPage u, PG_SEQ), (pACQG, ACQG_RECS)] ∧
      t = { s with regs := t.regs, tabs := t.tabs, rot := t.rot, reply := t.reply, time := t.time, fresh := s.fresh + 1,
                   units := t.units, octets := t.octets, recs := t.recs, bankMem := t.bankMem } := by
  obtain ⟨n, hn, hexec⟩ := State.exec_acqDisarm_let hu hg (.inr hst)
  obtain ⟨hw, htime, hfresh, -⟩ := s.command_entered ini hu n
  have hkeeps := s.served_keeps ini hu n
  have hseq {t : State} {ex : List (Nat × Nat)} := State.pgSeq_served (s := s) (t := t) (ini := ini) (n := n) (ex := ex) hu
  generalize (s.served ini (acqPage u)).crossed n = w at hw htime hfresh hkeeps hexec hseq
  have hclose : w.disarmAt u (s.ticks n).time.base = w.closeWindow u (s.ticks n).time.base 5 0 := by
    have hst' : w.acqSt u = 2 := (hw.acqSt u).trans hst
    rw [State.disarmAt]
    simp only [State.windowsDue_open 7 hst' ((congrArg AcqUnit.tclose (hw.acq u)).trans htc), if_pos hst']
  obtain ⟨hfree, hfails⟩ := hroom (s.ticks n).time.base
  rw [← hw.windowRecord] at hfree hfails
  have hspec := State.closeWindow_closes (s := w) (u := u) (tc := (s.ticks n).time.base) (code := 5) (next := 0) hu (by decide)
    (by rw [hw.acq, hchg]) (fun h => absurd h (by rw [hw.acq, hheld]; decide)) (by rwa [hw.ringFree]) (by rwa [hw.ringFails])
  rw [hclose] at hexec
  generalize w.closeWindow u (s.ticks n).time.base 5 0 = t at hexec hspec
  obtain ⟨hcloses, hstay, hframe⟩ := hspec
  have httime : t.time = (s.ticks n).time := by rw [hframe, htime]
  have hcloses' : s.closesWindow t u (s.ticks n).time.base 5 0 := hw.closesWindow hcloses
  exact ⟨t.ok, n, hexec, ⟨rfl, hseq hstay (by simp)⟩, hn, httime, hcloses', hkeeps.1.trans hstay,
    State.frame_disarmOpen hw.frame hfresh hframe⟩

/-- A command that the unit's check rejects (R10, R317). -/
theorem State.armRefused {e : Err} (hcheck : s.checkAcqArm u = some e) :
    ∃ t, exec (.acqArm ini u) s = .next t ∧ t.reply = ⟨e.code, []⟩ ∧ s.keepsRegs t [(acqPage u, PG_ERR)] ∧
      t = { s with regs := t.regs, rot := t.rot, reply := t.reply } := by
  have hserved := s.served_entered (ini := ini) (State.timingPage_acq hu)
  have hexec : exec (.acqArm ini u) s = .next ((s.serve ini (acqPage u)).reject ini (acqPage u) (acqCmdOff u) e) := by
    rw [State.exec_acqArm, State.writeAcqCmd_refused hu (.inl rfl) hg (State.checkAcqArm_ne_loop hcheck)
      (by rw [if_pos rfl, hserved.checkAcqArm, hcheck])]
  obtain ⟨hkeeps, hframe⟩ := s.serveReject_frame (ini := ini) (off := acqCmdOff u) (e := e) (State.timingPage_acq hu)
    (by rw [kindOf_acq]; rfl)
  exact ⟨_, hexec, rfl, hkeeps, hframe⟩

end

/-! ### O48 -/

theorem State.afterWindow_open {s : State} {u : Nat} (hst : s.acqSt u = 2) : s.afterWindow u =
    if fld (s.acqW u 1) 23 12 ≠ 0 ∧ fld (s.acqW u 1) 23 12 ≤ (s.acq u).closed + 1 then 3 else 1 := by
  have h3 : ¬ s.acqSt u = 3 := by omega
  unfold State.afterWindow
  simp only [if_neg h3]

theorem State.afterWindow_lt (s : State) (u : Nat) : s.afterWindow u < 4 := by
  unfold State.afterWindow
  simp only
  split
  · decide
  · split <;> decide

theorem State.closeDue_due {s : State} {u tc code : Nat} (hst : s.acqSt u = 2) (htc : (s.acq u).tclose = some (tc, code)) :
    s.closeDue u = s.closeWindow u tc code (s.afterWindow u) := by
  unfold State.closeDue
  simp only [htc, if_pos hst]

theorem State.closeDue_none {s : State} {u : Nat} (h : s.acqSt u ≠ 2 ∨ (s.acq u).tclose = none) : s.closeDue u = s := by
  unfold State.closeDue
  split
  · next htc => exact if_neg (h.resolve_right fun e => by rw [e] at htc; exact absurd htc (by simp))
  · rfl

/-- Settles O48: the commands are followed through their page's access to the state in which they take effect, openings
and closings through the unit, its octet and the cells of its ring. -/
theorem captureUnitsArmOpenAndClose : Obligations.CaptureUnitsArmOpenAndClose := by
  unfold Obligations.CaptureUnitsArmOpenAndClose
  intro s ini u hu
  refine ⟨fun hg => ⟨fun hcheck => ?_, fun e hcheck => State.armRefused hu hg hcheck, fun hst hlater => ?_,
    fun hst htc hchg hheld hroom => ?_⟩,
    fun at_ hst hopen => ?_, fun h => ?_, fun tc code hst htc hchg hheld => ⟨?_, ?_⟩, fun h => ?_⟩
  · exact State.arms hu hg hcheck
  · exact State.disarmsArmed hu hg hst hlater
  · exact State.disarmsOpen hu hg hst htc hchg hheld hroom
  · obtain ⟨es, hst', hkeeps, hothers, hwin, ⟨h, w, g, l, lv, hunit⟩, hclaim, hborrow, hocts, hgreen, hprod, hframe⟩ :=
      State.openWindow_spec hu hst hopen
    obtain ⟨h0, h1, h2⟩ := s.openedUnit_tclose u at_
    refine ⟨s.openWindow u, es, rfl, hst', hkeeps, hothers, hwin, ?_, ?_, ?_, ?_, ?_, ?_, ?_, ?_, hclaim, hborrow, hocts, hgreen, hprod,
      hframe⟩
    all_goals rw [hunit]
    · rfl
    · rfl
    · exact h0
    · exact h1
    · exact h2
    · rfl
    · rfl
    · rfl
  · exact congrArg Host.Outcome.next (State.openWindow_none h)
  · intro hfree hfails
    obtain ⟨hcloses, hkeeps, hframe⟩ := State.closeWindow_closes hu (s.afterWindow_lt u) hchg hheld hfree hfails
    rw [← State.closeDue_due hst htc] at hcloses hkeeps hframe
    rw [State.afterWindow_open hst] at hcloses
    exact ⟨s.closeDue u, rfl, hcloses, hkeeps, hframe⟩
  · intro hfull hdrop
    obtain ⟨hnext, hclosed, hothers, hpend, hflag, hkeeps, hoct, hocts, hframe⟩ :=
      State.closeWindow_drops hu (s.afterWindow_lt u) hchg hheld hfull hdrop
    rw [← State.closeDue_due hst htc] at hnext hclosed hothers hpend hflag hkeeps hoct hocts hframe
    rw [State.afterWindow_open hst] at hnext hoct
    exact ⟨s.closeDue u, rfl, hnext, hclosed, hothers, hpend, hflag, hkeeps, hoct, hocts, hframe⟩
  · exact congrArg Host.Outcome.next (State.closeDue_none h)

end Sys2Proof.Machine

end

section

/-! ## Every channel isolated, boundary scan, and the loss of lock -/

namespace Sys2Proof.Machine

/-! ### Operations that run over several units -/

/-- What an operation over several units leaves at one of them, where it acts on each unit by itself. -/
theorem foldl_at {β : Type} {get : State → Nat → β} {f : State → Nat → State} {g : Nat → β → β}
    (hf : ∀ s c d, get (f s c) d = if c = d then g d (get s d) else get s d) {l : List Nat} (hl : l.Nodup) (s : State)
    (d : Nat) : get (l.foldl f s) d = if d ∈ l then g d (get s d) else get s d := by
  induction l generalizing s with
  | nil => simp
  | cons c l ih =>
    obtain ⟨hc, hl⟩ := List.nodup_cons.1 hl
    rw [List.foldl_cons, ih hl, hf]
    by_cases h : c = d
    · subst h
      simp [hc]
    · simp [h, Ne.symm h]

/-- What an operation over every octet leaves at one of them. -/
theorem foldl_octets {β : Type} {get : State → Nat → β} {f : State → Nat → State} {g : Nat → β → β}
    (hf : ∀ s c d, get (f s c) d = if c = d then g d (get s d) else get s d) (s : State) {o : Nat} (ho : o < 64) :
    get ((List.range 64).foldl f s) o = g o (get s o) := by
  rw [foldl_at hf List.nodup_range, if_pos (List.mem_range.2 ho)]

/-- An operation over several units keeps the registers that its every step keeps. -/
theorem State.keepsRegs_foldl {f : State → Nat → State} {l : List Nat} {ex : List (Nat × Nat)}
    (hf : ∀ s : State, ∀ c ∈ l, s.keepsRegs (f s c) ex) (s : State) : s.keepsRegs (l.foldl f s) ex :=
  List.foldlRecOn (motive := fun t => s.keepsRegs t ex) l f (s.keepsRegs_refl ex)
    fun t ht c hc => (ht.trans (hf t c hc)).mono (by simp)

theorem State.setFld_keepsRegs (s : State) {p o : Nat} (ho : o < 256) (hi lo v : Nat) :
    s.keepsRegs (s.setFld p o hi lo v) [(p, o)] := s.keepsRegs_setReg ho _

theorem State.reg_setFld_self (s : State) (p o hi lo v : Nat) :
    (s.setFld p o hi lo v).reg p o = putFld (s.reg p o) hi lo v := State.reg_setReg_self ..

/-! ### No PMU limits (R270) -/

/-- The register of each octet that tells where its PMUs limit. -/
def clampRegs : List (Nat × Nat) := (List.range 64).map (fun o => (pOCTPE o, OCTPE_STAT))

theorem mem_clampRegs {o : Nat} (ho : o < 64) : (pOCTPE o, OCTPE_STAT) ∈ clampRegs :=
  List.mem_map.2 ⟨o, List.mem_range.2 ho, rfl⟩

/-- An octet whose PMUs do not limit. -/
def Octet.unlimited (v : Octet) : Octet := { v with lim := [0, 0, 0, 0, 0, 0, 0, 0] }

/-- The limits of one octet end. -/
def State.endOctLimits (s : State) (o : Nat) : State :=
  (s.setFld (pOCTPE o) OCTPE_STAT 15 8 0).setOct o (s.oct o).unlimited

theorem State.endLimits_oct (s : State) {o : Nat} (ho : o < 64) : s.endLimits.oct o = (s.oct o).unlimited := by
  refine foldl_octets (get := State.oct) (f := State.endOctLimits) (g := fun _ => Octet.unlimited) (fun s c d => ?_) s ho
  rw [State.endOctLimits, State.oct_setOct]
  split
  · next h => rw [h]
  · rfl

theorem State.endLimits_stat (s : State) {o : Nat} (ho : o < 64) :
    s.endLimits.reg (pOCTPE o) OCTPE_STAT = putFld (s.reg (pOCTPE o) OCTPE_STAT) 15 8 0 := by
  refine foldl_octets (get := fun s o => s.reg (pOCTPE o) OCTPE_STAT) (f := State.endOctLimits)
    (g := fun _ w => putFld w 15 8 0) (fun s c d => ?_) s ho
  change (s.setFld (pOCTPE c) OCTPE_STAT 15 8 0).reg (pOCTPE d) OCTPE_STAT = _
  split
  · next h => rw [h, State.reg_setFld_self]
  · next h =>
    exact State.reg_setReg_ne _ fun e => h (Nat.add_left_cancel ((rkey_inj (by decide) (by decide)).1 e).1)

theorem State.endLimits_keepsRegs (s : State) : s.keepsRegs s.endLimits clampRegs :=
  State.keepsRegs_foldl (f := State.endOctLimits) (fun s _ ho =>
    (s.setFld_keepsRegs (o := OCTPE_STAT) (by decide) 15 8 0).mono (by simpa using mem_clampRegs (List.mem_range.1 ho))) s

theorem State.endLimits_with (s : State) : s.endLimits = { s with regs := s.endLimits.regs, octets := s.endLimits.octets } := by
  refine List.foldlRecOn (motive := fun t : State => t = { s with regs := t.regs, octets := t.octets }) (List.range 64)
    State.endOctLimits rfl fun t ht o _ => ?_
  rw [ht]
  rfl

/-! ### Every channel is isolated (R265, R283) -/

/-- An isolated channel: no further edges, and the driver high impedance. -/
def Chan.isolated (c : Chan) : Chan := { c with edges := [], drv := 2 }

theorem State.isolatePins_chan (s : State) (c : Nat) : s.isolatePins.chan c = (s.chan c).isolated := by
  rw [State.isolatePins, State.endLimits_with]
  exact Store.get_mapVals (unitDefault {}) (f := fun _ => Chan.isolated) (fun _ => rfl) s.chans c

theorem State.isolatePins_oct (s : State) {o : Nat} (ho : o < 64) : s.isolatePins.oct o = (s.oct o).unlimited :=
  State.endLimits_oct _ ho

theorem State.isolatePins_stat (s : State) {o : Nat} (ho : o < 64) :
    s.isolatePins.reg (pOCTPE o) OCTPE_STAT = putFld (s.reg (pOCTPE o) OCTPE_STAT) 15 8 0 := State.endLimits_stat _ ho

theorem State.isolatePins_keepsRegs (s : State) : s.keepsRegs s.isolatePins clampRegs :=
  State.endLimits_keepsRegs { s with chans := _ }

theorem State.isolatePins_with (s : State) : s.isolatePins =
    { s with regs := s.isolatePins.regs, chans := s.isolatePins.chans, octets := s.isolatePins.octets } := by
  rw [State.isolatePins, State.endLimits_with]

/-! ### The test access port (R58 to R61) -/

theorem tapIsolates_iff (code : Byte) : tapIsolates code = true ↔ code = 0x00 ∨ code = 0x04 ∨ code = 0x05 := by
  simp [tapIsolates, or_assoc]

theorem tapLength_idcode {code : Byte} (h : code = 0x01) : tapLength code = 32 := by rw [h]; decide

/-- What the selected data register holds, for as many bits as it is long (R58 to R60). -/
theorem State.tapCapture_spec (s : State) (code : Byte) :
    (s.tapCapture code).1.length = tapLength code ∧
    (code = 0x01 → (s.tapCapture code).1 = (List.range 32).map (Nat.testBit 0x2512BBBD)) ∧
    (tapLength code = 1 → (s.tapCapture code).1 = [false]) ∧
    (s.tapCapture code).2 = { s with fresh := (s.tapCapture code).2.fresh } := by
  unfold State.tapCapture
  split
  · next h =>
    refine ⟨by simpa using h.symm, fun hc => ?_, fun h1 => ?_, rfl⟩
    · exact absurd (h.symm.trans (tapLength_idcode hc)) (by decide)
    · exact absurd (h.symm.trans h1) (by decide)
  · split
    · next hc =>
      have hlen := tapLength_idcode hc
      exact ⟨by simp [hlen], fun _ => rfl, fun h1 => absurd (hlen.symm.trans h1) (by decide), rfl⟩
    · next h43 hc =>
      refine ⟨?_, fun h => absurd h hc, fun _ => rfl, rfl⟩
      have hpair : ¬ (code = 0x00 ∨ code = 0x02) := fun h => h43 (if_pos h)
      rw [tapLength, if_neg hpair, if_neg hc]
      rfl

/-- Cells written one by one hold the bits given to them. -/
theorem foldl_setNbit (f : Nat → Bool) (n : Nat) : (List.range n).foldl (fun a i => setNbit a i (f i)) 0 < 2 ^ n ∧
    ∀ i < n, nbit ((List.range n).foldl (fun a i => setNbit a i (f i)) 0) i = f i := by
  induction n with
  | zero => simp
  | succ n ih =>
    obtain ⟨hlt, hbits⟩ := ih
    rw [List.range_succ, List.foldl_append, List.foldl_cons, List.foldl_nil]
    generalize (List.range n).foldl _ 0 = a at hlt hbits
    have htop : a.testBit n = false := Nat.testBit_lt_two_pow hlt
    have hset : setNbit a n (f n) = if f n then 2 ^ n + a else a := by simp [setNbit, htop, Nat.add_comm]
    rw [hset]
    refine ⟨by rw [Nat.pow_succ]; split <;> omega, fun i hi => ?_⟩
    rcases Nat.lt_succ_iff_lt_or_eq.1 hi with hi | rfl
    · rw [← hbits i hi, nbit, nbit]
      split
      · exact Nat.testBit_two_pow_add_gt hi a
      · rfl
    · rw [nbit]
      split
      · next h => rw [Nat.testBit_two_pow_add_eq, htop, h]; rfl
      · next h => rw [htop]; exact (Bool.not_eq_true _ ▸ h : f i = false).symm

/-- A data scan (R58, R60): the register's bits come out, and the boundary cells take the bits that stand in it then. -/
theorem State.tapScan_spec (s : State) (code : Byte) (tdi : List Bool) :
    let cap := (s.tapCapture code).1
    let t := s.tapScan code tdi
    t.pins = { s.pins with cells := t.pins.cells, tdo := if tdi = [] then s.pins.tdo else (cap ++ tdi).take tdi.length } ∧
    (∀ i < 43, nbit t.pins.cells i = if tdi ≠ [] ∧ tapLength code = 43 then ((cap ++ tdi).drop tdi.length).getD i false
      else nbit s.pins.cells i) ∧
    t = { s with pins := t.pins, fresh := t.fresh } := by
  obtain ⟨-, -, -, hframe⟩ := s.tapCapture_spec code
  unfold State.tapScan
  generalize s.tapCapture code = x at hframe
  obtain ⟨cap, u⟩ := x
  dsimp only at hframe
  generalize u.fresh = f at hframe
  subst hframe
  by_cases htdi : tdi = []
  · subst htdi
    exact ⟨rfl, fun _ _ => rfl, rfl⟩
  · have hne : tdi.isEmpty = false := by simpa using htdi
    by_cases h43 : tapLength code = 43
    · simp only [hne, h43, htdi, ne_eq, not_false_eq_true, true_and, and_true, if_true, if_false, Bool.false_eq_true]
      exact (foldl_setNbit _ 43).2
    · simp [hne, h43, htdi]

/-- An instruction becomes current (R61). -/
theorem State.tapCurrent_spec (s : State) (code : Byte) :
    let iso := tapIsolates code
    let t := s.tapCurrent code
    t.pins = { s.pins with tap := code } ∧
    (∀ c, t.chan c = if iso then (s.chan c).isolated else s.chan c) ∧
    (∀ o < 64, t.oct o = (if iso then (s.oct o).unlimited else s.oct o) ∧
      t.reg (pOCTPE o) OCTPE_STAT =
        if iso then putFld (s.reg (pOCTPE o) OCTPE_STAT) 15 8 0 else s.reg (pOCTPE o) OCTPE_STAT) ∧
    s.keepsRegs t clampRegs ∧
    t.watch = { s.watch with raised := s.watch.raised ++
      (if iso ∧ s.run.st = .run then [{ cls := .h, code := 0x0C1, page := pTOP : Raised }] else []) } ∧
    t = { s with pins := t.pins, chans := t.chans, octets := t.octets, regs := t.regs, watch := t.watch } := by
  unfold State.tapCurrent
  by_cases hiso : tapIsolates code = true
  · simp only [hiso, true_and, if_true]
    generalize hu : (if s.run.st = .run then s.raiseH pTOP 0x0C1 else s) = u
    have hwatch : u.watch = { s.watch with raised := s.watch.raised ++
        (if s.run.st = .run then [{ cls := .h, code := 0x0C1, page := pTOP : Raised }] else []) } := by
      rw [← hu]
      split
      · rfl
      · rw [List.append_nil]
    have hframe : u = { s with watch := u.watch } := by
      rw [← hu]
      split <;> rfl
    generalize u.watch = w at hwatch hframe
    subst hframe
    generalize hv : ({ s with watch := w, pins := { s.pins with tap := code } } : State) = v
    have hall := v.isolatePins_with
    refine ⟨?_, fun c => ?_, fun o ho => ⟨?_, ?_⟩, ?_, ?_, ?_⟩
    · rw [hall, ← hv]
    · rw [State.isolatePins_chan, ← hv, State.chan, State.chan]
    · rw [State.isolatePins_oct v ho, ← hv, State.oct, State.oct]
    · rw [State.isolatePins_stat v ho, ← hv, State.reg, State.reg]
    · have hkeeps := v.isolatePins_keepsRegs
      rwa [← hv] at hkeeps ⊢
    · rw [hall, ← hv, ← hwatch]
    · rw [hall, ← hv]
  · simp only [hiso, false_and, if_false, Bool.false_eq_true, List.append_nil]
    exact ⟨trivial, fun _ => rfl, fun _ _ => ⟨rfl, rfl⟩, s.keepsRegs_refl _, trivial, trivial⟩

/-! ### The safe state (R223, R356, R357) -/

theorem State.setBit_bit_self (s : State) {p o i : Nat} (b : Bool) (hi : i < 24) : (s.setBit p o i b).bitR p o i = b := by
  rw [State.bitR, State.setBit, State.reg_setFld_self, bit_eq_fld, fld_putFld_self _ _ (Nat.le_refl i) hi]
  cases b <;> simp

theorem State.setBit_keepsRegs (s : State) {p o : Nat} (ho : o < 256) (i : Nat) (b : Bool) :
    s.keepsRegs (s.setBit p o i b) [(p, o)] := s.setFld_keepsRegs ho _ _ _

theorem State.oct_setBit (s : State) (p o i : Nat) (b : Bool) (n : Nat) : (s.setBit p o i b).oct n = s.oct n := rfl
theorem State.setOct_keepsRegs (s : State) (n : Nat) (v : Octet) : s.keepsRegs (s.setOct n v) [] := fun _ _ _ _ => rfl
theorem State.bitR_setOct (s : State) (n : Nat) (v : Octet) (p o i : Nat) : (s.setOct n v).bitR p o i = s.bitR p o i := rfl

theorem State.bitR_setBit_ne (s : State) {p o q r i j : Nat} {b : Bool} (ho : o < 256) (hr : r < 256) (h : (q, r) ≠ (p, o)) :
    (s.setBit p o i b).bitR q r j = s.bitR q r j := by
  rw [State.bitR, s.setBit_keepsRegs ho i b q r hr (by simpa using h), State.bitR]

/-- The registers of one octet that the safe state changes. -/
def octSafeRegs (o : Nat) : List (Nat × Nat) :=
  [(pOCTPE o, OCTPE_RAILCFG), (pOCTPE o, OCTPE_RAILSTAT), (pOCTPE o, OCTPE_STAT)]

/-- The registers that the safe state changes. -/
def safeRegs : List (Nat × Nat) := (pGLEAN, GLEAN_ABORT) :: (List.range 64).flatMap octSafeRegs

theorem octSafeRegs_subset {o : Nat} (ho : o < 64) : octSafeRegs o ⊆ safeRegs := fun _ hx =>
  List.mem_cons_of_mem _ (List.mem_flatMap.2 ⟨o, List.mem_range.2 ho, hx⟩)

theorem clampRegs_subset : clampRegs ⊆ safeRegs := fun x hx => by
  obtain ⟨o, ho, rfl⟩ := List.mem_map.1 hx
  exact octSafeRegs_subset (List.mem_range.1 ho) (by simp [octSafeRegs])

/-- A register outside those of the octets and the count of ended borrowings is none that the safe state changes. -/
theorem not_mem_safeRegs {p o : Nat} (hg : (p, o) ≠ (pGLEAN, GLEAN_ABORT))
    (ho : ∀ c < 64, p ≠ pOCTPE c ∨ (o ≠ OCTPE_RAILCFG ∧ o ≠ OCTPE_RAILSTAT ∧ o ≠ OCTPE_STAT)) : (p, o) ∉ safeRegs := by
  intro h
  rcases List.mem_cons.1 h with h | h
  · exact hg h
  · obtain ⟨c, hc, h⟩ := List.mem_flatMap.1 h
    simp only [octSafeRegs, List.mem_cons, List.not_mem_nil, or_false, Prod.mk.injEq] at h
    have hoct := ho c (List.mem_range.1 hc)
    tauto

/-- An octet in the safe state: no ramp and no tone. -/
def Octet.quiet (v : Octet) : Octet := { v with ramp := none, tone := { v.tone with en := false } }

/-- The rail of one octet goes off, and its tone stops. -/
def State.quietOct (s : State) (o : Nat) : State :=
  (s.railOff o).setOct o { (s.railOff o).oct o with tone := { ((s.railOff o).oct o).tone with en := false } }

theorem State.railOff_oct (s : State) (o : Nat) : (s.railOff o).oct o = { s.oct o with ramp := none } := by
  rw [State.railOff, State.oct_setBit, State.oct_setOct_self, State.oct_setBit]

theorem State.railOff_oct_ne (s : State) {c d : Nat} (h : c ≠ d) : (s.railOff c).oct d = s.oct d := by
  rw [State.railOff, State.oct_setBit, State.oct_setOct, if_neg h, State.oct_setBit]

theorem State.quietOct_oct (s : State) (c d : Nat) :
    (s.quietOct c).oct d = if c = d then (s.oct d).quiet else s.oct d := by
  rw [State.quietOct, State.oct_setOct]
  split
  · next h =>
    rw [State.railOff_oct, h]
    rfl
  · next h => exact s.railOff_oct_ne h

theorem State.railOff_keepsRegs (s : State) (o : Nat) :
    s.keepsRegs (s.railOff o) [(pOCTPE o, OCTPE_RAILCFG), (pOCTPE o, OCTPE_RAILSTAT)] :=
  ((s.setBit_keepsRegs (by decide) 8 false).trans (State.setOct_keepsRegs _ o _)).trans
    (State.setBit_keepsRegs _ (o := OCTPE_RAILSTAT) (by decide) 22 false)

theorem State.quietOct_keepsRegs (s : State) (o : Nat) :
    s.keepsRegs (s.quietOct o) [(pOCTPE o, OCTPE_RAILCFG), (pOCTPE o, OCTPE_RAILSTAT)] :=
  ((s.railOff_keepsRegs o).trans (State.setOct_keepsRegs _ o _)).mono (by simp)

theorem State.railOff_off (s : State) (o : Nat) :
    (s.railOff o).bitR (pOCTPE o) OCTPE_RAILCFG 8 = false ∧ (s.railOff o).bitR (pOCTPE o) OCTPE_RAILSTAT 22 = false := by
  refine ⟨?_, State.setBit_bit_self _ false (by decide)⟩
  rw [State.railOff, State.bitR_setBit_ne _ (by decide) (by decide) (by simp), State.bitR_setOct,
    State.setBit_bit_self _ _ (by decide)]

theorem State.quietOct_reg_ne (s : State) {c d : Nat} {o : Nat} (ho : o < 256) (h : c ≠ d) :
    (s.quietOct c).reg (pOCTPE d) o = s.reg (pOCTPE d) o :=
  s.quietOct_keepsRegs c _ _ ho (by simp [Ne.symm h])

theorem State.quietOct_bit (s : State) {o i : Nat} (h : (o, i) = (OCTPE_RAILCFG, 8) ∨ (o, i) = (OCTPE_RAILSTAT, 22)) (c d : Nat) :
    (s.quietOct c).bitR (pOCTPE d) o i = if c = d then false else s.bitR (pOCTPE d) o i := by
  split
  · next hcd =>
    subst hcd
    obtain ⟨hcfg, hstat⟩ := s.railOff_off c
    rw [State.quietOct, State.bitR_setOct]
    rcases h with h | h <;> obtain ⟨rfl, rfl⟩ := Prod.mk.inj h
    · exact hcfg
    · exact hstat
  · next hcd => rw [State.bitR, s.quietOct_reg_ne (by rcases h with h | h <;> cases h <;> decide) hcd, State.bitR]

theorem State.quietOct_stat (s : State) (c d : Nat) :
    (s.quietOct c).reg (pOCTPE d) OCTPE_STAT = s.reg (pOCTPE d) OCTPE_STAT :=
  s.quietOct_keepsRegs c _ _ (by decide) (by simp)

theorem State.quietOct_with (s : State) (o : Nat) :
    s.quietOct o = { s with regs := (s.quietOct o).regs, octets := (s.quietOct o).octets } := rfl

/-- Every rail off and every tone stopped. -/
def State.quietAll (s : State) : State := (List.range 64).foldl State.quietOct s

section
variable (s : State) {o : Nat} (ho : o < 64)
include ho

theorem State.quietAll_oct : s.quietAll.oct o = (s.oct o).quiet :=
  foldl_octets (get := State.oct) (g := fun _ => Octet.quiet) State.quietOct_oct s ho

theorem State.quietAll_off : s.quietAll.bitR (pOCTPE o) OCTPE_RAILCFG 8 = false ∧
    s.quietAll.bitR (pOCTPE o) OCTPE_RAILSTAT 22 = false :=
  ⟨foldl_octets (get := fun s o => s.bitR (pOCTPE o) OCTPE_RAILCFG 8) (g := fun _ _ => false)
      (fun s => s.quietOct_bit (.inl rfl)) s ho,
    foldl_octets (get := fun s o => s.bitR (pOCTPE o) OCTPE_RAILSTAT 22) (g := fun _ _ => false)
      (fun s => s.quietOct_bit (.inr rfl)) s ho⟩

theorem State.quietAll_stat : s.quietAll.reg (pOCTPE o) OCTPE_STAT = s.reg (pOCTPE o) OCTPE_STAT :=
  foldl_octets (get := fun s o => s.reg (pOCTPE o) OCTPE_STAT) (g := fun _ w => w)
    (fun s c d => by rw [State.quietOct_stat, ite_self]) s ho

end

theorem State.quietAll_keepsRegs (s : State) : s.keepsRegs s.quietAll ((List.range 64).flatMap octSafeRegs) :=
  State.keepsRegs_foldl (fun s o ho => (s.quietOct_keepsRegs o).mono fun x hx =>
    List.mem_flatMap.2 ⟨o, ho, by
      simp only [octSafeRegs, List.mem_cons, List.not_mem_nil, or_false] at hx ⊢
      tauto⟩) s

theorem State.quietAll_with (s : State) : s.quietAll = { s with regs := s.quietAll.regs, octets := s.quietAll.octets } := by
  refine List.foldlRecOn (motive := fun t : State => t = { s with regs := t.regs, octets := t.octets }) (List.range 64)
    State.quietOct rfl fun t ht o _ => ?_
  rw [ht, State.quietOct_with]

/-- A channel is borrowed, and nothing else (R383). -/
def State.lends (s : State) : Prop := ∃ c task left, s.glean.borrow = some (.chan c task left)

theorem State.gleanStop_lent {s : State} (h : s.lends) :
    s.gleanStop = { s.inc pGLEAN GLEAN_ABORT with glean := { s.glean with borrow := none } } := by
  obtain ⟨c, task, left, hb⟩ := h
  rw [State.gleanStop, hb]

theorem State.gleanStop_idle {s : State} (h : ¬ s.lends) : s.gleanStop = s := by
  unfold State.gleanStop
  split
  · next c task left hb => exact absurd ⟨c, task, left, hb⟩ h
  · rfl

theorem State.gleanStop_spec (s : State) :
    (s.lends → s.gleanStop.glean = { s.glean with borrow := none } ∧
      s.gleanStop.reg pGLEAN GLEAN_ABORT = s.reg pGLEAN GLEAN_ABORT + 1) ∧
    (¬ s.lends → s.gleanStop.glean = s.glean ∧ s.gleanStop.reg pGLEAN GLEAN_ABORT = s.reg pGLEAN GLEAN_ABORT) := by
  refine ⟨fun h => ?_, fun h => ?_⟩
  · rw [State.gleanStop_lent h]
    exact ⟨rfl, State.reg_setReg_self ..⟩
  · rw [State.gleanStop_idle h]
    exact ⟨rfl, rfl⟩

section
variable (s : State)

/-- The safe state is noted. -/
def State.noted : State := { s with run := { s.run with safe := true } }

/-- Every channel isolated and the gleaner stopped: the first half of the safe state. -/
def State.isolatedAll : State := s.noted.isolatePins.gleanStop

theorem State.safeState_eq : s.safeState = s.isolatedAll.quietAll := rfl

theorem State.isolatedAll_keepsRegs : s.keepsRegs s.isolatedAll ((pGLEAN, GLEAN_ABORT) :: clampRegs) :=
  (s.noted.isolatePins_keepsRegs.trans (State.gleanStop_gives _).keeps).mono (by simp)

theorem State.isolatedAll_with : s.isolatedAll = { s with
    run := { s.run with safe := true }, regs := s.isolatedAll.regs, chans := s.isolatedAll.chans
    octets := s.isolatedAll.octets, glean := s.isolatedAll.glean } := by
  rw [State.isolatedAll, (State.gleanStop_gives _).frame, State.isolatePins_with, State.noted]

theorem State.isolatedAll_chan (c : Nat) : s.isolatedAll.chan c = (s.chan c).isolated := by
  have hchans : s.isolatedAll.chans = s.noted.isolatePins.chans := by
    rw [State.isolatedAll, (State.gleanStop_gives _).frame]
  rw [State.chan, hchans, ← State.chan, State.isolatePins_chan]
  rfl

theorem State.isolatedAll_oct {o : Nat} (ho : o < 64) : s.isolatedAll.oct o = (s.oct o).unlimited := by
  have hoctets : s.isolatedAll.octets = s.noted.isolatePins.octets := by
    rw [State.isolatedAll, (State.gleanStop_gives _).frame]
  rw [State.oct, hoctets, ← State.oct, State.isolatePins_oct _ ho]
  rfl

theorem State.isolatedAll_stat {o : Nat} (ho : o < 64) : s.isolatedAll.fldR (pOCTPE o) OCTPE_STAT 15 8 = 0 := by
  rw [State.isolatedAll, State.fldR, (State.gleanStop_gives _).keeps _ _ (by decide) (by simp [pOCTPE]),
    State.isolatePins_stat _ ho, fld_putFld_self _ _ (by decide) (by decide), Nat.zero_mod]

theorem State.isolatedAll_glean :
    (s.lends → s.isolatedAll.glean = { s.glean with borrow := none } ∧
      s.isolatedAll.reg pGLEAN GLEAN_ABORT = s.reg pGLEAN GLEAN_ABORT + 1) ∧
    (¬ s.lends → s.isolatedAll.glean = s.glean ∧ s.isolatedAll.reg pGLEAN GLEAN_ABORT = s.reg pGLEAN GLEAN_ABORT) := by
  have hglean : s.noted.isolatePins.glean = s.glean := by rw [State.isolatePins_with, State.noted]
  have hreg : s.noted.isolatePins.reg pGLEAN GLEAN_ABORT = s.reg pGLEAN GLEAN_ABORT :=
    s.noted.isolatePins_keepsRegs _ _ (by decide) (by simp [clampRegs])
  have hspec := s.noted.isolatePins.gleanStop_spec
  rwa [hreg, State.lends, hglean] at hspec

theorem State.safeState_keepsRegs : s.keepsRegs s.safeState safeRegs :=
  (s.isolatedAll_keepsRegs.trans s.isolatedAll.quietAll_keepsRegs).mono (by
    rw [List.append_subset, List.cons_subset]
    exact ⟨⟨List.mem_cons_self, clampRegs_subset⟩, List.subset_cons_self ..⟩)

theorem State.safeState_with : s.safeState = { s with
    run := { s.run with safe := true }, regs := s.safeState.regs, chans := s.safeState.chans
    octets := s.safeState.octets, glean := s.safeState.glean } := by
  rw [State.safeState_eq, State.quietAll_with, State.isolatedAll_with]

theorem State.safeState_chan (c : Nat) : s.safeState.chan c = (s.chan c).isolated := by
  have hchans : s.safeState.chans = s.isolatedAll.chans := by
    rw [State.safeState_eq, State.quietAll_with]
  rw [State.chan, hchans]
  exact s.isolatedAll_chan c

theorem State.safeState_oct {o : Nat} (ho : o < 64) : s.safeState.oct o = (s.oct o).unlimited.quiet := by
  rw [State.safeState_eq, State.quietAll_oct _ ho, s.isolatedAll_oct ho]

theorem State.safeState_off {o : Nat} (ho : o < 64) : s.safeState.bitR (pOCTPE o) OCTPE_RAILCFG 8 = false ∧
    s.safeState.bitR (pOCTPE o) OCTPE_RAILSTAT 22 = false ∧ s.safeState.fldR (pOCTPE o) OCTPE_STAT 15 8 = 0 := by
  rw [State.safeState_eq]
  obtain ⟨hcfg, hstat⟩ := s.isolatedAll.quietAll_off ho
  refine ⟨hcfg, hstat, ?_⟩
  rw [State.fldR, State.quietAll_stat _ ho, ← State.fldR, s.isolatedAll_stat ho]

theorem State.safeState_glean :
    (s.lends → s.safeState.glean = { s.glean with borrow := none } ∧
      s.safeState.reg pGLEAN GLEAN_ABORT = s.reg pGLEAN GLEAN_ABORT + 1) ∧
    (¬ s.lends → s.safeState.glean = s.glean ∧ s.safeState.reg pGLEAN GLEAN_ABORT = s.reg pGLEAN GLEAN_ABORT) := by
  have hglean : s.safeState.glean = s.isolatedAll.glean := by rw [State.safeState_eq, State.quietAll_with]
  have hreg : s.safeState.reg pGLEAN GLEAN_ABORT = s.isolatedAll.reg pGLEAN GLEAN_ABORT := by
    rw [State.safeState_eq]
    exact s.isolatedAll.quietAll_keepsRegs _ _ (by decide) (by simp [octSafeRegs])
  rw [hglean, hreg]
  exact s.isolatedAll_glean

end

/-! ### Loss of lock (R222 to R224, R244, R252) -/

/-- The lock is lost: the bits of TBASE_STAT that show it clear (R222). -/
def State.lockLost (s : State) : State := (s.setBit pTBASE TBASE_STAT 23 false).setBit pTBASE TBASE_STAT 21 false

/-- A lane of BELLO after it is held low: pulses not yet risen do not come, one in progress ends (R224, R244). -/
def heldLow (e : Nat) (ps : List GenPulse) : List GenPulse :=
  (ps.filter (fun p => decide (p.rise ≤ e))).map (fun p =>
    if e < p.rise + 16 * p.width ∧ p.cut = none then { p with cut := some e } else p)

theorem State.belloLow_eq (s : State) :
    s.belloLow = { s with time := { s.time with gen := none, bello := heldLow s.time.edge s.time.bello } } := by
  simp [State.belloLow, heldLow]

/-- The fault of an unlock, by the run state (R222). -/
def unlockFault : RunState → List Raised
  | .cold => []
  | .run => [{ cls := .g, code := 0x071, page := pTBASE }]
  | _ => [{ cls := .h, code := 0x070, page := pTBASE }]

theorem unlockFault_eq (st : RunState) : unlockFault st = if st = .cold then []
    else if st = .run then [{ cls := .g, code := 0x071, page := pTBASE : Raised }]
    else [{ cls := .h, code := 0x070, page := pTBASE : Raised }] := by cases st <;> rfl

/-- The timing after an unlock: no Bell, no SEND, and BELLO low (R224, log entry 49). -/
def Time.unlocked (x : Time) : Time :=
  { x with bells := [], gen := none, lastHigh := none, send := none, bello := heldLow x.edge x.bello }

/-- A device without REFCLK shows it. -/
def State.refLost (s : State) (noRef : Bool) : State := if noRef then s.setBit pTBASE TBASE_STAT 22 false else s

theorem State.refLost_with (s : State) (noRef : Bool) : s.refLost noRef = { s with regs := (s.refLost noRef).regs } := by
  cases noRef <;> rfl

theorem State.refLost_keepsRegs (s : State) (noRef : Bool) : s.keepsRegs (s.refLost noRef) [(pTBASE, TBASE_STAT)] := by
  cases noRef
  · exact s.keepsRegs_refl _
  · exact s.setBit_keepsRegs (by decide) 22 false

theorem State.refLost_stat (s : State) (noRef : Bool) : (s.refLost noRef).reg pTBASE TBASE_STAT =
    if noRef then putFld (s.reg pTBASE TBASE_STAT) 22 22 0 else s.reg pTBASE TBASE_STAT := by
  cases noRef
  · rfl
  · exact s.reg_setFld_self ..

theorem State.refLost_bit (s : State) (noRef : Bool) (i : Nat) : (s.refLost noRef).bitR pTBASE TBASE_STAT i =
    (s.bitR pTBASE TBASE_STAT i && !(decide (i = 22) && noRef)) := by
  rw [State.bitR, State.refLost_stat]
  cases noRef
  · simp [State.bitR]
  · rw [if_pos rfl, bit_putFld _ _ (by decide) (by decide)]
    by_cases h : i = 22
    · subst h
      simp
    · rw [if_neg (by omega)]
      simp [h, State.bitR]

/-- What an unlock does once the safe state is entered: BELLO is held low, what was pending is dropped, and the fault is
raised. -/
def State.lockDropped (s : State) : State :=
  let s := s.belloLow
  let s : State := { s with time := { s.time with bells := [], send := none, lastHigh := none } }
  if s.run.st = .cold then s
  else if s.run.st = .run then s.raise { cls := .g, code := 0x071, page := pTBASE }
  else s.raiseH pTBASE 0x070

theorem State.lockDropped_eq (s : State) : s.lockDropped =
    { s with time := s.time.unlocked, watch := { s.watch with raised := s.watch.raised ++ unlockFault s.run.st } } := by
  unfold State.lockDropped
  rw [State.belloLow_eq, unlockFault_eq]
  by_cases hcold : s.run.st = .cold
  · simp only [hcold, if_true, List.append_nil]
    rfl
  · by_cases hrun : s.run.st = .run <;> simp only [hcold, hrun, if_true, if_false] <;> rfl

theorem State.unlock_eq (s : State) (noRef : Bool) : s.unlock noRef =
    if (s.refLost noRef).locked then (s.refLost noRef).lockLost.safeState.lockDropped else s.refLost noRef := rfl

theorem State.refLost_locked (s : State) (noRef : Bool) : (s.refLost noRef).locked = s.locked := by
  simp [State.locked, State.refLost_bit]

theorem State.unlock_free {s : State} {noRef : Bool} (h : s.locked = false) : s.unlock noRef = s.refLost noRef := by
  rw [State.unlock_eq, State.refLost_locked, h, if_neg (by decide)]

theorem State.lockLost_with (s : State) : s.lockLost = { s with regs := s.lockLost.regs } := rfl

theorem State.lockLost_keepsRegs (s : State) : s.keepsRegs s.lockLost [(pTBASE, TBASE_STAT)] :=
  ((s.setBit_keepsRegs (by decide) 23 false).trans (State.setBit_keepsRegs _ (by decide) 21 false)).mono (by simp)

theorem State.lockLost_bit (s : State) (i : Nat) : s.lockLost.bitR pTBASE TBASE_STAT i =
    (s.bitR pTBASE TBASE_STAT i && !decide (i = 21 ∨ i = 23)) := by
  rw [State.bitR, State.lockLost, State.setBit, State.reg_setFld_self, State.setBit, State.reg_setFld_self,
    bit_putFld _ _ (by decide) (by decide), bit_putFld _ _ (by decide) (by decide)]
  by_cases h21 : i = 21
  · subst h21
    simp
  by_cases h23 : i = 23
  · subst h23
    simp
  · rw [if_neg (by omega), if_neg (by omega)]
    simp [h21, h23, State.bitR]

/-- An unlock of a locked PLL. -/
theorem State.unlock_locked {s : State} {noRef : Bool} (h : s.locked = true) :
    ∃ v, v = { s with regs := v.regs } ∧ s.keepsRegs v [(pTBASE, TBASE_STAT)] ∧
      (∀ i, v.bitR pTBASE TBASE_STAT i =
        (s.bitR pTBASE TBASE_STAT i && !(decide (i = 22) && noRef) && !decide (i = 21 ∨ i = 23))) ∧
      s.unlock noRef = { v.safeState with
        time := s.time.unlocked, watch := { s.watch with raised := s.watch.raised ++ unlockFault s.run.st } } := by
  have hframe : (s.refLost noRef).lockLost = { s with regs := (s.refLost noRef).lockLost.regs } :=
    State.regs_only_trans (s.refLost_with noRef) (State.lockLost_with _)
  refine ⟨(s.refLost noRef).lockLost, hframe,
    ((s.refLost_keepsRegs noRef).trans (State.lockLost_keepsRegs _)).mono (by simp), fun i => ?_, ?_⟩
  · rw [State.lockLost_bit, State.refLost_bit]
  · rw [State.unlock_eq, State.refLost_locked, h, if_pos rfl, State.lockDropped_eq]
    generalize (s.refLost noRef).lockLost = v at hframe
    have htime : v.safeState.time = s.time := by rw [State.safeState_with, hframe]
    have hwatch : v.safeState.watch = s.watch := by rw [State.safeState_with, hframe]
    have hst : v.safeState.run.st = s.run.st := by rw [State.safeState_with, hframe]
    rw [htime, hwatch, hst]

/-! ### O12 -/

/-- TRST_N rises or stays high (R58). -/
def State.tapReleased (s : State) : State := { s with pins := { s.pins with trstN := true } }

/-- What a command at the test access port leaves (R58 to R61). -/
theorem State.tapLoads (s : State) (code : Byte) (tdi : List Bool) :
    let iso := tapIsolates code
    ∃ (t : State) (cap : List Bool), exec (.tapLoad true code tdi) s = .next t ∧
      cap.length = tapLength code ∧ (code = 0x01 → cap = (List.range 32).map (Nat.testBit 0x2512BBBD)) ∧
      (tapLength code = 1 → cap = [false]) ∧
      t.pins = { s.pins with trstN := true, tap := code, cells := t.pins.cells
                             tdo := if tdi = [] then s.pins.tdo else (cap ++ tdi).take tdi.length } ∧
      (∀ i < 43, nbit t.pins.cells i = if tdi ≠ [] ∧ tapLength code = 43 then ((cap ++ tdi).drop tdi.length).getD i false
        else nbit s.pins.cells i) ∧
      (∀ c, t.chan c = if iso then (s.chan c).isolated else s.chan c) ∧
      (∀ o < 64, t.oct o = (if iso then (s.oct o).unlimited else s.oct o) ∧
        t.reg (pOCTPE o) OCTPE_STAT =
          if iso then putFld (s.reg (pOCTPE o) OCTPE_STAT) 15 8 0 else s.reg (pOCTPE o) OCTPE_STAT) ∧
      s.keepsRegs t clampRegs ∧
      t.watch = { s.watch with raised := s.watch.raised ++
        (if iso ∧ s.run.st = .run then [{ cls := .h, code := 0x0C1, page := pTOP : Raised }] else []) } ∧
      t = { s with pins := t.pins, chans := t.chans, octets := t.octets, regs := t.regs, watch := t.watch, fresh := t.fresh } := by
  obtain ⟨hpins, hchan, hoct, hkeeps, hwatch, hframe⟩ := s.tapReleased.tapCurrent_spec code
  have hexec : exec (.tapLoad true code tdi) s = .next ((s.tapReleased.tapCurrent code).tapScan code tdi) := rfl
  generalize s.tapReleased.tapCurrent code = u at hpins hchan hoct hkeeps hwatch hframe hexec
  obtain ⟨hlen, hid, hone, -⟩ := u.tapCapture_spec code
  obtain ⟨hscan, hcells, hlast⟩ := u.tapScan_spec code tdi
  generalize u.tapScan code tdi = t at hscan hcells hlast hexec
  rw [hpins] at hscan hcells
  generalize t.pins = pins, t.fresh = fresh at hscan hcells hlast
  generalize u.chans = chans, u.octets = octets, u.regs = regs, u.watch = watch, u.pins = upins at hframe
  subst hframe
  subst hlast
  exact ⟨_, _, hexec, hlen, hid, hone, hscan, hcells, hchan, hoct, hkeeps, hwatch, rfl⟩

/-- What a loss of lock leaves. -/
theorem State.unlocks {s : State} (noRef : Bool) (h : s.locked = true) :
    ∃ t, exec (.pllUnlock noRef) s = .next t ∧ t.bitR pTBASE TBASE_STAT 23 = false ∧ t.bitR pTBASE TBASE_STAT 21 = false ∧
      t.bitR pTBASE TBASE_STAT 22 = (s.bitR pTBASE TBASE_STAT 22 && !noRef) ∧
      t.run = { s.run with safe := true } ∧ (∀ c, t.chan c = (s.chan c).isolated) ∧
      (∀ o < 64, t.bitR (pOCTPE o) OCTPE_RAILCFG 8 = false ∧ t.bitR (pOCTPE o) OCTPE_RAILSTAT 22 = false ∧
        t.fldR (pOCTPE o) OCTPE_STAT 15 8 = 0 ∧ t.oct o = (s.oct o).unlimited.quiet) ∧
      t.time = s.time.unlocked ∧
      (s.lends → t.glean = { s.glean with borrow := none } ∧ t.reg pGLEAN GLEAN_ABORT = s.reg pGLEAN GLEAN_ABORT + 1) ∧
      (¬ s.lends → t.glean = s.glean ∧ t.reg pGLEAN GLEAN_ABORT = s.reg pGLEAN GLEAN_ABORT) ∧
      t.watch = { s.watch with raised := s.watch.raised ++ unlockFault s.run.st } ∧
      s.keepsRegs t ((pTBASE, TBASE_STAT) :: safeRegs) ∧
      t = { s with regs := t.regs, run := t.run, chans := t.chans, octets := t.octets, time := t.time, watch := t.watch
                   glean := t.glean } := by
  obtain ⟨v, hv, hkeeps, hbits, hunlock⟩ := State.unlock_locked (noRef := noRef) h
  have hstat (i : Nat) : v.safeState.bitR pTBASE TBASE_STAT i = v.bitR pTBASE TBASE_STAT i := by
    rw [State.bitR, v.safeState_keepsRegs _ _ (by decide) (by decide), State.bitR]
  have habort : v.reg pGLEAN GLEAN_ABORT = s.reg pGLEAN GLEAN_ABORT := hkeeps _ _ (by decide) (by decide)
  have hchan := v.safeState_chan
  have hoct (o : Nat) (ho : o < 64) := v.safeState_oct ho
  have hoff (o : Nat) (ho : o < 64) := v.safeState_off ho
  have hglean := v.safeState_glean
  have hregs := hkeeps.trans v.safeState_keepsRegs
  have hframe := v.safeState_with
  have hexec : exec (.pllUnlock noRef) s = .next (s.unlock noRef) := rfl
  rw [habort] at hglean
  rw [hunlock] at hexec
  generalize v.safeState = u at *
  generalize u.regs = regs, u.chans = chans, u.octets = octets, u.glean = glean at hframe
  generalize v.regs = vregs at hv
  subst hv
  subst hframe
  refine ⟨_, hexec, ?_, ?_, ?_, rfl, hchan, fun o ho => ?_, rfl, hglean.1, hglean.2, rfl, hregs, rfl⟩
  · exact ((hstat 23).trans (hbits 23)).trans (by simp)
  · exact ((hstat 21).trans (hbits 21)).trans (by simp)
  · exact ((hstat 22).trans (hbits 22)).trans (by simp)
  · obtain ⟨hcfg, hrail, hlim⟩ := hoff o ho
    exact ⟨hcfg, hrail, hlim, hoct o ho⟩

/-- Settles O12: resets are `State.coldReset`, the port's commands a current instruction and a scan, and an unlock the
safe state with BELLO held low. -/
theorem resetBoundaryScanAndLossOfLock : Obligations.ResetBoundaryScanAndLossOfLock := by
  unfold Obligations.ResetBoundaryScanAndLossOfLock
  refine ⟨fun s => ⟨fun ps hps => ?_, fun ps hps => ?_, fun ps h1 h10 => ?_, rfl, fun _ _ => rfl, fun code tdi => ?_⟩,
    fun s noRef => ⟨fun h => ?_, fun h => ?_⟩⟩
  · exact if_pos hps
  · exact (if_neg (by omega)).trans (if_pos hps)
  · have hexec : exec (.porstReset ps) s = .next (if Config.free s.fresh % 2 = 0 then
        ({ s with fresh := s.fresh + 1 } : State).porst else { s with fresh := s.fresh + 1 }) :=
      (if_neg (by omega)).trans (if_neg (by omega))
    rw [hexec]
    split
    · exact .inr rfl
    · exact .inl rfl
  · obtain ⟨t, cap, hexec, hlen, hid, hone, hpins, hcells, hchan, hoct, hkeeps, hwatch, hframe⟩ := s.tapLoads code tdi
    simp only [tapIsolates_iff] at hchan hoct hwatch
    exact ⟨t, cap, hexec, hlen, hid, hone, hpins, hcells, hchan, hoct, hkeeps, hwatch, hframe⟩
  · have hexec : exec (.pllUnlock noRef) s = .next (s.unlock noRef) := rfl
    rw [State.unlock_free h] at hexec
    exact ⟨_, hexec, s.refLost_stat noRef, s.refLost_keepsRegs noRef, s.refLost_with noRef⟩
  · obtain ⟨t, hexec, hlock, hepoch, href, hrun, hchan, hoct, htime, hlent, hidle, hwatch, hkeeps, hframe⟩ :=
      State.unlocks noRef h
    refine ⟨t, hexec, hlock, hepoch, href, hrun, hchan, hoct, htime, hlent, hidle, ?_, fun p o ho hstat hglean hocts => ?_, hframe⟩
    · rw [hwatch, unlockFault_eq]
    · exact hkeeps p o ho (by
        rw [List.mem_cons, not_or]
        exact ⟨hstat, not_mem_safeRegs hglean hocts⟩)

end Sys2Proof.Machine

end

section

/-! ## Guard monitors (R348 to R354) -/

namespace Sys2Proof.Machine

/-! ### Sites by what the registers and the units hold -/

/-- Two states whose site pages and sites are alike hold every octet for the same site. -/
theorem State.siteOf_congr {s t : State} (hreg : ∀ n o, o < 256 → t.reg (pSITE n) o = s.reg (pSITE n) o)
    (hsites : t.sites = s.sites) (o : Nat) : t.siteOf o = s.siteOf o := by
  have hst (n : Nat) : t.siteSt n = s.siteSt n := by rw [State.siteSt, State.fldR, hreg n _ (by decide), State.siteSt, State.fldR]
  have hcol (n : Nat) : t.column n = s.column n := by
    funext c
    simp only [State.column, State.fldR, hreg n SITE_OCT0 (by decide), hreg n SITE_OCT1 (by decide)]
  simp only [State.siteOf, State.octetsOf, State.site, hst, hcol, hsites]

/-! ### What a sample shows of the pins (R49, R280) -/

theorem State.monInput_rail (s : State) {m : Nat} (h : m < 64) (x : Int) :
    s.monInput m x = s.setOct m { s.oct m with sns := x } := if_pos h

theorem State.monInput_other (s : State) {m : Nat} (h : 64 ≤ m) (hv : m < 586 ∨ 590 ≤ m) (x : Int) : s.monInput m x = s :=
  (if_neg (by omega)).trans (if_neg (by omega))

/-- Is a sample of VPE_HI or VPE_LO outside Table 2.8? -/
def supplyOut (m : Nat) (x : Int) : Prop := x < (supplyLimits m).1 ∨ (supplyLimits m).2 < x

section
variable (s : State) {m : Nat} (h : 586 ≤ m ∧ m < 590) (x : Int)
include h

theorem State.monInput_supply_good (hout : ¬ supplyOut m x) :
    s.monInput m x = { s with pins := { s.pins with vpeOut := s.pins.vpeOut.filter (· != m) } } := by
  have hfalse : (decide (x < (supplyLimits m).1) || decide ((supplyLimits m).2 < x)) = false := by
    simpa [supplyOut] using hout
  rw [State.monInput, if_neg (by omega), State.vpeSample, if_pos h]
  simp only [hfalse, Bool.false_eq_true, if_false]

theorem State.monInput_supply_out (hout : supplyOut m x) :
    s.monInput m x = ({ s with pins := { s.pins with vpeOut := m :: s.pins.vpeOut.filter (· != m) } } : State).isolatePins := by
  have htrue : (decide (x < (supplyLimits m).1) || decide ((supplyLimits m).2 < x)) = true := by
    simpa [supplyOut] using hout
  rw [State.monInput, if_neg (by omega), State.vpeSample, if_pos h]
  simp only [htrue, if_true]

/-- A supply outside Table 2.8 isolates every channel and puts every rail off (R49). -/
theorem State.monInput_out_spec (hout : supplyOut m x) :
    let u := s.monInput m x
    m ∈ u.pins.vpeOut ∧ u.pinsOff = true ∧ (∀ c, u.chan c = (s.chan c).isolated) ∧
      (∀ o < 64, u.fldR (pOCTPE o) OCTPE_STAT 15 8 = 0) ∧
      u = { s with pins := u.pins, chans := u.chans, octets := u.octets, regs := u.regs } := by
  rw [s.monInput_supply_out h x hout]
  generalize hv : ({ s with pins := { s.pins with vpeOut := m :: s.pins.vpeOut.filter (· != m) } } : State) = v
  have hpins : v.isolatePins.pins = { s.pins with vpeOut := m :: s.pins.vpeOut.filter (· != m) } := by
    rw [State.isolatePins_with, ← hv]
  refine ⟨?_, ?_, fun c => ?_, fun o ho => ?_, ?_⟩
  · rw [hpins]
    exact List.mem_cons_self
  · rw [State.pinsOff, hpins]
    simp
  · rw [State.isolatePins_chan, ← hv, State.chan, State.chan]
  · rw [State.fldR, State.isolatePins_stat v ho, fld_putFld_self _ _ (by decide) (by decide), Nat.zero_mod]
  · have hall := v.isolatePins_with
    rw [hall, ← hv]

end

/-- What a sample shows lies in the pins, the channels, the octets and the registers that tell what limits. -/
theorem State.monInput_with (s : State) (m : Nat) (x : Int) : s.monInput m x =
    { s with pins := (s.monInput m x).pins, chans := (s.monInput m x).chans, octets := (s.monInput m x).octets
             regs := (s.monInput m x).regs } := by
  by_cases h64 : m < 64
  · rw [s.monInput_rail h64]
    rfl
  by_cases h : 586 ≤ m ∧ m < 590
  · by_cases hout : supplyOut m x
    · obtain ⟨-, -, -, -, hframe⟩ := s.monInput_out_spec h x hout
      exact hframe
    · rw [s.monInput_supply_good h x hout]
  · rw [s.monInput_other (by omega) (by omega)]

theorem State.monInput_keepsRegs (s : State) (m : Nat) (x : Int) : s.keepsRegs (s.monInput m x) clampRegs := by
  by_cases h64 : m < 64
  · rw [s.monInput_rail h64]
    exact (s.setOct_keepsRegs m _).mono (by simp)
  by_cases h : 586 ≤ m ∧ m < 590
  · by_cases hout : supplyOut m x
    · rw [s.monInput_supply_out h x hout]
      exact State.isolatePins_keepsRegs { s with pins := _ }
    · rw [s.monInput_supply_good h x hout]
      exact fun _ _ _ _ => rfl
  · rw [s.monInput_other (by omega) (by omega)]
    exact s.keepsRegs_refl _

section
variable (s : State) (m : Nat) (x : Int)

theorem State.monInput_mons : (s.monInput m x).mons = s.mons := by rw [State.monInput_with]
theorem State.monInput_tabs : (s.monInput m x).tabs = s.tabs := by rw [State.monInput_with]
theorem State.monInput_watch : (s.monInput m x).watch = s.watch := by rw [State.monInput_with]

theorem State.monInput_mon (j : Nat) : (s.monInput m x).mon j = s.mon j := by rw [State.mon, State.monInput_mons, State.mon]

theorem State.monInput_monW (j w : Nat) : (s.monInput m x).monW j w = s.monW j w := by
  rw [State.monW, State.tab, State.monInput_tabs, State.monW, State.tab]

theorem State.monInput_siteReg (n : Nat) {o : Nat} (ho : o < 256) :
    (s.monInput m x).reg (pSITE n) o = s.reg (pSITE n) o :=
  s.monInput_keepsRegs m x _ _ ho (by
    simp only [clampRegs, List.mem_map, List.mem_range, Prod.mk.injEq, not_exists, not_and]
    intro c hc he
    simp only [pOCTPE, pSITE] at he
    omega)

theorem State.monInput_siteOf (o : Nat) : (s.monInput m x).siteOf o = s.siteOf o :=
  State.siteOf_congr (fun n _ => s.monInput_siteReg m x n) (by rw [State.monInput_with]) o

theorem State.monInput_canHedge (n : Nat) : (s.monInput m x).canHedge n = s.canHedge n := by
  simp only [State.canHedge, State.siteSt, State.fldR, s.monInput_siteReg m x n (o := SITE_STAT) (by decide)]

/-- A sample is judged as it would be before what it shows is noted. -/
theorem State.monInput_classify : (s.monInput m x).classify m x = s.classify m x := by
  have hbeyond : (s.monInput m x).isBeyond m x = s.isBeyond m x := by
    simp only [State.isBeyond, State.monInput_monW]
  have hlimit (hm : 64 ≤ m ∧ m < 576) : (s.monInput m x).limiting m = s.limiting m := by
    rw [s.monInput_other hm.1 (by omega)]
  simp only [State.classify, hbeyond, State.monInput_monW]
  by_cases hm : 64 ≤ m ∧ m < 576
  · rw [hlimit hm]
  · simp only [← and_assoc, hm, false_and]

end

/-! ### The faults of a monitor (R352 to R354) -/

/-- GUARD_CHK or GUARD_PAR of a monitor whose octet the site `o` holds. -/
def guardRaised (m : Nat) (o : Option Nat) (code : Nat) (inj : Bool) : Raised :=
  if 576 ≤ m then { cls := .h, code := code, page := pGUARD, detail := m, inj := inj }
  else match o with
  | some n => { cls := .d, code := code, page := pSITE n, detail := m, unit := .site n, inj := inj }
  | none => { cls := .d, code := code, page := pGUARD, detail := m, inj := inj }

theorem State.guardFault_eq (s : State) (m code : Nat) (inj : Bool) :
    s.guardFault m code none inj = s.raise (guardRaised m (s.siteOf (monOct m)) code inj) := by
  unfold State.guardFault guardRaised
  split
  · rfl
  · cases s.siteOf (monOct m) <;> rfl

theorem guardRaised_spec (m : Nat) (o : Option Nat) (code : Nat) (inj : Bool) :
    let r := guardRaised m o code inj
    r.code = code ∧ r.detail = m ∧ r.inj = inj ∧ (576 ≤ m → r.cls = .h ∧ r.page = pGUARD ∧ r.unit = .none) ∧
      (∀ n, m < 576 → o = some n → r.cls = .d ∧ r.page = pSITE n ∧ r.unit = .site n) ∧
      (m < 576 → o = none → r.cls = .d ∧ r.page = pGUARD ∧ r.unit = .none) := by
  unfold guardRaised
  by_cases h : 576 ≤ m
  · rw [if_pos h]
    exact ⟨rfl, rfl, rfl, fun _ => ⟨rfl, rfl, rfl⟩, fun _ hlt => absurd h (by omega), fun hlt => absurd h (by omega)⟩
  · rw [if_neg h]
    cases o with
    | none => exact ⟨rfl, rfl, rfl, fun hm => absurd hm h, fun _ _ e => by simp at e, fun _ _ => ⟨rfl, rfl, rfl⟩⟩
    | some n =>
      refine ⟨rfl, rfl, rfl, fun hm => absurd hm h, fun k _ e => ?_, fun _ e => by simp at e⟩
      cases e
      exact ⟨rfl, rfl, rfl⟩

/-- Which side of its limits a sample lies on: 0 low, 1 high, 2 neither. -/
def State.side (s : State) (m : Nat) (x : Int) : Nat :=
  if x < signed 24 (s.monW m 0).toNat then 0 else if signed 24 (s.monW m 1).toNat < x then 1 else 2

theorem State.monInput_side (s : State) (m : Nat) (x : Int) : (s.monInput m x).side m x = s.side m x := by
  simp only [State.side, State.monInput_monW]

section
variable {s : State} {m side : Nat}

theorem State.tripFault_supply (h : 576 ≤ m) : s.tripFault m side none =
    s.raise { cls := .h, code := 0x018 + side % 2, page := pGUARD, detail := m } := if_pos h

theorem State.tripFault_nosite (h : m < 576) (hsite : s.siteOf (monOct m) = none) : s.tripFault m side none =
    s.raise { cls := .n, code := 0x01A, page := pGUARD, detail := m } := by
  rw [State.tripFault, if_neg (by omega), hsite]

/-- The fault of a trip on a site, by the monitor's ACTION (R352). -/
def siteTrip (m side n action : Nat) : Raised :=
  { cls := if action = 2 then .d else .n, code := if m < 64 then 0x010 + side % 2 else 0x012 + side
    page := pSITE n, detail := m, unit := if action = 2 then .site n else .none }

theorem State.siteOf_lt {o n : Nat} (h : s.siteOf o = some n) : n < 64 := List.mem_range.1 (List.mem_of_find?_eq_some h)

theorem State.tripFault_site {n : Nat} (h : m < 576) (hsite : s.siteOf (monOct m) = some n) (hcan : s.canHedge n = true) :
    ∃ es ins fresh, (∀ e ∈ es, e.prod = n) ∧ s.tripFault m side none =
      { s with green := { s.green with flight := s.green.flight ++ es, ins := ins }, fresh := fresh
               watch := { s.watch with raised := s.watch.raised ++ [siteTrip m side n (s.monAction m)] } } := by
  have hn := State.siteOf_lt hsite
  have hclockless : timingProducer n = false := by
    simp only [timingProducer, Bool.or_eq_false_iff, Bool.and_eq_false_iff, decide_eq_false_iff_not]
    omega
  obtain ⟨⟨es, hes, hprod⟩, hframe⟩ := s.fire_gives s.ps none hclockless
  rw [State.tripFault, if_neg (by omega), hsite]
  dsimp only
  generalize s.fire n s.ps none = f at hes hframe
  generalize f.green.ins = ins at hes
  generalize f.green = green, f.fresh = fresh at hes hframe
  subst hes
  subst hframe
  refine ⟨es, ins, fresh, hprod, ?_⟩
  refine (if_pos hcan).trans ?_
  rw [siteTrip]
  by_cases h2 : s.monAction m = 2
  · rw [if_pos h2, if_pos h2]
    exact if_pos h2
  · rw [if_neg h2, if_neg h2]
    exact if_neg h2

end

/-! ### Samples and self-checks -/

/-- A sample that is judged, once what it shows of the pins has been noted (R350, R352). -/
def State.judged (s : State) (m : Nat) (x : Int) : State :=
  let c := s.classify m x
  let v := s.mon m
  if v.fault then s.setMon m { v with last := c, fault := c != 0, beyond := 0 }
  else if c = 2 then
    if fld (s.monW m 3) 21 19 < v.beyond + 1 then (s.setMon m { v with last := c, fault := true, beyond := 0 }).trip m (s.side m x)
    else s.setMon m { v with last := c, beyond := v.beyond + 1 }
  else s.setMon m { v with last := c, beyond := 0 }

/-- A monitor that has tripped (R352). -/
def Mon.tripped (v : Mon) : Mon := { v with last := 2, fault := true, beyond := 0, trips := min 0xFFFF (v.trips + 1) }

section
variable {s : State} {m : Nat} {x : Int}

theorem State.monSample_judged (hact : s.monAction m ≠ 0) (hm : m < 592) (hinj : s.bitR pGUARD PG_INJ 0 = false) :
    s.monSample m x true = (s.monInput m x).judged m x := by
  have hoff : ¬ (s.monAction m = 0 ∨ 592 ≤ m) := by omega
  rw [State.monSample, if_neg hoff, hinj]
  rfl

theorem State.monSample_parity (hact : s.monAction m ≠ 0) (hm : m < 592) (hinj : s.bitR pGUARD PG_INJ 0 = false) :
    s.monSample m x false = (s.monInput m x).guardFault m 0x016 none false := by
  have hoff : ¬ (s.monAction m = 0 ∨ 592 ≤ m) := by omega
  rw [State.monSample, if_neg hoff, hinj]
  rfl

theorem State.monSample_injected {ok : Bool} (hact : s.monAction m ≠ 0) (hm : m < 592) (hinj : s.bitR pGUARD PG_INJ 0 = true) :
    s.monSample m x ok = ((s.setBit pGUARD PG_INJ 0 false).monInput m x).guardFault m 0x016 none true := by
  have hoff : ¬ (s.monAction m = 0 ∨ 592 ≤ m) := by omega
  rw [State.monSample, if_neg hoff, if_pos hinj]

end

/-- What is left where one monitor has changed. -/
def State.MonOnly (s u t : State) (m : Nat) (w : Mon) : Prop :=
  t.mon m = w ∧ (∀ j, j ≠ m → t.mon j = s.mon j) ∧ t = { u with mons := t.mons }

theorem State.setMon_only {s u : State} {m : Nat} (w : Mon) (hu : u.mons = s.mons) : s.MonOnly u (u.setMon m w) m w := by
  refine ⟨u.mon_setMon_self m w, fun j hj => ?_, rfl⟩
  rw [State.mon_setMon, if_neg (Ne.symm hj), State.mon, hu, State.mon]

theorem State.tripped_only {s u : State} {m : Nat} (hu : u.mons = s.mons) :
    let a := u.setMon m { u.mon m with last := 2, fault := true, beyond := 0 }
    s.MonOnly u (a.setMon m { a.mon m with trips := satAdd 0xFFFF (a.mon m).trips 1 }) m (s.mon m).tripped := by
  intro a
  have hself : a.mon m = { s.mon m with last := 2, fault := true, beyond := 0 } := by
    rw [State.mon_setMon_self, State.mon, hu, State.mon]
  refine ⟨?_, fun j hj => ?_, rfl⟩
  · rw [State.mon_setMon_self, hself]
    rfl
  · rw [State.mon_setMon, if_neg (Ne.symm hj), State.mon_setMon, if_neg (Ne.symm hj), State.mon, hu, State.mon]

section
variable {s : State} {m : Nat} {x : Int}

theorem State.judged_fault (h : (s.mon m).fault = true) :
    s.judged m x = s.setMon m { s.mon m with last := s.classify m x, fault := s.classify m x != 0, beyond := 0 } := if_pos h

theorem State.judged_inside (h : (s.mon m).fault = false) (hc : s.classify m x ≠ 2) :
    s.judged m x = s.setMon m { s.mon m with last := s.classify m x, beyond := 0 } :=
  (if_neg (by simp [h])).trans (if_neg hc)

theorem State.judged_beyond (h : (s.mon m).fault = false) (hc : s.classify m x = 2)
    (hfew : ¬ (s.mon m).beyond + 1 > fld (s.monW m 3) 21 19) :
    s.judged m x = s.setMon m { s.mon m with last := 2, beyond := (s.mon m).beyond + 1 } := by
  rw [← hc]
  exact (if_neg (by simp [h])).trans ((if_pos hc).trans (if_neg hfew))

theorem State.judged_trips (h : (s.mon m).fault = false) (hc : s.classify m x = 2)
    (hmany : (s.mon m).beyond + 1 > fld (s.monW m 3) 21 19) :
    s.judged m x = (s.setMon m { s.mon m with last := 2, fault := true, beyond := 0 }).trip m (s.side m x) := by
  rw [← hc]
  exact (if_neg (by simp [h])).trans ((if_pos hc).trans (if_pos hmany))

end

section
variable {s : State} {m : Nat} {x : Int}

theorem State.monInput_withRegs (hv : m < 586 ∨ 590 ≤ m) (r : Store (BitVec 24)) :
    ({ s with regs := r } : State).monInput m x = { s.monInput m x with regs := r } := by
  by_cases h : m < 64
  · rw [State.monInput_rail _ h, State.monInput_rail _ h]
    rfl
  · rw [State.monInput_other _ (by omega) hv, State.monInput_other _ (by omega) hv]

theorem State.monInput_regs (hv : m < 586 ∨ 590 ≤ m) : (s.monInput m x).regs = s.regs := by
  by_cases h : m < 64
  · rw [State.monInput_rail _ h]
    rfl
  · rw [State.monInput_other _ (by omega) hv]

end

/-- What is left where a monitor raises GUARD_CHK or GUARD_PAR (R353, R354). -/
def State.Guards (s u t : State) (m code : Nat) (inj : Bool) : Prop :=
  (∀ j, j ≠ m → t.mon j = s.mon j) ∧ s.keepsRegs t (if inj then [(pGUARD, PG_INJ)] else []) ∧
    (inj = true → t.bitR pGUARD PG_INJ 0 = false) ∧
    t = { u with regs := t.regs, mons := t.mons
                 watch := { s.watch with raised := s.watch.raised ++ [guardRaised m (s.siteOf (monOct m)) code inj] } }

section
variable {s : State} {m : Nat} {x : Int}

theorem State.parity_guards (hv : m < 586 ∨ 590 ≤ m) :
    s.Guards (s.monInput m x) ((s.monInput m x).guardFault m 0x016 none false) m 0x016 false := by
  rw [State.guardFault_eq, State.monInput_siteOf]
  refine ⟨fun j _ => s.monInput_mon m x j, fun p o _ _ => ?_, fun h => by simp at h, ?_⟩
  · exact congrArg (fun r => r.get regDefault (rkey p o)) (State.monInput_regs hv)
  · rw [← s.monInput_watch m x]
    rfl

theorem State.injected_guards (hv : m < 586 ∨ 590 ≤ m) :
    s.Guards (s.monInput m x) (((s.setBit pGUARD PG_INJ 0 false).monInput m x).guardFault m 0x016 none true) m 0x016 true := by
  have hkeeps := s.setBit_keepsRegs (p := pGUARD) (o := PG_INJ) (by decide) 0 false
  have hbit : (s.setBit pGUARD PG_INJ 0 false).bitR pGUARD PG_INJ 0 = false := s.setBit_bit_self _ (by decide)
  have hmons : (s.setBit pGUARD PG_INJ 0 false).mons = s.mons := rfl
  have hwatch : (s.setBit pGUARD PG_INJ 0 false).watch = s.watch := rfl
  have hsite : (s.setBit pGUARD PG_INJ 0 false).siteOf (monOct m) = s.siteOf (monOct m) :=
    State.siteOf_congr (fun n o ho => hkeeps _ _ ho (by simp only [pGUARD, pSITE, List.mem_singleton, Prod.mk.injEq]; omega)) rfl _
  have hinput : (s.setBit pGUARD PG_INJ 0 false).monInput m x =
      { s.monInput m x with regs := (s.setBit pGUARD PG_INJ 0 false).regs } := State.monInput_withRegs hv _
  generalize s.setBit pGUARD PG_INJ 0 false = v at *
  have hregs : (v.monInput m x).regs = v.regs := State.monInput_regs hv
  rw [State.guardFault_eq, State.monInput_siteOf, hsite]
  refine ⟨fun j _ => ?_, fun p o ho hp => ?_, fun _ => ?_, ?_⟩
  · exact (v.monInput_mon m x j).trans (by rw [State.mon, hmons, State.mon])
  · rw [← hkeeps p o ho hp]
    exact congrArg (fun r => r.get regDefault (rkey p o)) hregs
  · rw [← hbit]
    exact congrArg (fun r => bit (r.get regDefault (rkey pGUARD PG_INJ)) 0) hregs
  · have hw : (v.monInput m x).watch = s.watch := (v.monInput_watch m x).trans hwatch
    rw [State.raise, hw, hinput]

/-- What is left where a monitor's trip raises the fault `r` and fires the events `es` (R352). -/
def State.Raises (s u t : State) (m : Nat) (r : Raised) (es : List GEvent) : Prop :=
  t.mon m = (s.mon m).tripped ∧ (∀ j, j ≠ m → t.mon j = s.mon j) ∧
    t = { u with mons := t.mons, green := { s.green with flight := s.green.flight ++ es, ins := t.green.ins }, fresh := t.fresh
                 watch := { s.watch with raised := s.watch.raised ++ [r] } }

theorem State.raises_of {s u w t : State} {m : Nat} {r : Raised} {es : List GEvent} {ins : List StileEvent} {fresh : Nat}
    (hw : s.MonOnly u w m (s.mon m).tripped) (hgreen : u.green = s.green) (hwatch : u.watch = s.watch)
    (ht : t = { w with green := { w.green with flight := w.green.flight ++ es, ins := ins }, fresh := fresh
                       watch := { w.watch with raised := w.watch.raised ++ [r] } }) : s.Raises u t m r es := by
  obtain ⟨hself, hothers, hframe⟩ := hw
  have hg : w.green = s.green := by rw [hframe, ← hgreen]
  have hv : w.watch = s.watch := by rw [hframe, ← hwatch]
  rw [ht]
  refine ⟨hself, hothers, ?_⟩
  dsimp only
  rw [hg, hv]
  exact congrArg (fun v : State =>
    { v with green := { s.green with flight := s.green.flight ++ es, ins := ins }, fresh := fresh
             watch := { s.watch with raised := s.watch.raised ++ [r] } }) hframe

theorem State.raise_fires_nothing (w : State) (r : Raised) : w.raise r =
    { w with green := { w.green with flight := w.green.flight ++ [], ins := w.green.ins }, fresh := w.fresh
             watch := { w.watch with raised := w.watch.raised ++ [r] } } := by
  rw [List.append_nil]
  rfl

theorem State.trips_raise (hc : s.classify m x = 2) (hf : (s.mon m).fault = false)
    (hmany : (s.mon m).beyond + 1 > fld (s.monW m 3) 21 19) :
    let t := (s.monInput m x).judged m x
    (576 ≤ m → s.Raises (s.monInput m x) t m { cls := .h, code := 0x018 + s.side m x % 2, page := pGUARD, detail := m } []) ∧
      (m < 576 → s.siteOf (monOct m) = none →
        s.Raises (s.monInput m x) t m { cls := .n, code := 0x01A, page := pGUARD, detail := m } []) ∧
      (∀ n, m < 576 → s.siteOf (monOct m) = some n → s.canHedge n = true →
        ∃ es, (∀ e ∈ es, e.prod = n) ∧ s.Raises (s.monInput m x) t m (siteTrip m (s.side m x) n (s.monAction m)) es) := by
  have hjudged : (s.monInput m x).judged m x = _ := State.judged_trips (by rw [State.monInput_mon]; exact hf)
    (by rw [State.monInput_classify]; exact hc) (by rw [State.monInput_mon, State.monInput_monW]; exact hmany)
  rw [State.monInput_side] at hjudged
  have hsite := s.monInput_siteOf m x (monOct m)
  have hcan := s.monInput_canHedge m x
  have haction : (s.monInput m x).monAction m = s.monAction m := by simp only [State.monAction, State.monInput_monW]
  have hgreen : (s.monInput m x).green = s.green := by rw [State.monInput_with]
  have hwatch := s.monInput_watch m x
  have honly := State.tripped_only (s := s) (m := m) (s.monInput_mons m x)
  rw [hjudged]
  generalize s.monInput m x = u at *
  rw [State.trip]
  dsimp only at honly ⊢
  generalize hw : (u.setMon m { u.mon m with last := 2, fault := true, beyond := 0 }).setMon m _ = w at *
  have hsite' : w.siteOf (monOct m) = s.siteOf (monOct m) := by
    rw [← hsite, ← hw]
    exact State.siteOf_congr (fun _ _ _ => rfl) rfl _
  have hact' : w.monAction m = s.monAction m := by rw [← haction, ← hw]; rfl
  have hcan' (n : Nat) : w.canHedge n = s.canHedge n := by rw [← hcan, ← hw]; rfl
  refine ⟨fun hm => ?_, fun hm hs => ?_, fun n hm hs hh => ?_⟩
  · rw [State.tripFault_supply hm]
    exact State.raises_of honly hgreen hwatch (w.raise_fires_nothing _)
  · rw [State.tripFault_nosite hm (hsite'.trans hs)]
    exact State.raises_of honly hgreen hwatch (w.raise_fires_nothing _)
  · obtain ⟨es, ins, fresh, hprod, hfault⟩ :=
      State.tripFault_site (side := s.side m x) hm (hsite'.trans hs) ((hcan' n).trans hh)
    rw [hact'] at hfault
    exact ⟨es, hprod, State.raises_of honly hgreen hwatch hfault⟩

/-! ### The self-check (R353) -/

section
variable {a b : Int} {sw : Bool} (hact : s.monAction m ≠ 0) (hm : m < 592)
include hact hm

theorem State.monCheck_passes (h : s.isBeyond m a = true ∧ s.isBeyond m b = true ∧ sw = true) :
    s.monCheck m a b sw = s.setMon m { s.mon m with chkFail := false, chkRun := 0 } :=
  (if_neg (by omega)).trans (if_pos h)

theorem State.monCheck_fails (h : ¬ (s.isBeyond m a = true ∧ s.isBeyond m b = true ∧ sw = true)) (hrun : (s.mon m).chkRun ≠ 1) :
    s.monCheck m a b sw = s.setMon m { s.mon m with chkFail := true, chkRun := 1 } :=
  (if_neg (by omega)).trans ((if_neg h).trans (if_neg hrun))

theorem State.monCheck_fails_again (h : ¬ (s.isBeyond m a = true ∧ s.isBeyond m b = true ∧ sw = true))
    (hrun : (s.mon m).chkRun = 1) :
    s.monCheck m a b sw = (s.setMon m { s.mon m with chkFail := true, chkRun := 0 }).raise
      (guardRaised m (s.siteOf (monOct m)) 0x015 false) := by
  have hsite : (s.setMon m { s.mon m with chkFail := true, chkRun := 0 }).siteOf (monOct m) = s.siteOf (monOct m) :=
    State.siteOf_congr (fun _ _ _ => rfl) rfl _
  refine (if_neg (by omega)).trans ((if_neg h).trans ((if_pos hrun).trans ?_))
  rw [State.guardFault_eq, hsite]

end

theorem State.check_guards (w : Mon) :
    s.Guards s ((s.setMon m w).raise (guardRaised m (s.siteOf (monOct m)) 0x015 false)) m 0x015 false := by
  refine ⟨fun j hj => ?_, fun _ _ _ _ => rfl, fun h => by simp at h, rfl⟩
  exact (s.mon_setMon m j w).trans (if_neg (Ne.symm hj))

end

end Sys2Proof.Machine

end

section

/-! ## Temperature sensors (R358 to R361) -/

namespace Sys2Proof.Machine

/-- A sensor that has been read below every threshold. -/
def Sensor.readCool (v : Sensor) (t : Int) (susp : Bool) : Sensor :=
  { v with t := t, suspect := susp, dcnt := if susp then min 3 (v.dcnt + 1) else 0, met := 0 }

/-- Every sensor read below every threshold, the suspect ones given. -/
def State.readCool (s : State) (temps : List Int) (susp : Nat → Bool) : State :=
  (List.range 16).foldl (fun (s : State) k => s.setSensor k ((s.sensor k).readCool (temps.getD k 0) (susp k))) s

/-- Readings of valid sensors that meet no threshold, each within 8 degrees of a neighbour's (R359, R360). -/
def State.Cool (s : State) (temps : List Int) : Prop :=
  ∀ k < 16, (s.sensor k).valid = true ∧ (s.sensor k).met = 0 ∧
    temps.getD k 0 < 64 * (s.fldR pTHERM THERM_CFG 23 16 : Int) ∧ temps.getD k 0 < 6720 ∧
    ∃ j ∈ neighbours k, (temps.getD k 0 - temps.getD j 0).natAbs ≤ 512

theorem State.sensor_setSensor (s : State) (k j : Nat) (v : Sensor) :
    (s.setSensor k v).sensor j = if k = j then v else s.sensor j := by simp [State.sensor, State.setSensor, Store.get_put]

theorem State.comp_setComp (s : State) (b j : Nat) (v : Int) : (s.setComp b v).comp j = if b = j then v else s.comp j := by
  simp [State.comp, State.setComp, Store.get_put]

theorem State.bitR_setBit_other (s : State) {p o i j : Nat} {b : Bool} (hi : i < 24) (h : j ≠ i) :
    (s.setBit p o i b).bitR p o j = s.bitR p o j := by
  rw [State.bitR, State.setBit, State.reg_setFld_self, bit_putFld _ _ (Nat.le_refl i) hi, if_neg (by omega), State.bitR]

theorem lt_of_mem_neighbours {j k : Nat} (hk : k < 16) (hj : j ∈ neighbours k) : j < 16 := by
  have hall : ∀ k < 16, ∀ j ∈ neighbours k, j < 16 := by decide
  exact hall k hk j hj

section
variable {s : State} {temps : List Int} {susp : Nat → Bool}

theorem State.readCool_sensor {k : Nat} (hk : k < 16) :
    (s.readCool temps susp).sensor k = (s.sensor k).readCool (temps.getD k 0) (susp k) := by
  have h := foldl_at (get := State.sensor) (f := fun (s : State) k => s.setSensor k ((s.sensor k).readCool (temps.getD k 0) (susp k)))
    (g := fun k v => v.readCool (temps.getD k 0) (susp k))
    (fun s c d => by rw [State.sensor_setSensor]; split <;> simp_all) (List.nodup_range (n := 16)) s k
  rw [if_pos (List.mem_range.2 hk)] at h
  exact h

theorem State.readCool_with : s.readCool temps susp = { s with sensors := (s.readCool temps susp).sensors } :=
  List.foldlRecOn (motive := fun t : State => t = { s with sensors := t.sensors }) _ _ rfl
    fun t ht k _ => congrArg (fun u : State => u.setSensor k ((t.sensor k).readCool (temps.getD k 0) (susp k))) ht

theorem State.readCool_bitR (p o i : Nat) : (s.readCool temps susp).bitR p o i = s.bitR p o i := by
  have hregs : (s.readCool temps susp).regs = s.regs := by rw [State.readCool_with]
  rw [State.bitR, State.reg, hregs, State.bitR, State.reg]

/-- The step that reads one sensor, where its reading is below every threshold. -/
theorem Sensor.readCool_eq {warn t : Int} (v : Sensor) (b : Bool) (hwarn : t < warn) (h105 : t < 6720) :
    (let hot := (decide (warn ≤ t)).toNat + 2 * (decide (6720 ≤ t)).toNat + 4 * (decide (7680 ≤ t)).toNat +
      8 * (decide (8640 ≤ t)).toNat
     { v with t := t, suspect := b, dcnt := if b then min 3 (v.dcnt + 1) else 0
              met := if v.valid then hot + 16 * (hot &&& (v.met % 16)) else 0 }) = v.readCool t b := by
  have h1 : decide (warn ≤ t) = false := by simpa using hwarn
  have h2 : decide ((6720 : Int) ≤ t) = false := by simpa using h105
  have h3 : decide ((7680 : Int) ≤ t) = false := decide_eq_false (by omega)
  have h4 : decide ((8640 : Int) ≤ t) = false := decide_eq_false (by omega)
  simp [h1, h2, h3, h4, Sensor.readCool]

theorem State.mem_validSensors {s : State} {k : Nat} : k ∈ s.validSensors ↔ k < 16 ∧ (s.sensor k).valid = true := by
  simp [State.validSensors]

theorem State.thermMet_of_met_zero {s : State} (h : ∀ k < 16, (s.sensor k).met = 0) (j : Nat) : s.thermMet j = false := by
  simp only [State.thermMet, List.any_eq_false, State.mem_validSensors]
  intro k hk
  simp [h k hk.1, nbit]

/-- A reading that meets no threshold and finds no sensor out of family three times (R359 to R361). -/
theorem State.readSensors_cool {bad : List Nat} (hinj : s.bitR pTHERM PG_INJ 0 = false)
    (h23 : s.bitR pTHERM THERM_STAT 23 = false) (hcool : s.Cool temps)
    (hfew : ∀ k < 16, bad.contains k = true → (s.sensor k).dcnt < 2) :
    s.readSensors temps bad = ((s.readCool temps bad.contains).setBit pTHERM THERM_STAT 22 false).compensate := by
  unfold State.readSensors
  extract_lets inj s1 before warn t valid susp s2 s3 alone s4 rose s0 s5 s6 s7 s8
  have hinj' : inj = false := hinj
  have hs1 : s1 = s := by simp [s1, hinj']
  have hwarnEq : warn = 64 * (s.fldR pTHERM THERM_CFG 23 16 : Int) := by simp only [warn, hs1]
  have hsusp (k : Nat) (hk : k < 16) : susp k = bad.contains k := by
    obtain ⟨-, -, -, -, j, hj, hd⟩ := hcool k hk
    have hjv : valid j = true := by
      simp only [valid, before, hs1]
      exact (hcool j (lt_of_mem_neighbours hk hj)).1
    have hall : ((neighbours k).filter valid).all (fun j => decide (512 < t k - t j) || decide (512 < t j - t k)) = false := by
      rw [List.all_eq_false]
      refine ⟨j, List.mem_filter.2 ⟨hj, hjv⟩, ?_⟩
      simp only [t, Bool.or_eq_true, decide_eq_true_eq]
      omega
    simp only [susp, hall, hinj', Bool.and_false, Bool.or_false, Bool.false_or]
  have hs2 : s2 = s.readCool temps bad.contains := by
    simp only [s2, hs1, State.readCool]
    refine List.foldl_ext _ _ _ fun u k hk => ?_
    have hk16 := List.mem_range.1 hk
    obtain ⟨-, -, hwarn, h105, -⟩ := hcool k hk16
    rw [← hsusp k hk16]
    exact congrArg (u.setSensor k) (Sensor.readCool_eq (u.sensor k) (susp k) (by rw [hwarnEq]; exact hwarn) h105)
  have hread (k : Nat) (hk : k < 16) : s2.sensor k = (s.sensor k).readCool (t k) (bad.contains k) := by
    rw [hs2, State.readCool_sensor hk]
  have hvalid (k : Nat) (hk : k < 16) : (s2.sensor k).valid = true := by
    rw [hread k hk]
    exact (hcool k hk).1
  have hdcnt (k : Nat) (hk : k < 16) : (s2.sensor k).dcnt ≠ 3 := by
    have hlt := hfew k hk
    rw [hread k hk, Sensor.readCool]
    dsimp only
    split
    next hb =>
      have := hlt hb
      omega
    next => omega
  have hs3 : s3 = s2 := by
    refine List.foldlRecOn (motive := fun u : State => u = s2) _ _ rfl fun u hu k hk => ?_
    rw [hu]
    exact if_neg fun h => hdcnt k (List.mem_range.1 hk) h.2
  have halone : alone = [] := by
    simp only [alone, hs3, List.filter_eq_nil_iff, List.mem_range]
    intro k hk
    obtain ⟨-, -, -, -, j, hj, -⟩ := hcool k hk
    have hany : (neighbours k).any (fun j => (s2.sensor j).valid) = true :=
      List.any_eq_true.2 ⟨j, hj, hvalid j (lt_of_mem_neighbours hk hj)⟩
    simp [hany]
  have hs4 : s4 = s2 := by simp [s4, halone, hs3]
  have hmet (j : Nat) : s4.thermMet j = false := by
    rw [hs4]
    exact State.thermMet_of_met_zero (fun k hk => by rw [hread k hk]; rfl) j
  have hrose (j : Nat) : rose j = false := by simp [rose, hmet]
  have hs5 : s5 = (s.readCool temps bad.contains).setBit pTHERM THERM_STAT 22 false := by
    simp only [s5, s0, hmet]
    rw [hs4, hs2]
  have h23' : s5.bitR pTHERM THERM_STAT 23 = false := by
    rw [hs5, State.bitR_setBit_other _ (by decide) (by decide), State.readCool_bitR, h23]
  clear_value rose s5
  have hs7 : s7 = s5 := by simp only [s7, s6, s0, hrose, h23', hmet, Bool.false_eq_true, if_false]
  simp only [s8, hs7, hs5, hrose, Bool.false_eq_true, if_false]

end

/-! ### The self-heating correction (R361) -/

theorem State.nearestValid_self {s : State} (h : s.validSensors = List.range 16) {k : Nat} (hk : k < 16) :
    s.nearestValid k = some k := by
  rw [State.nearestValid, h]
  revert k
  decide

theorem compSensor_lt {b : Nat} (hb : b < 16) : compSensor b < 16 := by
  revert b
  decide

/-- A reference buffer after one reading of its sensor (R361). -/
def compStep (s : State) (b : Nat) (v : Int) : Int := v + max (-10) (min 10 (Config.compAt b (s.sensor (compSensor b)).t - v))

section
variable {s : State} (h : s.validSensors = List.range 16)
include h

theorem State.compensate_eq :
    s.compensate = (List.range 16).foldl (fun (v : State) b => v.setComp b (compStep s b (v.comp b))) s := by
  have hfold : ∀ (l : List Nat) (v : State), (∀ b ∈ l, b < 16) → v.sensors = s.sensors →
      l.foldl (fun (s : State) b => match s.nearestValid (compSensor b) with
        | some k => s.setComp b (s.comp b + max (-10) (min 10 (Config.compAt b (s.sensor k).t - s.comp b)))
        | none => s) v = l.foldl (fun (v : State) b => v.setComp b (compStep s b (v.comp b))) v := by
    intro l
    induction l with
    | nil => exact fun _ _ _ => rfl
    | cons b l ih =>
      intro v hl hv
      have hsens (k : Nat) : v.sensor k = s.sensor k := by rw [State.sensor, hv, State.sensor]
      have hvalid : v.validSensors = List.range 16 := by simpa only [State.validSensors, hsens] using h
      rw [List.foldl_cons, List.foldl_cons, State.nearestValid_self hvalid (compSensor_lt (hl b List.mem_cons_self))]
      simp only [hsens]
      exact ih _ (fun c hc => hl c (List.mem_cons_of_mem b hc)) hv
  exact hfold _ s (fun b => List.mem_range.1) rfl

theorem State.compensate_comp {b : Nat} (hb : b < 16) : s.compensate.comp b = compStep s b (s.comp b) := by
  have hat := foldl_at (get := State.comp) (f := fun (v : State) b => v.setComp b (compStep s b (v.comp b))) (g := compStep s)
    (fun u c d => by rw [State.comp_setComp]; split <;> simp_all) (List.nodup_range (n := 16)) s b
  rw [State.compensate_eq h]
  exact hat.trans (if_pos (List.mem_range.2 hb))

theorem State.compensate_with : s.compensate = { s with comps := s.compensate.comps } := by
  rw [State.compensate_eq h]
  exact List.foldlRecOn (motive := fun t : State => t = { s with comps := t.comps }) _ _ rfl
    fun t ht b _ => congrArg (fun u : State => u.setComp b (compStep s b (t.comp b))) ht

end

/-! ### The two readings the statement is about, and REVALID (R359, R374) -/

theorem State.setBit_with (s : State) (p o i : Nat) (b : Bool) :
    s.setBit p o i b = { s with regs := (s.setBit p o i b).regs } := rfl

section
variable {s : State} {temps : List Int}

theorem State.readCool_validSensors {susp : Nat → Bool} (hcool : s.Cool temps) :
    (s.readCool temps susp).validSensors = List.range 16 := by
  refine List.filter_eq_self.2 fun k hk => ?_
  have hk16 := List.mem_range.1 hk
  obtain ⟨hvalid, -⟩ := hcool k hk16
  rw [State.readCool_sensor hk16]
  exact hvalid

theorem State.readCool_valid {susp : Nat → Bool} (k : Nat) :
    ((s.readCool temps susp).sensor k).valid = (s.sensor k).valid := by
  refine List.foldlRecOn (motive := fun t : State => (t.sensor k).valid = (s.sensor k).valid) _ _ rfl fun t ht j _ => ?_
  rw [State.sensor_setSensor]
  split
  next h => exact h ▸ ht
  next => exact ht

/-- What a reading and the correction after it leave, where the registers tell the same. -/
theorem State.readThenCompensated {susp : Nat → Bool} {v : State} (hcool : s.Cool temps)
    (hkeeps : (s.readCool temps susp).keepsRegs v []) (hset : v = { s.readCool temps susp with regs := v.regs }) :
    v.compensate.sensors = (s.readCool temps susp).sensors ∧
      (∀ b < 16, v.compensate.comp b =
        s.comp b + max (-10) (min 10 (Config.compAt b (temps.getD (compSensor b) 0) - s.comp b))) ∧
      s.keepsRegs v.compensate [] ∧
      v.compensate = { s with regs := v.compensate.regs, sensors := v.compensate.sensors, comps := v.compensate.comps } := by
  have hread (k : Nat) (hk : k < 16) := State.readCool_sensor (s := s) (temps := temps) (susp := susp) hk
  have hvalid := State.readCool_validSensors (susp := susp) hcool
  have hwith := State.readCool_with (s := s) (temps := temps) (susp := susp)
  generalize s.readCool temps susp = u at *
  have hsensors : v.sensors = u.sensors := by rw [hset]
  have hvalid' : v.validSensors = List.range 16 := by
    rw [← hvalid]
    simp only [State.validSensors, State.sensor, hsensors]
  have hcomp := fun b (hb : b < 16) => State.compensate_comp hvalid' hb
  have hframe := State.compensate_with hvalid'
  generalize v.compensate = t at *
  refine ⟨?_, fun b hb => ?_, fun p o ho hp => ?_, ?_⟩
  · rw [hframe, hsensors]
  · have hreads := hread _ (compSensor_lt hb)
    have hold : v.comp b = s.comp b := by rw [hset, State.comp, hwith, State.comp]
    rw [hcomp b hb, compStep, State.sensor, hsensors, ← State.sensor, hreads, hold, Sensor.readCool]
  · rw [hframe]
    exact (hkeeps p o ho hp).trans (by rw [hwith, State.reg, State.reg])
  · rw [hframe, hset, hwith]

/-- What the state after a cool reading is made of. -/
theorem State.readSensors_cool_spec {bad : List Nat} (hinj : s.bitR pTHERM PG_INJ 0 = false)
    (h23 : s.bitR pTHERM THERM_STAT 23 = false) (h22 : s.bitR pTHERM THERM_STAT 22 = false) (hcool : s.Cool temps)
    (hfew : ∀ k < 16, bad.contains k = true → (s.sensor k).dcnt < 2) {t : State} (ht : s.readSensors temps bad = t) :
    t.sensors = (s.readCool temps bad.contains).sensors ∧
      (∀ b < 16, t.comp b = s.comp b + max (-10) (min 10 (Config.compAt b (temps.getD (compSensor b) 0) - s.comp b))) ∧
      s.keepsRegs t [] ∧ t = { s with regs := t.regs, sensors := t.sensors, comps := t.comps } := by
  rw [State.readSensors_cool hinj h23 hcool hfew] at ht
  subst ht
  exact State.readThenCompensated hcool (State.keepsRegs_setBit_same ((State.readCool_bitR _ _ _).trans h22))
    (State.setBit_with _ _ _ _ _)

end

theorem State.writeReg_revalid {s : State} {ini : Ini} {w : Word} (hg : s.gate_ ini pTHERM true = none) (hbit : bit w 0 = true)
    (hmask : w &&& 0xF00001 = w) (hrest : fld w 19 1 = 0) :
    s.writeReg {} ini pTHERM THERM_CMD w = ((s.served ini pTHERM).revalidate (fld w 23 20)).ok := by
  have hcheck : (s.served ini pTHERM).checkReg ini pTHERM .therm THERM_CMD (putCmd w) = none :=
    congrArg (fun n => refuse (n != 0) .range) hrest
  have hact : (s.served ini pTHERM).actReg (s.served ini pTHERM) {} ini pTHERM .therm THERM_CMD (putCmd w) =
      (s.served ini pTHERM).revalidate (fld w 23 20) := if_pos ⟨rfl, hbit⟩
  rw [State.writeReg_command (k := .therm) (m := 0xF00001) (by decide) (by decide) (by decide) hg rfl (by decide) rfl
    (by decide) hmask rfl hcheck (by decide), hact, State.leavePage_of (by decide)]

theorem State.exec_revalid {s : State} {ini : Ini} (k : Fin 16) (hg : s.gate_ ini pTHERM true = none) :
    exec (.revalid ini k) s = .next ((s.served ini pTHERM).revalidate k).ok := by
  have hbit : bit (word (k * 2 ^ 20 + 1)) 0 = true := by revert k; decide
  have hsel : fld (word (k * 2 ^ 20 + 1)) 23 20 = k := by revert k; decide
  have hmask : word (k * 2 ^ 20 + 1) &&& 0xF00001 = word (k * 2 ^ 20 + 1) := by revert k; decide
  have hrest : fld (word (k * 2 ^ 20 + 1)) 19 1 = 0 := by revert k; decide
  have hwrite := State.writeReg_revalid hg hbit hmask hrest
  rw [hsel] at hwrite
  exact congrArg Host.Outcome.next hwrite

section
variable {s : State} {temps : List Int} (hinj : s.bitR pTHERM PG_INJ 0 = false) (h23 : s.bitR pTHERM THERM_STAT 23 = false)
  (h22 : s.bitR pTHERM THERM_STAT 22 = false) (hcool : s.Cool temps)
include hinj h23 h22 hcool

/-- A reading that meets nothing (R358, R361). -/
theorem State.coolReading_spec : ∃ t, s.readSensors temps [] = t ∧
    (∀ k < 16, t.sensor k = { s.sensor k with t := temps.getD k 0, suspect := false, dcnt := 0 }) ∧
    (∀ b < 16, t.comp b = s.comp b + max (-10) (min 10 (Config.compAt b (temps.getD (compSensor b) 0) - s.comp b))) ∧
    s.keepsRegs t [] ∧ t = { s with regs := t.regs, sensors := t.sensors, comps := t.comps } := by
  obtain ⟨hsensors, hcomp, hregs, hframe⟩ := State.readSensors_cool_spec (bad := []) hinj h23 h22 hcool (by simp) rfl
  refine ⟨_, rfl, fun k hk => ?_, hcomp, hregs, hframe⟩
  obtain ⟨-, hmet, -⟩ := hcool k hk
  rw [State.sensor, hsensors, ← State.sensor, State.readCool_sensor hk, Sensor.readCool, ← hmet]
  rfl

/-- A reading that fails the check of one sensor (R359). -/
theorem State.suspectReading_spec {k : Nat} (hk : k < 16) (hdcnt : (s.sensor k).dcnt < 2) :
    ∃ t, s.readSensors temps [k] = t ∧
      t.sensor k = { s.sensor k with t := temps.getD k 0, suspect := true, dcnt := (s.sensor k).dcnt + 1 } ∧
      t.watch = s.watch ∧ ∀ j, (t.sensor j).valid = (s.sensor j).valid := by
  have hfew : ∀ j < 16, [k].contains j = true → (s.sensor j).dcnt < 2 := by
    intro j _ hj
    rw [List.contains_iff_mem, List.mem_singleton] at hj
    exact hj ▸ hdcnt
  obtain ⟨hsensors, -, -, hframe⟩ := State.readSensors_cool_spec hinj h23 h22 hcool hfew rfl
  have hsensor (j : Nat) : (s.readSensors temps [k]).sensor j = (s.readCool temps [k].contains).sensor j := by
    rw [State.sensor, hsensors, State.sensor]
  refine ⟨_, rfl, ?_, by rw [hframe], fun j => ?_⟩
  · obtain ⟨-, hmet, -⟩ := hcool k hk
    have hsusp : [k].contains k = true := by simp
    have hcount : min 3 ((s.sensor k).dcnt + 1) = (s.sensor k).dcnt + 1 := by omega
    rw [hsensor, State.readCool_sensor hk, Sensor.readCool, hsusp, ← hmet, if_pos rfl, hcount]
  · rw [hsensor, State.readCool_valid]

end

/-- A sensor returned to service (R359, R374). -/
theorem State.revalidated_spec (s : State) (ini k : Nat) :
    let t := ((s.served ini pTHERM).revalidate k).ok
    s.wrote t pTHERM [] ∧ t.sensor k = { s.sensor k with valid := true, suspect := false, dcnt := 0, met := 0 } ∧
      (∀ j, j ≠ k → t.sensor j = s.sensor j) ∧
      t = { s with regs := t.regs, rot := t.rot, reply := t.reply, sensors := t.sensors } := by
  have hwrote : s.wrote ((s.served ini pTHERM).revalidate k).ok pTHERM [] := State.wrote_of_served (by decide) rfl rfl
  have hwith := State.served_with (s := s) (ini := ini) (page := pTHERM) (by decide)
  generalize s.served ini pTHERM = v at *
  have hsensor (j : Nat) : v.sensor j = s.sensor j := by rw [hwith, State.sensor, State.sensor]
  have hself : (v.revalidate k).sensor k = { v.sensor k with valid := true, suspect := false, dcnt := 0, met := 0 } :=
    State.sensor_setSensor_self v k _
  refine ⟨hwrote, ?_, fun j hj => ?_, ?_⟩
  · rw [hsensor] at hself
    exact hself
  · exact ((v.sensor_setSensor k j _).trans (if_neg (Ne.symm hj))).trans (hsensor j)
  · exact congrArg (fun u : State => ({ u with sensors := (v.revalidate k).sensors } : State).ok) hwith

/-! ### The statement -/

section
variable {s : State}

theorem State.Guards.raised {u t : State} {m code : Nat} {inj : Bool} (h : s.Guards u t m code inj) :
    ∃ r, (∀ j, j ≠ m → t.mon j = s.mon j) ∧ s.keepsRegs t (if inj then [(pGUARD, PG_INJ)] else []) ∧
      (inj = true → t.bitR pGUARD PG_INJ 0 = false) ∧ r.code = code ∧ r.detail = m ∧ r.inj = inj ∧
      (576 ≤ m → r.cls = .h ∧ r.page = pGUARD ∧ r.unit = .none) ∧
      (∀ n, m < 576 → s.siteOf (monOct m) = some n → r.cls = .d ∧ r.page = pSITE n ∧ r.unit = .site n) ∧
      (m < 576 → s.siteOf (monOct m) = none → r.cls = .d ∧ r.page = pGUARD ∧ r.unit = .none) ∧
      t = { u with regs := t.regs, mons := t.mons, watch := { s.watch with raised := s.watch.raised ++ [r] } } := by
  obtain ⟨hothers, hregs, hinj, hframe⟩ := h
  obtain ⟨hcode, hdetail, hinj', hchip, hsite, hnosite⟩ := guardRaised_spec m (s.siteOf (monOct m)) code inj
  exact ⟨_, hothers, hregs, hinj, hcode, hdetail, hinj', hchip, hsite, hnosite, hframe⟩

end

/-- Settles O52: each command's effect, a monitor's sample by what it shows of the pins and how it is judged. -/
theorem monitorsAndSensorsAreRead : Obligations.MonitorsAndSensorsAreRead := by
  intro s m
  dsimp only
  refine ⟨fun hoff => ⟨fun x ok => ?_, fun a b sw => ?_⟩, fun hact hm => ⟨fun x => ⟨fun h => s.monInput_rail h x,
    fun h hv => s.monInput_other h hv x, ?_, ?_, ?_⟩, fun a b sw => ⟨?_, ?_, ?_⟩⟩, ?_, ?_, ?_⟩
  · exact congrArg Host.Outcome.next (if_pos hoff)
  · exact congrArg Host.Outcome.next (if_pos hoff)
  · intro hlo hhi
    exact ⟨s.monInput_supply_good ⟨hlo, hhi⟩ x, s.monInput_out_spec ⟨hlo, hhi⟩ x⟩
  · intro hv
    refine ⟨fun hinj ok => ?_, fun hinj => ?_⟩
    · obtain ⟨r, hguard⟩ := (State.injected_guards (s := s) (x := x) hv).raised
      exact ⟨_, r, congrArg Host.Outcome.next (State.monSample_injected hact hm hinj), hguard⟩
    · obtain ⟨r, hguard⟩ := (State.parity_guards (s := s) (x := x) hv).raised
      exact ⟨_, r, congrArg Host.Outcome.next (State.monSample_parity hact hm hinj), hguard⟩
  · intro hinj
    have hexec : exec (.monitorSample m x true) s = .next ((s.monInput m x).judged m x) :=
      congrArg Host.Outcome.next (State.monSample_judged hact hm hinj)
    have hmon := s.monInput_mon m x m
    have hmons := s.monInput_mons m x
    have hclass := s.monInput_classify m x
    refine ⟨fun hf => ?_, fun hf hc => ?_, fun hf hc hfew => ?_, fun hf hc hmany => ?_⟩
    · refine ⟨_, hexec, ?_⟩
      rw [State.judged_fault (hmon ▸ hf), hmon, hclass]
      exact State.setMon_only _ hmons
    · refine ⟨_, hexec, ?_⟩
      rw [State.judged_inside (hmon ▸ hf) (hclass ▸ hc), hmon, hclass]
      exact State.setMon_only _ hmons
    · refine ⟨_, hexec, ?_⟩
      rw [State.judged_beyond (hmon ▸ hf) (hclass ▸ hc) (by rw [hmon, State.monInput_monW]; exact hfew), hmon]
      exact State.setMon_only _ hmons
    · obtain ⟨hchip, hnosite, hsite⟩ := State.trips_raise hc hf hmany
      refine ⟨fun h => ⟨_, hexec, hchip h⟩, fun h hs => ⟨_, hexec, hnosite h hs⟩, fun n h hs hcan => ?_⟩
      obtain ⟨es, hprod, hraises⟩ := hsite n h hs hcan
      exact ⟨es, hprod, _, hexec, hraises⟩
  · exact fun h => ⟨_, congrArg Host.Outcome.next (State.monCheck_passes hact hm h), State.setMon_only _ rfl⟩
  · exact fun h hrun => ⟨_, congrArg Host.Outcome.next (State.monCheck_fails hact hm h hrun), State.setMon_only _ rfl⟩
  · intro h hrun
    have hexec : exec (.monitorSelfCheck m a b sw) s = .next ((s.setMon m { s.mon m with chkFail := true, chkRun := 0 }).raise
        (guardRaised m (s.siteOf (monOct m)) 0x015 false)) :=
      congrArg Host.Outcome.next (State.monCheck_fails_again hact hm h hrun)
    obtain ⟨r, hguard⟩ := (s.check_guards (m := m) { s.mon m with chkFail := true, chkRun := 0 }).raised
    refine ⟨⟨_, r, hexec, hguard⟩, fun t ht => ?_⟩
    rw [← Host.Outcome.next.inj (hexec.symm.trans ht)]
    exact s.mon_setMon_self m _
  · intro temps hinj h23 h22 hcool
    obtain ⟨t, hread, hspec⟩ := s.coolReading_spec hinj h23 h22 hcool
    exact ⟨t, congrArg Host.Outcome.next hread, hspec⟩
  · intro temps k hinj hvalid hdcnt hothers h23 h22 hcool
    obtain ⟨t, hread, hspec⟩ := s.suspectReading_spec hinj h23 h22 hcool k.isLt hdcnt
    exact ⟨t, congrArg Host.Outcome.next hread, hspec⟩
  · exact fun ini k hg => ⟨_, State.exec_revalid k hg, s.revalidated_spec ini k⟩

end Sys2Proof.Machine

end

section

/-! ## What a start leaves alone, and a start in which nothing fails (R46, R48, R54, R395, R397) -/

namespace Sys2Proof.Machine

/-- What nothing in a start changes: its surroundings, the fuses, the straps, PORST_N, and which start it is. -/
def State.powered (s : State) : Option StartEnv × Fuses × Nat × Bool × Bool :=
  (s.env, s.fuses, s.pins.strap, s.pins.porstN, s.run.warm)

/-- A fault that stops nothing: class N, of no unit. -/
def Raised.mild (r : Raised) : Prop := r.cls = .n ∧ r.unit = .none

/-- The registers that tell the lock of the PLL, an injected fault of the time, class H, and the states of the streams. -/
def steadyKeys : List Nat :=
  [rkey pTBASE TBASE_STAT, rkey pTBASE PG_INJ, rkey pWATCH WATCH_STAT] ++
    (List.range 4).map (fun k => rkey (pSTREAM k) STREAM_STAT)

/-- A start on its way to READY, from a state `c` on: no class H or G has been met, and the PLL is locked where `l` says so. -/
structure Steady (c : State) (l : Prop) (t : State) : Prop where
  st : t.run.st = c.run.st
  goes : t.run.waiting = false
  test : t.bitR pTBASE PG_INJ 0 = false
  streams : ∀ k < 4, t.strSt k = c.strSt k
  cold : t.run.warm = false → t.pins.gLatch = false ∧ t.bitR pWATCH WATCH_STAT 22 = false
  locked : l → t.locked = true
  mild : ∀ r ∈ t.watch.raised, r.mild

/-- What a start from `c` on leaves alone and, where `q` says that nothing fails, that it is on its way to READY. -/
structure Starting (c : State) (q l : Prop) (t : State) : Prop where
  powered : t.powered = c.powered
  steady : q → Steady c l t

theorem streamStat_mem_steadyKeys {k : Nat} (hk : k < 4) : rkey (pSTREAM k) STREAM_STAT ∈ steadyKeys := by
  revert k
  decide

/-- Does READY rest on the register of a key? -/
def steadyKey (k : Nat) : Bool := steadyKeys.contains k

theorem steadyKey_eq_false {k : Nat} : steadyKey k = false ↔ k ∉ steadyKeys := by simp [steadyKey]

theorem notSteady_of_page {p o : Nat} (h : 0x43 ≤ p) : steadyKey (rkey p o) = false := by
  have hall : ∀ k ∈ steadyKeys, k < 0x43 * 256 := by decide
  refine steadyKey_eq_false.2 fun hk => ?_
  have := hall _ hk
  unfold rkey at this
  omega

theorem notSteady_of_off {p o : Nat} (ho : o < 256) (h : o ≠ 7 ∧ o ≠ 17) : steadyKey (rkey p o) = false := by
  have hall : ∀ k ∈ steadyKeys, k % 256 = 7 ∨ k % 256 = 17 := by decide
  refine steadyKey_eq_false.2 fun hk => ?_
  have := hall _ hk
  unfold rkey at this
  omega

theorem octpe_notSteady (n o : Nat) : steadyKey (rkey (pOCTPE n) o) = false := notSteady_of_page (by unfold pOCTPE; omega)
theorem acq_notSteady (n o : Nat) : steadyKey (rkey (pACQ n) o) = false := notSteady_of_page (by unfold pACQ; omega)
theorem site_notSteady (n o : Nat) : steadyKey (rkey (pSITE n) o) = false := notSteady_of_page (by unfold pSITE; omega)

section
variable {c s : State} {q l : Prop}

theorem Steady.withRegs {m : Store Word} (h : Steady c l s)
    (hm : ∀ k ∈ steadyKeys, m.get regDefault k = s.regs.get regDefault k) : Steady c l { s with regs := m } where
  st := h.st
  goes := h.goes
  test := (congrArg (bit · 0) (hm _ (by decide))).trans h.test
  streams k hk := (congrArg (fld · 23 21) (hm _ (streamStat_mem_steadyKeys hk))).trans (h.streams k hk)
  cold hw := ⟨(h.cold hw).1, (congrArg (bit · 22) (hm _ (by decide))).trans (h.cold hw).2⟩
  locked hl := (congrArg (bit · 23) (hm _ (by decide))).trans (h.locked hl)
  mild := h.mild

/-- Where something has failed, only what nothing changes is of interest. -/
theorem Starting.fails (h : Starting c q l s) : Starting c False l s := ⟨h.powered, False.elim⟩

theorem Starting.of_fails (hq : ¬ q) (h : Starting c False l s) : Starting c q l s := ⟨h.powered, fun hq' => absurd hq' hq⟩

theorem Starting.lost {l' : Prop} {t : State} (h : Starting c False l s) (ht : t.powered = s.powered) :
    Starting c False l' t :=
  ⟨ht.trans h.powered, False.elim⟩

theorem Starting.locks {l' : Prop} (h : Starting c q l s) (hl : l' → l) : Starting c q l' s :=
  ⟨h.powered, fun hq => { h.steady hq with locked := fun hl' => (h.steady hq).locked (hl hl') }⟩

variable (h : Starting c q l s)
include h

/-- A change of the other parts of the state. -/
theorem Starting.frame {pending reply fresh tabs tblAddr snaps waits rot time tx abt slots recs ptp banks bankMem dram
    refill dramRun streams sites stile chans octets mons sensors comps handling orders
    confirm seq dCount dSecond dRaised buffer ops mse day flash green units siteWr
    extWr glean gate chest fmap upd reeve} :
    Starting c q l ⟨pending, reply, fresh, s.run, s.pins, s.fuses, s.env, s.regs, tabs, tblAddr, snaps, waits, rot,
      time, tx, abt, slots, recs, ptp, banks, bankMem, dram, refill, dramRun, streams, sites, stile,
      chans, octets, mons, sensors, comps,
      ⟨s.watch.raised, handling, orders, confirm, seq, dCount, dSecond, dRaised, buffer⟩, ops, mse, day, flash, green, units, siteWr, extWr,
      glean, gate, chest, fmap, upd, reeve⟩ :=
  ⟨h.powered, fun hq => { h.steady hq with }⟩

/-- A change of how far the start has come. -/
theorem Starting.withRun {r : Run} (hst : r.st = s.run.st) (hw : r.warm = s.run.warm) (hg : r.waiting = s.run.waiting) :
    Starting c q l { s with run := r } := by
  refine ⟨?_, fun hq => ?_⟩
  · rw [← h.powered, State.powered, State.powered, hw]
  · obtain ⟨st, goes, test, streams, cold, locked, mild⟩ := h.steady hq
    exact ⟨hst.trans st, hg.trans goes, test, streams, fun hcold => cold (hw ▸ hcold), locked, mild⟩

theorem Starting.withRegs {m : Store Word} (hm : ∀ k ∈ steadyKeys, m.get regDefault k = s.regs.get regDefault k) :
    Starting c q l { s with regs := m } := ⟨h.powered, fun hq => (h.steady hq).withRegs hm⟩

/-! ### How operations are put together -/

theorem Starting.ite {t : State} {b : Prop} [Decidable b] (ht : Starting c q l t) : Starting c q l (if b then s else t) := by
  split <;> assumption

theorem Starting.when {t : State} {b : Prop} [Decidable b] (ht : Starting c q l s → Starting c q l t) :
    Starting c q l (if b then t else s) := (ht h).ite h

theorem Starting.unless {t : State} {b : Prop} [Decidable b] (ht : Starting c q l s → Starting c q l t) :
    Starting c q l (if b then s else t) := h.ite (ht h)

theorem Starting.foldl {α : Type} {f : State → α → State} {xs : List α}
    (hf : ∀ {s a}, Starting c q l s → Starting c q l (f s a)) : Starting c q l (xs.foldl f s) :=
  List.foldlRecOn (motive := Starting c q l) xs f h fun _ ht _ _ => hf ht

omit h in
theorem Starting.foldlSnd {α β : Type} {x : β × State} {f : β × State → α → β × State} {xs : List α}
    (h : Starting c q l x.2) (hf : ∀ {x a}, Starting c q l x.2 → Starting c q l (f x a).2) : Starting c q l (xs.foldl f x).2 :=
  List.foldlRecOn (motive := fun x => Starting c q l x.2) xs f h fun _ hx _ _ => hf hx

omit h in
theorem Starting.of_eq {α : Type} {x : α × State} (h : Starting c q l x.2) {a : α} {t : State} (e : x = (a, t)) :
    Starting c q l t := by
  subst e
  exact h

/-! ### Registers, tables and units -/

theorem Starting.setReg {page off w} (hk : steadyKey (rkey page off) = false) : Starting c q l (s.setReg page off w) :=
  h.withRegs fun k hj => Store.get_put_ne (d := regDefault) w fun e : rkey page off = k => steadyKey_eq_false.1 hk (by rw [e]; exact hj)

theorem Starting.setFld {page off hi lo v} (hk : steadyKey (rkey page off) = false) :
    Starting c q l (s.setFld page off hi lo v) := h.setReg hk

theorem Starting.setBit {page off i b} (hk : steadyKey (rkey page off) = false) :
    Starting c q l (s.setBit page off i b) := h.setFld hk

theorem Starting.inc {page off n} (hk : steadyKey (rkey page off) = false) : Starting c q l (s.inc page off n) :=
  h.setReg hk

theorem Starting.setTab {page tsel idx w} : Starting c q l (s.setTab page tsel idx w) := h.frame
theorem Starting.setTabs {page tsel idx ws} : Starting c q l (s.setTabs page tsel idx ws) := h.frame
theorem Starting.setSite {n v} : Starting c q l (s.setSite n v) := h.frame
theorem Starting.setOct {n v} : Starting c q l (s.setOct n v) := h.frame
theorem Starting.setBank {n v} : Starting c q l (s.setBank n v) := h.frame
theorem Starting.setMon {m v} : Starting c q l (s.setMon m v) := h.frame
theorem Starting.setOp {t v} : Starting c q l (s.setOp t v) := h.frame
theorem Starting.setAcq {u v} : Starting c q l (s.setAcq u v) := h.frame
theorem Starting.takeFree : Starting c q l (s.takeFree).2 := h.frame
theorem Starting.captureEdge : Starting c q l (s.captureEdge).2 := h.takeFree
theorem Starting.toEdge {e} : Starting c q l (s.toEdge e) := h.when (·.frame)
theorem Starting.setUp {n b} : Starting c q l (s.setUp n b) := h.withRun rfl rfl rfl

theorem Starting.raise {r : Raised} (hr : q → r.mild) : Starting c q l (s.raise r) :=
  ⟨h.powered, fun hq =>
    { h.steady hq with
      mild := fun x hx => (List.mem_append.1 hx).elim ((h.steady hq).mild x)
        fun hx => List.mem_singleton.1 hx ▸ hr hq }⟩

theorem Starting.raiseN {page code detail} : Starting c q l (s.raiseN page code detail) := h.raise fun _ => ⟨rfl, rfl⟩

end

theorem regInfo_of_le {k : Kind} {off : Nat} (h : 256 ≤ off) : regInfo k off = none := by
  have hall : ∀ r ∈ regsOf k, r.off < 256 := by cases k <;> decide
  rw [regInfo, if_neg (by omega), if_neg (by omega), List.find?_eq_none]
  intro r hr
  have := hall r hr
  simp only [beq_iff_eq]
  omega

theorem journalMask_of_le {k : Kind} {off : Nat} (h : 256 ≤ off) : journalMask k off = 0 := by
  rw [journalMask, regInfo_of_le h]
  simp

/-- No word that the Daybook keeps is one that READY rests on (R405). -/
theorem journalMask_steady {page idx : Nat} {k : Kind} (hk : kindOf page = some k) (hkey : rkey page idx ∈ steadyKeys) :
    journalMask k idx = 0 := by
  by_cases hidx : 256 ≤ idx
  · exact journalMask_of_le hidx
  have hall : ∀ j ∈ steadyKeys, ((kindOf (j / 256)).elim 0 fun k => journalMask k (j % 256)) = 0 := by decide
  have h := hall _ hkey
  have hpage : rkey page idx / 256 = page := by unfold rkey; omega
  have hoff : rkey page idx % 256 = idx := by unfold rkey; omega
  rwa [hpage, hoff, hk] at h

section
variable {c s : State} {q l : Prop} (h : Starting c q l s)
include h

theorem Starting.setWide {page off n v} (hk : (List.range n).all (fun i => !steadyKey (rkey page (off + i))) = true) :
    Starting c q l (s.setWide page off n v) :=
  List.foldlRecOn (motive := Starting c q l) _ _ h fun _ ht i hi => ht.setReg (by simpa using List.all_eq_true.1 hk i hi)

/-- Class H or G, where something has failed. -/
theorem Starting.raiseH {page code detail} (hq : ¬ q) : Starting c q l (s.raiseH page code detail) :=
  h.raise fun hq' => absurd hq' hq

theorem Starting.monsToFault {ms} : Starting c q l (s.monsToFault ms) := h.foldl fun h => h.unless (·.setMon)

theorem Starting.gleanStop : Starting c q l s.gleanStop := by
  dsimp only [State.gleanStop]
  split
  exacts [(h.inc rfl).frame, h]

theorem Starting.railOff {o} : Starting c q l (s.railOff o) :=
  ((h.setBit (octpe_notSteady o _)).setOct).setBit (octpe_notSteady o _)

theorem Starting.fire {p t tag} : Starting c q l (s.fire p t tag) := h.frame.ite (h.frame.ite h.takeFree.frame)

theorem Starting.send {port b} : Starting c q l (s.send port b) := h.when fun h =>
  (h.inc (notSteady_of_off (by decide) (by decide))).frame

/-! ### Operation slots and acquisition units -/

theorem Starting.flipLanes : Starting c q l s.flipLanes := h.when (·.frame.ite h.frame)

theorem Starting.writePatch {ws} : Starting c q l (s.writePatch ws) := by
  have hkey : ∀ b ≤ 1, steadyKey (rkey pUCODE (UCODE_MEN0 + b)) = false ∧ steadyKey (rkey pUCODE (UCODE_PID0 + b)) = false := by
    decide
  obtain ⟨hmen, hpid⟩ := hkey (1 - s.mse.act) (Nat.sub_le _ _)
  exact (((h.setTabs.setTabs.setTabs.setReg hmen).setReg hpid).takeFree.inc rfl).frame.flipLanes

theorem Starting.flipBanks : Starting c q l s.flipBanks := h.flipLanes.when (fun h => (h.frame.setFld rfl).writePatch)

theorem Starting.releaseAdc {t} : Starting c q l (s.releaseAdc t) := h.setOp.when (·.setOct)

theorem Starting.endLimit {o lane} : Starting c q l (s.endLimit o lane) := h.setOct.setBit (octpe_notSteady o _)

theorem Starting.releasePmu {o lane} : Starting c q l (s.releasePmu o lane) :=
  (h.foldl (·.setTab)).setOct.unless (·.endLimit)

theorem Starting.releaseAll {t} : Starting c q l (s.releaseAll t) := (h.when (·.releasePmu)).when (·.releaseAdc)

theorem Starting.endOp {t status} : Starting c q l (s.endOp t status) :=
  h.when (fun h => (h.releaseAll.setTabs.setOp.frame.inc rfl).flipBanks)

theorem Starting.endOps {status f} : Starting c q l (s.endOps status f) := h.foldl fun h => h.when (·.endOp)

theorem Starting.acqRelease {u t} : Starting c q l (s.acqRelease u t) := h.when (·.setOct.setAcq)

theorem Starting.setAcqW {u i w} : Starting c q l (s.setAcqW u i w) := (h.setReg (acq_notSteady u _)).ite h.setTab

theorem Starting.setAcqSt {u v} : Starting c q l (s.setAcqSt u v) := h.setAcqW

/-! ### Banks and the record ring -/

theorem Starting.setupKeep : Starting c q l s.setupKeep := h.unless (·.setTabs.setTabs)

theorem Starting.setCell {b row j w} : Starting c q l (s.setCell b row j w) := by
  unfold State.setCell
  split
  exacts [h.setTab, h.frame]

theorem Starting.writeRegion {g p w} : Starting c q l (s.writeRegion g p w).2 := by
  dsimp only [State.writeRegion]
  split
  · exact h
  · split
    exacts [h, h.setCell]

theorem Starting.writeRegionRun {g p ws} : Starting c q l (s.writeRegionRun g p ws).2 := .foldlSnd h (·.writeRegion)

theorem Starting.ringAt {rs i r} : Starting c q l (s.ringAt rs i r) := by
  dsimp only [State.ringAt]
  split
  exacts [((h.writeRegionRun.of_eq ‹_›).inc rfl).frame, h.inc rfl]

theorem Starting.ringRecord {r} : Starting c q l (s.ringRecord r) := by
  dsimp only [State.ringRecord]
  refine .ite ?_ ?_
  · split
    exacts [h.ringAt, (h.inc rfl).ite (h.inc rfl)]
  · refine .ite ((h.inc rfl).ite (h.inc rfl)) ?_
    split
    · exact h.ringAt
    · split
      exacts [h.ringAt, (h.inc rfl).ite (h.inc rfl)]

theorem Starting.openKeep : Starting c q l s.openKeep := h.setupKeep.when (·.frame.foldl (·.ringRecord))

theorem Starting.faultRecord {cls ws} : Starting c q l (s.faultRecord cls ws) := by
  unfold State.faultRecord
  extract_lets bad t r
  replace h : Starting c q l t := h.when (·.setBit rfl)
  exact h.ringRecord.ite (h.frame.ite ((h.inc rfl).ite (h.inc rfl)))

theorem Starting.forceDone {f} : Starting c q l (s.forceDone f) := by
  dsimp only [State.forceDone]
  split
  exacts [h.setBit (notSteady_of_off (by decide) (by decide)), h]

theorem Starting.latchPage {r p} : Starting c q l (s.latchPage r p) :=
  (h.setReg (notSteady_of_off (by decide) (by decide))).ite (h.setBit (notSteady_of_off (by decide) (by decide)))

/-! ### The Daybook -/

theorem Starting.applyWord {page place idx w} : Starting c q l (s.applyWord page place idx w) := by
  dsimp only [State.applyWord]
  split
  · exact h
  next k hk =>
    refine .ite ?_ (h.when (·.setTab))
    by_cases hkey : rkey page idx ∈ steadyKeys
    · refine h.withRegs fun j hj => ?_
      rw [journalMask_steady hk hkey]
      by_cases he : rkey page idx = j
      · subst he
        rw [Store.get_put_self]
        have hall (w : Word) : w &&& 16777215#24 = w := BitVec.and_allOnes
        simp [State.reg, hall]
      · exact Store.get_put_ne (d := regDefault) _ he
    · exact h.setReg (steadyKey_eq_false.2 hkey)

theorem Starting.applyRec {r useOld} : Starting c q l (s.applyRec r useOld) := h.foldl (·.applyWord)

omit h in
theorem Starting.replayCells {t : State} {cs : List (Nat × Nat × Nat × Word)} (h : Starting c q l s)
    (e : s.replayCells cs = some t) : Starting c q l t := by
  induction cs generalizing s with
  | nil =>
    cases e
    exact h
  | cons c cs ih =>
    unfold State.replayCells at e
    split at e
    · cases e
    · exact ih h.applyWord e

theorem Starting.replayWrite {w} : Starting c q l (s.replayWrite w) := by
  unfold State.replayWrite
  split
  exacts [h.replayCells ‹_›, h.frame]

theorem Starting.dayClose : Starting c q l s.dayClose := by
  dsimp only [State.dayClose]
  split
  exacts [h, h.frame]

theorem Starting.dayCompact : Starting c q l s.dayCompact := h.dayClose.frame

theorem Starting.dayFail : Starting c q l s.dayFail := h.raiseN.frame

theorem Starting.dayProgram {ok} : Starting c q l (s.dayProgram ok) := by
  dsimp only [State.dayProgram]
  split
  exacts [h, (((h.when (·.setBit rfl)).frame.when (·.frame)).when (·.dayCompact)).ite h.dayFail]

theorem Starting.dayDrain {n} : Starting c q l (s.dayDrain n) := h.foldl fun h => h.when (·.dayProgram)

theorem Starting.dayPut {r} : Starting c q l (s.dayPut r) := (h.unless (·.dayDrain)).frame.when (·.dayClose)

theorem Starting.journal {s0 : State} {origin page place idxs} : Starting c q l (s.journal s0 origin page place idxs) :=
  h.when (·.foldl (·.dayPut))

theorem Starting.dayRollback : Starting c q l s.dayRollback := (h.foldl (·.applyRec)).frame.ite h

theorem Starting.dayUndoTest : Starting c q l s.dayUndoTest :=
  ((h.foldl (·.applyRec)).foldl (·.journal)).dayClose.dayDrain

theorem Starting.greenClear : Starting c q l s.greenClear :=
  (h.foldl fun h => h.takeFree.setTab.journal.ite h.takeFree.setTabs.journal).frame

/-! ### Calibration -/

theorem Starting.calFromImage {img o} : Starting c q l (s.calFromImage img o) := (h.setTabs.setTabs.setFld rfl).frame

theorem Starting.nextSeq : Starting c q l s.nextSeq := (h.setWide rfl).setBit rfl

theorem Starting.calCommit {s0 : State} {o source ws} : Starting c q l (s.calCommit s0 o source ws) :=
  h.setTab.journal.when (·.setTabs)

theorem Starting.calSet {o source f} : Starting c q l (s.calSet o source f) := by
  unfold State.calSet
  extract_lets ws
  clear_value ws
  exact h.ite (h.foldl (·.setTab)).calCommit

theorem Starting.setBad {n b} : Starting c q l (s.setBad n b) := h.frame

theorem Starting.setTarget {o w v} : Starting c q l (s.setTarget o w v) := h.setTab.frame

theorem Starting.measure {legg m} : Starting c q l (s.measure legg m) := by
  dsimp only [State.measure]
  refine .ite h ?_
  refine .ite ?_ ?_
  · split
    exacts [h.setTarget.foldl (·.setTarget), h.setTarget]
  · split
    exacts [h.setBad, h]

theorem Starting.fullResult {ms} : Starting c q l (s.fullResult ms) :=
  (((h.foldl fun h => h.unless (·.setBad)).foldl (·.measure)).nextSeq.foldl (·.calSet)).setFld rfl

theorem Starting.calMeasure {e os} : Starting c q l (s.calMeasure e os) := h.unless (·.frame.fullResult)

theorem Starting.calCold {e os imageOk} : Starting c q l (s.calCold e os imageOk) := by
  dsimp only [State.calCold]
  split
  exacts [(h.foldl (·.calFromImage)).calMeasure, h.calMeasure]

theorem Starting.calRecord {num r} : Starting c q l (s.calRecord num r) :=
  h.foldl fun h => (h.when (·.applyWord.when (·.setTab))).ite h.applyWord

theorem Starting.calInject : Starting c q l (s.calInject).2 := h.setBit rfl

theorem Starting.calLoad {e} : Starting c q l (s.calLoad e) :=
  h.calInject.calCold.when fun h =>
    ((h.foldl (·.calRecord)).foldl (·.calRecord)).foldl fun h => h.when (·.setTabs)

theorem Starting.calRetained {e} : Starting c q l (s.calRetained e) := h.calInject.unless (·.frame.calCold)

/-! ### Sites, links, flash -/

theorem Starting.setSiteSt {n v} : Starting c q l (s.setSiteSt n v) := h.setFld (site_notSteady n _)

theorem Starting.assign {n} : Starting c q l (s.assign n) := h.setSite.setSiteSt.monsToFault

theorem Starting.unassign {n} : Starting c q l (s.unassign n) := h.setSiteSt.setSite

theorem Starting.settle : Starting c q l s.settle := by
  dsimp only [State.settle]
  refine .monsToFault (.ite (.setFld ?_ rfl) (.when ?_ fun h => (h.when (·.raiseN)).setReg rfl))
  all_goals exact h.frame.foldl fun h => h.assign.ite (h.when (·.unassign))

theorem Starting.linkUp {p} (hp : steadyKey (rkey (pLINK p) LINK_STAT) = false) : Starting c q l (s.linkUp p) :=
  (h.setReg hp).send

theorem Starting.linkDown {p lfault rfault} (hp : steadyKey (rkey (pLINK p) LINK_STAT) = false) :
    Starting c q l (s.linkDown p lfault rfault) := (h.setReg hp).raiseN

theorem Starting.linkStep {e} : Starting c q l (s.linkStep e) :=
  (((h.linkUp rfl).ite (h.linkDown rfl)).linkUp rfl).ite (((h.linkUp rfl).ite (h.linkDown rfl)).linkDown rfl)

theorem Starting.loadSettings : Starting c q l s.loadSettings := by
  dsimp only [State.loadSettings]
  exact .setBit (by split; exacts [((h.setReg rfl).setReg rfl).setReg rfl, h]) rfl

theorem Starting.runFirmware : Starting c q l s.runFirmware := by
  dsimp only [State.runFirmware]
  split <;> exact (h.setReg rfl).frame

theorem Starting.chestRestore {good} : Starting c q l (s.chestRestore good) := by
  unfold State.chestRestore
  extract_lets img
  clear_value img
  split
  · exact .ite (h.frame.setBit rfl) h.frame
  · exact h.frame

theorem Starting.loadPatch {e} : Starting c q l (s.loadPatch e) := by
  dsimp only [State.loadPatch]
  split
  exacts [h, (((h.setTabs.setTabs.setTabs.setReg rfl).setReg rfl).setWide rfl).ite h.raiseN]

end

/-! ### The clock, the memory and the firmware -/

/-- External memory that trains (R142). -/
def trains (e : DramEnv) : Prop :=
  e.fitted0 = true ∧ e.fitted1 = true ∧ e.dens0 = e.dens1 ∧ 1 ≤ e.dens0 ∧ e.dens0 ≤ 5 ∧ e.ranks0 = e.ranks1 ∧
    1 ≤ e.ranks0 ∧ e.ranks0 ≤ 2 ∧ e.best0.isSome = true ∧ e.best1.isSome = true

/-- Surroundings in which nothing fails that a warm start meets. -/
def fairStart (e : StartEnv) : Prop :=
  e.pll = true ∧ e.romOk = true ∧ e.temps = [] ∧ e.warnAt = none ∧ trains e.dram

section
variable {c s : State} {q l : Prop} (h : Starting c q l s)
include h

theorem Starting.trainDram {e} (he : q → trains e) : Starting c q l (s.trainDram e) := by
  dsimp only [State.trainDram]
  split
  next a b h0 h1 =>
    split
    · exact (((((h.setReg rfl).setBit rfl).setFld rfl).setFld rfl).setBit rfl).setWide rfl
    next halike =>
      refine ((((h.setReg rfl).setBit rfl).setFld rfl).setWide rfl).raiseH fun hq => halike ?_
      obtain ⟨hfit0, hfit1, hdens, hd1, hd5, hranks, hr1, hr2, -, -⟩ := he hq
      simp [hfit0, hfit1, ← hdens, hd1, hd5, ← hranks, hr1, hr2]
  next hbest =>
    refine ((((h.setReg rfl).setBit rfl).setFld rfl).setWide rfl).raiseH fun hq => ?_
    obtain ⟨-, -, -, -, -, -, -, -, hb0, hb1⟩ := he hq
    obtain ⟨a, ha⟩ := Option.isSome_iff_exists.1 hb0
    obtain ⟨b, hb⟩ := Option.isSome_iff_exists.1 hb1
    exact hbest a b ha hb

/-- A write of TBASE_STAT leaves the PLL locked where bit 23 is written 1, or another bit while it is locked. -/
theorem Starting.setStat {l' : Prop} {i : Nat} {b : Bool} (hi : i < 24) (hl : l' → i = 23 ∧ b = true ∨ i ≠ 23 ∧ l) :
    Starting c q l' (s.setBit pTBASE TBASE_STAT i b) := by
  refine ⟨h.powered, fun hq => ?_⟩
  obtain ⟨st, goes, test, streams, cold, locked, mild⟩ := h.steady hq
  refine ⟨st, goes, ?_, fun k hk => ?_, fun hw => ⟨(cold hw).1, ?_⟩, fun hl' => ?_, mild⟩
  · rw [State.bitR_setBit_ne _ (by decide) (by decide) (by decide), test]
  · rw [← streams k hk, State.strSt, State.strSt, State.fldR, State.fldR,
      s.setBit_keepsRegs (p := pTBASE) (o := TBASE_STAT) (by decide) i b _ _ (by decide)
        (by simp only [pSTREAM, pTBASE, List.mem_singleton, Prod.mk.injEq]; omega)]
  · rw [State.bitR_setBit_ne _ (by decide) (by decide) (by decide), (cold hw).2]
  · obtain ⟨rfl, hb⟩ | ⟨hne, hl⟩ := hl hl'
    · exact (s.setBit_bit_self b (by decide)).trans hb
    · exact (s.bitR_setBit_other hi (Ne.symm hne)).trans (locked hl)

theorem Starting.compareTime : Starting c q l s.compareTime := by
  unfold State.compareTime
  split
  next hinj =>
    refine .of_fails (fun hq => ?_) (h.fails.lost (by rfl))
    rw [(h.steady hq).test] at hinj
    exact Bool.false_ne_true hinj.1
  next => exact h

theorem Starting.lock : Starting c q True s.lock :=
  have h1 := h.toEdge.frame.setStat (l' := True) (by decide) fun _ => .inl ⟨rfl, rfl⟩
  have h2 := h1.setStat (l' := True) (i := 22) (b := true) (by decide) fun _ => .inr ⟨by decide, trivial⟩
  (h2.setStat (i := 21) (b := false) (by decide) fun _ => .inr ⟨by decide, trivial⟩).compareTime

theorem Starting.clockStep {e : StartEnv} (he : q → e.pll = true ∧ trains e.dram) : Starting c q True (s.clockStep e) := by
  have hmem : Starting c q l (if s.run.warm then s.setBit pDRAM DRAM_STAT 18 true else s) := h.when (·.setBit rfl)
  dsimp only [State.clockStep]
  split
  next => exact hmem.lock.trainDram fun hq => (he hq).2
  next hpll => exact .of_fails (fun hq => hpll (he hq).1) (hmem.fails.lost (by rfl))

theorem Starting.bootFirmware {e : StartEnv} (he : q → e.fwOk = true ∨ e.fwOtherOk = true) :
    Starting c q l (s.bootFirmware e) := by
  dsimp only [State.bootFirmware]
  split
  next => exact (h.unless fun h => .raiseN h.frame).runFirmware
  next hfw => exact (h.setReg rfl).raiseH fun hq => hfw (he hq)

theorem Starting.romCheck {e : StartEnv} (he : q → e.romOk = true) : Starting c q l (s.romCheck e) := by
  dsimp only [State.romCheck]
  split
  next => exact .frame (h.setReg rfl)
  next hrom => exact .raiseH (.frame (h.setReg rfl)) fun hq => hrom (he hq)

theorem Starting.firmwareStep {e : StartEnv} (hfw : q → e.fwOk = true ∨ e.fwOtherOk = true) (hrom : q → e.romOk = true) :
    Starting c q l (s.firmwareStep e) :=
  (h.bootFirmware hfw).ite (((h.bootFirmware hfw).romCheck hrom).loadPatch.when (·.loadSettings)).chestRestore

theorem Starting.romStep {e : StartEnv} (he : q → e.romOk = true) : Starting c q l (s.romStep e) :=
  (h.romCheck he).takeFree.frame

omit h in
theorem Starting.env (h : Starting c q l s) : s.env = c.env := congrArg Prod.fst h.powered

theorem Starting.replay (he : q → ∀ e, c.env = some e → trains e.dram) : Starting c q l s.replay := by
  have htrains {t : State} (ht : Starting c q l t) {e : StartEnv} (hte : t.env = some e) : Starting c q l (t.trainDram e.dram) :=
    ht.trainDram fun hq => he hq e (ht.env ▸ hte)
  unfold State.replay
  split
  · exact h.withRun rfl rfl rfl
  next base size _ =>
    extract_lets s1
    split
    extract_lets s2 ws s3 last ab day d run s4 s5 s6
    have h3 : Starting c q l s3 := (((h.setWide rfl).setWide rfl).foldl (·.applyRec)).foldl (·.replayWrite)
    have h4 : Starting c q l s4 := (h3.withRun (r := { s3.run with replayed := true }) rfl rfl rfl).frame
    have h6 : Starting c q l s6 := (h4.when (·.raiseN)).when (·.raiseN)
    split
    · split
      exacts [htrains h6 ‹_›, h6]
    · exact h6

end

/-! ### Where a fault of class H or G, or of a unit, is met -/

section
variable {c s : State} {l : Prop} (h : Starting c False l s)
include h

omit h in
theorem Starting.iteSnd {α : Type} {x y : α × State} {b : Prop} [Decidable b] (hx : Starting c False l x.2)
    (hy : Starting c False l y.2) : Starting c False l (if b then x else y).2 := by
  split <;> assumption

theorem Starting.failFld {page off hi lo v} : Starting c False l (s.setFld page off hi lo v) := h.lost (by rfl)
theorem Starting.failBit {page off i b} : Starting c False l (s.setBit page off i b) := h.lost (by rfl)
theorem Starting.failRaise {r} : Starting c False l (s.raise r) := h.lost (by rfl)
theorem Starting.setStream {k v} : Starting c False l (s.setStream k v) := h.lost (by rfl)
theorem Starting.setSensor {k v} : Starting c False l (s.setSensor k v) := h.lost (by rfl)
theorem Starting.failRun {r : Run} (hr : r.warm = s.run.warm) : Starting c False l { s with run := r } :=
  h.lost (by rw [State.powered, State.powered, hr])
theorem Starting.failWatch {w : Watch} : Starting c False l { s with watch := w } := h.lost (by rfl)
theorem Starting.clearTest : Starting c False l s.clearTest := h.lost (by rfl)
theorem Starting.closeLocks : Starting c False l s.closeLocks := h.lost (by rfl)

theorem Starting.safeState : Starting c False l s.safeState :=
  (Starting.gleanStop (.foldl (h.lost (t := { s with run := _, chans := _ }) (by rfl)) (·.failFld.setOct))).foldl (·.railOff.setOct)

theorem Starting.unitGap {u g} : Starting c False l (s.unitGap u g) :=
  (h.setAcq.when fun h => h.failBit.ite (h.failBit.ite (h.failBit.ite (h.failBit.ite (h.when (·.failBit)))))).when (·.raiseN)

theorem Starting.bankGap {u tag} : Starting c False l (s.bankGap u tag) := h.unitGap

theorem Starting.ringPut {r unit ws} : Starting c False l (s.ringPut r unit ws) :=
  (((h.foldl (·.writeRegion)).setAcq.ite (h.foldl (·.writeRegion)).frame).inc rfl).frame

theorem Starting.settleHold {u t} : Starting c False l (s.settleHold u t) := h.when (·.setAcq.unitGap)

theorem Starting.endWindow {u tc code next} : Starting c False l (s.endWindow u tc code next) :=
  .setAcqSt <| .setAcqW <| .setAcq <| .unless (.ite h.settleHold.unitGap <| .ite h.settleHold.bankGap <|
    h.settleHold.ringPut) (·.acqRelease)

theorem Starting.abortUnit {u} : Starting c False l (s.abortUnit u) := h.endWindow.ite (h.unless (·.acqRelease.setAcqSt))

theorem Starting.closeBlock {u} : Starting c False l (s.closeBlock u).2 := by
  dsimp only [State.closeBlock]
  split
  exacts [h, .iteSnd h.setAcq.unitGap (.iteSnd h.setAcq.bankGap h.setAcq.ringPut)]

theorem Starting.closeWindow {u tc code next} : Starting c False l (s.closeWindow u tc code next) := by
  dsimp only [State.closeWindow]
  split
  exacts [(h.closeBlock.of_eq ‹_›).endWindow, (h.closeBlock.of_eq ‹_›).abortUnit]

theorem Starting.endUnit {u t code} : Starting c False l (s.endUnit u t code) :=
  h.unless (·.closeWindow.ite h.acqRelease.setAcqSt)

theorem Starting.voidSeg {n} : Starting c False l (s.voidSeg n) := by
  dsimp only [State.voidSeg]
  split
  exacts [h, h.setSite.failBit.foldl fun h => h.when (·.setAcq)]

theorem Starting.closeTrigger {u t code} : Starting c False l (s.closeTrigger u t code) := by
  refine h.when fun h => h.setAcq.when fun h => ?_
  dsimp only [State.setClose]
  refine .ite ?_ h
  split
  exacts [h.when (·.setAcq), h.setAcq]

theorem Starting.closeSeg {n t jumped} : Starting c False l (s.closeSeg n t jumped) := by
  dsimp only [State.closeSeg]
  split
  exacts [h, h.setSite.foldl fun h => h.when (·.closeTrigger)]

theorem Starting.endGap {n} : Starting c False l (s.endGap n) := h.unless fun h => h.lost (by rfl)

theorem Starting.toStopped {k} : Starting c False l (s.toStopped k) :=
  (h.foldl (·.setSiteSt.monsToFault.failFld)).failFld.setStream.foldl fun h => h.when (·.setSiteSt)

theorem Starting.stopForClassH {k} : Starting c False l (s.stopForClassH k) :=
  ((h.unless (·.foldl (·.voidSeg.endGap.closeSeg))).when (·.when (·.setStream.failFld.failFld.fire))).failFld.toStopped.ite h

theorem Starting.stopAllWork : Starting c False l s.stopAllWork :=
  ((h.captureEdge.foldl (·.stopForClassH)).endOps.safeState.foldl (·.endUnit)).frame.failBit

theorem Starting.setRun {st} : Starting c False l (s.setRun st) :=
  h.ite (((h.when (·.clearTest)).when (·.closeLocks)).lost (by rfl))

theorem Starting.die : Starting c False l s.die := (h.stopAllWork.lost (by rfl)).unless (·.setRun)

theorem Starting.halt : Starting c False l s.halt := h.stopAllWork.ite (h.stopAllWork.when (·.lost (by rfl))).setRun

theorem Starting.latchClass {k} : Starting c False l (s.latchClass k) := h.failBit.ite h.failBit

theorem Starting.unitAct {r} : Starting c False l (s.unitAct r) := by
  dsimp only [State.unitAct]
  split
  exacts [h.frame.ite h.failBit, (h.frame.endOps).flipBanks, h]

theorem Starting.classAct {k} : Starting c False l (s.classAct k) := by
  dsimp only [State.classAct]
  split
  exacts [h.halt, h.die, h]

theorem Starting.mergeFault {f r} : Starting c False l (s.mergeFault f r).2 := by
  have hpages : Starting c False l (f.pages.foldl (fun (s : State) p => s.setBit p PG_FLT 19 true)
      ((s.setBit pWATCH WATCH_STAT 15 true).forceDone r.fbit)) :=
    h.failBit.forceDone.foldl (·.failBit)
  exact .iteSnd ((hpages.foldl (·.failFld)).latchClass.classAct.when (·.setTabs)) hpages

theorem Starting.mergeWaiting {f} : Starting c False l (s.mergeWaiting f) :=
  .foldlSnd h.failWatch (·.mergeFault)

theorem Starting.latchFault_fails : Starting c False l s.latchFault := by
  dsimp only [State.latchFault]
  split
  · exact h
  split
  · exact h.failWatch.mergeFault.failWatch
  · refine .when (.failWatch (.forceDone (.faultRecord (.when ?_ (·.setTabs))))) (·.mergeWaiting)
    split
    on_goal 1 => refine .fire ?_
    on_goal 2 => refine .when (.failWatch (.unitAct (.fire ?_))) (·.failRaise)
    on_goal 3 => refine .halt (.fire ?_)
    on_goal 4 => refine .die ?_
    all_goals exact h.failWatch.captureEdge.latchClass.foldl (·.latchPage)

theorem Starting.sensorBad {k f} : Starting c False l (s.sensorBad k f) := h.setSensor.failRaise.when (·.failRaise)

theorem Starting.throttle {f} : Starting c False l (s.throttle f) := h.failBit.fire.failRaise

theorem Starting.compensate : Starting c False l s.compensate := by
  dsimp only [State.compensate]
  exact h.foldl fun h => by split; exacts [h.frame, h]

theorem Starting.readSensors {temps bad} : Starting c False l (s.readSensors temps bad) := by
  dsimp only [State.readSensors]
  refine .compensate (.when (.when (.ite ?_ (.when ?_ (·.throttle))) (·.failRaise)) (·.failRaise))
  on_goal 1 => split
  on_goal 1 => refine .when ?_ (·.failBit)
  all_goals exact ((((h.when (·.failBit)).foldl (·.setSensor)).foldl fun h => h.when (·.sensorBad)).foldl
    (·.sensorBad)).failBit.when (·.raiseN)

end

/-! ### Faults that are latched after a step (R362, R395) -/

section
variable {c s : State} {q l : Prop} (h : Starting c q l s)
include h

theorem Starting.setWatchStat {i : Nat} {b : Bool} (hi : i < 24) (hne : i ≠ 22) :
    Starting c q l (s.setBit pWATCH WATCH_STAT i b) := by
  refine ⟨h.powered, fun hq => ?_⟩
  obtain ⟨st, goes, test, streams, cold, locked, mild⟩ := h.steady hq
  refine ⟨st, goes, ?_, fun k hk => ?_, fun hw => ⟨(cold hw).1, ?_⟩, fun hl => ?_, mild⟩
  · rw [State.bitR_setBit_ne _ (by decide) (by decide) (by decide), test]
  · rw [← streams k hk, State.strSt, State.strSt, State.fldR, State.fldR,
      s.setBit_keepsRegs (p := pWATCH) (o := WATCH_STAT) (by decide) i b _ _ (by decide)
        (by simp only [pSTREAM, pWATCH, List.mem_singleton, Prod.mk.injEq]; omega)]
  · exact (s.bitR_setBit_other hi (Ne.symm hne)).trans (cold hw).2
  · rw [State.locked, State.bitR_setBit_ne _ (by decide) (by decide) (by decide), ← State.locked, locked hl]

/-- A fault of class N stops nothing (R363). -/
theorem Starting.latchClassN : Starting c q l (s.latchClass .n) :=
  (h.setWatchStat (by decide) (by decide)).ite (h.setWatchStat (by decide) (by decide))

theorem Starting.latchFault : Starting c q l s.latchFault := by
  by_cases hq : q
  · have hmild := (h.steady hq).mild
    unfold State.latchFault
    split
    · exact h
    next r rest hr =>
      obtain ⟨hcls, hunit⟩ := hmild r (by rw [hr]; exact List.mem_cons_self)
      extract_lets w s1 r1
      have h1 : Starting c q l s1 := ⟨h.powered, fun hq =>
        { h.steady hq with mild := fun x hx => hmild x (by rw [hr]; exact List.mem_cons_of_mem r hx) }⟩
      have hunit1 : r1.unit = .none := by simp only [r1, hunit, State.faultUnit]
      have hcls1 : r1.cls = .n := by simp [r1, hcls]
      clear_value s1 r1
      split
      next h' hfind =>
        have := List.find?_some hfind
        simp [hunit1] at this
      next =>
        simp only [hcls1, reduceCtorEq, or_self, if_false]
        exact .frame (.forceDone (.faultRecord
          (.when (.fire (.foldl (.latchClassN h1.captureEdge) (·.latchPage))) (·.setTabs))))
  · exact .of_fails hq h.fails.latchFault_fails

theorem Starting.latchAll {n : Nat} : Starting c q l (State.latchAll n s) := by
  induction n generalizing s with
  | zero => exact h
  | succ n ih => exact h.unless fun h => ih h.latchFault

/-! ### The steps of a start (Tables 15.1 and 15.2) -/

theorem Starting.bist {e : StartEnv} (he : q → e.badBanks = []) : Starting c q l (s.bist e) := by
  unfold State.bist
  extract_lets s1 dead s2 s3
  have h1 : Starting c q l s1 := h.frame
  have h2 : Starting c q l s2 := h1.foldl fun h => h.ite (h.setBank.ite h.setBank)
  have h3 : Starting c q l s3 := by
    by_cases hq : q
    · have hdead : dead = [] := by
        have hspares (b : Nat) : s1.fusedSpares b ≤ 4 := by
          unfold State.fusedSpares
          split
          exacts [Nat.min_le_left _ _, by decide]
        have hcolumns (b : Nat) : badColumns e b = 0 := by simp [badColumns, he hq]
        simp only [dead, List.filter_eq_nil_iff, hcolumns]
        intro b _
        simpa using hspares b
      rw [show s3 = s2 by simp only [s3, hdead, List.foldl_nil]]
      exact h2
    · exact .of_fails hq (h2.fails.foldl fun h => h.failRaise.ite h.failRaise)
  exact h3.latchAll.openKeep

theorem Starting.readings {temps : List (List Int)} (he : q → temps = []) :
    Starting c q l (temps.foldl (fun (s : State) t => s.readSensors t []) s) := by
  by_cases hq : q
  · rw [he hq]
    exact h
  · exact .of_fails hq (h.fails.foldl (·.readSensors))

/-- What a cold start meets where nothing fails. -/
def fairCold (c : State) (e : StartEnv) : Prop :=
  fairStart e ∧ (e.fwOk = true ∨ e.fwOtherOk = true) ∧ e.badBanks = [] ∧ c.fuses.ok = true

theorem Starting.replayStep {e : StartEnv} (he : q → ∀ e, c.env = some e → trains e.dram) :
    Starting c q l (if e.flashOk then s.replay else { s with run := { s.run with replayed := true } }).settle :=
  .settle (.ite (h.replay he) (h.withRun rfl rfl rfl))

omit h in
theorem Starting.fuses (h : Starting c q l s) : s.fuses = c.fuses := congrArg (·.2.1) h.powered

theorem Starting.notStep4 {n : Nat} (hn : n ≠ 4) : Starting c q (n = 4 ∨ l) s := h.locks fun hl => hl.resolve_left hn

theorem Starting.coldWork {e : StartEnv} {n : Nat} (he : c.env = some e) (hf : q → fairCold c e) :
    Starting c q (n = 4 ∨ l) (s.coldWork e n) := by
  dsimp only [State.coldWork]
  split
  · refine .notStep4 ?_ (by decide)
    split
    next => exact h
    next hok =>
      refine h.raise fun hq => absurd ?_ hok
      rw [h.fuses]
      exact (hf hq).2.2.2
  · exact (h.bist fun hq => (hf hq).2.2.1).notStep4 (by decide)
  · exact (h.clockStep fun hq => ⟨(hf hq).1.1, (hf hq).1.2.2.2.2⟩).locks fun _ => trivial
  · exact (h.readings fun hq => (hf hq).1.2.2.1).notStep4 (by decide)
  · exact (h.firmwareStep (fun hq => (hf hq).2.1) fun hq => (hf hq).1.2.1).notStep4 (by decide)
  · refine (h.replayStep fun hq e' he' => ?_).notStep4 (by decide)
    cases he.symm.trans he'
    exact (hf hq).1.2.2.2.2
  · exact h.calLoad.notStep4 (by decide)
  · exact h.linkStep.notStep4 (by decide)
  · exact h.notStep4 (by assumption)

theorem Starting.rollStep {e : StartEnv} {undo : Bool} (he : q → ∀ e, c.env = some e → trains e.dram) :
    Starting c q l (s.rollStep e undo) :=
  (h.dayRollback.when (·.dayUndoTest)).greenClear.settle.ite (h.replayStep he)

theorem Starting.warmWork {e : StartEnv} {undo replayed : Bool} {n : Nat} (he : c.env = some e) (hf : q → fairStart e) :
    Starting c q (n = 4 ∨ l) (s.warmWork e undo replayed n) := by
  dsimp only [State.warmWork]
  split
  · exact (h.clockStep fun hq => ⟨(hf hq).1, (hf hq).2.2.2.2⟩).locks fun _ => trivial
  · exact (h.readings fun hq => (hf hq).2.2.1).notStep4 (by decide)
  · exact (h.romStep fun hq => (hf hq).2.1).notStep4 (by decide)
  · refine (h.rollStep fun hq e' he' => ?_).notStep4 (by decide)
    cases he.symm.trans he'
    exact (hf hq).2.2.2.2
  · exact (h.calRetained.ite h.calLoad).notStep4 (by decide)
  · exact h.notStep4 (by assumption)

end

/-- What a key of a filtered store reads as. -/
theorem Store.get_keep {α : Type} {d : Nat → α} (p : Nat → Bool) (m : Store α) (k : Nat) :
    Store.get d (Store.keep p m) k = if p k then Store.get d m k else d k := by
  induction m with
  | nil => simp [Store.keep]
  | cons e m ih =>
    obtain ⟨j, v⟩ := e
    rw [Store.keep] at ih ⊢
    rw [List.filter_cons, Store.get_cons]
    by_cases hj : j = k
    · subst hj
      cases hp : p j <;> simp [hp, Store.get_cons, ih]
    · rw [if_neg hj]
      split
      · rw [Store.get_cons, if_neg hj, ih]
      · exact ih

/-! ### The run of a start -/

/-- The state at the end of a start in which nothing failed. -/
def State.isReady (t : State) : Prop :=
  t.run.st = .ready ∧ t.locked = true ∧ t.run.safe = false ∧ (∀ k < 4, t.strSt k = sIDLE) ∧
    t.bitR pWATCH WATCH_STAT 22 = false

section
variable {c s : State} {q l : Prop}

theorem Starting.runSteps {work : State → Nat → State} {warnAt : Option Nat} {ns : List Nat}
    (hw : ∀ {s l n}, Starting c q l s → Starting c q (n = 4 ∨ l) (work s n)) (hst : q → c.run.st = .start)
    (hwarn : q → warnAt = none) (hone : q → 1 ∈ ns → c.run.warm = false) (h : Starting c q l s) :
    Starting c q (4 ∈ ns ∨ l) (State.runSteps work warnAt ns s) := by
  induction ns generalizing s l with
  | nil => exact h.locks fun hl => hl.resolve_left (List.not_mem_nil)
  | cons n ns ih =>
    unfold State.runSteps
    extract_lets s1 run s2 s3
    have h1 : Starting c q l s1 := h.unless (·.setUp)
    have h2 : Starting c q (n = 4 ∨ l) s2 := (hw (h1.withRun (r := { s1.run with step := n }) rfl rfl rfl)).latchAll
    have h3 : Starting c q (n = 4 ∨ l) s3 := h2.setUp
    split
    next hne => exact .of_fails (fun hq => hne ((h2.steady hq).st.trans (hst hq))) (h2.fails.lost (by rfl))
    next =>
      split
      next hdie =>
        obtain ⟨rfl, hlatch⟩ := hdie
        refine .of_fails (fun hq => ?_) (h3.fails.die.lost (by rfl))
        have hwarm : s3.run.warm = c.run.warm := congrArg (·.2.2.2.2) h3.powered
        have := ((h3.steady hq).cold (hwarm.trans (hone hq List.mem_cons_self))).1
        simp [this] at hlatch
      next =>
        split
        next hn => exact .of_fails (fun hq => by simp [hwarn hq] at hn) (h3.fails.lost (by rfl))
        next =>
          refine (ih (fun hq hmem => hone hq (List.mem_cons_of_mem n hmem)) h3).locks ?_
          rintro (hmem | hl)
          · exact (List.mem_cons.1 hmem).elim (fun hn => .inr (.inl hn.symm)) .inl
          · exact .inr (.inr hl)

theorem State.setRun_st (s : State) (st : RunState) : (s.setRun st).run.st = st := by
  unfold State.setRun
  split
  next h => exact h
  next => rfl

/-- A change of the run state that closes no lock and ends no test (Table 3.3). -/
theorem State.setRun_with {s : State} {st : RunState} (hne : s.run.st ≠ st) (htest : s.run.st ≠ .test) (hrun : st ≠ .run) :
    s.setRun st = { s with run := { s.run with st := st, prev := s.run.st } } := by
  rw [State.setRun, if_neg hne]
  simp only [if_neg htest, if_neg hrun]

/-- A start that stays in START waits for PWRWARN_N (R54). -/
theorem State.startDone_waits (s : State) (h : s.startDone.run.st = .start) : s.startDone.run.waiting = true := by
  unfold State.startDone at h ⊢
  split at h
  next =>
    rw [State.setRun_st] at h
    exact absurd h (by decide)
  next hgo =>
    rw [if_neg hgo]
    simpa [h] using hgo

theorem Starting.clearH (h : Starting c False l s) : Starting c False l s.clearH := h.lost (by rfl)

theorem Starting.startDone (h : Starting c False l s) : Starting c False l s.startDone := by
  unfold State.startDone
  refine .ite ?_ h
  extract_lets s1
  have h1 : Starting c False l s1 := h.when (·.clearH)
  exact .setRun (h1.failRun (by rfl))

theorem State.clearH_get (s : State) {k : Nat} (hk : k % 256 ≠ PG_FLT) :
    s.clearH.regs.get regDefault k = (s.setBit pWATCH WATCH_STAT 22 false).regs.get regDefault k := by
  have hkeep := Store.get_keep (d := regDefault) (fun k => !(k % 256 == PG_FLT && fld (((s.setBit pWATCH WATCH_STAT 22
    false).setTabs pWATCH 0 12 [0, 0, 0, 0, 0, 0]).regs.get regDefault k) 23 21 == 3))
    ((s.setBit pWATCH WATCH_STAT 22 false).setTabs pWATCH 0 12 [0, 0, 0, 0, 0, 0]).regs k
  rw [if_pos (by simp [hk])] at hkeep
  exact hkeep

theorem State.clearH_clears (s : State) : s.clearH.bitR pWATCH WATCH_STAT 22 = false :=
  (congrArg (bit · 22) (s.clearH_get (k := rkey pWATCH WATCH_STAT) (by decide))).trans (s.setBit_bit_self false (by decide))

theorem State.clearH_steady (s : State) {k : Nat} (hk : k ∈ steadyKeys) (hne : k ≠ rkey pWATCH WATCH_STAT) :
    s.clearH.regs.get regDefault k = s.regs.get regDefault k := by
  have hall : ∀ k ∈ steadyKeys, k % 256 ≠ PG_FLT := by decide
  exact (s.clearH_get (hall k hk)).trans (Store.get_put_ne (d := regDefault) _ (Ne.symm hne))

/-- The last step of a start in which nothing failed enters READY (Table 3.3, R367). -/
theorem Steady.startDone (h : Steady c True s) (hst : c.run.st = .start) (hstreams : ∀ k < 4, c.strSt k = sIDLE) :
    s.startDone.isReady := by
  obtain ⟨st, goes, -, streams, cold, locked, -⟩ := h
  have hs : s.run.st = .start := st.trans hst
  have hgo : s.run.st = .start ∧ (!s.run.waiting) = true := ⟨hs, by rw [goes]; rfl⟩
  unfold State.startDone
  rw [if_pos hgo]
  extract_lets s1 run
  have hstr : ∀ k < 4, s1.strSt k = sIDLE := by
    intro k hk
    rw [← hstreams k hk, ← streams k hk]
    simp only [s1]
    split
    · exact congrArg (fld · 23 21) (s.clearH_steady (streamStat_mem_steadyKeys hk)
        (by simp only [rkey, pSTREAM, STREAM_STAT, pWATCH, WATCH_STAT]; omega))
    · rfl
  have hlock : s1.locked = true := by
    rw [← locked trivial]
    simp only [s1]
    split
    · exact congrArg (bit · 23) (s.clearH_steady (by decide) (by decide))
    · rfl
  have hclass : s1.bitR pWATCH WATCH_STAT 22 = false := by
    simp only [s1]
    split
    next => exact s.clearH_clears
    next hw => exact (cold (by simpa using hw)).2
  have hrun : s1.run.st = .start := by
    simp only [s1]
    split
    exacts [hs, hs]
  clear_value s1
  rw [State.setRun_with (by rw [hrun]; decide) (by rw [hrun]; decide) (by decide)]
  exact ⟨rfl, hlock, rfl, hstr, hclass⟩

end

/-! ### The cold start -/

section
variable {s : State} {e : StartEnv}

/-- A start enters START from a state in which nothing has failed. -/
theorem Starting.enters {c : State} {q l : Prop} (h : Starting c q l s) (hcold : q → c.run.st = .cold) :
    Starting (s.setRun .start) q l (s.setRun .start) := by
  refine ⟨rfl, fun hq => ?_⟩
  obtain ⟨st, goes, test, streams, cold, locked, mild⟩ := h.steady hq
  have hst : s.run.st = .cold := st.trans (hcold hq)
  rw [State.setRun_with (by rw [hst]; decide) (by rw [hst]; decide) (by decide)]
  exact ⟨rfl, goes, test, fun _ _ => rfl, cold, locked, mild⟩

theorem Starting.enters_strSt {c : State} {q l : Prop} (h : Starting c q l s) (hq : q) (hcold : q → c.run.st = .cold) :
    ∀ k < 4, (s.setRun .start).strSt k = c.strSt k := by
  obtain ⟨st, -, -, streams, -, -, -⟩ := h.steady hq
  have hst : s.run.st = .cold := st.trans (hcold hq)
  rw [State.setRun_with (by rw [hst]; decide) (by rw [hst]; decide) (by decide)]
  exact streams

theorem State.powered_iff {env : Option StartEnv} {fuses : Fuses} {strap : Nat} {porstN warm : Bool} :
    s.powered = (env, fuses, strap, porstN, warm) ↔
      s.env = env ∧ s.fuses = fuses ∧ s.pins.strap = strap ∧ s.pins.porstN = porstN ∧ s.run.warm = warm := by
  simp only [State.powered, Prod.mk.injEq]

/-- What a start leaves, where it says what it does not change and that it is READY where nothing failed. -/
def State.Begun (s : State) (e : StartEnv) (warm : Bool) (q : Prop) (t : State) : Prop :=
  t.powered = (some e, s.fuses, s.pins.strap, s.pins.porstN, warm) ∧ (t.run.st = .start → t.run.waiting = true) ∧
    (q → t.isReady)

theorem State.coldReset_starting {q : Prop} (hlatch : q → s.pins.gLatch = false) :
    Starting { s.coldReset with env := some e } q False { s.coldReset with env := some e } := by
  refine ⟨rfl, fun hq => ⟨rfl, rfl, ?_, fun _ _ => rfl, fun _ => ⟨hlatch hq, ?_⟩, False.elim, ?_⟩⟩
  · exact (by decide : bit (regDefault (rkey pTBASE PG_INJ)) 0 = false)
  · exact (by decide : bit (regDefault (rkey pWATCH WATCH_STAT)) 22 = false)
  · exact fun r hr => absurd hr List.not_mem_nil

theorem State.coldReset_strSt {k : Nat} (hk : k < 4) : ({ s.coldReset with env := some e } : State).strSt k = sIDLE := by
  have hall : ∀ k < 4, fld (regDefault (rkey (pSTREAM k) STREAM_STAT)) 23 21 = sIDLE := by decide
  exact hall k hk

/-- The chip number and the addresses that a cold start takes from the straps (R80, R84, R90). -/
def State.strapped (s : State) (id : Nat) : State :=
  (List.range 2).foldl (fun (s : State) p =>
    (s.setReg (pLINK p) LINK_MAC0 (word (1024 * p + id))).setReg (pLINK p) LINK_IP0
      (word (at_ 16 254 + at_ 8 (1 + 4 * p + id / 256) + id % 256))) (s.setFld pTOP TOP_CHIPNO 9 0 id)

/-- The state in which a cold start enters its first step. -/
def State.coldEntry (s : State) (e : StartEnv) : State :=
  (({ s.coldReset with env := some e } : State).strapped (s.coldReset.pins.strap % 1024)).settle.setRun .start

/-- The steps of a cold start (Table 15.1). -/
def State.coldRun (s : State) (e : StartEnv) : State :=
  (s.setBit pTBASE TBASE_STAT 22 e.ref).runSteps (fun s n => s.coldWork e n) e.warnAt [1, 2, 3, 4, 5, 6, 7, 8, 9]

/-- Step 9 of a cold start that has no firmware (R395). -/
def State.coldLinks (s : State) (e : StartEnv) : State :=
  if s.run.st = .halted ∧ s.romOnly then (({ s with run := { s.run with step := 9 } }.linkStep e).setUp 9 true).latchAll 1000
  else s

theorem State.coldStart_eq (s : State) (e : StartEnv) : s.coldStart e = (((s.coldEntry e).coldRun e).coldLinks e).startDone := by
  dsimp only [State.coldStart, State.coldEntry, State.strapped, State.coldRun, State.coldLinks]

theorem Starting.strapped {c : State} {q l : Prop} {id : Nat} (h : Starting c q l s) : Starting c q l (s.strapped id) := by
  have hlink : ∀ p < 2, steadyKey (rkey (pLINK p) LINK_MAC0) = false ∧ steadyKey (rkey (pLINK p) LINK_IP0) = false := by decide
  exact List.foldlRecOn (motive := Starting c q l) _ _ (h.setFld rfl) fun t ht p hp =>
    (ht.setReg (hlink p (List.mem_range.1 hp)).1).setReg (hlink p (List.mem_range.1 hp)).2

theorem State.coldEntry_spec {q : Prop} (hlatch : q → s.pins.gLatch = false) :
    Starting (s.coldEntry e) q False (s.coldEntry e) ∧ (s.coldEntry e).run.st = .start ∧
      (s.coldEntry e).powered = (some e, s.fuses, s.pins.strap, s.pins.porstN, false) ∧
      (q → ∀ k < 4, (s.coldEntry e).strSt k = sIDLE) := by
  have h0 := State.coldReset_starting (s := s) (e := e) hlatch
  have hset := (h0.strapped (id := s.coldReset.pins.strap % 1024)).settle
  unfold State.coldEntry
  generalize State.settle _ = v at *
  exact ⟨hset.enters fun _ => rfl, State.setRun_st _ _, hset.fails.setRun.powered, fun h k hk =>
    (hset.enters_strSt h (fun _ => rfl) k hk).trans (State.coldReset_strSt hk)⟩

theorem Starting.coldRun {c : State} {q l : Prop} (h : Starting c q l s) (hst : c.run.st = .start) (henv : c.env = some e)
    (hwarm : c.run.warm = false) (hf : q → fairCold c e) : Starting c q True (s.coldRun e) := by
  have href := h.setStat (l' := False) (i := 22) (b := e.ref) (by decide) False.elim
  exact (href.runSteps (fun h => h.coldWork henv hf) (fun _ => hst) (fun h => (hf h).1.2.2.2.1) fun _ _ => hwarm).locks
    fun _ => .inl (by decide)

theorem Starting.coldLinks {c : State} {q l : Prop} (h : Starting c q l s) (hst : c.run.st = .start) :
    Starting c q l (s.coldLinks e) := by
  unfold State.coldLinks
  split
  next hhalt =>
    refine .of_fails (fun hq => ?_) (h.fails.failRun (by rfl)).linkStep.setUp.latchAll
    simp [(h.steady hq).st.trans hst] at hhalt
  next => exact h

/-- What a start leaves where its steps have led from a state `c` in START. -/
theorem Starting.begun {c : State} {q : Prop} {warm : Bool} (h : Starting c q True s) (hst : q → c.run.st = .start) {u : State}
    (hpow : c.powered = (some e, u.fuses, u.pins.strap, u.pins.porstN, warm)) (hstr : q → ∀ k < 4, c.strSt k = sIDLE) :
    u.Begun e warm q s.startDone :=
  ⟨h.fails.startDone.powered.trans hpow, s.startDone_waits, fun hq => (h.steady hq).startDone (hst hq) (hstr hq)⟩

theorem State.coldStart_begun {q : Prop} (hq : q → fairCold s e ∧ s.pins.gLatch = false) :
    s.Begun e false q (s.coldStart e) := by
  obtain ⟨hent, hst, hpow, hstr⟩ := State.coldEntry_spec (e := e) fun h => (hq h).2
  obtain ⟨henv, hfuses, -, -, hwarm⟩ := State.powered_iff.1 hpow
  have hfair : q → fairCold (s.coldEntry e) e := fun h => by
    obtain ⟨⟨hfair, hfw, hbanks, hok⟩, -⟩ := hq h
    exact ⟨hfair, hfw, hbanks, (congrArg Fuses.ok hfuses).trans hok⟩
  rw [State.coldStart_eq]
  exact ((hent.coldRun hst henv hwarm hfair).coldLinks hst).begun (fun _ => hst) hpow hstr

end

/-! ### The warm start (R397) -/

theorem regDefault_header {k : Nat} (hk : k % 256 < 10) : regDefault k = 0 := by
  have hall : ∀ o < 10, ((headerRegs.find? fun r => r.off == o).elim 0 RegInfo.reset : Word) = 0 := by decide
  have h := hall _ hk
  unfold regDefault
  split
  next kind _ =>
    rw [regReset, regInfo, if_pos hk]
    split
    next r hr =>
      rw [hr] at h
      exact h
    next => rfl
  next => rfl

section
variable {s : State} {q : Prop}

theorem State.clearTest_injection (s : State) : s.clearTest.bitR pTBASE PG_INJ 0 = false := by
  have hctl (k : Nat) : (if k % 256 = PG_CTL then regDefault k &&& 0xCFFFFF else regDefault k) = regDefault k := by
    split
    next hk => rw [regDefault_header (by rw [hk]; decide)]; rfl
    next => rfl
  have hmap := Store.get_mapVals (d := regDefault) (f := fun k w => if k % 256 = PG_CTL then w &&& 0xCFFFFF else w) hctl
    (s.dropRegs [PG_FORCE, PG_INJ]).regs (rkey pTBASE PG_INJ)
  have hkeep := Store.get_keep (d := regDefault) (fun k => !([PG_FORCE, PG_INJ].contains (k % 256))) s.regs (rkey pTBASE PG_INJ)
  have hword : s.clearTest.reg pTBASE PG_INJ = 0 := by
    refine hmap.trans ?_
    rw [if_neg (by decide)]
    refine hkeep.trans ?_
    rw [if_neg (by decide)]
    exact regDefault_header (by decide)
  rw [State.bitR, hword]
  decide

theorem State.dropRegs_reg (s : State) {offs : List Nat} {p o : Nat} (h : offs.contains (rkey p o % 256) = false) :
    (s.dropRegs offs).reg p o = s.reg p o :=
  (Store.get_keep (d := regDefault) (fun k => !offs.contains (k % 256)) s.regs (rkey p o)).trans (if_pos (by rw [h]; rfl))

theorem Starting.warm {c : State} {l : Prop} (h : Starting c q l s) : s.run.warm = c.run.warm := congrArg (·.2.2.2.2) h.powered

/-- What a warm start resets first (R74, R76, R79) has nothing injected left. -/
theorem State.testEnds_starting (hst : s.run.waiting = false) (hwarm : s.run.warm = true) (hraised : q → s.watch.raised = []) :
    Starting (s.clearTest.closeLocks.dropRegs [PG_SEQ]) q False (s.clearTest.closeLocks.dropRegs [PG_SEQ]) := by
  refine ⟨rfl, fun hq => ⟨rfl, hst, ?_, fun _ _ => rfl, fun h => ?_, False.elim, fun r hr => ?_⟩⟩
  · rw [State.bitR, State.dropRegs_reg _ (by decide), State.closeLocks, State.dropRegs_reg _ (by decide)]
    exact s.clearTest_injection
  · exact absurd (hwarm.symm.trans h) (by decide)
  · have hmem : r ∈ s.watch.raised := List.mem_of_mem_filter hr
    rw [hraised hq] at hmem
    exact absurd hmem List.not_mem_nil

/-- What a warm start takes to its reset value: the state after it, from the reset of the streams' registers on. -/
theorem State.warmReset_starting (hst : s.run.waiting = false) (hwarm : s.run.warm = true) (hraised : q → s.watch.raised = []) :
    ∃ c, Starting c q False s.warmReset ∧ (q → c.run.st = s.run.st) ∧ c.powered = s.powered ∧ ∀ k < 4, c.strSt k = sIDLE := by
  have h1 := State.testEnds_starting (s := s) hst hwarm hraised
  unfold State.warmReset
  extract_lets s1 s2 drop s3 s4 s5 s6 g s7 s8 s9
  have h2 : Starting s1 q False s2 := h1.endOps.gleanStop
  have hdrop (k : Nat) : s3.regs.get regDefault k = if !drop k then s2.regs.get regDefault k else regDefault k :=
    Store.get_keep (d := regDefault) (fun k => !drop k) s2.regs k
  have h3 : Starting s3 q False s3 := by
    refine ⟨rfl, fun hq => ?_⟩
    obtain ⟨st, goes, test, streams, cold, locked, mild⟩ := h2.steady hq
    refine ⟨rfl, goes, ?_, fun _ _ => rfl, fun h => ?_, False.elim, mild⟩
    · rw [← test]
      exact congrArg (bit · 0) ((hdrop _).trans (if_pos (by decide)))
    · exact absurd (h2.warm.symm.trans h) (by rw [show s1.run.warm = true from hwarm]; decide)
  have hstr : ∀ k < 4, s3.strSt k = sIDLE := by
    intro k hk
    have hall : ∀ k < 4, drop (rkey (pSTREAM k) STREAM_STAT) = true ∧
        fld (regDefault (rkey (pSTREAM k) STREAM_STAT)) 23 21 = sIDLE := by decide
    obtain ⟨hd, hdefault⟩ := hall k hk
    rw [← hdefault]
    exact congrArg (fld · 23 21) ((hdrop _).trans (if_neg (by rw [hd]; decide)))
  have h4 : Starting s3 q False s4 := h3.foldl fun h => .ite (h.setFld (site_notSteady _ _))
    ((Starting.setSiteSt (h.setFld (site_notSteady _ _))).ite (.setSiteSt (h.setFld (site_notSteady _ _))))
  have h6 : Starting s3 q False s6 := (h4.foldl (·.railOff)).foldl (·.acqRelease.setAcq.setAcqSt)
  clear_value s6
  have h7 : Starting s3 q False s7 := h6.frame
  have h9 : Starting s3 q False s9 := .frame (.setBit h7 rfl)
  exact ⟨s3, h9.monsToFault, fun hq => (h2.steady hq).st, h2.powered, hstr⟩

end

section
variable {s : State} {e : StartEnv} {q : Prop}

theorem State.setRun_raised {st : RunState} (h : s.watch.raised = []) : (s.setRun st).watch.raised = [] := by
  unfold State.setRun
  split
  · exact h
  · extract_lets s1 s2
    have h1 : s1.watch.raised = [] := by
      simp only [s1]
      split
      · exact List.filter_eq_nil_iff.2 (by simp [State.dropRegs, h])
      · exact h
    have h2 : s2.watch.raised = [] := by
      simp only [s2]
      split
      exacts [h1, h1]
    exact h2

theorem Starting.is_locked {c : State} {l : Prop} (h : Starting c q l s) (hl : s.locked = true) : Starting c q True s :=
  ⟨h.powered, fun hq => { h.steady hq with locked := fun _ => hl }⟩

/-- The state that a warm start resets. -/
def State.warmEntry (s : State) (e : StartEnv) : State :=
  { s.setRun .start with env := some e, run := { (s.setRun .start).run with warm := true, waiting := false } }

/-- The steps of a warm start (Table 15.2). -/
def State.warmRun (s : State) (e : StartEnv) (undo : Bool) : State :=
  let s := s.setBit pTBASE TBASE_STAT 22 e.ref
  s.runSteps (fun t n => t.warmWork e undo s.run.replayed n) e.warnAt (if s.locked then [5, 6, 7, 8, 9] else [4, 5, 6, 7, 8, 9])

theorem State.warmStart_eq (s : State) (e : StartEnv) (undo : Bool) :
    s.warmStart e undo = (((s.warmEntry e).warmReset).warmRun e undo).startDone := by
  dsimp only [State.warmStart, State.warmEntry, State.warmRun]

theorem State.warmEntry_powered : (s.warmEntry e).powered = (some e, s.fuses, s.pins.strap, s.pins.porstN, true) := by
  have h : Starting s False False (s.setRun .start) := Starting.setRun ⟨rfl, False.elim⟩
  obtain ⟨-, hfuses, hstrap, hporst, -⟩ := State.powered_iff.1 h.powered
  exact State.powered_iff.2 ⟨rfl, hfuses, hstrap, hporst, rfl⟩

theorem Starting.warmRun {c : State} {undo : Bool} (h : Starting c q False s) (hst : q → c.run.st = .start)
    (henv : c.env = some e) (hf : q → fairStart e) : Starting c q True (s.warmRun e undo) := by
  have href := h.setStat (l' := False) (i := 22) (b := e.ref) (by decide) False.elim
  unfold State.warmRun
  extract_lets s1
  have hwarn : q → e.warnAt = none := fun hq => (hf hq).2.2.2.1
  split
  next hl =>
    exact ((href.is_locked hl).runSteps (fun h => h.warmWork henv hf) hst hwarn fun _ h => absurd h (by decide)).locks .inr
  next =>
    exact (href.runSteps (fun h => h.warmWork henv hf) hst hwarn fun _ h => absurd h (by decide)).locks
      fun _ => .inl (by decide)

theorem State.warmStart_begun {undo : Bool} (hq : q → fairStart e ∧ s.watch.raised = []) :
    s.Begun e true q (s.warmStart e undo) := by
  have hpow := State.warmEntry_powered (s := s) (e := e)
  have hst : (s.warmEntry e).run.st = .start := s.setRun_st .start
  obtain ⟨c, hreset, hcst, hcpow, hstr⟩ := State.warmReset_starting (s := s.warmEntry e) (q := q) rfl rfl
    fun h => State.setRun_raised (hq h).2
  obtain ⟨henv, -⟩ := State.powered_iff.1 (hcpow.trans hpow)
  rw [State.warmStart_eq]
  exact (hreset.warmRun (fun h => (hcst h).trans hst) henv fun h => (hq h).1).begun (fun h => (hcst h).trans hst)
    (hcpow.trans hpow) fun _ => hstr

end

/-! ### TOP_CMD (Table 3.3) -/

section
variable {s : State} {ini : Ini} {env : StartEnv} {q : Prop}

theorem State.writeReg_topCmd {w : Word} {undo : Bool} (hg : s.gate_ ini pTOP true = none)
    (hcheck : (s.served ini pTOP).checkTopCmd w = none)
    (hcmd : ∀ v : State, v.topCmd { start := some env } w = v.warmStart env undo) :
    s.writeReg { start := some env } ini pTOP TOP_CMD w = ((s.served ini pTOP).warmStart env undo).ok := by
  have hw : w &&& 0xFFFFFF = w := BitVec.and_allOnes
  have hcheck' : (s.served ini pTOP).checkReg ini pTOP .top TOP_CMD (putCmd w) = none := hcheck
  have hact : (s.served ini pTOP).actReg (s.served ini pTOP) { start := some env } ini pTOP .top TOP_CMD (putCmd w) =
      (s.served ini pTOP).warmStart env undo := hcmd _
  rw [State.writeReg_command (k := .top) (m := 0xFFFFFF) (by decide) (by decide) (by decide) hg rfl (by decide) rfl
    (by decide) hw rfl hcheck' (by decide), hact, State.leavePage_of (by decide)]

theorem State.topCmd_one (v : State) : v.topCmd { start := some env } 1 = v.warmStart env false := by
  have h : (1 : Word).toNat = 1 := by decide
  simp only [State.topCmd, h, State.askStart]

theorem State.topCmd_four (v : State) : v.topCmd { start := some env } 4 = v.warmStart env true := by
  have h : (4 : Word).toNat = 4 := by decide
  simp only [State.topCmd, h, State.askStart]

theorem State.exec_warmStart (hg : s.gate_ ini pTOP true = none) (hst : s.run.st = .halted ∨ s.run.st = .ready)
    (hrom : s.romOnly = false) :
    exec (.warmStart ini env) s = .next ((s.served ini pTOP).warmStart env false).ok := by
  have hrun : (s.served ini pTOP).run = s.run := by rw [State.served_with (by decide)]
  have hrom' : (s.served ini pTOP).romOnly = false := by
    rw [← hrom, State.romOnly, State.bitR, State.served_reg (by decide) (by decide), State.romOnly, State.bitR]
  refine congrArg Host.Outcome.next (State.writeReg_topCmd (w := 1) hg ?_ State.topCmd_one)
  show refuse _ _ = none
  rw [hrun, hrom']
  rcases hst with h | h <;> rw [h] <;> rfl

theorem State.exec_leaveTest (hg : s.gate_ ini pTOP true = none) (hst : s.run.st = .test) :
    exec (.leaveTest ini env) s = .next ((s.served ini pTOP).warmStart env true).ok := by
  have hrun : (s.served ini pTOP).run = s.run := by rw [State.served_with (by decide)]
  refine congrArg Host.Outcome.next (State.writeReg_topCmd (w := 4) hg ?_ State.topCmd_four)
  show refuse _ _ = none
  rw [hrun, hst]
  rfl

theorem State.coldStarted (hq : q → fairCold s env ∧ s.pins.gLatch = false) :
    let t := s.coldStart env
    (t.env = some env ∧ t.fuses = s.fuses ∧ (t.run.st = .start → t.run.waiting = true)) ∧ t.run.warm = false ∧
      t.pins.porstN = s.pins.porstN ∧ t.pins.strap = s.pins.strap ∧ (q → t.isReady) := by
  obtain ⟨hpow, hwaits, hready⟩ := State.coldStart_begun hq
  obtain ⟨henv, hfuses, hstrap, hporst, hwarm⟩ := State.powered_iff.1 hpow
  exact ⟨⟨henv, hfuses, hwaits⟩, hwarm, hporst, hstrap, hready⟩

theorem State.Begun.ok {t : State} {warm : Bool} (h : s.Begun env warm q t) : s.Begun env warm q t.ok := h

theorem State.warmStarted {undo : Bool} (hq : q → fairStart env ∧ s.watch.raised = []) :
    let t := ((s.served ini pTOP).warmStart env undo).ok
    (t.env = some env ∧ t.fuses = s.fuses ∧ (t.run.st = .start → t.run.waiting = true)) ∧ t.run.warm = true ∧
      t.pins.strap = s.pins.strap ∧ t.reply = ⟨0, []⟩ ∧ (q → t.isReady) := by
  have hwith := State.served_with (s := s) (ini := ini) (page := pTOP) (by decide)
  generalize s.served ini pTOP = v at *
  have hraised : v.watch = s.watch := by rw [hwith]
  have hvfuses : v.fuses = s.fuses := by rw [hwith]
  have hvpins : v.pins = s.pins := by rw [hwith]
  have hok : ((v.warmStart env undo).ok).reply = ⟨0, []⟩ := rfl
  have hbegun : v.Begun env true q (v.warmStart env undo).ok :=
    State.Begun.ok (State.warmStart_begun fun h => ⟨(hq h).1, by rw [hraised]; exact (hq h).2⟩)
  obtain ⟨hpow, hwaits, hready⟩ := hbegun
  obtain ⟨henv, hfuses, hstrap, -, hwarm⟩ := State.powered_iff.1 hpow
  exact ⟨⟨henv, hfuses.trans hvfuses, hwaits⟩, hwarm, hstrap.trans (congrArg Pins.strap hvpins), hok, hready⟩

end

/-! ### PORST_N and PWRWARN_N (R46, R48, R54) -/

/-- The straps, as the rise of PORST_N samples them (R46). -/
def State.sampled (s : State) : State := { s with pins := { s.pins with porstN := true, strap := s.pins.cid % 1024 } }

/-- PWRWARN_N has risen. -/
def State.warned (s : State) : State := { s with pins := { s.pins with pwrwarnN := true } }

section
variable {s : State} {e : StartEnv}

theorem State.porstRise_starts (hlow : s.pins.porstN = false) (hwarn : s.pins.pwrwarnN = true) :
    s.porstRise e = s.sampled.coldStart e := by
  rw [State.porstRise, if_neg (by rw [hlow]; decide)]
  exact if_pos hwarn

theorem State.porstRise_waits (hlow : s.pins.porstN = false) (hwarn : s.pins.pwrwarnN = false) : s.porstRise e = s.sampled := by
  rw [State.porstRise, if_neg (by rw [hlow]; decide)]
  exact if_neg (by rw [hwarn]; decide)

theorem State.warnRise_starts (h : s.run.st = .start ∧ s.run.waiting = true ∨ s.run.st = .cold ∧ s.pins.porstN = true) :
    s.warnRise e = s.warned.coldStart e := by
  unfold State.warnRise
  rcases h with h | h
  · exact if_pos h
  · exact (if_neg fun hs => absurd (h.1.symm.trans hs.1) (by decide)).trans (if_pos h)

theorem State.warnRise_rests (hst : ¬ (s.run.st = .start ∧ s.run.waiting = true))
    (hcold : ¬ (s.run.st = .cold ∧ s.pins.porstN = true)) : s.warnRise e = s.warned :=
  (if_neg hst).trans (if_neg hcold)

end

/-- Settles O14: what every start leaves alone, and that one in which nothing fails reaches READY, by an invariant of its
steps. -/
theorem startsBeginAsTheirCauseSays : Obligations.StartsBeginAsTheirCauseSays := by
  intro s env
  dsimp only
  have hcoldFair : fairStart env ∧ (env.fwOk = true ∨ env.fwOtherOk = true) ∧ env.badBanks = [] ∧ s.fuses.ok = true ∧
      s.pins.gLatch = false → fairCold s env ∧ s.pins.gLatch = false :=
    fun ⟨hfair, hfw, hbanks, hfuses, hlatch⟩ => ⟨⟨hfair, hfw, hbanks, hfuses⟩, hlatch⟩
  refine ⟨fun hlow hwarn => ?_, fun hlow hwarn => ?_, fun hst hwait => ?_, fun hst hporst => ?_, fun hst hcold => ?_,
    fun ini hg hst hrom => ?_, fun ini hg hst => ?_⟩
  · obtain ⟨hbegun, hwarm, hporst, hstrap, hready⟩ := s.sampled.coldStarted (env := env) hcoldFair
    exact ⟨_, congrArg Host.Outcome.next (State.porstRise_starts hlow hwarn), hbegun, hwarm, hporst, hstrap, hready⟩
  · exact congrArg Host.Outcome.next (State.porstRise_waits hlow hwarn)
  · obtain ⟨hbegun, hwarm, -, hstrap, hready⟩ := s.warned.coldStarted (env := env) hcoldFair
    exact ⟨_, congrArg Host.Outcome.next (State.warnRise_starts (.inl ⟨hst, hwait⟩)), hbegun, hwarm, hstrap, hready⟩
  · obtain ⟨hbegun, hwarm, -, hstrap, hready⟩ := s.warned.coldStarted (env := env) hcoldFair
    exact ⟨_, congrArg Host.Outcome.next (State.warnRise_starts (.inr ⟨hst, hporst⟩)), hbegun, hwarm, hstrap, hready⟩
  · have hrests := State.warnRise_rests (e := env) hst hcold
    exact ⟨congrArg Host.Outcome.next hrests, congrArg Host.Outcome.next hrests⟩
  · obtain ⟨hbegun, hwarm, hstrap, hreply, hready⟩ := State.warmStarted (s := s) (ini := ini) (env := env) (undo := false)
      (q := fairStart env ∧ s.watch.raised = []) id
    exact ⟨_, State.exec_warmStart hg hst hrom, hbegun, hwarm, hstrap, hreply,
      fun hfair hraised _ => hready ⟨hfair, hraised⟩⟩
  · obtain ⟨hbegun, hwarm, hstrap, hreply, hready⟩ := State.warmStarted (s := s) (ini := ini) (env := env) (undo := true)
      (q := fairStart env ∧ s.watch.raised = []) id
    exact ⟨_, State.exec_leaveTest hg hst, hbegun, hwarm, hstrap, hreply, fun hfair hraised _ => hready ⟨hfair, hraised⟩⟩

end Sys2Proof.Machine

end

section

/-! ## Header registers and the end of a recovery: statements that the model refutes -/

namespace Sys2Proof.Machine

/-! ### O10 -/

/-- A write of PG_ERR.CLR to page TOP, which has no register stile, leaves the clock as it is. -/
theorem pgErrClr_overBase_base :
    (overBase.writeBurst {} 0 (pTOP * 256 + PG_ERR) 0x001000 [0x001000] none).time.base = 2 ^ 64 := by decide +kernel

/-- Refutes O10: PG_ERR.CLR of a page outside the timing domain leaves the clock alone, while the statement asks for the
clock of `ticks 0`, whose time base is reduced modulo 2^64; in a READY state whose base is 2^64, which no hypothesis
excludes, the two differ. -/
theorem not_headerRegistersHedgeAndForce : ¬ Obligations.HeaderRegistersHedgeAndForce := by
  unfold Obligations.HeaderRegistersHedgeAndForce
  intro h
  obtain ⟨hheader, -⟩ := h
  obtain ⟨-, -, hclear, -⟩ := hheader overBase 0 pTOP .top (by decide) rfl rfl
  obtain ⟨t, hexec, -, -, ⟨u, hreach, htime, -⟩, -⟩ := hclear
  have hu : u = overBase := hreach
  have ht : overBase.writeBurst {} 0 (pTOP * 256 + PG_ERR) 0x001000 [0x001000] none = t := Host.Outcome.next.inj hexec
  have hbase : (2 ^ 64 : Nat) = 0 := by
    calc 2 ^ 64 = t.time.base := by rw [← ht, pgErrClr_overBase_base]
      _ = (u.ticks 0).time.base := congrArg Time.base htime
      _ = 0 := by rw [hu, ticks_overBase_base]
  exact absurd hbase (by decide)

/-! ### O15 -/

/-- What an area holds after one more record is programmed into it. -/
theorem Daybook.fill_append {d : Daybook} (q : List DayRec) (r : DayRec) (h : d.slots ≠ 0) :
    Daybook.fill { d with queue := q, log := d.log ++ [r] } = (d.log.length + 1) * 100 / d.slots := by
  have hslots : Daybook.slots { d with queue := q, log := d.log ++ [r] } = d.slots := rfl
  unfold Daybook.fill
  rw [hslots, if_neg h, List.length_append, List.length_singleton]

/-- Programming a record that fills the area to 75 % starts a compaction (R404). -/
theorem State.dayProgram_compacts {s : State} {r : DayRec} {q : List DayRec} (hq : s.day.queue = r :: q)
    (hinj : s.bitR pDAY PG_INJ 0 = false) (htyp : r.typ ≠ 0x10) (hslots : s.day.slots ≠ 0)
    (hfill : 75 ≤ (s.day.log.length + 1) * 100 / s.day.slots) (hidle : s.day.compacting = false) (hmode : s.day.mode = .on) :
    s.dayProgram true =
      State.dayCompact { s with day := { s.day with queue := q, log := s.day.log ++ [{ r with torn := false }] } } := by
  have hfull := hfill.trans_eq (Daybook.fill_append q { r with torn := false } hslots).symm
  simp only [State.dayProgram, hq, if_true, hinj, Bool.false_eq_true, if_false, htyp, false_and, hidle, hmode]
  exact if_pos ⟨hfull, rfl, trivial⟩

/-- A compaction begins with the SEAL of the open group, which joins the queue (R401, R404). -/
theorem State.dayCompact_queue {s : State} (h : s.day.group ≠ []) : s.dayCompact.day.queue ≠ [] := by
  unfold State.dayCompact State.dayClose
  split
  · next hg => exact absurd hg h
  · simp

/-- A queue of one record is programmed by one program command. -/
theorem State.dayDrain_one {s : State} {r : DayRec} (h : s.day.queue = [r]) : s.dayDrain 0 = s.dayProgram true := by
  simp [State.dayDrain, h]

theorem State.setRun_day (s : State) (st : RunState) : (s.setRun st).day = s.day := by
  unfold State.setRun
  split
  · rfl
  · dsimp only
    split <;> split <;> rfl

/-- RECOVERY_COMPLETE changes nothing of the journal but what programming the queue does. -/
theorem State.recovered_day {s : State} (h : s.run.st = .recovery) : s.recovered.day = (s.dayDrain 0).day := by
  rw [State.recovered, if_pos h]
  exact State.setRun_day _ _

/-- RECOVERY with a journal of the least area, which has room for 2^19 records: one record of the open group waits in the
queue, and with it the area will be 75 % full. -/
def openRecovery : State :=
  { run := { st := .recovery }
    day := { mode := .on, area := some (0x1000000, 0x2000000), log := List.replicate 393215 { typ := 0x13 }
             queue := [{ typ := 0x01, rseq := 1 }], group := [{ typ := 0x01, rseq := 1 }], lastRec := 1 } }

theorem openRecovery_slots : openRecovery.day.slots = 524288 := rfl

theorem openRecovery_log : openRecovery.day.log.length = 393215 := List.length_replicate

theorem recovered_openRecovery_queue : openRecovery.recovered.day.queue ≠ [] := by
  have hslots : openRecovery.day.slots ≠ 0 := by rw [openRecovery_slots]; norm_num
  have hfill : 75 ≤ (openRecovery.day.log.length + 1) * 100 / openRecovery.day.slots := by
    rw [openRecovery_slots, openRecovery_log]
  rw [State.recovered_day rfl, State.dayDrain_one rfl,
    State.dayProgram_compacts rfl rfl (show 0x01 ≠ 0x10 by decide) hslots hfill rfl rfl]
  exact State.dayCompact_queue (List.cons_ne_nil _ _)

/-- Refutes O15: RECOVERY_COMPLETE programs as many records as the queue held, and where one of them fills the area to
75 % the compaction that starts puts one more into it, the SEAL of the open group, while the statement has the queue
empty. -/
theorem not_recoveryAndTestChangeTheRunState : ¬ Obligations.RecoveryAndTestChangeTheRunState := by
  unfold Obligations.RecoveryAndTestChangeTheRunState
  intro h
  obtain ⟨-, -, hcomplete, -⟩ := h openRecovery 0
  obtain ⟨t, hexec, -, -, -, -, -, hqueue, -⟩ := hcomplete rfl
  have ht : openRecovery.recovered = t := Host.Outcome.next.inj hexec
  exact recovered_openRecovery_queue (ht ▸ hqueue)

end Sys2Proof.Machine

end

section

/-! ## Spaces and sources: gap timeout, expiry, replies and FORGET (O19) -/

namespace Sys2Proof.Machine

/-! ### GAP_TIMEOUT and SOURCE_EXPIRY (R105, R108) -/

/-- The time at which the held frames of a space are given up: GAPTMO milliseconds after the oldest arrived (R108). -/
def State.gapTime (s : State) : List AbtFrame → Time
  | [] => s.time
  | f :: _ => (s.toEdge (f.edge + 1600000 * s.fldR pABT ABT_CFG 21 14)).time

theorem State.gapTimeout_of {s : State} {src grp : Nat} {x : Source} {sp : Space} (hx : s.source src = some x)
    (hsp : x.space grp = some sp) :
    s.gapTimeout src grp = { s with
      regs := (s.inc pABT ABT_GAPDROP sp.held.length).regs, time := s.gapTime sp.held
      abt := { s.abt with sources := s.abt.sources.map (fun y => if y.id = src then
        { y with spaces := y.spaces.map (fun q => if q.grp = grp then { q with held := [] } else q) } else y) } } := by
  rw [State.gapTimeout, hx, Option.bind_some, hsp]
  dsimp only
  cases sp.held with
  | nil => rfl
  | cons f r =>
    dsimp only
    rw [State.toEdge_with]
    rfl

/-- The time at which a source that is known has been silent for a number of cycles (R105). -/
def State.silentTime (s : State) (cycles : Nat) : Option Source → Time
  | some x => (s.toEdge (x.last + cycles)).time
  | none => s.time

theorem State.silentTime_some (s : State) (cycles : Nat) (x : Source) :
    s.silentTime cycles (some x) = (s.toEdge (x.last + cycles)).time := rfl

theorem State.expire_eq (s : State) (src : Nat) : s.expire src = { s with
    time := s.silentTime 16000000000 (s.source src)
    abt := { s.abt with sources := s.abt.sources.filter (fun x => x.id != src)
                        fences := s.abt.fences.filter (fun f => f.org.src != src) } } := by
  obtain ⟨cycles, hcycles⟩ : ∃ n, 16000000000 = n := ⟨_, rfl⟩
  rw [State.expire, hcycles]
  cases s.source src with
  | none => rfl
  | some x =>
    dsimp only
    rw [State.toEdge_with]
    rfl

/-! ### ABT_REPLY_SEND (R85, R93, R98, R113) -/

/-- A source that has an address on the port of its request alone, or that is in split use, is answered there (R85). -/
theorem State.replyTo_port {s : State} {x : Source} {p : Port} {m : Nat} {pl : List Byte}
    (hm : (if p = 0 then x.macA else x.macB) = some m)
    (hother : x.port = 2 → (if p = 0 then x.macB else x.macA) = none) :
    s.replyTo x p pl = s.sendUdp p m x.ip x.udp pl := by
  rw [State.replyTo]
  match p with
  | 0 =>
    rw [if_pos rfl] at hm hother
    split
    · next hport => simp [hm, hother hport]
    · simp [hm]
  | 1 =>
    rw [if_neg (by decide)] at hm hother
    split
    · next hport => simp [hm, hother hport]
    · simp [hm]

/-- A port that is up sends a frame and counts it (R123). -/
theorem State.send_up {s : State} {p : Nat} (h : s.portUp p = true) (b : TxBody) :
    s.send p b = { s with regs := (s.inc (pLINK p) LINK_TXOK).regs, tx := s.tx ++ [⟨p, b⟩] } := if_pos h

theorem State.stagger_with (s : State) (mc : Bool) (e : Nat) : s.stagger mc e = { s with time := (s.stagger mc e).time } := by
  unfold State.stagger
  split
  · exact s.toEdge_with _
  · rfl

/-- The space of a source as a change of it leaves it. -/
theorem State.space_mapSpace {s : State} {id grp : Nat} {g : Space → Space} (hgrp : ∀ q, (g q).grp = q.grp) {y : Source}
    (hy : (s.mapSpace id grp g).source id = some y) {q : Space} (hq : y.space grp = some q) :
    ∃ x sp, s.source id = some x ∧ x.space grp = some sp ∧ q = g sp := by
  rw [State.source, State.mapSpace, State.mapSource, List.find?_map] at hy
  obtain ⟨x, hx, rfl⟩ := Option.map_eq_some_iff.1 hy
  have hid : (fun z : Source => z.id == id) ∘ (fun z : Source => if z.id = id then
      { z with spaces := z.spaces.map (fun sp => if sp.grp = grp then g sp else sp) } else z) = fun z => z.id == id := by
    funext z
    by_cases h : z.id = id <;> simp [h]
  rw [hid] at hx
  rw [if_pos (by simpa using List.find?_some hx), Source.space, List.find?_map] at hq
  obtain ⟨sp, hsp, rfl⟩ := Option.map_eq_some_iff.1 hq
  have hsame : (fun z : Space => z.grp == grp) ∘ (fun z => if z.grp = grp then g z else z) = fun z => z.grp == grp := by
    funext z
    by_cases h : z.grp = grp <;> simp [h, hgrp]
  rw [hsame] at hsp
  exact ⟨x, sp, hx, hsp, if_pos (by simpa using List.find?_some hsp)⟩

/-- The chip number after what waited for a reply has taken effect (R80). -/
def chipAfter (chip : Nat) : List Settle → Nat
  | [.chip v] => v
  | _ => chip

theorem State.settle_chip {s : State} {l : List Settle} (hl : l = [] ∨ ∃ v, l = [.chip v]) :
    l.foldl State.settleAbt s = { s with abt := { s.abt with chip := chipAfter s.abt.chip l } } := by
  obtain rfl | ⟨v, rfl⟩ := hl <;> rfl

/-- What a reply sent at an edge leaves of its space: it waits no longer, and its cached copy keeps the edge (R85, R106). -/
def Space.answered (sp : Space) (f : AbtFrame) (edge : Nat) : Space :=
  { sp with ready := sp.ready.drop 1, cache := sp.cache.map (fun c => if c.seq = f.seq then { c with edge := edge } else c) }

theorem State.replySend_of {s : State} {src grp : Nat} {x : Source} {sp : Space} {f : AbtFrame} {r : List AbtFrame}
    (hx : s.source src = some x) (hsp : x.space grp = some sp) (hf : sp.ready = f :: r) :
    s.replySend src grp = f.settles.foldl State.settleAbt
      ((((s.stagger f.mc f.edge).replyTo x f.port ((s.stagger f.mc f.edge).replyPayload f false 0)).mapSpace src grp
        (·.answered f ((s.stagger f.mc f.edge).replyTo x f.port ((s.stagger f.mc f.edge).replyPayload f false 0)).time.edge))) := by
  rw [State.replySend, hx, Option.bind_some, hsp, Option.bind_some, hf]
  rfl

/-- The datagram that answers a request from a port (R89, R93, R98). -/
def State.replyDatagram (s : State) (x : Source) (p m : Nat) (pl : List Byte) : TxBody :=
  .udp (s.ipHead p x.ip) m (s.fldR pABT ABT_PORT 15 0) x.udp
    (udpSum (s.ipOf p) x.ip (s.fldR pABT ABT_PORT 15 0) x.udp pl) pl

theorem State.sendUdp_up {s : State} {x : Source} {p m : Nat} (h : s.portUp p = true) (pl : List Byte) :
    s.sendUdp p m x.ip x.udp pl = { s with
      regs := (s.inc (pLINK p) LINK_TXOK).regs, tx := s.tx ++ [⟨p, s.replyDatagram x p m pl⟩] } :=
  State.send_up h _

theorem State.replySend_sends {s : State} {src grp m : Nat} {x : Source} {sp : Space} {f : AbtFrame} {r : List AbtFrame}
    {p : Port} (hx : s.source src = some x) (hsp : x.space grp = some sp) (hf : sp.ready = f :: r) (hport : f.port = p)
    (hm : (if p = 0 then x.macA else x.macB) = some m)
    (hother : x.port = 2 → (if p = 0 then x.macB else x.macA) = none) (hup : s.portUp p = true)
    (hset : f.settles = [] ∨ ∃ v, f.settles = [.chip v]) :
    s.replySend src grp = { s with
      regs := (s.inc (pLINK p) LINK_TXOK).regs
      tx := s.tx ++ [⟨p, s.replyDatagram x p m (s.replyPayload f false 0)⟩]
      time := (s.stagger f.mc f.edge).time
      abt := { s.abt with
        sources := (s.mapSpace src grp (·.answered f (s.stagger f.mc f.edge).time.edge)).abt.sources
        chip := chipAfter s.abt.chip f.settles } } := by
  rw [State.replySend_of hx hsp hf, State.settle_chip hset, hport, State.replyTo_port hm hother, State.stagger_with]
  generalize (s.stagger f.mc f.edge).time = τ
  have hup' : State.portUp { s with time := τ } p = true := hup
  rw [State.sendUdp_up hup']
  rfl

/-! ### FORGET (R124) -/

theorem State.afterReply_forget (s : State) (ini : Nat) : s.afterReply ini .forget = { s with
    abt := if ini = 3 then { s.abt with sources := [], fences := [] }
      else { s.abt with settles := s.abt.settles ++ [(ini, .forget)] } } := by
  rw [State.afterReply]
  split <;> rfl

theorem State.forgets {s : State} {ini : Ini} (hg : s.gate_ ini pABT true = none) :
    exec (.forget ini) s = .next ((s.served ini pABT).afterReply ini .forget).ok := by
  have hact : (s.served ini pABT).actReg (s.served ini pABT) {} ini pABT .abt ABT_CMD (putCmd 2) =
      (s.served ini pABT).afterReply ini .forget := rfl
  refine congrArg Host.Outcome.next ?_
  rw [State.writeReg_command (k := .abt) (m := 0xFFFFFF) (by decide) (by decide) (by decide) hg rfl (by decide) rfl
    (by decide) rfl rfl rfl (by decide), hact, State.leavePage_of (by decide)]

/-- Settles O19: each command at its instant, by the state it leaves. -/
theorem spacesAndSourcesAreAnsweredAndForgotten : Obligations.SpacesAndSourcesAreAnsweredAndForgotten := by
  unfold Obligations.SpacesAndSourcesAreAnsweredAndForgotten
  intro s
  refine ⟨fun src grp x sp hx hsp => ?_, fun src => ?_, fun src grp m x sp f r p hx hsp hf hport hm hother hup hset => ?_,
    fun ini hg => ?_⟩
  · refine ⟨_, congrArg Host.Outcome.next (State.gapTimeout_of hx hsp), s.reg_setReg_self _ _ _,
      s.keepsRegs_inc (by decide) _, rfl, fun f r hheld => ?_, fun hheld => ?_, rfl⟩
    · rw [hheld]; rfl
    · rw [hheld]; rfl
  · exact ⟨_, congrArg Host.Outcome.next (s.expire_eq src), rfl,
      fun x hx => (congrArg (s.silentTime 16000000000) hx).trans (s.silentTime_some _ x),
      congrArg (s.silentTime 16000000000), rfl⟩
  · refine ⟨_, congrArg Host.Outcome.next (State.replySend_sends hx hsp hf hport hm hother hup hset), rfl,
      s.reg_setReg_self _ _ _, s.keepsRegs_inc (by decide) _, fun y hy q hq => ?_, rfl, fun h => ?_, fun v h => ?_, rfl⟩
    · obtain ⟨x', sp', hx', hsp', rfl⟩ := State.space_mapSpace (s := s)
        (g := (·.answered f (s.stagger f.mc f.edge).time.edge)) (fun _ => rfl) hy hq
      rw [hx, Option.some.injEq] at hx'
      subst hx'
      rw [hsp, Option.some.injEq] at hsp'
      subst hsp'
      exact congrArg (List.drop 1) hf
    · exact congrArg (chipAfter s.abt.chip) h
    · exact congrArg (chipAfter s.abt.chip) h
  · have habt := State.served_with (s := s) (ini := ini) (page := pABT) (by decide)
    refine ⟨_, State.forgets hg, ?_, ?_, ?_⟩
    · rw [State.afterReply_forget]
      exact State.wrote_of_served (by decide) rfl rfl
    · rw [State.afterReply_forget, habt]
      rfl
    · rw [State.afterReply_forget, habt]
      rfl

end Sys2Proof.Machine

end

section

/-! ## ARM of a stream at rest (O32) -/

namespace Sys2Proof.Machine

/-! ### Registers that are cleared -/

/-- Registers of a page are cleared. -/
def State.zeroRegs (s : State) (p : Nat) (offs : List Nat) : State := s.setRegs p (offs.map fun o => (o, 0))

theorem State.zeroRegs_cons (s : State) (p a : Nat) (offs : List Nat) :
    s.zeroRegs p (a :: offs) = (s.setReg p a 0).zeroRegs p offs := rfl

theorem State.zeroRegs_with (s : State) (p : Nat) (offs : List Nat) :
    s.zeroRegs p offs = { s with regs := (s.zeroRegs p offs).regs } := State.setRegs_with ..

theorem State.zeroRegs_keepsRegs (s : State) (p : Nat) {offs : List Nat} (h : ∀ o ∈ offs, o < 256) :
    s.keepsRegs (s.zeroRegs p offs) (offs.map fun o => (p, o)) := by
  have hkeeps := s.setRegs_keepsRegs p (l := offs.map fun o => (o, 0)) (by simpa using h)
  rwa [List.map_map] at hkeeps

/-- A register that is zero, or that is among those cleared, reads zero afterwards. -/
theorem State.zeroRegs_zero (p : Nat) (offs : List Nat) {q o : Nat} (s : State) (h : s.reg q o = 0 ∨ q = p ∧ o ∈ offs) :
    (s.zeroRegs p offs).reg q o = 0 := by
  induction offs generalizing s with
  | nil => exact h.resolve_right (by simp)
  | cons a offs ih =>
    rw [State.zeroRegs_cons]
    refine ih _ ?_
    by_cases ha : rkey p a = rkey q o
    · exact .inl (by rw [State.reg_setReg, if_pos ha])
    · rw [State.reg_setReg_ne _ ha]
      rcases h with h | ⟨rfl, h⟩
      · exact .inl h
      · exact .inr ⟨rfl, (List.mem_cons.1 h).resolve_left fun e => ha (by rw [e])⟩

theorem State.setWide_three (s : State) (p o v : Nat) : s.setWide p o 3 v =
    ((s.setReg p o (word v)).setReg p (o + 1) (word (v / 2 ^ 24))).setReg p (o + 2) (word (v / 2 ^ 48)) := by
  simp [State.setWide, List.range_succ]

/-! ### What the octets, sites and monitors of the streams hang on -/

/-- Two states with the same sites: their states, bindings and octets, and the monitors with their limits. -/
structure State.SameSites (s t : State) : Prop where
  st : ∀ n, t.siteSt n = s.siteSt n
  bound : ∀ n, ∀ o ∈ [SITE_CFG, SITE_OCT0, SITE_OCT1], t.reg (pSITE n) o = s.reg (pSITE n) o
  noct : ∀ n, (t.site n).noct = (s.site n).noct
  mons : t.mons = s.mons
  tabs : t.tabs = s.tabs

section
variable {s t u : State}

theorem State.SameSites.refl (s : State) : s.SameSites s := ⟨fun _ => rfl, fun _ _ _ => rfl, fun _ => rfl, rfl, rfl⟩

theorem State.SameSites.trans (h : s.SameSites t) (h' : t.SameSites u) : s.SameSites u :=
  ⟨fun n => (h'.st n).trans (h.st n), fun n o ho => (h'.bound n o ho).trans (h.bound n o ho),
    fun n => (h'.noct n).trans (h.noct n), h'.mons.trans h.mons, h'.tabs.trans h.tabs⟩

theorem State.SameSites.foldl {f : State → Nat → State} {l : List Nat} (hf : ∀ u : State, ∀ c ∈ l, u.SameSites (f u c)) (s : State) :
    s.SameSites (l.foldl f s) :=
  List.foldlRecOn (motive := fun t => s.SameSites t) l f (.refl s) fun t ht c hc => ht.trans (hf t c hc)

/-- A step that writes registers of no site's page. -/
theorem State.SameSites.of_keepsRegs {ex : List (Nat × Nat)} (hkeeps : s.keepsRegs t ex) (hex : ∀ n o, (pSITE n, o) ∉ ex)
    (hsites : t.sites = s.sites) (hmons : t.mons = s.mons) (htabs : t.tabs = s.tabs) : s.SameSites t := by
  have hreg (n : Nat) {o : Nat} (ho : o < 256) : t.reg (pSITE n) o = s.reg (pSITE n) o := hkeeps _ _ ho (hex n o)
  have hoffs : ∀ o ∈ [SITE_CFG, SITE_OCT0, SITE_OCT1], o < 256 := by decide
  refine ⟨fun n => ?_, fun n o ho => hreg n (hoffs o ho), fun n => ?_, hmons, htabs⟩
  · rw [State.siteSt, State.fldR, hreg n (by decide), State.siteSt, State.fldR]
  · rw [State.site, hsites, State.site]

variable (h : s.SameSites t)
include h

theorem State.SameSites.sitesOf (k : Nat) : t.sitesOf k = s.sitesOf k := by
  refine State.sitesOf_congr (fun n => by rw [h.st]) fun n => ?_
  rw [State.siteStream, State.fldR, h.bound n _ (by simp), State.siteStream, State.fldR]

theorem State.SameSites.octetsOf (n : Nat) : t.octetsOf n = s.octetsOf n := by
  have hcol : t.column n = s.column n := by
    funext c
    simp only [State.column, State.fldR, h.bound n SITE_OCT0 (by simp), h.bound n SITE_OCT1 (by simp)]
  rw [State.octetsOf, h.st, h.noct, hcol, State.octetsOf]

theorem State.SameSites.mon (m : Nat) : t.mon m = s.mon m := by rw [State.mon, h.mons, State.mon]

theorem State.SameSites.inband (n : Nat) : t.inband n = s.inband n := by
  have hact : t.monAction = s.monAction := by
    funext m
    rw [State.monAction, State.monW, State.tab, h.tabs, State.monAction, State.monW, State.tab]
  have hmon : t.mon = s.mon := funext h.mon
  rw [State.inband, h.octetsOf, hact, hmon, State.inband]

end

/-- A column of a site's octet list names one of the 64 octets. -/
theorem State.column_lt (s : State) (n c : Nat) : s.column n c < 64 := by
  have hlt (w : Word) (lo : Nat) : fld w (23 - lo) (18 - lo) < 64 := by
    refine (fld_lt _ _ _).trans_le ?_
    exact Nat.pow_le_pow_right (by decide) (show _ ≤ 6 by omega)
  rw [State.column]
  split
  · exact hlt _ _
  · exact hlt _ _

theorem State.octetsOf_lt {s : State} {n o : Nat} (h : o ∈ s.octetsOf n) : o < 64 := by
  rw [State.octetsOf] at h
  split at h
  · exact absurd h List.not_mem_nil
  · obtain ⟨c, -, rfl⟩ := List.mem_map.1 h
    exact s.column_lt n c

/-! ### The stream's own page -/

/-- The registers of a stream's page that ARM clears. -/
def armOffs : List Nat := [STREAM_HPOS0, STREAM_HPOS1, STREAM_SEG]

/-- ARM of stream `k`, as far as its own state and page go: `v` is the stream that begins, `w` its STREAM_STAT. -/
def State.armPage (s : State) (k : Nat) (v : Stream) (w : Word) : State :=
  let p := pSTREAM k
  ((((s.setStream k v).setReg p STREAM_STAT w).setWide p STREAM_HPOS0 2 0).setReg p STREAM_SEG 0).setReg pSLIP (SLIP_MAXA + k) 0

/-- The registers that ARM writes at stream `k`. -/
def armPageRegs (k : Nat) : List (Nat × Nat) :=
  (pSTREAM k, STREAM_STAT) :: (armOffs.map fun o => (pSTREAM k, o)) ++ [(pSLIP, SLIP_MAXA + k)]

section
variable (s : State) (k : Str) (v : Stream) (w : Word)

theorem pSLIP_ne_pSTREAM : pSLIP ≠ pSTREAM k := by
  have := k.isLt
  unfold pSLIP pSTREAM
  omega

theorem slipMax_lt : SLIP_MAXA + k.val < 256 := by
  have := k.isLt
  unfold SLIP_MAXA
  omega

theorem State.armPage_eq : s.armPage k v w =
    (((s.setStream k v).setReg (pSTREAM k) STREAM_STAT w).zeroRegs (pSTREAM k) armOffs).setReg pSLIP (SLIP_MAXA + k) 0 := by
  rw [State.armPage, State.setWide_two]
  rfl

theorem State.armPage_keepsRegs : s.keepsRegs (s.armPage k v w) (armPageRegs k) :=
  s.armPage_eq k v w ▸ ((((s.setStream k v).keepsRegs_setReg (by decide) w).trans (State.zeroRegs_keepsRegs _ _ (by decide))).trans
    (State.keepsRegs_setReg _ (slipMax_lt k) 0)).mono (by simp [armPageRegs])

theorem State.armPage_with :
    s.armPage k v w = { s with regs := (s.armPage k v w).regs, streams := (s.setStream k v).streams } := by
  rw [State.armPage_eq, State.zeroRegs_with]
  rfl

theorem State.armPage_stat : (s.armPage k v w).reg (pSTREAM k) STREAM_STAT = w := by
  rw [State.armPage_eq, State.keepsRegs_setReg _ (slipMax_lt k) _ _ _ (by decide) (by simp [(pSLIP_ne_pSTREAM k).symm]),
    State.zeroRegs_keepsRegs _ _ (by decide) _ _ (by decide) (by simp [armOffs]), State.reg_setReg_self]

theorem State.armPage_zero : ∀ o ∈ armOffs, (s.armPage k v w).reg (pSTREAM k) o = 0 := by
  intro o ho
  have h256 : ∀ o ∈ armOffs, o < 256 := by decide
  rw [State.armPage_eq, State.keepsRegs_setReg _ (slipMax_lt k) _ _ _ (h256 o ho) (by simp [(pSLIP_ne_pSTREAM k).symm])]
  exact State.zeroRegs_zero _ _ _ (.inr ⟨rfl, ho⟩)

theorem State.armPage_slip : (s.armPage k v w).reg pSLIP (SLIP_MAXA + k) = 0 := by
  rw [State.armPage_eq, State.reg_setReg_self]

theorem State.armPage_sameSites : s.SameSites (s.armPage k v w) := by
  have hpages (n : Nat) : pSITE n ≠ pSLIP := by unfold pSITE pSLIP; omega
  refine .of_keepsRegs (s.armPage_keepsRegs k v w) (fun n o => ?_) ?_ ?_ ?_
  · simp [armPageRegs, armOffs, (pSTREAM_ne_pSITE k n).symm, hpages]
  all_goals rw [State.armPage_with]

end

/-! ### The sites of the stream's mask -/

/-- The registers of a site's page that ARM clears. -/
def armSiteOffs : List Nat := [SITE_FLAG, SITE_POS0, SITE_POS1, SITE_FAILS, SITE_IDLES]

/-- A site at the start of its stream. -/
def Site.armed (v : Site) : Site :=
  { noct := v.noct, segNum := v.segNum, ended := v.ended, decisions := v.decisions, pendGap := v.pendGap }

/-- ARM of one site of the mask. -/
def State.armSite (s : State) (n : Nat) : State :=
  let s := s.setSite n (s.site n).armed
  let s := ((s.setFld (pSITE n) SITE_STAT 20 17 0).setReg (pSITE n) SITE_FLAG 0).setWide (pSITE n) SITE_POS0 2 0
  (s.setReg (pSITE n) SITE_FAILS 0).setReg (pSITE n) SITE_IDLES 0

/-- The registers that ARM writes at a site. -/
def armSiteRegs (n : Nat) : List (Nat × Nat) := (pSITE n, SITE_STAT) :: armSiteOffs.map fun o => (pSITE n, o)

section
variable (s : State) (n : Nat)

theorem State.armSite_eq : s.armSite n =
    ((s.setSite n (s.site n).armed).setFld (pSITE n) SITE_STAT 20 17 0).zeroRegs (pSITE n) armSiteOffs := by
  rw [State.armSite, State.setWide_two]
  rfl

theorem State.armSite_keepsRegs : s.keepsRegs (s.armSite n) (armSiteRegs n) := s.armSite_eq n ▸
  ((s.setSite n (s.site n).armed).setFld_keepsRegs (by decide) 20 17 0).trans (State.zeroRegs_keepsRegs _ _ (by decide))

theorem State.armSite_with :
    s.armSite n = { s with regs := (s.armSite n).regs, sites := (s.setSite n (s.site n).armed).sites } := by
  rw [State.armSite_eq, State.zeroRegs_with]
  rfl

theorem State.armSite_stat : (s.armSite n).reg (pSITE n) SITE_STAT = putFld (s.reg (pSITE n) SITE_STAT) 20 17 0 := by
  rw [State.armSite_eq, State.zeroRegs_keepsRegs _ _ (by decide) _ _ (by decide) (by simp [armSiteOffs]), State.reg_setFld_self]
  rfl

theorem State.armSite_zero {o : Nat} (ho : o ∈ armSiteOffs) : (s.armSite n).reg (pSITE n) o = 0 := s.armSite_eq n ▸
  State.zeroRegs_zero _ _ _ (.inr ⟨rfl, ho⟩)

theorem State.armSite_site (m : Nat) : (s.armSite n).site m = if n = m then (s.site n).armed else s.site m := by
  rw [← State.site_setSite, State.armSite_with]
  change (s.setSite n (s.site n).armed).sites.get (unitDefault {}) m = _
  rfl

theorem not_mem_armSiteRegs {n m o : Nat} (h : n ≠ m ∨ o ≠ SITE_STAT ∧ o ∉ armSiteOffs) : (pSITE m, o) ∉ armSiteRegs n := by
  rw [armSiteRegs, List.mem_cons, List.mem_map, Prod.mk.injEq]
  rintro (⟨hp, ho⟩ | ⟨o', ho', he⟩)
  · rcases h with h | ⟨h, -⟩
    · exact h (Nat.add_left_cancel hp).symm
    · exact h ho
  · obtain ⟨hp, rfl⟩ := Prod.mk.injEq .. ▸ he
    rcases h with h | ⟨-, h⟩
    · exact h (Nat.add_left_cancel hp)
    · exact h ho'

/-- A register of a site's page after ARM of one site. -/
theorem State.armSite_reg (m : Nat) {o : Nat} (ho : o < 256) (h : n ≠ m ∨ o ≠ SITE_STAT ∧ o ∉ armSiteOffs) :
    (s.armSite n).reg (pSITE m) o = s.reg (pSITE m) o := s.armSite_keepsRegs n _ _ ho (not_mem_armSiteRegs h)

theorem State.armSite_sameSites : s.SameSites (s.armSite n) := by
  refine ⟨fun m => ?_, fun m o ho => ?_, fun m => ?_, ?_, ?_⟩
  · rw [State.siteSt, State.fldR, State.siteSt, State.fldR]
    by_cases h : n = m
    · subst h
      rw [State.armSite_stat, fld_putFld_above _ _ (by decide) (by decide) (by decide)]
    · rw [s.armSite_reg n m (by decide) (.inl h)]
  · have hoffs : ∀ o ∈ [SITE_CFG, SITE_OCT0, SITE_OCT1], o < 256 ∧ o ≠ SITE_STAT ∧ o ∉ armSiteOffs := by decide
    exact s.armSite_reg n m (hoffs o ho).1 (.inr (hoffs o ho).2)
  · rw [State.armSite_site]
    split
    · next h => rw [h]; rfl
    · rfl
  all_goals rw [State.armSite_with]

end

/-! ### Folds over the sites and octets -/

/-- What a step over several units establishes for one of them, and every other keeps, holds at the end. -/
theorem foldl_establishes {P : State → Prop} {f : State → Nat → State} {l : List Nat} {a : Nat} (hset : ∀ s, P (f s a))
    (hkeep : ∀ s c, P s → P (f s c)) (ha : a ∈ l) (s : State) : P (l.foldl f s) := by
  induction l generalizing s with
  | nil => exact absurd ha List.not_mem_nil
  | cons c l ih =>
    rw [List.foldl_cons]
    rcases List.mem_cons.1 ha with rfl | ha
    · exact List.foldlRecOn (motive := P) l f (hset s) fun t ht c _ => hkeep t c ht
    · exact ih ha _

/-- An operation over several units keeps the registers that none of its steps writes. -/
theorem State.keepsRegs_foldl_flatMap {f : State → Nat → State} {g : Nat → List (Nat × Nat)}
    (hf : ∀ (s : State) n, s.keepsRegs (f s n) (g n)) (l : List Nat) (s : State) : s.keepsRegs (l.foldl f s) (l.flatMap g) :=
  State.keepsRegs_foldl (fun s n hn => (hf s n).mono fun _ hx => List.mem_flatMap.2 ⟨n, hn, hx⟩) s

/-- ARM of the sites of the mask. -/
def State.armSites (s : State) (l : List Nat) : State := l.foldl State.armSite s

section
variable (s : State) {l : List Nat}

theorem State.armSites_keepsRegs (l : List Nat) : s.keepsRegs (s.armSites l) (l.flatMap armSiteRegs) :=
  State.keepsRegs_foldl_flatMap State.armSite_keepsRegs l s

theorem State.armSites_with (l : List Nat) :
    s.armSites l = { s with regs := (s.armSites l).regs, sites := (s.armSites l).sites } := by
  refine List.foldlRecOn (motive := fun t : State => t = { s with regs := t.regs, sites := t.sites }) l State.armSite rfl
    fun t ht n _ => ?_
  rw [State.armSite_with]
  generalize (t.armSite n).regs = regs, (t.setSite n _).sites = sites
  rw [ht]

theorem State.armSites_sameSites (l : List Nat) : s.SameSites (s.armSites l) :=
  .foldl (fun u c _ => u.armSite_sameSites c) s

theorem State.armSites_site (hl : l.Nodup) (n : Nat) :
    (s.armSites l).site n = if n ∈ l then (s.site n).armed else s.site n := by
  refine foldl_at (get := State.site) (g := fun _ => Site.armed) (fun u c d => ?_) hl s n
  rw [State.armSite_site]
  split
  · next h => rw [h]
  · rfl

theorem State.armSites_stat (hl : l.Nodup) (n : Nat) : (s.armSites l).reg (pSITE n) SITE_STAT =
    if n ∈ l then putFld (s.reg (pSITE n) SITE_STAT) 20 17 0 else s.reg (pSITE n) SITE_STAT := by
  refine foldl_at (get := fun u n => u.reg (pSITE n) SITE_STAT) (g := fun _ w => putFld w 20 17 0) (fun u c d => ?_) hl s n
  split
  · next h => rw [h, State.armSite_stat]
  · next h => exact u.armSite_reg c d (by decide) (.inl h)

theorem State.armSites_zero {n o : Nat} (hn : n ∈ l) (ho : o ∈ armSiteOffs) : (s.armSites l).reg (pSITE n) o = 0 := by
  have h256 : ∀ o ∈ armSiteOffs, o < 256 := by decide
  refine foldl_establishes (P := fun u => u.reg (pSITE n) o = 0) (fun u => u.armSite_zero n ho) (fun u c hu => ?_) hn s
  by_cases h : c = n
  · rw [h]
    exact u.armSite_zero n ho
  · rw [u.armSite_reg c n (h256 o ho) (.inl h), hu]

end

/-! ### The cycle counters and start times (R227) -/

/-- The registers of an octet's cycle counter and start time. -/
def timeOffs : List Nat := [OCTTM_CYC0, OCTTM_CYC1, OCTTM_TSTART0, OCTTM_TSTART1, OCTTM_TSTART2]

/-- The cycle counter and start time of an octet are cleared. -/
def State.zeroTime (s : State) (o : Nat) : State :=
  (s.setWide (pOCTTM o) OCTTM_CYC0 2 0).setWide (pOCTTM o) OCTTM_TSTART0 3 0

theorem State.zeroTime_eq (s : State) (o : Nat) : s.zeroTime o = s.zeroRegs (pOCTTM o) timeOffs := by
  rw [State.zeroTime, State.setWide_two, State.setWide_three]
  rfl

/-- The cycle counters and start times of octets are cleared. -/
def State.zeroTimes (s : State) (os : List Nat) : State := os.foldl State.zeroTime s

/-- The registers that ARM writes at an octet. -/
def timeRegs (o : Nat) : List (Nat × Nat) := timeOffs.map fun r => (pOCTTM o, r)

section
variable (s : State) {os : List Nat}

theorem State.zeroTimes_keepsRegs (os : List Nat) : s.keepsRegs (s.zeroTimes os) (os.flatMap timeRegs) :=
  State.keepsRegs_foldl_flatMap (f := State.zeroTime) (g := timeRegs)
    (fun s o => s.zeroTime_eq o ▸ s.zeroRegs_keepsRegs (pOCTTM o) (by decide)) os s

theorem State.zeroTimes_with (os : List Nat) : s.zeroTimes os = { s with regs := (s.zeroTimes os).regs } :=
  List.foldlRecOn (motive := fun t : State => t = { s with regs := t.regs }) os _ rfl
    fun t ht o _ => State.regs_only_trans ht (t.zeroTime_eq o ▸ State.zeroRegs_with ..)

theorem State.zeroTimes_zero {o r : Nat} (ho : o ∈ os) (hr : r ∈ timeOffs) : (s.zeroTimes os).reg (pOCTTM o) r = 0 :=
  foldl_establishes (P := fun u => u.reg (pOCTTM o) r = 0) (fun u => u.zeroTime_eq o ▸ State.zeroRegs_zero _ _ _ (.inr ⟨rfl, hr⟩))
    (fun u c hu => u.zeroTime_eq c ▸ State.zeroRegs_zero _ _ _ (.inl hu)) ho s

theorem not_mem_timeRegs {p o : Nat} (hos : ∀ c ∈ os, c < 64) (hp : p < 0x140 ∨ 0x180 ≤ p) : (p, o) ∉ os.flatMap timeRegs := by
  rw [List.mem_flatMap]
  rintro ⟨c, hc, hmem⟩
  obtain ⟨r, -, he⟩ := List.mem_map.1 hmem
  obtain ⟨rfl, rfl⟩ := Prod.mk.injEq .. ▸ he
  have := hos c hc
  unfold pOCTTM at hp
  omega

theorem State.zeroTimes_sameSites (hos : ∀ c ∈ os, c < 64) : s.SameSites (s.zeroTimes os) := by
  refine .of_keepsRegs (s.zeroTimes_keepsRegs os) (fun n o => not_mem_timeRegs hos (.inr ?_)) ?_ ?_ ?_
  · unfold pSITE
    omega
  all_goals rw [State.zeroTimes_with]

end

/-! ### The sites whose monitors are not in band (R351) -/

/-- The fault of a site whose monitor `m` is not in band. -/
def State.inbandFault (s : State) (n m : Nat) : Raised :=
  { cls := .n, code := 0x017, page := pSITE n, detail := m + (if (s.mon m).last = 2 then 2048 else 0) }

/-- A site keeps INBAND and raises a fault. -/
def State.leaveInband (r : Nat → Raised) (s : State) (n : Nat) : State := (s.setBit (pSITE n) SITE_STAT 18 true).raise (r n)

/-- Sites keep INBAND and raise their faults. -/
def State.leaveInbands (s : State) (r : Nat → Raised) (l : List Nat) : State := l.foldl (State.leaveInband r) s

section
variable (s : State) (r : Nat → Raised) (l : List Nat)

theorem State.leaveInband_reg (n m : Nat) : (s.leaveInband r n).reg (pSITE m) SITE_STAT =
    if n = m then putFld (s.reg (pSITE m) SITE_STAT) 18 18 1 else s.reg (pSITE m) SITE_STAT := by
  split
  · next h =>
    subst h
    exact s.reg_setFld_self ..
  · next h => exact s.setBit_keepsRegs (by decide) 18 true _ _ (by decide) (by simpa using Ne.symm h)

theorem State.leaveInbands_keepsRegs : s.keepsRegs (s.leaveInbands r l) (l.flatMap fun n => [(pSITE n, SITE_STAT)]) :=
  State.keepsRegs_foldl_flatMap (f := State.leaveInband r)
    (fun s n => s.setBit_keepsRegs (p := pSITE n) (o := SITE_STAT) (by decide) 18 true) l s

theorem State.leaveInbands_with : s.leaveInbands r l = { s with
    regs := (s.leaveInbands r l).regs, watch := { s.watch with raised := s.watch.raised ++ l.map r } } := by
  induction l generalizing s with
  | nil => simp [State.leaveInbands]
  | cons n l ih =>
    have hcons : s.leaveInbands r (n :: l) = (s.leaveInband r n).leaveInbands r l := rfl
    have hone : (s.leaveInband r n).watch.raised = s.watch.raised ++ [r n] := rfl
    rw [hcons, ih, hone, List.append_assoc, List.map_cons, List.singleton_append]
    rfl

variable {l} (hl : l.Nodup)
include hl

theorem State.leaveInbands_stat (n : Nat) : (s.leaveInbands r l).reg (pSITE n) SITE_STAT =
    if n ∈ l then putFld (s.reg (pSITE n) SITE_STAT) 18 18 1 else s.reg (pSITE n) SITE_STAT :=
  foldl_at (get := fun u n => u.reg (pSITE n) SITE_STAT) (g := fun _ w => putFld w 18 18 1)
    (fun u c d => u.leaveInband_reg r c d) hl s n

end

theorem State.leaveInband_sameSites (s : State) (r : Nat → Raised) (n : Nat) : s.SameSites (s.leaveInband r n) := by
  refine ⟨fun m => ?_, fun m o ho => ?_, fun _ => rfl, rfl, rfl⟩
  · rw [State.siteSt, State.fldR, s.leaveInband_reg, State.siteSt, State.fldR]
    split
    · rw [fld_putFld_above _ _ (by decide) (by decide) (by decide)]
    · rfl
  · have hoffs : ∀ o ∈ [SITE_CFG, SITE_OCT0, SITE_OCT1], o < 256 ∧ o ≠ SITE_STAT := by decide
    exact s.setBit_keepsRegs (by decide) 18 true _ _ (hoffs o ho).1 (by simp [(hoffs o ho).2])

/-- The faults of the sites that are not in band, in the order of the mask. -/
theorem map_inbandFault (s : State) (ns : List Nat) :
    (ns.filter fun n => (s.inband n).isSome).map (fun n => s.inbandFault n ((s.inband n).getD 0)) =
      ns.filterMap fun n => (s.inband n).map (s.inbandFault n) := by
  induction ns with
  | nil => rfl
  | cons n ns ih =>
    cases h : s.inband n with
    | none => simp [h, ih]
    | some m => simp [h, ih]

/-! ### The bits of a list of numbers -/

/-- Setting the bits of the numbers that satisfy `p` one by one is writing `p` bit by bit. -/
theorem foldl_setNbit_filter (p : Nat → Bool) (n : Nat) : ((List.range n).filter p).foldl (fun a i => setNbit a i true) 0 =
    (List.range n).foldl (fun a i => setNbit a i (p i)) 0 := by
  induction n with
  | zero => rfl
  | succ n ih =>
    obtain ⟨hlt, -⟩ := foldl_setNbit p n
    have htop : Nat.testBit ((List.range n).foldl (fun a i => setNbit a i (p i)) 0) n = false := Nat.testBit_lt_two_pow hlt
    rw [List.range_succ, List.filter_append, List.foldl_append, List.foldl_append, ih, List.foldl_cons, List.foldl_nil]
    generalize (List.range n).foldl (fun a i => setNbit a i (p i)) 0 = a at htop
    cases h : p n with
    | true => simp [h]
    | false => simp [h, setNbit, htop]

theorem nbit_foldl_setNbit (p : Nat → Bool) (mask : Nat) {i : Nat} (hi : i < 64) :
    nbit (((bitsOf 64 mask).filter p).foldl (fun a i => setNbit a i true) 0) i = (decide (i ∈ bitsOf 64 mask) && p i) := by
  rw [bitsOf, List.filter_filter, foldl_setNbit_filter, (foldl_setNbit _ 64).2 i hi]
  simp [hi, Bool.and_comm]

theorem bitsOf_nodup (n m : Nat) : (bitsOf n m).Nodup := List.nodup_range.filter _

/-! ### One stream armed -/

/-- The fault that a site raises which is not in band. -/
def State.bandFault (s : State) (n : Nat) : Raised := s.inbandFault n ((s.inband n).getD 0)

/-- The sites of the mask that are not in band. -/
def State.badSites (s : State) (k : Nat) : List Nat := (s.maskSites k).filter (fun n => (s.inband n).isSome)

/-- The octets of the stream. -/
def State.streamOctets (s : State) (k : Nat) : List Nat := (s.sitesOf k).flatMap s.octetsOf

/-- The stream that ARM begins, with every pin's previous code DZ (R157). -/
def State.armStream (s : State) (k entry : Nat) : Stream :=
  let dz : List Nat := List.replicate (8 * s.width k) 2
  { exp := { pc := entry, tsets := List.replicate (s.width k) 0, raw := dz, res := dz }, gen := s.fresh
    marked := ((s.maskSites k).filter (fun n => (s.inband n).isNone)).foldl (fun a n => setNbit a n true) 0 }

/-- STREAM_STAT of a stream that is armed: WHY stays, START is PARAM's (Table 7.4). -/
def State.armWord (s : State) (k mode : Nat) : Word :=
  word (at_ 21 sARMED + at_ 16 (s.fldR (pSTREAM k) STREAM_STAT 19 16) + at_ 14 mode)

/-- ARM of one stream before the refill of its windows is reset: its page, its sites, the times of its octets, and the sites
that are not in band. -/
def State.armUnits (s : State) (k mode entry : Nat) : State :=
  (((s.armPage k (s.armStream k entry) (s.armWord k mode)).armSites (s.maskSites k)).zeroTimes (s.streamOctets k)).leaveInbands
    s.bandFault (s.badSites k)

/-- ARM of one stream before the gleaner's borrowing is looked at. -/
def State.armRefill (s : State) (k mode entry : Nat) : State :=
  (s.armUnits k mode entry).setRefill k { s.rfl_ k with resident := [], wanted := [], fetching := none }

/-- The sites that stay out of band are those that were so at first: what ARM does on the way leaves their monitors alone. -/
theorem State.SameSites.leaveInbands {s u : State} (h : s.SameSites u) (l : List Nat) :
    l.foldl (fun v n => v.leaveInband v.bandFault n) u = u.leaveInbands s.bandFault l := by
  rw [State.leaveInbands]
  induction l generalizing u with
  | nil => rw [List.foldl_nil, List.foldl_nil]
  | cons n l ih =>
    have hfault : u.bandFault n = s.bandFault n := by
      simp only [State.bandFault, State.inbandFault, h.inband, h.mon]
    have hstep : u.leaveInband u.bandFault n = u.leaveInband s.bandFault n := by
      rw [State.leaveInband, hfault, State.leaveInband]
    rw [List.foldl_cons, hstep, ih (h.trans (u.leaveInband_sameSites _ n)), List.foldl_cons]

section
variable (s : State) (k : Str) (mode entry : Nat)

theorem State.maskSites_nodup : (s.maskSites k).Nodup := bitsOf_nodup _ _

theorem State.badSites_nodup : (s.badSites k).Nodup := (s.maskSites_nodup k).filter _

theorem State.streamOctets_lt : ∀ o ∈ s.streamOctets k, o < 64 := by
  intro o ho
  obtain ⟨n, -, hn⟩ := List.mem_flatMap.1 ho
  exact State.octetsOf_lt hn

theorem State.armUnits_with : s.armUnits k mode entry = { s with
    regs := (s.armUnits k mode entry).regs, streams := (s.setStream k (s.armStream k entry)).streams
    sites := (s.armUnits k mode entry).sites
    watch := { s.watch with raised := s.watch.raised ++ (s.badSites k).map s.bandFault } } := by
  rw [State.armUnits]
  have hpage := s.armPage_with k (s.armStream k entry) (s.armWord k mode)
  generalize s.armPage k (s.armStream k entry) (s.armWord k mode) = p at hpage ⊢
  have hsites := p.armSites_with (s.maskSites k)
  generalize p.armSites (s.maskSites k) = q at hsites ⊢
  have htimes := q.zeroTimes_with (s.streamOctets k)
  generalize q.zeroTimes (s.streamOctets k) = r at htimes ⊢
  have hbad := r.leaveInbands_with s.bandFault (s.badSites k)
  generalize r.leaveInbands s.bandFault (s.badSites k) = t at hbad ⊢
  generalize p.regs = regs₁ at hpage
  generalize q.regs = regs₂, q.sites = sites at hsites
  generalize r.regs = regs₃ at htimes
  generalize t.regs = regs₄ at hbad
  subst hpage hsites htimes hbad
  rfl

theorem State.armSites_armPage_sameSites (v : Stream) (w : Word) (l : List Nat) : s.SameSites ((s.armPage k v w).armSites l) :=
  (s.armPage_sameSites k v w).trans (State.armSites_sameSites _ l)

/-- ARM in its steps, each over what the stream had at first. -/
theorem State.arm_eq : s.arm k mode entry = (s.armRefill k mode entry).gleanReview := by
  have hpage := s.armSites_armPage_sameSites k (s.armStream k entry) (s.armWord k mode) (s.maskSites k)
  have hos : State.streamOctets ((s.armPage k (s.armStream k entry) (s.armWord k mode)).armSites (s.maskSites k)) k =
      s.streamOctets k := by
    rw [State.streamOctets, hpage.sitesOf, funext hpage.octetsOf, State.streamOctets]
  have htimes := hpage.trans (State.zeroTimes_sameSites _ (s.streamOctets_lt k))
  have hsteps : s.arm k mode entry =
      let u := (s.badSites k).foldl (fun v n => v.leaveInband v.bandFault n)
        (State.zeroTimes ((s.armPage k (s.armStream k entry) (s.armWord k mode)).armSites (s.maskSites k))
          (State.streamOctets ((s.armPage k (s.armStream k entry) (s.armWord k mode)).armSites (s.maskSites k)) k))
      (u.setRefill k { u.rfl_ k with resident := [], wanted := [], fetching := none }).gleanReview := rfl
  have hrefill : (s.armUnits k mode entry).rfl_ k = s.rfl_ k := by rw [State.rfl_, State.armUnits_with, State.rfl_]
  rw [hsteps, hos, htimes.leaveInbands, State.armRefill, ← hrefill]
  rfl

/-! #### What the registers of an armed stream hold -/

/-- The registers of sites and octets that ARM writes. -/
def State.armUnitRegs : List (Nat × Nat) :=
  (s.maskSites k).flatMap armSiteRegs ++ (s.streamOctets k).flatMap timeRegs ++
    (s.badSites k).flatMap fun n => [(pSITE n, SITE_STAT)]

theorem State.armUnits_keepsPage : (s.armPage k (s.armStream k entry) (s.armWord k mode)).keepsRegs
    (s.armUnits k mode entry) (s.armUnitRegs k) :=
  ((State.armSites_keepsRegs _ _).trans (State.zeroTimes_keepsRegs _ _)).trans (State.leaveInbands_keepsRegs _ _ _)

theorem State.armUnits_keepsRegs : s.keepsRegs (s.armUnits k mode entry) (armPageRegs k ++ s.armUnitRegs k) :=
  (s.armPage_keepsRegs k _ _).trans (s.armUnits_keepsPage k mode entry)

theorem not_mem_armUnitRegs {p o : Nat} (hsites : ∀ n ∈ s.maskSites k, p ≠ pSITE n)
    (hoctets : (p, o) ∉ (s.streamOctets k).flatMap timeRegs) : (p, o) ∉ s.armUnitRegs k := by
  simp only [State.armUnitRegs, armSiteRegs, List.mem_append, List.mem_flatMap, List.mem_cons, List.mem_map, Prod.mk.injEq,
    List.not_mem_nil, or_false, not_or, not_exists, not_and]
  refine ⟨⟨fun n hn => ⟨fun e => absurd e (hsites n hn), fun _ _ e => absurd e.symm (hsites n hn)⟩, fun c hc hmem => ?_⟩,
    fun n hn e => absurd e (hsites n (List.mem_of_mem_filter hn))⟩
  exact hoctets (List.mem_flatMap.2 ⟨c, hc, hmem⟩)

/-- The registers of the pages below the octets' are as the stream's own page leaves them. -/
theorem State.armUnits_below {p o : Nat} (hp : p < 0x140) (ho : o < 256) : (s.armUnits k mode entry).reg p o =
    (s.armPage k (s.armStream k entry) (s.armWord k mode)).reg p o := by
  refine s.armUnits_keepsPage k mode entry p o ho (not_mem_armUnitRegs s k (fun n _ => ?_)
    (not_mem_timeRegs (s.streamOctets_lt k) (.inl hp)))
  unfold pSITE
  omega

theorem pSTREAM_lt : pSTREAM k < 0x140 := by
  have := k.isLt
  unfold pSTREAM
  omega

theorem State.armUnits_stat : (s.armUnits k mode entry).reg (pSTREAM k) STREAM_STAT = s.armWord k mode := by
  rw [State.armUnits_below _ _ _ _ (pSTREAM_lt k) (by decide), State.armPage_stat]

theorem State.armUnits_page : ∀ o ∈ armOffs, (s.armUnits k mode entry).reg (pSTREAM k) o = 0 := by
  intro o ho
  have h256 : ∀ o ∈ armOffs, o < 256 := by decide
  rw [State.armUnits_below _ _ _ _ (pSTREAM_lt k) (h256 o ho), State.armPage_zero _ _ _ _ o ho]

theorem State.armUnits_slip : (s.armUnits k mode entry).reg pSLIP (SLIP_MAXA + k) = 0 := by
  rw [State.armUnits_below _ _ _ _ (by decide) (slipMax_lt k), State.armPage_slip]

theorem State.armUnits_times {c r : Nat} (hc : c ∈ s.streamOctets k) (hr : r ∈ timeOffs) :
    (s.armUnits k mode entry).reg (pOCTTM c) r = 0 := by
  have h256 : ∀ r ∈ timeOffs, r < 256 := by decide
  have hlt := s.streamOctets_lt k c hc
  refine (State.leaveInbands_keepsRegs _ _ _ _ _ (h256 r hr) ?_).trans (State.zeroTimes_zero _ hc hr)
  simp only [List.mem_flatMap, List.mem_singleton, Prod.mk.injEq, not_exists, not_and]
  intro n _ e
  unfold pOCTTM pSITE at e
  omega

/-- A register of a site of the mask other than its status. -/
theorem State.armUnits_siteReg {n o : Nat} (hn : n ∈ s.maskSites k) (ho : o ∈ armSiteOffs) :
    (s.armUnits k mode entry).reg (pSITE n) o = 0 := by
  have h256 : ∀ o ∈ armSiteOffs, o < 256 ∧ o ≠ SITE_STAT := by decide
  refine (State.leaveInbands_keepsRegs _ _ _ _ _ (h256 o ho).1 (by simp [(h256 o ho).2])).trans ?_
  refine (State.zeroTimes_keepsRegs _ _ _ _ (h256 o ho).1 (not_mem_timeRegs (s.streamOctets_lt k) (.inr ?_))).trans ?_
  · unfold pSITE
    omega
  · exact State.armSites_zero _ hn ho

theorem State.armUnits_siteStat {n : Nat} (hn : n ∈ s.maskSites k) : (s.armUnits k mode entry).reg (pSITE n) SITE_STAT =
    if (s.inband n).isNone then putFld (s.reg (pSITE n) SITE_STAT) 20 17 0
    else putFld (putFld (s.reg (pSITE n) SITE_STAT) 20 17 0) 18 18 1 := by
  have hbase : (((s.armPage k (s.armStream k entry) (s.armWord k mode)).armSites (s.maskSites k)).zeroTimes
      (s.streamOctets k)).reg (pSITE n) SITE_STAT = putFld (s.reg (pSITE n) SITE_STAT) 20 17 0 := by
    rw [State.zeroTimes_keepsRegs _ _ _ _ (by decide) (not_mem_timeRegs (s.streamOctets_lt k) (.inr ?_)),
      State.armSites_stat _ (s.maskSites_nodup k), if_pos hn, State.armPage_keepsRegs _ _ _ _ _ _ (by decide)]
    · have hslip : pSITE n ≠ pSLIP := by unfold pSITE pSLIP; omega
      simp [armPageRegs, armOffs, (pSTREAM_ne_pSITE k n).symm, hslip]
    · unfold pSITE
      omega
  have hmem : n ∈ s.badSites k ↔ ¬ (s.inband n).isNone := by
    rw [State.badSites, List.mem_filter, Option.isSome_iff_ne_none, Option.isNone_iff_eq_none]
    exact and_iff_right hn
  rw [State.armUnits, State.leaveInbands_stat _ _ (s.badSites_nodup k), hbase]
  by_cases h : (s.inband n).isNone
  · rw [if_pos h, if_neg fun hb => hmem.1 hb h]
  · rw [if_neg h, if_pos (hmem.2 h)]

theorem State.armUnits_siteRec (n : Nat) : (s.armUnits k mode entry).site n =
    if n ∈ s.maskSites k then (s.site n).armed else s.site n := by
  have hpage : (s.armPage k (s.armStream k entry) (s.armWord k mode)).site n = s.site n := by
    rw [State.site, State.armPage_with, State.site]
  have hsites := State.armSites_site (s.armPage k (s.armStream k entry) (s.armWord k mode)) (s.maskSites_nodup k) n
  rw [hpage] at hsites
  rw [← hsites, State.armUnits]
  generalize State.armSites _ _ = q
  rw [State.site, State.leaveInbands_with, State.zeroTimes_with, State.site]

end

/-! ### The run state follows the streams (Table 3.3) -/

section
variable (s : State)

theorem State.setRun_run {s : State} (h : s.run.st = .ready) :
    s.setRun .run = { s.closeLocks with run := { s.run with st := .run, prev := .ready } } := by
  rw [State.setRun, if_neg (by rw [h]; decide)]
  simp only [h, reduceCtorEq, if_false, if_true]
  rw [← h]
  rfl

theorem State.followStreams_eq : s.followStreams =
    if s.run.st = .ready ∧ s.anyBusy then { s.closeLocks with run := { s.run with st := .run, prev := .ready } }
    else if s.run.st = .run ∧ !s.anyBusy then { s with run := { s.run with st := .ready, prev := .run } } else s := by
  rw [State.followStreams]
  split
  · next h => exact State.setRun_run h.1
  · split
    · next h => rw [State.setRun_with (by rw [h.1]; decide) (by rw [h.1]; decide) (by decide), h.1]
    · rfl

theorem State.followStreams_with : s.followStreams = { s with regs := s.followStreams.regs, run := s.followStreams.run } := by
  rw [State.followStreams_eq]
  split
  · rfl
  · split <;> rfl

theorem State.followStreams_reg {p o : Nat} (ho : o < 256) (hlock : o ≠ PG_LOCK) : s.followStreams.reg p o = s.reg p o := by
  have hkey : rkey p o % 256 = o := by unfold rkey; omega
  rw [State.followStreams_eq]
  split
  · exact s.dropRegs_reg (by simp [hkey, hlock])
  · split <;> rfl

theorem State.followStreams_run {s t : State} (hrun : t.run = s.run) (hbusy : t.anyBusy = s.anyBusy) :
    t.followStreams.run = s.followStreams.run := by
  rw [State.followStreams_eq, State.followStreams_eq, hrun, hbusy]
  split
  · rfl
  · split
    · rfl
    · exact hrun

theorem State.anyBusy_congr {s t : State} (h : ∀ p, t.reg p STREAM_STAT = s.reg p STREAM_STAT) : t.anyBusy = s.anyBusy := by
  have hst : t.strSt = s.strSt := by
    funext k
    rw [State.strSt, State.fldR, h, State.strSt, State.fldR]
  have hbusy : t.strBusy = s.strBusy := by
    funext k
    rw [State.strBusy, hst, State.strBusy]
  rw [State.anyBusy, hbusy, State.anyBusy]

theorem State.gleanReview_gives : s.GleanGives s.gleanReview := by
  unfold State.gleanReview
  split
  · split
    · exact .refl s
    · exact s.gleanStop_gives
  · exact .refl s

end

/-! ### EXEC of ARM (R200) -/

theorem State.reg_of_regs {s t : State} (h : t.regs = s.regs) (p o : Nat) : t.reg p o = s.reg p o := by
  rw [State.reg, h, State.reg]

theorem pSTREAM_ne_pGLEAN (k : Str) : pSTREAM k ≠ pGLEAN := by
  have := k.isLt
  unfold pSTREAM pGLEAN
  omega

/-- What answering, posting and a free value taken leave of a state's registers and run state. -/
theorem State.postFollowed_regs (u : State) (org : Org) (strs gen : Nat) :
    ((u.takeFree.2.followStreams).post org 1 strs gen).ok.regs = u.takeFree.2.followStreams.regs := rfl

theorem State.postFollowed_run (u : State) (org : Org) (strs gen : Nat) :
    ((u.takeFree.2.followStreams).post org 1 strs gen).ok.run = u.takeFree.2.followStreams.run := rfl

theorem State.takeFree_regs (u : State) : u.takeFree.2.regs = u.regs := rfl

theorem State.takeFree_run (u : State) : u.takeFree.2.run = u.run := rfl

/-- EXEC of ARM, once its checks have let it in: the stream is armed, READY and RUN follow, and the command is posted. -/
def State.execArmed (s : State) (org : Org) (k mode entry : Nat) : State :=
  (((s.arm k mode entry).takeFree.2.followStreams).post org 1 (2 ^ k) s.fresh).ok

/-- ARM passes every check of EXEC. -/
theorem State.checkExec_arm {s : State} {ini : Nat} {k : Str} {param entry : Nat} (hg : s.hostGate ini = none)
    (hmode : param / 2 ^ 14 ≤ 2) (hlow : param % 2 ^ 14 = 0) (hlife : s.fuses.life ≠ 4)
    (hrun : s.run.st = .ready ∨ s.run.st = .run ∨ s.run.st = .test) (hrest : s.strSt k = sIDLE ∨ s.strSt k = sSTOPPED)
    (hregions : s.regionsOk k = true) (hring : s.siteRingOk = true) (hsites : s.sitesOk k = true)
    (hentry : entry < s.imageLen k) : s.checkExec ini 1 (2 ^ k.val) param entry = none := by
  have hruns : (s.run.st == .ready || s.run.st == .run || s.run.st == .test) = true := by
    rcases hrun with h | h | h <;> rw [h] <;> rfl
  have hrests : (s.strSt k == sIDLE || s.strSt k == sSTOPPED) = true := by
    rcases hrest with h | h <;> rw [h] <;> rfl
  have hstate : s.execState 1 (2 ^ k.val) param = none := by
    simp [State.execState, bitsOf_two_pow, hruns, hrests, hlife, refuse]
  have hparam : execParam 1 param = none := by
    have h3 : param / 2 ^ 14 ≠ 3 := by omega
    simp only [execParam, h3, hlow, refuse, decide_false, Bool.false_or, if_true, ne_eq, not_true_eq_false,
      Bool.false_eq_true, if_false]
  have harm : s.checkArm (2 ^ k.val) entry = none := by
    simp [State.checkArm, bitsOf_two_pow, hregions, hring, hsites, Nat.not_le.2 hentry, refuse, firstErr]
  simp [State.checkExec, hg, hstate, hparam, harm, firstErr, refuse]

theorem State.exec_arm {s : State} {org : Org} {k : Str} {w0 e0 e1 : Word} (hg : s.hostGate org.ini = none)
    (hk : fld w0 19 16 = 2 ^ k.val) (hmode : fld w0 15 14 ≤ 2) (hlow : fld w0 13 0 = 0) (hlife : s.fuses.life ≠ 4)
    (hrun : s.run.st = .ready ∨ s.run.st = .run ∨ s.run.st = .test) (hrest : s.strSt k = sIDLE ∨ s.strSt k = sSTOPPED)
    (hregions : s.regionsOk k = true) (hring : s.siteRingOk = true) (hsites : s.sitesOk k = true)
    (hentry : e0.toNat + 2 ^ 24 * e1.toNat < s.imageLen k) : exec (.execArm org w0 e0 e1) s =
      .next (s.prunePosts.execArmed org k (fld w0 15 14) (e0.toNat + 2 ^ 24 * e1.toNat)) := by
  have hact : fld (putFld w0 23 20 1) 23 20 = 1 := fld_putFld_self _ _ (by decide) (by decide)
  have hhigh : fld w0 15 0 / 2 ^ 14 = fld w0 15 14 := by
    simp only [fld]
    omega
  have hrem : fld w0 15 0 % 2 ^ 14 = fld w0 13 0 := by
    simp only [fld]
    omega
  have hext : wide [e0, e1] = e0.toNat + 2 ^ 24 * e1.toNat := by simp [wide]
  have hcheck := State.checkExec_arm (param := fld w0 15 0) hg (hhigh ▸ hmode) (hrem.trans hlow) hlife hrun hrest hregions
    hring hsites hentry
  have hdo : s.execDo org 1 (2 ^ k.val) (fld w0 15 0) (e0.toNat + 2 ^ 24 * e1.toNat) =
      ((s.prunePosts.arm k (fld w0 15 14) (e0.toNat + 2 ^ 24 * e1.toNat)).takeFree.2.followStreams).post org 1 (2 ^ k.val)
        s.fresh := by
    rw [State.execDo, if_pos rfl, bitsOf_two_pow, hhigh]
    rfl
  refine congrArg Host.Outcome.next ?_
  rw [State.execCmd, hact, fld_putFld_below _ _ (by decide) (by decide) (by decide) (by decide),
    fld_putFld_below _ _ (by decide) (by decide) (by decide) (by decide), hk, hext]
  simp only [if_true, List.length_cons, List.length_nil, ne_eq, not_true_eq_false, if_false, Nat.reduceAdd, hcheck, hdo]
  rfl

section
variable (s : State) (org : Org) (k : Str) (mode entry : Nat)

theorem State.armRefill_reg (p o : Nat) : (s.armRefill k mode entry).reg p o = (s.armUnits k mode entry).reg p o :=
  State.reg_of_regs (State.setRefill_regs ..) p o

/-- The registers after ARM are those of the armed stream, but for the locks that RUN closes. -/
theorem State.execArmed_arm {p o : Nat} (ho : o < 256) (hlock : o ≠ PG_LOCK) :
    (s.execArmed org k mode entry).reg p o = (s.arm k mode entry).reg p o :=
  calc (s.execArmed org k mode entry).reg p o
      = (s.arm k mode entry).takeFree.2.followStreams.reg p o :=
      State.reg_of_regs (State.postFollowed_regs ..) p o
    _ = (s.arm k mode entry).takeFree.2.reg p o := State.followStreams_reg _ ho hlock
    _ = (s.arm k mode entry).reg p o := State.reg_of_regs (State.takeFree_regs _) p o

/-- ARM leaves every register that is no page's lock nor the gleaner's count of aborts as its steps leave it. -/
theorem State.execArmed_reg {p o : Nat} (ho : o < 256) (hlock : o ≠ PG_LOCK) (hglean : (p, o) ≠ (pGLEAN, GLEAN_ABORT)) :
    (s.execArmed org k mode entry).reg p o = (s.armUnits k mode entry).reg p o := by
  rw [s.execArmed_arm org k mode entry ho hlock, s.arm_eq, (State.gleanReview_gives _).keeps p o ho (by simpa using hglean)]
  exact State.armRefill_reg ..

/-- What ARM changes of the state, and to what. -/
theorem State.execArmed_with : s.execArmed org k mode entry = { s with
    regs := (s.execArmed org k mode entry).regs, streams := (s.setStream k (s.armStream k entry)).streams
    sites := (s.armUnits k mode entry).sites
    refill := (s.setRefill k { s.rfl_ k with resident := [], wanted := [], fetching := none }).refill
    run := (s.execArmed org k mode entry).run
    abt := { s.abt with posts := s.abt.posts ++ [({ org := org, kind := .exec 1 (2 ^ k.val) s.fresh } : Post)] }
    fresh := s.fresh + 1, reply := ⟨0, []⟩
    watch := { s.watch with raised := s.watch.raised ++ (s.badSites k).map s.bandFault }
    glean := (s.armRefill k mode entry).gleanReview.glean } := by
  rw [State.execArmed, State.arm_eq]
  have hunits := s.armUnits_with k mode entry
  have hrefill : s.armRefill k mode entry =
    (s.armUnits k mode entry).setRefill k { s.rfl_ k with resident := [], wanted := [], fetching := none } := rfl
  generalize s.armUnits k mode entry = a at hunits hrefill ⊢
  generalize s.armRefill k mode entry = b at hrefill ⊢
  have hglean := b.gleanReview_gives.frame
  generalize b.gleanReview = c at hglean ⊢
  have hfollow := c.takeFree.2.followStreams_with
  generalize c.takeFree.2.followStreams = d at hfollow ⊢
  generalize d.regs = regs₁, d.run = run at hfollow
  generalize c.regs = regs₂, c.glean = glean at hglean
  generalize a.regs = regs₃, a.sites = sites at hunits
  subst hfollow hglean hrefill hunits
  rfl

theorem State.arm_run : (s.arm k mode entry).run = s.run := by
  have hunits : (s.armRefill k mode entry).run = s.run := by
    change (s.armUnits k mode entry).run = s.run
    rw [State.armUnits_with]
  rw [State.arm_eq, (State.gleanReview_gives _).frame]
  exact hunits

theorem State.execArmed_runFollows : s.runFollows (s.execArmed org k mode entry) := by
  have hregs : (s.execArmed org k mode entry).regs = (s.arm k mode entry).takeFree.2.followStreams.regs := State.postFollowed_regs ..
  have hrun : (s.execArmed org k mode entry).run = (s.arm k mode entry).takeFree.2.followStreams.run := State.postFollowed_run ..
  have hprev : (s.arm k mode entry).takeFree.2.run = s.run := (State.takeFree_run _).trans (s.arm_run k mode entry)
  generalize (s.arm k mode entry).takeFree.2 = u at hregs hrun hprev
  generalize s.execArmed org k mode entry = t at hregs hrun
  rw [State.runFollows, hrun]
  refine State.followStreams_run hprev (State.anyBusy_congr fun p => ?_)
  rw [← State.followStreams_reg u (by decide) (by decide)]
  exact State.reg_of_regs hregs.symm p _

end

/-- SITE_STAT of a site of the mask: its state and the lower bits stay, and of the bits between them INBAND alone is set,
where the site is not in band. -/
theorem armedSite_fields (w : Word) (good : Bool) :
    let v := if good then putFld w 20 17 0 else putFld (putFld w 20 17 0) 18 18 1
    fld v 23 21 = fld w 23 21 ∧ fld v 20 17 = (if good then 0 else 2) ∧ fld v 16 0 = fld w 16 0 := by
  have hclear : fld (putFld w 20 17 0) 20 17 = 0 := fld_putFld_self _ _ (by decide) (by decide)
  have habove : fld (putFld w 20 17 0) 23 21 = fld w 23 21 := fld_putFld_above _ _ (by decide) (by decide) (by decide)
  have hbelow : fld (putFld w 20 17 0) 16 0 = fld w 16 0 := fld_putFld_below _ _ (by decide) (by decide) (by decide) (by decide)
  cases good with
  | true => exact ⟨habove, hclear, hbelow⟩
  | false =>
    refine ⟨(fld_putFld_above _ _ (by decide) (by decide) (by decide)).trans habove, ?_,
      (fld_putFld_below _ _ (by decide) (by decide) (by decide) (by decide)).trans hbelow⟩
    change fld (putFld (putFld w 20 17 0) 18 18 1) 20 17 = 2
    apply Nat.eq_of_testBit_eq
    intro i
    have hbits : (fld (putFld w 20 17 0) 20 17).testBit i = false := by rw [hclear, Nat.zero_testBit]
    rw [testBit_fld] at hbits ⊢
    rw [bit_putFld _ _ (by decide) (by decide), show 2 = 2 ^ 1 from rfl, Nat.testBit_two_pow]
    by_cases hi : i = 1
    · subst hi
      rfl
    · rw [if_neg (by omega), hbits, decide_eq_false (Ne.symm hi)]

/-- A site of the mask is ASSIGNED. -/
theorem State.siteSt_of_sitesOk {s : State} {k n : Nat} (h : s.sitesOk k = true) (hn : n ∈ s.maskSites k) :
    s.siteSt n = tASSIGNED := by
  have hall := ((Bool.and_eq_true ..).mp h).2
  have hsite := List.all_eq_true.1 hall n hn
  simp only [Bool.and_eq_true, beq_iff_eq] at hsite
  exact hsite.1.1

section
variable (s : State) (org : Org) (k : Str) (mode entry : Nat)

theorem State.execArmed_stream (j : Nat) :
    (s.execArmed org k mode entry).stream j = if k.val = j then s.armStream k entry else s.stream j := by
  rw [← State.stream_setStream, State.execArmed_with]
  rfl

theorem State.execArmed_site (n : Nat) :
    (s.execArmed org k mode entry).site n = if n ∈ s.maskSites k then (s.site n).armed else s.site n := by
  rw [← s.armUnits_siteRec k mode entry, State.execArmed_with]
  rfl

theorem State.execArmed_rfl (j : Nat) : (s.execArmed org k mode entry).rfl_ j =
    if k.val = j then { s.rfl_ k with resident := [], wanted := [], fetching := none } else s.rfl_ j := by
  rw [State.execArmed_with]
  change (s.setRefill k { s.rfl_ k with resident := [], wanted := [], fetching := none }).rfl_ j = _
  simp only [State.rfl_, State.setRefill, Store.get_put]

/-- A site of the mask after ARM: ASSIGNED, and out of band only where its monitors are. -/
theorem State.execArmed_siteStat {n : Nat} (hn : n ∈ s.maskSites k) :
    (s.execArmed org k mode entry).siteSt n = s.siteSt n ∧
    (s.execArmed org k mode entry).fldR (pSITE n) SITE_STAT 20 17 = (if (s.inband n).isNone then 0 else 2) ∧
    (s.execArmed org k mode entry).fldR (pSITE n) SITE_STAT 16 0 = s.fldR (pSITE n) SITE_STAT 16 0 := by
  have hpage : pSITE n ≠ pGLEAN := by unfold pSITE pGLEAN; omega
  have hstat := (s.execArmed_reg org k mode entry (p := pSITE n) (o := SITE_STAT) (by decide) (by decide) (by simp [hpage])).trans
    (s.armUnits_siteStat k mode entry hn)
  rw [State.siteSt, State.fldR, State.fldR, State.fldR, hstat]
  exact armedSite_fields _ _

/-- The borrowing that ARM leaves alone where there is none. -/
theorem State.execArmed_glean (h : s.glean.borrow = none) : (s.execArmed org k mode entry).glean = s.glean ∧
    (s.execArmed org k mode entry).reg pGLEAN GLEAN_ABORT = s.reg pGLEAN GLEAN_ABORT := by
  have hglean : (s.armRefill k mode entry).glean = s.glean := by
    change (s.armUnits k mode entry).glean = s.glean
    rw [State.armUnits_with]
  have hreview := (s.armRefill k mode entry).gleanReview_gives.none (by rw [hglean, h])
  constructor
  · rw [State.execArmed_with, hreview]
    exact hglean
  · have hpage : pGLEAN ≠ pSTREAM k := (pSTREAM_ne_pGLEAN k).symm
    rw [State.execArmed_arm _ _ _ _ _ (by decide) (by decide), State.arm_eq, hreview]
    rw [State.armRefill_reg, s.armUnits_below k mode entry (by decide) (by decide)]
    exact s.armPage_keepsRegs k _ _ _ _ (by decide) (by simp [armPageRegs, hpage, hpage.symm])

end

theorem not_mem_timeRegs_of {p o : Nat} {os : List Nat} (h : ∀ c ∈ os, ∀ i < 5, (p, o) ≠ (pOCTTM c, OCTTM_CYC0 + i)) :
    (p, o) ∉ os.flatMap timeRegs := by
  have hoffs : ∀ r ∈ timeOffs, ∃ i < 5, r = OCTTM_CYC0 + i := by decide
  rw [List.mem_flatMap]
  rintro ⟨c, hc, hmem⟩
  obtain ⟨r, hr, he⟩ := List.mem_map.1 hmem
  obtain ⟨i, hi, rfl⟩ := hoffs r hr
  exact h c hc i hi he.symm

theorem not_mem_armRegs {k : Str} {p o : Nat} {l : List (Nat × Nat)} (hp : p ≠ pSTREAM k)
    (hslip : (p, o) ≠ (pSLIP, SLIP_MAXA + k.val)) (hl : (p, o) ∉ l) : (p, o) ∉ armPageRegs k ++ l := by
  simp only [armPageRegs, List.mem_append, List.mem_cons, List.mem_map, List.not_mem_nil, or_false, not_or, not_exists,
    not_and]
  exact ⟨⟨⟨fun e => hp (Prod.mk.inj e).1, fun _ _ e => hp (Prod.mk.inj e).1.symm⟩, hslip⟩, hl⟩

/-- The parts of the state that ARM may change. -/
theorem State.frame_execArmed {s t : State} {streams : Store Stream} {sites : Store Site} {refill : Store Refill}
    {posts : List Post} {watch : Watch} {glean : Glean} (ht : t = { s.prunePosts with
      regs := t.regs, streams := streams, sites := sites, refill := refill, run := t.run
      abt := { s.prunePosts.abt with posts := posts }, fresh := s.prunePosts.fresh + 1, reply := ⟨0, []⟩, watch := watch
      glean := glean }) :
    t = { s with regs := t.regs, streams := t.streams, sites := t.sites, refill := t.refill, run := t.run, abt := t.abt,
                 fresh := s.fresh + 1, reply := t.reply, watch := t.watch, glean := t.glean } := by
  generalize t.regs = regs, t.run = run at ht
  subst ht
  rfl

/-- Settles O32: ARM passes its checks and is computed to the state it leaves, followed through the stream's page, the
sites of its mask, the times of its octets and the sites that are not in band. -/
theorem armPreparesAStream : Obligations.ArmPreparesAStream := by
  unfold Obligations.ArmPreparesAStream
  intro s org k w0 e0 e1
  dsimp only
  intro hg hk hmode hlow hlife hrun hrest hregions hring hsites hentry
  have hexec := State.exec_arm hg hk hmode hlow hlife hrun hrest hregions hring hsites hentry
  generalize e0.toNat + 2 ^ 24 * e1.toNat = entry at hexec ⊢
  generalize fld w0 15 14 = mode at hexec ⊢
  have hreg {p o : Nat} (ho : o < 256) (hlock : o ≠ PG_LOCK) (hp : p ≠ pGLEAN) :
      (s.prunePosts.execArmed org k mode entry).reg p o = (s.prunePosts.armUnits k mode entry).reg p o :=
    State.execArmed_reg _ _ _ _ _ ho hlock (by simp [hp])
  have hstream := s.prunePosts.execArmed_stream org k mode entry
  have hsite := s.prunePosts.execArmed_site org k mode entry
  have hsitePage (n : Nat) : pSITE n ≠ pGLEAN := by unfold pSITE pGLEAN; omega
  refine ⟨s.prunePosts.execArmed org k mode entry, hexec, rfl, ?_, fun o ho => ?_, ?_, ?_, fun n hn => ?_, fun j hj => ?_,
    fun n hn => ?_, fun n hn => ?_, fun c hc => ?_, ?_, fun j hj => ?_, ?_, ?_, ?_,
    fun hb => s.prunePosts.execArmed_glean org k mode entry hb, fun p o ho hlock hp hslip hglean hps hpo => ?_, ?_⟩
  · rw [hreg (by decide) (by decide) (pSTREAM_ne_pGLEAN k), State.armUnits_stat]
    rfl
  · have hoffs : ∀ o ∈ armOffs, o < 256 ∧ o ≠ PG_LOCK := by decide
    rw [hreg (hoffs o ho).1 (hoffs o ho).2 (pSTREAM_ne_pGLEAN k), State.armUnits_page _ _ _ _ o ho]
  · rw [hreg (slipMax_lt k) (by unfold SLIP_MAXA PG_LOCK; omega) (by decide), State.armUnits_slip]
  · rw [hstream, if_pos rfl]
    rfl
  · rw [hstream, if_pos rfl]
    exact nbit_foldl_setNbit _ _ hn
  · rw [hstream, if_neg (Ne.symm hj)]
    rfl
  · obtain ⟨hst, hfields, hlow⟩ := s.prunePosts.execArmed_siteStat org k mode entry hn
    refine ⟨hst.trans (State.siteSt_of_sitesOk hsites hn), hfields, hlow, fun o ho => ?_, ?_⟩
    · have hoffs : ∀ o ∈ [SITE_FLAG, SITE_FAILS, SITE_IDLES, SITE_POS0, SITE_POS1], o < 256 ∧ o ≠ PG_LOCK ∧ o ∈ armSiteOffs := by
        decide
      obtain ⟨h256, hlock, hmem⟩ := hoffs o ho
      exact (hreg h256 hlock (hsitePage n)).trans (s.prunePosts.armUnits_siteReg k mode entry hn hmem)
    · rw [hsite]
      exact if_pos hn
  · rw [hsite]
    exact if_neg hn
  · have hoffs : ∀ r ∈ timeOffs, r < 256 ∧ r ≠ PG_LOCK := by decide
    have hpage : pOCTTM c ≠ pGLEAN := by unfold pOCTTM pGLEAN; omega
    have hzero (r : Nat) (hr : r ∈ timeOffs) : (s.prunePosts.execArmed org k mode entry).reg (pOCTTM c) r = 0 :=
      (hreg (hoffs r hr).1 (hoffs r hr).2 hpage).trans (s.prunePosts.armUnits_times k mode entry hc hr)
    constructor
    · simp [State.wideR, List.range_succ, wide, hzero OCTTM_CYC0 (by decide), hzero OCTTM_CYC1 (by decide)]
    · simp [State.wideR, List.range_succ, wide, hzero OCTTM_TSTART0 (by decide), hzero OCTTM_TSTART1 (by decide),
        hzero OCTTM_TSTART2 (by decide)]
  · rw [State.execArmed_rfl, if_pos rfl]
    rfl
  · rw [State.execArmed_rfl, if_neg (Ne.symm hj)]
    rfl
  · rw [State.execArmed_with]
    exact congrArg (fun l => ({ s.watch with raised := s.watch.raised ++ l } : Watch)) (map_inbandFault s (s.maskSites k))
  · exact s.prunePosts.execArmed_runFollows org k mode entry
  · rw [State.execArmed_with]
    rfl
  · have htimes := not_mem_timeRegs_of hpo
    exact (State.execArmed_reg _ _ _ _ _ ho hlock hglean).trans (s.prunePosts.armUnits_keepsRegs k mode entry p o ho
      (not_mem_armRegs hp hslip (not_mem_armUnitRegs s.prunePosts k hps htimes)))
  · exact State.frame_execArmed (s.prunePosts.execArmed_with org k mode entry)

end Sys2Proof.Machine

end
